-- ==== Sys2Proof/Word.lean ====
section
/-!
DEFINITION. Sys2Proof/Word.lean: bytes, the names the manual gives to halves, directions and roles,
and the records that a command's operands are made of (frames, packets, flits, register values).
Numbers that the manual only counts or compares are natural numbers; frames' payloads and FBP messages are bytes.
-/
namespace Sys2Proof

/-- A byte of a message, a payload or a BLOB value. -/
abbrev Byte := BitVec 8

/-- The two halves of the device (R9). -/
inductive Half where
  | west
  | east
  deriving DecidableEq, Repr

/-- Half codes as the objects of the manual number them: 0 West, 1 East. -/
def Half.code : Half → Nat
  | .west => 0
  | .east => 1

/-- The other half. -/
def Half.other : Half → Half
  | .west => .east
  | .east => .west

/-- The half that a half number names (0 West, any other number East). -/
def Half.ofCode (n : Nat) : Half := if n = 0 then .west else .east

/-- The half that holds a port (R10, R11: ports 0 to 63 are in stations S0 to S7). -/
def Half.ofPort (p : Nat) : Half := if p < 64 then .west else .east

/-- The half that holds a station (R10). -/
def Half.ofStation (n : Nat) : Half := if n < 8 then .west else .east

/-- The half that holds a lane (R10). -/
def Half.ofLane (n : Nat) : Half := if n < 128 then .west else .east

/-- The half that holds an RME slice (R246). -/
def Half.ofSlice (n : Nat) : Half := if n < 2048 then .west else .east

/-- A seam direction (R188). -/
inductive SeamDir where
  | we
  | ew
  deriving DecidableEq, Repr

/-- The half that sends in a seam direction. -/
def SeamDir.sender : SeamDir → Half
  | .we => .west
  | .ew => .east

/-- The direction in which a half sends. -/
def SeamDir.ofSender : Half → SeamDir
  | .west => .we
  | .east => .ew

/-- Firmware slots A and B of each half's flash (R92). -/
inductive FwSlot where
  | a
  | b
  deriving DecidableEq, Repr

/-- Slot codes of `fw.boot_slot`. -/
def FwSlot.code : FwSlot → Nat
  | .a => 0
  | .b => 1

/-- The other slot. -/
def FwSlot.other : FwSlot → FwSlot
  | .a => .b
  | .b => .a

/-- The slot that a slot number names. -/
def FwSlot.ofCode (n : Nat) : FwSlot := if n = 1 then .b else .a

/-- The two feeds of a slot power channel (R323). -/
inductive Feed where
  | a
  | b
  deriving DecidableEq, Repr

/-- Dictionary roles (R50). -/
inductive Role where
  | owner
  | admin
  | tenant
  | observer
  deriving DecidableEq, Repr

/-- Role codes of `mgmt.session.role`. -/
def Role.code : Role → Nat
  | .owner => 0
  | .admin => 1
  | .tenant => 2
  | .observer => 3

/-- A direction of a lane (R118). -/
inductive LaneDir where
  | tx
  | rx
  deriving DecidableEq, Repr

/-- Sleep levels of a lane direction, in the order of their codes (`lane.status` RX_LEVEL, TX_LEVEL). -/
inductive SleepLevel where
  | active
  | light
  | deep
  | off
  deriving DecidableEq, Repr

/-- Codes of the sleep levels. -/
def SleepLevel.code : SleepLevel → Nat
  | .active => 0
  | .light => 1
  | .deep => 2
  | .off => 3

/-- Lane margining commands of a host (R122): timing to the left or right, voltage down or up, by a number of steps. -/
inductive MarginCmd where
  | stop
  | timing (right : Bool) (step : Nat)
  | voltage (up : Bool) (step : Nat)
  deriving DecidableEq, Repr

/-- Colours of R283. -/
inductive Colour where
  | green
  | yellow
  | red
  deriving DecidableEq, Repr

/-- Colour codes of `sched.port.precolour` and of the sample record. -/
def Colour.code : Colour → Nat
  | .green => 0
  | .yellow => 1
  | .red => 2

/-- TLP types that the rules of the forwarding core tell apart. -/
inductive TlpType where
  | memRead
  | memWrite
  | ioRead
  | ioWrite
  | cfgRead
  | cfgWrite
  | atomic
  | deferrableWrite
  | message
  | broadcastMessage
  | completion
  | cxlMemRead
  | cxlMemWrite
  /-- a back-invalidate snoop of an HDM-DB device (R159) -/
  | cxlBackInvalidate
  deriving DecidableEq, Repr, Inhabited

/-- Completion status codes, as `fabric.cfgreq.cpl_status` numbers them. -/
inductive CplStatus where
  | sc
  | ur
  | rrs
  | ca
  deriving DecidableEq, Repr

/-- Codes of the completion status (R199). -/
def CplStatus.code : CplStatus → Nat
  | .sc => 0
  | .ur => 1
  | .rrs => 2
  | .ca => 4

/-- A register of a bound function that a host's configuration request names (R204). -/
inductive FnReg where
  | vendorDevice
  | command
  | headerType
  | bar (n : Fin 6)
  | romBar
  | interruptLine
  | deviceControl
  | linkControl
  | sriovCap
  | rebarCap
  | other (offset : Nat)
  deriving DecidableEq, Repr

/-- A transaction layer packet, with the header fields that routing, ordering, ACS and tracking read. -/
structure Tlp where
  type : TlpType
  /-- address of a request -/
  addr : Nat := 0
  /-- bytes requested or carried -/
  len : Nat := 0
  /-- payload, first byte first -/
  data : List Byte := []
  requester : Nat := 0
  tag : Nat := 0
  /-- target RID of an ID-routed request or message -/
  target : Nat := 0
  completer : Nat := 0
  status : CplStatus := .sc
  /-- byte count still due, in a completion -/
  byteCount : Nat := 0
  tc : Nat := 0
  ro : Bool := false
  ido : Bool := false
  /-- AT field: 0 untranslated, 1 translation request, 2 translated -/
  at' : Nat := 0
  /-- poison bit -/
  ep : Bool := false
  /-- carries IDE information (R158) -/
  ide : Bool := false
  /-- an IDE TLP that fails its integrity check at its terminus (R111) -/
  ideFails : Bool := false
  /-- an error message of a function (R309) -/
  isError : Bool := false
  pasid : Option Nat := none
  /-- an INTx message: 0 INTA to 3 INTD -/
  intx : Option Nat := none
  /-- of a configuration request to a bound function: the register, and the value and the mask of the bits written -/
  cfg : Option (FnReg × Option (Nat × Nat)) := none
  /-- header bytes on the wire: prefixes, header and digest -/
  headerBytes : Nat := 16
  deriving DecidableEq, Repr, Inhabited

/-- RME packet opcodes (10, "Packet opcodes and REF"). -/
inductive RmeOp where
  | write
  | writeImm
  | send
  | sendImm
  | readReq
  | readResp
  | fetchAdd
  | compSwap
  | atomicResp
  | ack
  | skimNotice
  deriving DecidableEq, Repr

/-- Codes of the packet opcodes. -/
def RmeOp.code : RmeOp → Nat
  | .write => 0
  | .writeImm => 1
  | .send => 2
  | .sendImm => 3
  | .readReq => 4
  | .readResp => 5
  | .fetchAdd => 6
  | .compSwap => 7
  | .atomicResp => 8
  | .ack => 9
  | .skimNotice => 10

/-- POS of an RME packet within its message. -/
inductive Pos where
  | first
  | middle
  | last
  | only
  deriving DecidableEq, Repr

/-- An RME packet: the fields of the 32-byte header and the payload (10, "RME header"). -/
structure RmePacket where
  op : RmeOp
  /-- VERSION is 1 and OPCODE is listed; otherwise the packet is malformed -/
  wellFormed : Bool := true
  pos : Pos := .only
  ackReq : Bool := false
  ce : Bool := false
  ceEcho : Bool := false
  retx : Bool := false
  dnode : Nat := 0
  snode : Nat := 0
  echoCount : Nat := 0
  destQpn : Nat := 0
  srcQpn : Nat := 0
  psn : Nat := 0
  msn : Nat := 0
  path : Nat := 0
  offset : Nat := 0
  len : Nat := 0
  key : Nat := 0
  /-- immediate of WRITE_IMM and SEND_IMM -/
  imm : Nat := 0
  /-- ATTEMPT of READ_REQ and READ_RESP -/
  attempt : Nat := 0
  /-- read length of READ_REQ -/
  readLen : Nat := 0
  /-- SYNDROME of ACK -/
  syndrome : Nat := 0
  /-- NAK_PSN of ACK -/
  nakPsn : Nat := 0
  payload : List Byte := []
  deriving DecidableEq, Repr

/-- What a frame of the switch is (Glossary: a TLP, a BFL packet or an RME packet). -/
inductive FrameBody where
  | tlp (t : Tlp)
  | rme (p : RmePacket)
  /-- BFL link control frame (KIND 4): op, link, last sequence, incarnation -/
  | linkControl (op link lastSeq inc : Nat)
  /-- management frame (KIND 5) or management endpoint traffic -/
  | mgmt (data : List Byte)
  deriving DecidableEq, Repr

/-- The fabric prefix of a cross-node peer TLP (R225). -/
structure FabricPrefix where
  /-- 1 request, 2 completion -/
  pkind : Nat
  srcNode : Nat
  grant : Nat
  offset : Nat
  deriving DecidableEq, Repr

/-- A frame with the prefix that it carries on BFL, if any. -/
structure Frame where
  body : FrameBody
  fprefix : Option FabricPrefix := none
  deriving DecidableEq, Repr

/-- Where a frame enters the forwarding core. -/
inductive Ingress where
  | port (p : Fin 128)
  | rme (h : Half)
  | mgmt (h : Half)
  deriving DecidableEq, Repr

/-- A host's registers of a switch port function that the rules name (R154 to R156, R168, R310, R330, R341). -/
inductive CfgReg where
  | command
  | primaryBus
  | secondaryBus
  | subordinateBus
  | memBase
  | memLimit
  | prefBase
  | prefLimit
  | ioBase
  | ioLimit
  | bar
  | bridgeControl
  | acsControl
  | acsEgressVectorLo
  | acsEgressVectorHi
  | dpcControl
  | dpcStatus
  | slotControl
  | slotStatus
  | linkStatus
  | aerUncorStatus
  | aerCorStatus
  | aerUncorMask
  | aerUncorSeverity
  | aerCorMask
  | ptmControl
  | msiEnable
  | deviceControl
  deriving DecidableEq, Repr

/-- Which function of a node a configuration write names. -/
inductive CfgFunc where
  | upstream (node : Fin 64)
  | mgmt (node : Fin 64)
  | rme (node : Fin 64)
  | downstream (p : Fin 128)
  | synthetic (node : Fin 64) (devfn : Fin 256)
  /-- one of the 16 HDM decoders of a node's upstream port (R160) -/
  | hdm (node : Fin 64) (decoder : Fin 16)
  deriving DecidableEq, Repr

/-- A BAR that a real function reports at prepare or at `fport.ready` (R198, R201). -/
structure RealBar where
  num : Nat
  base : Nat
  size : Nat
  /-- type bits [3:0] of the register as the function gives them -/
  low : Nat := 0
  deriving DecidableEq, Repr

/-- A 64-bit BAR: its high half is the next register. -/
def RealBar.wide (r : RealBar) : Bool := r.low / 2 % 4 == 2

/-- What the AF256 knows of an extended capability in a bound function's list (R204). -/
structure FnCap where
  offset : Nat
  /-- offset of the next capability, 0 at the end -/
  next : Nat
  /-- 1 SR-IOV, 2 Resizable BAR or VF Resizable BAR, 0 any other -/
  kind : Nat
  deriving DecidableEq, Repr

/-- What the AF256 reads of a real function's header (R201). -/
structure FnInfo where
  /-- 1 single function, 2 PF, 3 VF -/
  kind : Nat
  tagBits : Nat
  vfIndex : Nat
  bars : List RealBar
  /-- the function advertises FLR -/
  flr : Bool
  /-- the PF has VF Enable set with this RID among its VFs -/
  vfValid : Bool
  /-- the function answered with Successful Completion -/
  answered : Bool
  /-- of a VF: the PF's Vendor ID [15:0], and the VF Device ID of its SR-IOV capability [31:16] -/
  idWord : Nat := 0
  /-- extended capabilities, in list order -/
  caps : List FnCap := []
  deriving DecidableEq, Repr

/-- The link header of a BFL flit (R223). -/
structure BflHeader where
  seq : Nat
  /-- 0 to 7: data channel of every frame in the flit; 15: bypass flit -/
  vc : Nat
  /-- 0 to 7 dedicated pool, 8 shared pool, 15 none -/
  crPool : Nat := 15
  crTotal : Nat := 0
  /-- dword offset of the first frame word that starts in this flit, 63 if none starts -/
  first : Nat := 63
  /-- the payload begins with the continuation of a frame -/
  cont : Bool := false
  inc : Nat
  deriving DecidableEq, Repr

/-- The fields of RESET_REQ and RESET_ACK (R229). -/
structure BflReset where
  /-- the partner negotiated BFL (R222) -/
  negotiated : Bool := true
  node : Nat
  link : Nat
  reason : Nat
  width : Nat
  rate : Nat
  nextExpected : Nat
  inc : Nat
  tag : List Byte
  deriving DecidableEq, Repr

/-- A WQE or command-queue entry (10, "WQE, 64 bytes"). -/
structure Wqe where
  opcode : Nat
  signalled : Bool := false
  fence : Bool := false
  solicited : Bool := false
  imm : Nat := 0
  wrId : Nat := 0
  localAddr : Nat := 0
  len : Nat := 0
  localKey : Nat := 0
  remoteKey : Nat := 0
  remoteOffset : Nat := 0
  operand0 : Nat := 0
  operand1 : Nat := 0
  deriving DecidableEq, Repr

/-- A QP parameter block (10, "QP parameter block, 64 bytes"). -/
structure QpBlock where
  mask : Nat := 0
  state : Nat := 0
  mtu : Nat := 0
  sqLog : Nat := 6
  rqLog : Nat := 0
  sqBase : Nat := 0
  rqBase : Nat := 0
  sendCq : Nat := 0
  recvCq : Nat := 0
  remote : Nat := 0
  sendPsn : Nat := 0
  recvPsn : Nat := 0
  rights : Nat := 0
  deriving DecidableEq, Repr

/-- What a completed host read of the RME was for (R251, R254, R258, R265). -/
inductive HostRead where
  /-- a send-queue WQE of a QP, its 64 bytes -/
  | sqWqe (qpn : Nat) (data : List Byte)
  /-- a receive-queue WQE of a QP -/
  | rqWqe (qpn : Nat) (data : List Byte)
  /-- an entry of a slice's command queue -/
  | command (slice : Fin 4096) (data : List Byte)
  /-- the payload of a packet that its QP sends -/
  | payload (qpn psn : Nat) (data : List Byte)
  /-- memory read by the responder for a READ_REQ -/
  | readReq (qpn : Nat) (p : RmePacket) (data : List Byte)
  /-- result of an AtomicOp issued for a packet -/
  | atomicOp (qpn : Nat) (p : RmePacket) (original : Nat)
  deriving DecidableEq, Repr

/-- How a host answered a read (R251). -/
inductive ReadStatus where
  | ok
  | ur
  | ca
  | timeout
  deriving DecidableEq, Repr

/-- The stages of the boot table that have a maximum time of their own (R90). -/
inductive BootStage where
  | rom
  | seam
  | qdr
  | verify
  | bootCommit
  deriving DecidableEq, Repr

/-- What carries an SPDM message to the device (R80, R84, R111). -/
inductive Carrier where
  /-- the field network -/
  | net
  /-- MCTP to the management endpoint of a node, from an EID -/
  | mctp (node : Fin 64) (eid : Fin 256)
  /-- the DOE capability of the management endpoint of a node -/
  | doe (node : Fin 64)
  deriving DecidableEq, Repr

/-- A key that a requester offers in KEY_EXCHANGE, and what carries the exchange (R81, R84, R111). -/
structure KeyOffer where
  via : Carrier
  publicKey : List Byte
  deriving DecidableEq, Repr

/-- What GET_MEASUREMENTS asks for: a block, or 0xFF for all, with a nonce (R110). -/
structure MeasurementAsk where
  block : Nat
  nonce : List Byte
  deriving DecidableEq, Repr

/-- What the twin sends of its pair objects: each as index, subindex, entry and value, and the grants whose revocation it still owes
(R216, R218). -/
structure PairObjects where
  objs : List (Nat × Nat × Nat × Nat)
  revoked : List (Fin 4096) := []
  deriving DecidableEq, Repr

/-- How Recovery ends (R143, R148): in L0, at another width where the link was resized by upconfigure, or with the link down. -/
inductive RecoveryEnd where
  | l0 (width : Option Nat)
  | linkLost
  deriving DecidableEq, Repr

/-- A UDP datagram at the field-network port, its payload from the prefix on (R80). -/
structure Datagram where
  port : Nat
  fragmented : Bool := false
  data : List Byte
  deriving DecidableEq, Repr

/-- What ended in a host lane-margining or calibration run (R126, R127). -/
inductive CalOutcome where
  | pass
  | beyondRange
  | fail (code : Nat)
  deriving DecidableEq, Repr

/-- Why a half halts (R318). -/
inductive HaltCause where
  | coreLogic
  | corePll
  | qdrStack
  deriving DecidableEq, Repr

/-- Codes of the halt causes in DETAIL of event 0x050D. -/
def HaltCause.code : HaltCause → Nat
  | .coreLogic => 1
  | .corePll => 2
  | .qdrStack => 3

/-- QDR regions that the scrubber tells apart (R314). -/
inductive QdrRegion where
  | keys
  | qpContext
  | atomicCache
  | reorder
  | cqContext
  | tracking
  | sliceContext
  deriving DecidableEq, Repr

/-- Region codes of R314. -/
def QdrRegion.code : QdrRegion → Nat
  | .keys => 1
  | .qpContext => 2
  | .atomicCache => 3
  | .reorder => 4
  | .cqContext => 5
  | .tracking => 6
  | .sliceContext => 7

/-- On-die tables that the scrubber restores (R315). -/
inductive DieTable where
  | addressMap
  | route
  | meter
  | shaper
  | scheduler
  | counter
  | ic7Limiter
  deriving DecidableEq, Repr

/-- Scrub results for one word or entry (R313, R314). -/
inductive EccResult where
  | clean
  | corrected
  | uncorrectable
  deriving DecidableEq, Repr

/-- What the buffer read found in the cells of the frame that is sent (R313). -/
inductive CellEcc where
  | clean
  | corrected
  | payload
  | descriptor
  deriving DecidableEq, Repr

/-- How a sideband transaction ended (R339, R348). -/
inductive SbResult where
  | ok (data : List Byte)
  | nack
  | pecFail (data : List Byte)
  deriving DecidableEq, Repr

/-- Events that wake the device (R360), in the order of their bits. -/
inductive WakeSource where
  | wakeN
  | perstin
  | presence
  | attention
  | slotFault
  | alarm
  | fbpRequest
  | thermal
  deriving DecidableEq, Repr

/-- Bits of `pwr.wake_mask`. -/
def WakeSource.bit : WakeSource → Nat
  | .wakeN => 0
  | .perstin => 1
  | .presence => 2
  | .attention => 3
  | .slotFault => 4
  | .alarm => 5
  | .fbpRequest => 6
  | .thermal => 7

/-- Parts that take part in a commit's prepare (R63 step 5). -/
inductive CommitPart where
  | west
  | east
  | paDie
  | twin
  deriving DecidableEq, Repr

/-- What a boot ROM finds in a firmware slot of its flash (R91). -/
structure ImageFacts where
  /-- the first 4,096 bytes all read 0xFF or all read 0x00 -/
  empty : Bool := false
  readError : Bool := false
  /-- MAGIC, HDR_VERSION, SEG_COUNT, IMAGE_LENGTH and every segment entry are well formed -/
  layoutOk : Bool := true
  keySlot : Nat := 0
  publicKey : List Byte := []
  header : List Byte := []
  signature : List Byte := []
  svn : Nat := 0
  /-- every segment's SHAKE256-512 digest equals DIGEST -/
  digestsOk : Bool := true
  /-- FLAGS [0] -/
  debug : Bool := false
  version : Nat := 0
  deriving DecidableEq, Repr

/-- What a port trains to (R139, R143, R159). -/
structure LinkFacts where
  width : Nat
  /-- rate code as `lane.rate` -/
  rate : Nat
  flit : Bool
  /-- 0 PCI Express, 1 CXL, 2 BFL -/
  protocol : Nat
  /-- the partner is an MLD whose logical devices MLD_TRAINED names (R161) -/
  mld : Bool := false
  /-- lane reversal: the link begins at the top offset (R139) -/
  reversed : Bool := false
  /-- the partner takes Equalization bypass, or No Equalization Needed (R120; 0x2000:09) -/
  bypass : Bool := false
  noEq : Bool := false
  /-- a CXL device that trains as CXL.io only, since it requires port-based routing or GFAM (R159) -/
  ioOnly : Bool := false
  deriving DecidableEq, Repr

/-- Credits of one link direction: headers and data units of posted, non-posted and completion (R144). -/
structure Credits where
  ph : Nat := 0
  pd : Nat := 0
  nh : Nat := 0
  nd : Nat := 0
  ch : Nat := 0
  cd : Nat := 0
  deriving DecidableEq, Repr

/-- Facts of the cycles C6 to C9 that lie in the links and not in the core's state (R164, R165). -/
structure CoreFacts where
  /-- the egress flit assembler can accept a frame in the cycle of C9 -/
  assemblerReady : Bool
  /-- C7 confirms link state, width, absence of replay and precedence -/
  c7Confirms : Bool
  deriving DecidableEq, Repr

end Sys2Proof
end

