-- ==== Sys2Proof/Syntax.lean ====
section
/-!
DEFINITION. Sys2Proof/Syntax.lean: the commands of the block, one constructor per row of spec/opcode_table.json,
in the table's order. A `sid` is the session that sends a dictionary command, a `rid` the REQUEST_ID of its FBP request.
An event of the outside world carries the facts that the device sees of it.
-/
namespace Sys2Proof

/-- The commands (opcode_table.json). Each docstring names the row and the rule the table gives it. -/
inductive Instr where
  /-- VAO18_RAMP (R87). VAO18 enters its window and the PA-die supervisor starts on its RC clock. -/
  | vao18Ramp
  /-- AO_CRYSTAL_START (R88). The 32.768 kHz crystal starts and the AO counter begins counting. -/
  | aoCrystalStart
  /-- PORST_N_FALL (R44). A falling edge of PORST_N resets every die, clears every pad hold, sets the commit lock to 0
  and leaves the rake unclaimed with epoch 0. -/
  | porstNFall (lowNs : Nat)
  /-- PORST_N_RISE (R30). PORST_N rises and starts the cold boot sequence. -/
  | porstNRise
  /-- STRAP_SAMPLE (R33). 64 µs after PORST_N rises, the PA die takes three strap samples and latches their majority
  value in boot.strap.value. -/
  | strapSample (s1 s2 s3 : Nat)
  /-- HALVES_RELEASE (R96). The PA die tests for Crocus mode, increments the boot-attempt counter, arms the watchdogs
  and releases both halves. -/
  | halvesRelease
  /-- ROM_PASS (R90). A half's ROM self-check completes and passes. -/
  | romPass (h : Half)
  /-- ROM_SELFCHECK_RETRY (R90). 10 ms after a failed self-check, the half retries it once and then stops. -/
  | romSelfcheckRetry (h : Half) (passed : Bool)
  /-- RAKE_CLAIM (R103). A claim reaches the PA die, which grants the first claim that finds the rake unclaimed and
  refuses the others with S_NOT_HOLDER. -/
  | rakeClaim (h : Half)
  /-- RAKE_PREF_DELAY_EXPIRY (R103). 50 ms after its ROM passes with the rake still unclaimed, the non-preferred half
  sends its claim. -/
  | rakePrefDelayExpiry
  /-- RAKE_CLAIM_TIMEOUT (R100). The rake is still unclaimed 500 ms after release, and the device enters Crocus mode
  with reason 0x08. -/
  | rakeClaimTimeout
  /-- PA_DIE_UNREACHABLE (R101). A half gets no PA-die answer within 100 ms of release and enters Crocus mode with
  reason 0x07. -/
  | paDieUnreachable (h : Half)
  /-- SEAM_TRAINED (R191). A seam module completes training and goes into service. -/
  | seamTrained (d : SeamDir) (m : Fin 8)
  /-- SEAM_TRAIN_TIMEOUT (R90). 20 ms after the rake claim, untrained seam modules are retired, and the boot fails if
  too many are lost. -/
  | seamTrainTimeout
  /-- QDR_TRAINED (R90). A QDR stack completes training. -/
  | qdrTrained (stack : Fin 4)
  /-- QDR_TRAIN_TIMEOUT (R100). A QDR stack is not trained within 30 ms, and the attempt fails with reason 0x06. -/
  | qdrTrainTimeout (stack : Fin 4)
  /-- IMAGE_VERIFIED (R91). A ROM completes the checks of a firmware slot and reports its verification result. -/
  | imageVerified (h : Half) (slot : FwSlot) (img : ImageFacts)
  /-- FIRMWARE_START (R98). Firmware starts, sets its watchdog period and begins the boot commit. -/
  | firmwareStart
  /-- BOOT_STAGE_TIMEOUT (R90). A boot stage misses its maximum time, and the attempt fails. -/
  | bootStageTimeout (st : BootStage) (h : Half)
  /-- BOOT_LANE_CALIBRATION (R127). After the boot commit ends, a full calibration runs on every lane in parallel. -/
  | bootLaneCalibration (failed : List (Fin 256 × Nat))
  /-- HEALTHY_DECLARE (R97). A write of boot.healthy is accepted at least 60 s after release, and it clears the
  counter and sets boot.healthy_state. -/
  | healthyDeclare (sid rid : Nat)
  /-- WATCHDOG_KICK (R98). A half kicks its PA-die watchdog. -/
  | watchdogKick (h : Half)
  /-- WATCHDOG_EXPIRY (R98). A half's watchdog expires, causing a warm reset before health, or a cluster restart and a
  possible rake move after it. -/
  | watchdogExpiry (h : Half)
  /-- CLUSTER_REJOIN (R317). A restarted management cluster rejoins as non-holder within 2 s. -/
  | clusterRejoin (h : Half)
  /-- WARM_RESET_REQUEST (R89). A write of 1 to boot.warm_reset requests a warm reset. -/
  | warmResetRequest (sid rid : Nat)
  /-- CROCUS_FORCE (R102). A write of boot.crocus.force sets the force flag for the next release. -/
  | crocusForce (sid rid : Nat)
  /-- CROCUS_EXIT (R102). A write of 1 to boot.crocus.exit clears the counter, the force flag and the history, and
  requests a warm reset. -/
  | crocusExit (sid rid : Nat)
  /-- CROCUS_EXIT_DEFAULTS (R102). A write of 2 to boot.crocus.exit acts as value 1, and the next boot skips the
  configuration store. -/
  | crocusExitDefaults (sid rid : Nat)
  /-- OTP_COMMIT (R95). A write of fw.otp.commit raises the anti-rollback counter to the SVN of the running image. -/
  | otpCommit (sid rid : Nat)
  /-- OTP_REVOKE (R95). A write of fw.otp.revoke revokes the OTP key slots that it names. -/
  | otpRevoke (sid rid : Nat) (slots : Nat)
  /-- RAKE_HANDOVER (R106). A write of rake.handover moves the rake to the other half, increments the epoch and ends
  every field-network session. -/
  | rakeHandover (sid rid : Nat)
  /-- HOLDER_DEMOTE (R104). A half that believed it held the rake receives S_NOT_HOLDER and demotes itself. -/
  | holderDemote (h : Half)
  /-- FAR_TIMEOUT (R23). A cross-half or PA-die access gets no answer within its limit and ends with S_FAR_TIMEOUT. -/
  | farTimeout (sid : Nat)
  /-- READ (R74). An FBP READ request returns its items in order, stopping at the first failed item. -/
  | read (sid : Nat) (msg : List Byte)
  /-- WRITE (R74). An FBP WRITE request processes its items in order, stopping at the first failed item. -/
  | write (sid : Nat) (msg : List Byte)
  /-- DESCRIBE (R404). An FBP DESCRIBE request returns the type, access, commit class, persistence and default of each
  item. -/
  | describe (sid : Nat) (msg : List Byte)
  /-- BLOB_OPEN (R76). BLOB_OPEN opens a segmented transfer and returns a handle. -/
  | blobOpen (sid : Nat) (msg : List Byte)
  /-- BLOB_DATA (R77). BLOB_DATA carries one segment at the expected offset, or returns read data. -/
  | blobData (sid : Nat) (msg : List Byte)
  /-- BLOB_CLOSE (R77). BLOB_CLOSE checks the length and digest and gives the object its new value. -/
  | blobClose (sid : Nat) (msg : List Byte)
  /-- BLOB_ABORT (R78). BLOB_ABORT aborts the open transfer and leaves the object unchanged. -/
  | blobAbort (sid : Nat) (msg : List Byte)
  /-- BLOB_TIMEOUT (R78). A transfer with no BLOB message for 30 s is aborted. -/
  | blobTimeout (sid : Nat)
  /-- PING (R73). An FBP PING is answered with an empty response. -/
  | ping (sid : Nat) (msg : List Byte)
  /-- NOTIFY_ACK (R411). A kind 0x3 message acknowledges the notification of its REQUEST_ID. -/
  | notifyAck (sid : Nat) (requestId : Nat)
  /-- FBP_RESPONSE_DISCARD (R411). A received message of kind 0x1 or 0x2 is discarded without an answer. -/
  | fbpResponseDiscard (sid : Nat) (msg : List Byte)
  /-- REQUEST_EXECUTE (R75). A request queued behind earlier requests of its session begins execution. -/
  | requestExecute (sid : Nat)
  /-- OBJECT_WRITE (R58). A write to an object that has no row of its own acts live, enters the staging set, or
  records a pending reset value. -/
  | objectWrite (sid rid : Nat) (index sub type : Nat) (data : List Byte)
  /-- CFG_COMMIT (R63). A write of 1 to cfg.commit runs guard, lock, consistency, admission and prepare for the
  session's staging set. -/
  | cfgCommit (sid rid : Nat)
  /-- CFG_DISCARD (R65). A write of 2 to cfg.commit empties the staging set. -/
  | cfgDiscard (sid rid : Nat)
  /-- CFG_CHECK (R65). A write of 3 to cfg.commit runs steps 1 to 4 only and reports the result. -/
  | cfgCheck (sid rid : Nat)
  /-- COMMIT_START (R66). A commit that waited behind another commit starts. -/
  | commitStart
  /-- COMMIT_WAIT_TIMEOUT (R66). A waiting commit that has not started within 2 s is answered with S_BUSY. -/
  | commitWaitTimeout (sid : Nat)
  /-- COMMIT_CONFIRM (R63). A half, the PA die or the twin confirms or refuses its prepare. -/
  | commitConfirm (part : CommitPart) (status : Nat) (found : List (Nat × FnInfo))
  /-- COMMIT_PREPARE_TIMEOUT (R63). A part that does not confirm within 10 ms fails the commit with S_FAR_TIMEOUT. -/
  | commitPrepareTimeout (part : CommitPart)
  /-- COMMIT_APPLY (R64). At the apply instant, every part switches to its shadow state, and cfg.generation and
  cfg.commit_time are updated. -/
  | commitApply
  /-- STORE_WRITE_TIMEOUT (R56). The other half does not answer within 2 s, and only the holder's copy receives the
  new generation. -/
  | storeWriteTimeout
  /-- COMMIT_LOCK_WRITE (R62). A write of cfg.commit_lock sets the PA-die lock, and a write of 0 while the lock is 1
  is refused. -/
  | commitLockWrite (sid rid : Nat) (v : Nat)
  /-- OWNER_CREDENTIAL_WRITE (R57). A write of mgmt.owner.credential is stored in both copies before the answer, and
  it ends every other owner session. -/
  | ownerCredentialWrite (sid rid : Nat) (hash : List Byte)
  /-- NOTIFY_RESEND (R79). Every 500 ms an unacknowledged notification is sent again. -/
  | notifyResend (sid : Nat)
  /-- SESSION_IDLE_TIMEOUT (R84). A field-network or MCTP session ends after mgmt.session.idle_timeout without a
  message. -/
  | sessionIdleTimeout (sid : Nat)
  /-- SPDM_KEY_EXCHANGE (R81). An SPDM KEY_EXCHANGE and FINISH open a field-network session with a role chosen by key
  hash. -/
  | spdmKeyExchange (offer : KeyOffer) (proved : Bool)
  /-- SPDM_KEY_UPDATE (R81). KEY_UPDATE renews the session keys. -/
  | spdmKeyUpdate (sid : Nat)
  /-- GET_MEASUREMENTS (R110). GET_MEASUREMENTS returns the eight measurement blocks, signed with the identity key. -/
  | getMeasurements (via : Carrier) (ask : MeasurementAsk)
  /-- FBP_CLEAR_DATAGRAM (R80). A UDP datagram with prefix 0x03 is answered in the clear with S_AUTH and never
  executed. -/
  | fbpClearDatagram (u : Datagram)
  /-- ICMPV6_NEIGHBOUR_DISCOVERY (R80). The AF256 answers ICMPv6 neighbour discovery. -/
  | icmpv6NeighbourDiscovery (target : Nat)
  /-- ICMPV6_ECHO (R80). The AF256 answers ICMPv6 echo. -/
  | icmpv6Echo (data : List Byte)
  /-- MB_GO (R83). A host write of GO to the mailbox sets BUSY and starts the request. -/
  | mbGo (node : Fin 64) (request : List Byte)
  /-- MB_ABORT (R83). ABORT discards a mailbox request that has not started executing. -/
  | mbAbort (node : Fin 64)
  /-- MB_NTF_TAIL (R83). A write of MB_NTF_TAIL acknowledges every notification slot before it. -/
  | mbNtfTail (node : Fin 64) (tail : Fin 16)
  /-- SET_ENDPOINT_ID (R84). Set Endpoint ID assigns the endpoint's EID and ends its MCTP sessions. -/
  | setEndpointId (node : Fin 64) (eid : Nat)
  /-- PAD_HOLD_RELEASE (R42). A write of pwr.pad_hold.release releases the pad groups it names. -/
  | padHoldRelease (sid rid : Nat) (groups : Nat)
  /-- THERMAL_TRIP (R320). A junction sensor reads 115 °C or more, so THERMTRIP_N is asserted and every slot channel
  is turned off. -/
  | thermalTrip (sensor : Fin 28) (celsius : Nat)
  /-- VPA_LOW (R397). VPA falls below 2.9 V and every gate output is held off. -/
  | vpaLow
  /-- VPA_RECOVER (R397). VPA recovers, and each channel returns to ABSENT or READY with slot.enable 0. -/
  | vpaRecover
  /-- LANE_LOL_ASSERT (R115). A lane's loss-of-lock condition holds for 1 µs, and LOL is declared. -/
  | laneLolAssert (l : Fin 256)
  /-- LANE_LOL_CLEAR (R115). Both LOL conditions are absent for 2 µs, and LOL clears. -/
  | laneLolClear (l : Fin 256)
  /-- LANE_LOS_ASSERT (R117). The squelch asserts LOS, which is counted and reported if unexpected. -/
  | laneLosAssert (l : Fin 256) (announced : Bool)
  /-- LANE_LOS_DEASSERT (R116). The amplitude rises above threshold plus hysteresis, and LOS deasserts. -/
  | laneLosDeassert (l : Fin 256)
  /-- LANE_RATE_CHANGE (R113). A port's rate-change request moves its lanes to a new rate. -/
  | laneRateChange (p : Fin 128) (rate : Fin 8)
  /-- LANE_SLEEP_CHANGE (R118). One direction of a lane moves to the sleep level that its port's state requires. -/
  | laneSleepChange (l : Fin 256) (d : LaneDir) (level : SleepLevel)
  /-- LANE_WAKE (R118). A port's wake request returns a lane direction to Active. -/
  | laneWake (l : Fin 256) (d : LaneDir)
  /-- BGCAL_PERIOD_EXPIRY (R124). lane.bgcal_period elapses and a background pass comes due. -/
  | bgcalPeriodExpiry (l : Fin 256)
  /-- BGCAL_TEMP_TRIGGER (R124). The station temperature moves by 5 °C, and a background pass comes due. -/
  | bgcalTempTrigger (st : Fin 16)
  /-- FREE_SAMPLER_GRANT (R125). The free sampler is granted to the next user by priority, and a pending pass starts
  running. -/
  | freeSamplerGrant (l : Fin 256)
  /-- SAMPLER_SWAP (R123). After 4,096 UI of agreement, the roles of the two samplers are exchanged, or the exchange
  is abandoned. -/
  | samplerSwap (l : Fin 256) (agreed : Bool)
  /-- BGCAL_PASS_END (R126). A background pass ends as Passed, or as Degraded with the last good settings kept. -/
  | bgcalPassEnd (l : Fin 256) (ok : Bool)
  /-- EYE_SCAN (R368). Perennial runs an eye scan on the free sampler and stores the smallest eye. -/
  | eyeScan (l : Fin 256) (height width : Nat)
  /-- MARGIN_COMMAND (R122). A host lane-margining command runs on the free sampler. -/
  | marginCommand (l : Fin 256) (c : MarginCmd)
  /-- LANE_CAL_BACKGROUND (R128). A write of 0x01 to lane.cal_cmd queues a background pass. -/
  | laneCalBackground (sid rid : Nat) (l : Fin 256)
  /-- LANE_CAL_FULL (R128). A write of 0x02 to lane.cal_cmd runs a full calibration on a lane whose port is down. -/
  | laneCalFull (sid rid : Nat) (l : Fin 256)
  /-- LANE_BIST (R128). A write of 0x03 to lane.cal_cmd runs BIST on a lane whose port is down. -/
  | laneBist (sid rid : Nat) (l : Fin 256)
  /-- LANE_CAL_FULL_FORCED (R129). A write of 0x82 to lane.cal_cmd takes the port to Disabled, then runs a full
  calibration. -/
  | laneCalFullForced (sid rid : Nat) (l : Fin 256)
  /-- LANE_BIST_FORCED (R129). A write of 0x83 to lane.cal_cmd takes the port to Disabled, then runs BIST. -/
  | laneBistForced (sid rid : Nat) (l : Fin 256)
  /-- LANE_CAL_END (R127). A full calibration or BIST ends as Passed, or as Failed with the lane marked failed, and
  the port returns to Detect. -/
  | laneCalEnd (l : Fin 256) (o : CalOutcome)
  /-- TEST_LOOPBACK_SET (R131). A write of test.lane.loopback puts a lane of a down port into a loopback mode. -/
  | testLoopbackSet (sid rid : Nat) (l : Fin 256) (code : Nat)
  /-- TEST_GEN_SET (R132). A write of test.lane.gen starts or stops the lane's pattern generator. -/
  | testGenSet (sid rid : Nat) (l : Fin 256) (code : Nat)
  /-- TEST_RATE_SET (R133). A write of test.lane.rate changes the test rate and restarts the checker. -/
  | testRateSet (sid rid : Nat) (l : Fin 256) (code : Nat)
  /-- TEST_CHK_SET (R134). A write of test.lane.chk starts the checker hunting. -/
  | testChkSet (sid rid : Nat) (l : Fin 256) (code : Nat)
  /-- CHECKER_LOCK (R134). After 64 error-free bits the checker locks and zeroes its counters. -/
  | checkerLock (l : Fin 256)
  /-- CHECKER_LOCK_LOST (R134). More than 128 errors in 1,024 bits make the checker read Lock lost and freeze its
  counters. -/
  | checkerLockLost (l : Fin 256) (bits errors : Nat)
  /-- TEST_INJECT_SINGLE (R135). Injection mode 1 inverts one bit at the generator output. -/
  | testInjectSingle (sid rid : Nat) (l : Fin 256)
  /-- TEST_INJECT_PERIODIC (R135). Injection mode 2 inverts one bit every 2^k bits. -/
  | testInjectPeriodic (sid rid : Nat) (l : Fin 256) (k : Nat)
  /-- TEST_INJECT_BURST (R135). Injection mode 3 inverts L consecutive bits once. -/
  | testInjectBurst (sid rid : Nat) (l : Fin 256) (len : Nat)
  /-- PORT_RETRAIN (R148). A write of 1 to port.cmd retrains the link, or joins a Recovery already in progress. -/
  | portRetrain (sid rid : Nat) (p : Fin 128)
  /-- PORT_HOT_RESET (R140). A write of 2 to port.cmd sends a hot reset on a downstream link. -/
  | portHotReset (sid rid : Nat) (p : Fin 128)
  /-- PORT_LINK_DISABLE (R140). A write of 3 to port.cmd disables the link until the next write of 1 or 2. -/
  | portLinkDisable (sid rid : Nat) (p : Fin 128)
  /-- LINK_UP (R153). A port reaches DL_Up, so its partition or contracts may become active. -/
  | linkUp (p : Fin 128) (f : LinkFacts)
  /-- LINK_DOWN (R407). A port leaves DL_Up other than by DPC, and its queued frames are discarded with synthesised
  completions. -/
  | linkDown (p : Fin 128) (surprise : Bool)
  /-- REPLAY_NUM_ROLLOVER (R145). A replay-number rollover takes the link into Recovery. -/
  | replayNumRollover (p : Fin 128)
  /-- SPEED_CHANGE (R146). A downstream port directs a speed change from L0. -/
  | speedChange (p : Fin 128) (rate : Fin 8)
  /-- L0P_WIDTH_REQUEST (R147). An L0p width request is resolved in favour of the downstream port. -/
  | l0pWidthRequest (p : Fin 128) (own partner : Option Nat)
  /-- PERSTIN_FALL (R153). PERSTIN_N[s] falls and puts the partitions or hosts with their upstream port in station Ss
  into reset. -/
  | perstinFall (st : Fin 16)
  /-- PERSTIN_RISE (R153). PERSTIN_N[s] rises and the upstream port enters Detect within 1 ms. -/
  | perstinRise (st : Fin 16)
  /-- HOT_RESET_RECEIVED (R153). A hot reset or DL_Down on the upstream port puts the partition into reset. -/
  | hotResetReceived (node : Fin 64) (hot : Bool)
  /-- HOT_RESET_END (R153). Every hot reset sent downstream has ended, and the partition moves to upstream link down. -/
  | hotResetEnd (node : Fin 64)
  /-- CONFIG_WRITE (R168). A host configuration write to a switch port function takes effect at its completion,
  covering bridge, ACS, DPC, slot and Secondary Bus Reset registers. -/
  | configWrite (f : CfgFunc) (r : CfgReg) (value : Nat)
  /-- PTM_REQUEST (R157). A downstream port answers a PTM request with fabric time plus the partition's offset. -/
  | ptmRequest (p : Fin 128)
  /-- PTM_OFFSET_REFRESH (R157). The upstream port refreshes its PTM offset at the PTM interval. -/
  | ptmOffsetRefresh (node : Fin 64) (offset : Nat)
  /-- STATION_REFCLK_SELECT (R36). When the station PLL starts, the station chooses its reference or stays down. -/
  | stationRefclkSelect (st : Fin 16) (toggles : Bool)
  /-- MLD_TRAINED (R161). An MLD port trains, and LD entries are allocated to its logical devices. -/
  | mldTrained (p : Fin 128) (lds : Nat)
  /-- MLD_RELEASE_TIMEOUT (R161). An MLD port stays down for more than 1 s, and its LD entries are released and
  unbound. -/
  | mldReleaseTimeout (p : Fin 128)
  /-- CXL_MEM_UNCLAIMED (R307). A CXL.mem request that no HDM decoder claims is answered with poisoned all-ones data
  or with Cmp. -/
  | cxlMemUnclaimed (node : Fin 64) (isWrite : Bool) (len : Nat)
  /-- FRAME_INGRESS (R164). A frame enters C1 and is looked up, checked, metered, classified and either cut through or
  buffered. -/
  | frameIngress (i : Ingress) (f : Frame) (facts : CoreFacts)
  /-- EGRESS_SELECT (R290). The egress scheduler picks the next eligible frame by tier and weighted fair queueing, and
  charges the slot. -/
  | egressSelect (p : Fin 128) (ecc : CellEcc)
  /-- LINK_CREDIT_UPDATE (R178). Flow-control credits returned by the link partner make queued frames eligible again. -/
  | linkCreditUpdate (p : Fin 128) (c : Credits)
  /-- SKIM_EVICT (R182). Skim evicts one RME data frame per cycle while the free pool is below the floor. -/
  | skimEvict (h : Half)
  /-- TALLY_SCAN_START (R185). A tally scan starts at core.tally.period after the previous one. -/
  | tallyScanStart (h : Half)
  /-- TALLY_SCAN_END (R187). A tally scan ends, reclaims twice-found orphans, reports stuck queues and checks the cell
  count. -/
  | tallyScanEnd (h : Half) (found : Nat)
  /-- SEAM_FRAME_RECEIVE (R190). A crossing frame is accepted in sequence order, or discarded as a duplicate, and is
  stored in the egress half. -/
  | seamFrameReceive (st : Fin 16) (seq : Nat) (f : Frame)
  /-- SEAM_ADMISSION (R189). The egress half's admission and credit return let a waiting seam frame be sent onto its
  module. -/
  | seamAdmission (st : Fin 16) (channel : Fin 5)
  /-- SEAM_CRC_ERROR (R191). A CRC error or NAK on a seam module starts a replay from the retry buffer, and the fourth
  failure starts a retrain. -/
  | seamCrcError (d : SeamDir) (m : Fin 8)
  /-- SEAM_REPLAY_ACK (R191). A seam replay is acknowledged and the module returns to ACTIVE. -/
  | seamReplayAck (d : SeamDir) (m : Fin 8)
  /-- SEAM_RETRAIN_DONE (R191). A module retrain succeeds, and the module returns to ACTIVE or is retired at the
  limit. -/
  | seamRetrainDone (d : SeamDir) (m : Fin 8)
  /-- SEAM_RETRAIN_TIMEOUT (R191). A retrain fails to finish within 50 µs, so the module is retired and its flits move
  to a replacement module. -/
  | seamRetrainTimeout (d : SeamDir) (m : Fin 8)
  /-- SEAM_HEARTBEAT_SEND (R191). Every 10 µs each half sends a seam heartbeat. -/
  | seamHeartbeatSend (h : Half)
  /-- SEAM_HEARTBEAT_TIMEOUT (R192). No heartbeat arrives for 100 µs, and the seam becomes LOST. -/
  | seamHeartbeatTimeout
  /-- SEAM_TIME_EXCHANGE (R191). Every 1 µs the halves exchange time and East slews towards West. -/
  | seamTimeExchange
  /-- SEAM_MGMT_REQUEST (R194). A management request from the other half is served by a responder that needs no free
  core. -/
  | seamMgmtRequest (h : Half) (write : Bool) (index sub entry value : Nat)
  /-- HALF_HALT (R318). An uncontainable core, PLL or QDR failure halts a half. -/
  | halfHalt (h : Half) (cause : HaltCause)
  /-- FABRIC_CFG_READ (R199). A write of 1 to fabric.cmd issues a configuration read on the fabric side. -/
  | fabricCfgRead (sid rid : Nat)
  /-- FABRIC_CFG_WRITE (R199). A write of 2 to fabric.cmd issues a configuration write on the fabric side. -/
  | fabricCfgWrite (sid rid : Nat)
  /-- FABRIC_CFG_COMPLETION (R199). The completion of a fabric configuration request arrives and answers the write. -/
  | fabricCfgCompletion (sid : Nat) (st : CplStatus) (data : Nat)
  /-- FABRIC_CFG_TIMEOUT (R199). No completion arrives within 10 ms, and the write is answered with S_FAR_TIMEOUT. -/
  | fabricCfgTimeout (sid : Nat)
  /-- FPORT_READY_WRITE (R198). A write of 1 to fport.ready reads the real BARs behind the port and serves its
  bindings. -/
  | fportReadyWrite (sid rid : Nat) (p : Fin 128) (bars : List (Nat × List RealBar))
  /-- HOST_CONFIG_REQUEST (R204). A host configuration request to a bound function is trapped or sent as a tracked
  request. -/
  | hostConfigRequest (b : Fin 8192) (r : FnReg) (write : Option Nat) (requester tag : Nat)
  /-- SYNTH_SLOT_POWER_OFF (R203). The host sets a synthetic port's Power Controller Control to off, and its bindings
  read state 3. -/
  | synthSlotPowerOff (node : Fin 64) (devfn : Fin 256)
  /-- SYNTH_SLOT_POWER_ON (R203). Power Controller Control set to on returns the port's released bindings to state 2. -/
  | synthSlotPowerOn (node : Fin 64) (devfn : Fin 256)
  /-- PROXY_COMPLETION (R212). A completion to a proxy RID is matched, translated and forwarded, and the request's
  last completion frees the entry. -/
  | proxyCompletion (t : Tlp)
  /-- TRACK_TIMEOUT (R213). A tracking entry not freed within fabric.ctl.track_timeout is ended with a synthesised
  completion. -/
  | trackTimeout (h : Half) (entry : Fin 262144)
  /-- TRACK_WAIT_RESUME (R214). A tracking entry frees, and a request waiting at the head of its queue is issued. -/
  | trackWaitResume (h : Half)
  /-- PAIR_SESSION_ESTABLISHED (R215). The joining session succeeds, the pair enters RESYNC and the lagging fabric
  time steps forward. -/
  | pairSessionEstablished (twinKey : List Byte) (twinFabric twinEnable : Bool) (twinTime : Nat)
  /-- PAIR_SESSION_REFUSED (R215). The joining session is refused, or a join check fails, and the pair enters REFUSED. -/
  | pairSessionRefused (reason : Nat)
  /-- PAIR_JOIN_TIMEOUT (R215). No session is established 1 s after the first BFL link enters ACTIVE, and the pair
  enters REFUSED with reason 5. -/
  | pairJoinTimeout
  /-- PAIR_REFUSED_RETRY (R215). 10 s after refusal, a pair with pair.enable 1 returns to JOINING. -/
  | pairRefusedRetry
  /-- PAIR_RESYNC_TIMEOUT (R215). RESYNC does not complete within 100 ms, and the pair returns to JOINING. -/
  | pairResyncTimeout
  /-- PAIR_MISMATCH_TIMEOUT (R215). Generations differ for 10 ms, or digests differ for 300 µs, and the pair enters
  RESYNC. -/
  | pairMismatchTimeout
  /-- PAIR_LOSS_TIMEOUT (R219). No link is ACTIVE, or no PAIRSYNC arrives, for pair.loss_time, and the pair enters
  TWIN_LOST. -/
  | pairLossTimeout
  /-- PAIRSYNC_SEND (R218). Every 100 µs each device sends its generation and digest in a PAIRSYNC. -/
  | pairsyncSend
  /-- PAIRSYNC (R218). A received PAIRSYNC is compared with the device's own pair objects. -/
  | pairsync (node pairState generation : Nat) (digest : List Byte)
  /-- PAIR_OBJECTS_TRANSFER (R218). In RESYNC, pair objects from the authoritative device replace this device's own,
  and equal objects make the pair FORMED. -/
  | pairObjectsTransfer (generation : Nat) (sent : PairObjects)
  /-- PAIR_PREPARE (R216). A pair-object prepare from the twin is confirmed, or refused with S_BUSY. -/
  | pairPrepare (objs : List (Nat × Nat × Nat × Nat)) (generation : Nat)
  /-- BFL_DATA_FLIT (R231). A received data flit is accepted, discarded as a duplicate, or answered with a NAK. -/
  | bflDataFlit (i : Fin 16) (flit : List Byte)
  /-- ACK (R232). A received BFL ACK acknowledges every flit up to its sequence number. -/
  | ack (i : Fin 16) (ackSeq : Nat)
  /-- NAK (R233). A received BFL NAK acknowledges up to its sequence number and replays from the next flit. -/
  | nak (i : Fin 16) (seq cause : Nat)
  /-- CREDIT (R228). A received CREDIT message updates the cumulative totals of seven pools. -/
  | credit (i : Fin 16) (firstPool : Nat) (totals : List Nat)
  /-- HEARTBEAT (R232). A received HEARTBEAT carries the partner's state and its ACK_SEQ. -/
  | heartbeat (i : Fin 16) (linkState hbSeq ackSeq : Nat)
  /-- TIME (R229). A received TIME message updates the round trip, and node 1 slews its time. -/
  | time (i : Fin 16) (tseq txTime echoDelay echoSeq : Nat)
  /-- RESET_REQ (R236). A received RESET_REQ is checked and answered with RESET_ACK, or the link is kept in TRAINING. -/
  | resetReq (i : Fin 16) (r : BflReset)
  /-- RESET_ACK (R238). A received RESET_ACK completes initialisation, and continuity is judged from the incarnations. -/
  | resetAck (i : Fin 16) (r : BflReset)
  /-- BFL_ACK_DUE (R232). 64 ns after an uncovered accepted flit, the receiver sends an ACK. -/
  | bflAckDue (i : Fin 16)
  /-- BFL_REPLAY_TIMEOUT (R233). The replay timer expires, so unacknowledged flits are replayed, or the link enters
  RETRAIN at the limit. -/
  | bflReplayTimeout (i : Fin 16)
  /-- BFL_HEARTBEAT_SEND (R229). Every 1 µs the sender puts a HEARTBEAT into its bypass flit. -/
  | bflHeartbeatSend (i : Fin 16)
  /-- BFL_TIME_SEND (R229). Every 10 µs a TIME message is sent on each ACTIVE link. -/
  | bflTimeSend (i : Fin 16)
  /-- BFL_CREDIT_SEND (R228). At least every 1 µs, both CREDIT messages are sent. -/
  | bflCreditSend (i : Fin 16)
  /-- BFL_HEARTBEAT_TIMEOUT (R234). No HEARTBEAT arrives for 100 µs, and the link enters RETRAIN or HELD. -/
  | bflHeartbeatTimeout (i : Fin 16)
  /-- BFL_RETRAIN_L0 (R235). Recovery reaches L0 within 2 ms with a HEARTBEAT, so the link returns to ACTIVE and
  replays. -/
  | bflRetrainL0 (i : Fin 16) (width rate : Nat)
  /-- BFL_RETRAIN_TIMEOUT (R235). RETRAIN lasts 2 ms without success, and the link enters HELD. -/
  | bflRetrainTimeout (i : Fin 16)
  /-- BFL_RESET_REQ_SEND (R236). Every 10 µs in initialisation, each end resends RESET_REQ until RESET_ACK arrives. -/
  | bflResetReqSend (i : Fin 16)
  /-- BFL_INIT_TIMEOUT (R236). No RESET_ACK arrives within 1 ms, and cause 7 is set. -/
  | bflInitTimeout (i : Fin 16)
  /-- BFL_TRAIN_RETRY (R235). 100 ms after a failed attempt, the physical layer retrains. -/
  | bflTrainRetry (i : Fin 16)
  /-- BFL_FULL_RESET (R240). A write of 1 to bfl.cmd requests a full reset to change width or rate. -/
  | bflFullReset (sid rid : Nat) (i : Fin 16)
  /-- BFL_FORCED_RESET (R240). A write of 0x81 to bfl.cmd requests a full reset even on the only ACTIVE link. -/
  | bflForcedReset (sid rid : Nat) (i : Fin 16)
  /-- BFL_EVACUATE (R243). A write of 2 to bfl.cmd sends EVAC_QUERY to move a HELD link's traffic to a target link. -/
  | bflEvacuate (sid rid : Nat) (i : Fin 16)
  /-- EVAC_QUERY (R243). A received EVAC_QUERY holds the link, discards partial frames and answers with EVAC_REPLY. -/
  | evacQuery (t s : Fin 16) (inc : Nat)
  /-- EVAC_REPLY (R243). A received EVAC_REPLY moves every frame not yet accepted, and the grant homes, onto the
  target link. -/
  | evacReply (t s : Fin 16) (lastSeq inc : Nat)
  /-- BFL_EVAC_TIMEOUT (R243). No EVAC_REPLY arrives within 1 ms, and the evacuate fails with nothing moved. -/
  | bflEvacTimeout (i : Fin 16)
  /-- SQ_DB (R250). A send queue doorbell write advances the SQ producer index. -/
  | sqDb (n : Fin 4096) (node : Fin 64) (target index : List Byte) (size : Nat)
  /-- RQ_DB (R250). A receive queue doorbell write advances the RQ producer index. -/
  | rqDb (n : Fin 4096) (node : Fin 64) (target index : List Byte) (size : Nat)
  /-- CQ_DB (R250). A CQ doorbell write advances the consumer index. -/
  | cqDb (n : Fin 4096) (node : Fin 64) (target index : List Byte) (size : Nat)
  /-- CQ_ARM (R253). A CQ_ARM write arms the CQ for one interrupt. -/
  | cqArm (n : Fin 4096) (node : Fin 64) (target index : List Byte) (size : Nat)
  /-- CMD_DB (R254). A command queue doorbell write advances the command producer index. -/
  | cmdDb (n : Fin 4096) (node : Fin 64) (index : List Byte) (size : Nat)
  /-- HOST_READ_COMPLETION (R251). A completion for an RME read of host memory arrives, and the work that waited for
  it proceeds or ends. -/
  | hostReadCompletion (r : HostRead) (st : ReadStatus)
  /-- WQE_WRITE (R259). A WRITE WQE is cut into packets and sent. -/
  | wqeWrite (qpn : Nat) (data : List Byte)
  /-- WQE_WRITE_IMM (R259). A WRITE_IMM WQE is cut into packets carrying the immediate and sent. -/
  | wqeWriteImm (qpn : Nat) (data : List Byte)
  /-- WQE_READ (R259). A READ WQE sends one READ_REQ packet. -/
  | wqeRead (qpn : Nat)
  /-- WQE_SEND (R259). A SEND WQE is cut into packets and sent. -/
  | wqeSend (qpn : Nat) (data : List Byte)
  /-- WQE_SEND_IMM (R259). A SEND_IMM WQE is sent carrying the immediate. -/
  | wqeSendImm (qpn : Nat) (data : List Byte)
  /-- WQE_FETCH_ADD (R259). A FETCH_ADD WQE sends one atomic request packet. -/
  | wqeFetchAdd (qpn : Nat)
  /-- WQE_COMP_SWAP (R259). A COMP_SWAP WQE sends one atomic request packet. -/
  | wqeCompSwap (qpn : Nat)
  /-- WQE_LOCAL_INV (R257). LOCAL_INV invalidates its key once every earlier WQE of the QP has completed. -/
  | wqeLocalInv (qpn : Nat)
  /-- WQE_RECV (R265). A RECV WQE posts a receive buffer. -/
  | wqeRecv (qpn : Nat)
  /-- REG_REGION (R257). REG_REGION registers a region under a new key, or re-registers an invalidated key. -/
  | regRegion (n : Fin 4096)
  /-- DEREG_REGION (R257). DEREG_REGION frees a key entry and keeps its generation. -/
  | deregRegion (n : Fin 4096)
  /-- CREATE_QP (R255). CREATE_QP allocates the lowest eligible index with a new incarnation, in RESET. -/
  | createQp (n : Fin 4096) (block : List Byte)
  /-- MODIFY_QP (R414). MODIFY_QP without MASK [0] changes only the attributes whose mask bits are set. -/
  | modifyQp (n : Fin 4096) (block : List Byte)
  /-- MODIFY_QP_RESET (R255). MODIFY_QP to STATE 0 takes an ERROR or FLUSHED QP to RESET and clears its attributes. -/
  | modifyQpReset (n : Fin 4096) (block : List Byte)
  /-- MODIFY_QP_INIT (R255). MODIFY_QP to STATE 1 takes a RESET QP to INIT. -/
  | modifyQpInit (n : Fin 4096) (block : List Byte)
  /-- MODIFY_QP_READY (R255). MODIFY_QP to STATE 2 takes an INIT QP with its attributes set to READY and resets its
  rate and weights. -/
  | modifyQpReady (n : Fin 4096) (block : List Byte)
  /-- MODIFY_QP_ERROR (R276). MODIFY_QP to STATE 3 takes a QP to ERROR and begins the flush. -/
  | modifyQpError (n : Fin 4096) (block : List Byte)
  /-- DESTROY_QP (R255). DESTROY_QP frees the QP index after 10 ms. -/
  | destroyQp (n : Fin 4096)
  /-- CREATE_CQ (R254). CREATE_CQ allocates a completion queue. -/
  | createCq (n : Fin 4096)
  /-- DESTROY_CQ (R254). DESTROY_CQ frees a completion queue that is not in use. -/
  | destroyCq (n : Fin 4096)
  /-- DICT (R254). DICT carries one FBP message of the tenant session and writes its response and a CQE. -/
  | dict (n : Fin 4096) (msg : List Byte)
  /-- QP_FLUSHED (R276). Every WQE of an ERROR QP has been flushed and its staging freed, and the QP becomes FLUSHED. -/
  | qpFlushed (qpn : Nat)
  /-- PACKET_WRITE (R262). A WRITE request packet is checked, then executed at the expected PSN or staged. -/
  | packetWrite (h : Half) (p : RmePacket)
  /-- PACKET_WRITE_IMM (R262). A WRITE_IMM request packet is checked, then executed or staged. -/
  | packetWriteImm (h : Half) (p : RmePacket)
  /-- PACKET_SEND (R265). A SEND packet takes the next receive WQE, or draws an RNR NAK. -/
  | packetSend (h : Half) (p : RmePacket)
  /-- PACKET_SEND_IMM (R265). A SEND_IMM packet takes the next receive WQE and delivers the immediate. -/
  | packetSendImm (h : Half) (p : RmePacket)
  /-- PACKET_READ_REQ (R265). A READ_REQ packet is executed as memory reads answered by READ_RESP packets. -/
  | packetReadReq (h : Half) (p : RmePacket)
  /-- PACKET_FETCH_ADD (R265). A FETCH_ADD packet issues an AtomicOp, records the result and answers with ATOMIC_RESP. -/
  | packetFetchAdd (h : Half) (p : RmePacket)
  /-- PACKET_COMP_SWAP (R265). A COMP_SWAP packet issues an AtomicOp, records the result and answers with ATOMIC_RESP. -/
  | packetCompSwap (h : Half) (p : RmePacket)
  /-- READ_RESP (R261). A READ_RESP of the latest attempt is placed in the local buffer. -/
  | readResp (h : Half) (p : RmePacket)
  /-- ATOMIC_RESP (R261). An ATOMIC_RESP writes the original value and completes the atomic. -/
  | atomicResp (h : Half) (p : RmePacket)
  /-- RME_ACK (R261). An ACK of syndrome 0 advances the acknowledgement, completes messages and applies any CE echo. -/
  | rmeAck (h : Half) (p : RmePacket)
  /-- RME_SELECTIVE_NAK (R261). A selective NAK advances the acknowledgement and schedules a single resend of NAK_PSN. -/
  | rmeSelectiveNak (h : Half) (p : RmePacket)
  /-- RME_RNR_NAK (R261). An RNR NAK schedules a resend after rme.rnr_delay, or ends the WQE with RNR_EXCEEDED. -/
  | rmeRnrNak (h : Half) (p : RmePacket)
  /-- RME_NAK_REMOTE_ACCESS (R261). A NAK of syndrome 3 completes the WQE with REMOTE_ACCESS and puts the QP in ERROR. -/
  | rmeNakRemoteAccess (h : Half) (p : RmePacket)
  /-- RME_NAK_REMOTE_INVALID (R261). A NAK of syndrome 4 completes the WQE with REMOTE_INVALID and puts the QP in
  ERROR. -/
  | rmeNakRemoteInvalid (h : Half) (p : RmePacket)
  /-- RME_NAK_KEY_GENERATION (R261). A NAK of syndrome 5 completes the WQE with KEY_GENERATION and puts the QP in
  ERROR. -/
  | rmeNakKeyGeneration (h : Half) (p : RmePacket)
  /-- SKIM_NOTICE (R261). A received skim notice for a request packet resends it at once and counts as an echo of 32. -/
  | skimNotice (h : Half) (p : RmePacket)
  /-- RME_RETX_TIMEOUT (R260). The QP's retransmission timer expires, so unacknowledged packets are resent, or the QP
  enters ERROR after the limit. -/
  | rmeRetxTimeout (qpn : Nat)
  /-- RME_RNR_DELAY_EXPIRY (R261). After rme.rnr_delay, the QP resends from NAK_PSN. -/
  | rmeRnrDelayExpiry (qpn : Nat)
  /-- RME_ECHO_DUE (R263). Within 2 µs of a CE-marked packet, the responder sends an ACK echoing the marks. -/
  | rmeEchoDue (qpn : Nat)
  /-- RME_CC_INCREASE (R273). Each increase period without an echo raises the QP rate and moves the path weights
  towards uniform. -/
  | rmeCcIncrease (qpn : Nat)
  /-- SLICE_QUIESCE (R248). A write of 1 to rme.slice.cmd moves an ACTIVE slice to QUIESCING. -/
  | sliceQuiesce (sid rid : Nat) (n : Fin 4096)
  /-- SLICE_RESUME (R248). A write of 2 to rme.slice.cmd returns a QUIESCED slice to ACTIVE. -/
  | sliceResume (sid rid : Nat) (n : Fin 4096)
  /-- SLICE_RELEASE (R248). A write of 3 to rme.slice.cmd releases a QUIESCED slice and frees all its resources. -/
  | sliceRelease (sid rid : Nat) (n : Fin 4096)
  /-- SLICE_QUIESCED (R248). The last quiesce condition comes to hold, and the slice becomes QUIESCED. -/
  | sliceQuiesced (n : Fin 4096)
  /-- SLICE_QUIESCE_BUDGET_EXPIRY (R248). The quiesce budget elapses, and the remaining QPs are sent to ERROR. -/
  | sliceQuiesceBudgetExpiry (n : Fin 4096)
  /-- SHAPER_RATE_WRITE (R297). A live write of shaper.rate is checked against contracts and takes effect at the next
  cycle. -/
  | shaperRateWrite (sid rid : Nat) (h : Half) (i : Fin 8192) (rate : Nat)
  /-- SHAPER_BURST_WRITE (R297). A live write of shaper.burst is checked against contracts and takes effect under
  CARRY or REFILL. -/
  | shaperBurstWrite (sid rid : Nat) (h : Half) (i : Fin 8192) (burst : Nat)
  /-- ALERT_ACK (R303). A write of err.alert_ack acknowledges log records up to a SEQ. -/
  | alertAck (sid rid : Nat) (seq : Nat)
  /-- PLOG_CLEAR (R301). A write of err.plog_clear clears the persistent log. -/
  | plogClear (sid rid : Nat)
  /-- CREDIT_STALL_TIMEOUT (R316). A port stalled for want of link credit for err.pol.credit_stall is logged, and DPC
  may trigger. -/
  | creditStallTimeout (p : Fin 128)
  /-- QDR_SCRUB (R314). The scrubber reads QDR words each period and acts on uncorrectable words by region. -/
  | qdrScrub (h : Half) (region : QdrRegion) (entry : Nat) (res : EccResult)
  /-- TABLE_SCRUB (R315). The scrubber reads on-die table entries and restores uncorrectable ones within 10 µs. -/
  | tableScrub (h : Half) (table : DieTable) (entry : Nat) (res : EccResult)
  /-- FEED_GOOD (R323). A feed stays inside its window for 10 ms and becomes good. -/
  | feedGood (k : Fin 32) (f : Feed) (mv : Nat)
  /-- FEED_BAD (R323). A feed leaves its window for 2 µs, so its OR gate turns off and usable power may be lost. -/
  | feedBad (k : Fin 32) (f : Feed) (mv : Nat)
  /-- REVERSE_TURN_OFF (R325). Reverse voltage of 10 mV turns a feed's OR gate off within 300 ns. -/
  | reverseTurnOff (k : Fin 32) (f : Feed)
  /-- OR_GATE_RESUME (R325). A good feed exceeds the common node by 25 mV and its OR gate conducts again. -/
  | orGateResume (k : Fin 32) (f : Feed)
  /-- FAST_TRIP (R327). Sense current reaches slot.ifast, GATE_H is pulled off within 800 ns and the channel faults. -/
  | fastTrip (k : Fin 32)
  /-- LIMIT_TIMER_EXPIRY (R327). The limit accumulator reaches slot.limit_time, and the channel faults with cause 2. -/
  | limitTimerExpiry (k : Fin 32)
  /-- POWER_GOOD (R328). HS_SRC holds within 300 mV of the common node for 1 ms, and the channel enters ON. -/
  | powerGood (k : Fin 32)
  /-- RAMP_TIMEOUT (R328). Power Good is not reached within slot.ramp_timeout, and the channel faults with cause 3. -/
  | rampTimeout (k : Fin 32)
  /-- PRESENCE_ASSERT (R340). Twenty low samples assert slot presence, and the channel starts its insertion delay. -/
  | presenceAssert (k : Fin 32)
  /-- PRESENCE_LOSS (R340). Three high samples deassert presence, and the channel goes to ABSENT with its gates off. -/
  | presenceLoss (k : Fin 32)
  /-- INSERT_DELAY_EXPIRY (R330). slot.insert_delay elapses, and the channel moves to READY. -/
  | insertDelayExpiry (k : Fin 32)
  /-- CHANNEL_START (R330). A wanted READY channel with usable power and a free group ramp slot enters RAMP. -/
  | channelStart (k : Fin 32)
  /-- COOLDOWN_EXPIRY (R330). The cooldown elapses, and the channel returns to READY, or to LOCKED at the fault limit. -/
  | cooldownExpiry (k : Fin 32)
  /-- ABSENCE_COUNT_CLEAR (R332). A slot absent for longer than slot.cooldown has its fault count cleared. -/
  | absenceCountClear (k : Fin 32)
  /-- SLOT_ENABLE_WRITE (R330). A write of slot.enable makes the channel wanted or unwanted. -/
  | slotEnableWrite (sid rid : Nat) (k : Fin 32) (v : Nat)
  /-- SLOT_CLEAR_FAULTS (R331). A write of 1 to slot.cmd clears the fault count and ends LOCKED. -/
  | slotClearFaults (sid rid : Nat) (k : Fin 32)
  /-- SLOT_CLEAR_ENERGY (R336). A write of 2 to slot.cmd clears energy and peak. -/
  | slotClearEnergy (sid rid : Nat) (k : Fin 32)
  /-- PERST_RELEASE (R333). After slot.perst_delay in ON, with slot.perst 1, SB_PERST_N is released. -/
  | perstRelease (k : Fin 32)
  /-- BRAKE_ASSERT (R334). Group power exceeds sgrp.brake_mw, and SB_PWRBRK_N is driven low on its ON channels. -/
  | brakeAssert (g : Fin 4)
  /-- BRAKE_RELEASE (R334). Group power falls below 95% of the threshold, and the brake is released. -/
  | brakeRelease (g : Fin 4)
  /-- SB_BUS_INIT (R338). 10 ms after its conditions hold, a slot bus initialises and comes up. -/
  | sbBusInit (k : Fin 32)
  /-- ATTENTION_PRESS (R340). A debounced attention press is counted, notified and reflected in the slot status. -/
  | attentionPress (k : Fin 32)
  /-- SB_ENTRY_DUE (R345). A read entry's period elapses, and the entry becomes due. -/
  | sbEntryDue (e : Fin 512)
  /-- SB_ALERT_POLL (R346). sb.alert_poll elapses, and an alert poll is queued. -/
  | sbAlertPoll (k : Fin 32)
  /-- SB_TRANSACTION_START (R346). A free slot bus starts its next transaction by priority, merging reads where
  permitted. -/
  | sbTransactionStart (k : Fin 32)
  /-- SB_TRANSACTION_END (R342). A slot bus transaction ends, delivering read values, answering a far write or logging
  stray reads. -/
  | sbTransactionEnd (k : Fin 32) (r : SbResult)
  /-- SB_BUS_TIMEOUT (R339). SCL is held low for 25 ms, and the transaction ends with a bus recovery. -/
  | sbBusTimeout (k : Fin 32)
  /-- SB_VALUE_WRITE (R349). A write of sbval.word queues a non-posted far write through its write entry. -/
  | sbValueWrite (sid rid : Nat) (w : Fin 256) (v : Nat)
  /-- SB_FAR_TIMEOUT (R349). A far write has not ended after sbg.far_timeout and is answered with S_FAR_TIMEOUT. -/
  | sbFarTimeout (sid : Nat)
  /-- SB_FAR_READ (R350). A write of 1 to sbfar.cmd queues a direct register read of a slot device. -/
  | sbFarRead (sid rid : Nat)
  /-- SB_FAR_WRITE (R350). A write of 2 to sbfar.cmd queues a direct register write to a slot device. -/
  | sbFarWrite (sid rid : Nat)
  /-- SB_STRAY_CLEAR (R351). A write of sbg.stray_clear clears the stray-read log. -/
  | sbStrayClear (sid rid : Nat)
  /-- PWR_RUN_REQUEST (R355). A write of 0 to pwr.state_req disarms Idle or wakes the device from Sleep. -/
  | pwrRunRequest (sid rid : Nat)
  /-- PWR_IDLE_ARM (R354). A write of 1 to pwr.state_req arms Idle. -/
  | pwrIdleArm (sid rid : Nat)
  /-- PWR_SLEEP_REQUEST (R355). A write of 2 to pwr.state_req is checked and starts the Sleep entry sequence. -/
  | pwrSleepRequest (sid rid : Nat)
  /-- PWR_DEEP_SLEEP_REQUEST (R355). A write of 3 to pwr.state_req is checked and starts the Deep sleep entry
  sequence. -/
  | pwrDeepSleepRequest (sid rid : Nat)
  /-- PWR_OFF_REQUEST (R355). A write of 4 to pwr.state_req is checked and starts the Off entry sequence. -/
  | pwrOffRequest (sid rid : Nat)
  /-- IDLE_ENTER (R354). The Idle conditions hold for 10 µs, and the device gates its clocks. -/
  | idleEnter
  /-- IDLE_EXIT (R354). An Idle condition ends, and the clocks are ungated within 100 ns. -/
  | idleExit
  /-- PWR_ENTRY_DONE (R356). The last entry step ends, and the device is in Sleep, Deep sleep or Off. -/
  | pwrEntryDone
  /-- WAKE_EVENT (R360). An enabled wake event abandons an entry or starts the exit to Run. -/
  | wakeEvent (w : WakeSource)
  /-- PWR_EXIT_DONE (R357). The domains are restored, the device reaches Run and fabric time steps forward. -/
  | pwrExitDone
  /-- OFF_WAKE_RAILS_GOOD (R358). After a wake from Off, the rails and clocks become good, and the halves are released
  as at a warm reset. -/
  | offWakeRailsGood
  /-- OFF_WAKE_TIMEOUT (R358). The rails are not good within 1 s, and the device stays in Off. -/
  | offWakeTimeout
  /-- AO_CRYSTAL_STOP (R363). The crystal gives no edge for 1 ms, and the AO counter switches to the RC. -/
  | aoCrystalStop
  /-- AO_CRYSTAL_RESUME (R363). After 1 s of stable running, the crystal takes over the AO counter again. -/
  | aoCrystalResume
  /-- THERMAL_SAMPLE (R365). Every 1 ms the sensors are read, and a thermal warning is raised where due. -/
  | thermalSample (temps : List Nat)
  /-- THROTTLE_STEP (R366). The throttle fraction of a half rises every 1 ms or falls every 10 ms. -/
  | throttleStep (h : Half)
  /-- PERENNIAL_MEASURE (R368). Every per.period, Perennial measures ageing, slack and QDR and seam margins. -/
  | perennialMeasure (h : Half) (ageing slack : Nat) (qdrOk seamOk : Bool)
  /-- PERENNIAL_SUMMARY (R370). Every 24 powered hours, a chained summary record is written and lane eyes are
  projected. -/
  | perennialSummary (h : Half)
  /-- PERENNIAL_REPLAN (R371). Every replan period, Perennial fits ageing and sets the core rail request. -/
  | perennialReplan (h : Half)
  /-- PER_MEASURE_NOW (R368). A write of 1 to per.cmd measures at once. -/
  | perMeasureNow (sid rid : Nat)
  /-- PER_REPLAN_NOW (R371). A write of 2 to per.cmd re-plans at once. -/
  | perReplanNow (sid rid : Nat)
  /-- PER_RETUNE_SEAM (R373). A write of 3 to per.cmd retrains the seam modules one at a time. -/
  | perRetuneSeam (sid rid : Nat)
  /-- RAIL_FOLLOW_TIMEOUT (R372). A core rail stays more than 10 mV from its request for 1 s, so the fault is flagged
  and the request repeated. -/
  | railFollowTimeout (h : Half) (measured : Nat)
  /-- PMU_SNAP (R378). A write of pmu.snap schedules a snapshot of the scope's counters. -/
  | pmuSnap (sid rid : Nat)
  /-- PMU_SNAP_LATCH (R378). At the snapshot instant every counter of the scope is latched, and the write is answered. -/
  | pmuSnapLatch (sid : Nat)
  /-- PMU_CTR_CLEAR (R377). A write of 1 to pmu.ctr.cmd clears the counter and its flags. -/
  | pmuCtrClear (sid rid : Nat) (v : Nat)
  /-- SAMPLING_ENABLE (R382). A write of smp.enable restarts SEQ, empties the buffers and seeds the LFSR. -/
  | samplingEnable (sid rid : Nat) (on : Bool)
  /-- SAMPLE_SELECT (R382). The sampling countdown expires, the candidate frame is sampled and the countdown is
  reloaded. -/
  | sampleSelect (h : Half) (i : Ingress) (f : Frame) (out : Nat)
  /-- HARVEST_RECORD_WRITTEN (R385). A harvest record is written, and a stall-held frame becomes eligible. -/
  | harvestRecordWritten (h : Half)
  /-- HARVEST_ENABLE_WRITE (R386). A write of harv.enable turns capture on or off, and a write of 0 releases every
  stall-held frame. -/
  | harvestEnableWrite (sid rid : Nat) (on : Bool)
  /-- HARVEST_CLEAR (R386). A write of 1 to harv.clear empties both rings. -/
  | harvestClear (sid rid : Nat)
  /-- TEST_UNLOCK_END (R388). A write of 0 to test.unlock.req ends the unlock and returns the test objects to their
  defaults. -/
  | testUnlockEnd (sid rid : Nat)
  /-- TEST_UNLOCK_LEVEL1 (R387). A write of 1 to test.unlock.req publishes a challenge for level 1. -/
  | testUnlockLevel1 (sid rid : Nat)
  /-- TEST_UNLOCK_LEVEL2 (R387). A write of 2 to test.unlock.req publishes a challenge for level 2. -/
  | testUnlockLevel2 (sid rid : Nat)
  /-- TEST_UNLOCK_RESPONSE (R387). The close of test.unlock.response verifies the key and signature and grants the
  level. -/
  | testUnlockResponse (sid rid : Nat) (key signature : List Byte)
  /-- TEST_CHALLENGE_EXPIRY (R387). An unused challenge expires after 60 s. -/
  | testChallengeExpiry
  /-- TEST_UNLOCK_TIMEOUT (R388). test.unlock.timeout elapses, and the unlock ends. -/
  | testUnlockTimeout
  /-- JTAG_CHALLENGE (R389). The JTAG CHALLENGE instruction reads a challenge. -/
  | jtagChallenge (h : Half)
  /-- JTAG_UNLOCK (R389). The JTAG UNLOCK instruction presents a key and signature that a boot ROM verifies. -/
  | jtagUnlock (h : Half) (level : Nat) (key signature : List Byte)
  /-- JTAG_DICT (R389). The JTAG DICT instruction gives a read-only owner view of the Crocus restricted set. -/
  | jtagDict (h : Half) (index sub : Nat)
  /-- PERT_ARM (R390). A write of 1 to test.pert.arm arms a perturbation entry. -/
  | pertArm (sid rid : Nat) (e : Fin 32)
  /-- PERT_DISARM (R390). A write of 0 to test.pert.arm stops the entry at the next core cycle. -/
  | pertDisarm (sid rid : Nat) (e : Fin 32)
  /-- VAO18_LOSS (R31). VAO18 is removed, so THERMTRIP_N is released, the latched strap value is lost and the AO
  counter stops, while the PA-die non-volatile cells survive. -/
  | vao18Loss
  /-- LINK_RECOVERY_ENTRY (R234). A port's physical layer enters Recovery from L0, so pst.retrains is incremented and
  an ACTIVE BFL link goes to RETRAIN or HELD. -/
  | linkRecoveryEntry (p : Fin 128)
  /-- LINK_RECOVERY_END (R148). Recovery ends, or reaches its time-out, and a hot reset or link disable requested
  during it takes effect. -/
  | linkRecoveryEnd (p : Fin 128) (r : RecoveryEnd)
  /-- STATION_PLL_LOCK_LOSS (R303). A station PLL loses lock or its reference clock stops during operation, and every
  port of the station goes down with station-scope fatal event 0x0301 or 0x0302. -/
  | stationPllLockLoss (st : Fin 16) (clockAbsent : Bool)
  /-- IDE_KM (R111). An IDE_KM message over the management endpoint's SPDM session programs or activates the keys of
  selective IDE stream 0. -/
  | ideKm (node : Fin 64) (activate : Bool) (key : List Byte)
  deriving DecidableEq, Repr

end Sys2Proof
end

