-- ==== Sys2Proof/Config.lean ====
section
/-!
DEFINITION. Sys2Proof/Config.lean: what a part or its factory fixes and the manual does not state, and the
free values: constants without a body, so that no proof can use a particular value of them.
-/
namespace Sys2Proof.Config

/-- A fresh value for each use: applied to the state's counter `fresh` (assumption log 1). -/
opaque freeValue : Nat → Nat

/-- Free bytes, for values whose bytes the manual leaves open (assumption log 1). -/
opaque freeBytes : Nat → Nat → List Byte

/-- Fixed by the ROM mask (0x1001:01, 0x1001:02), read and not assumed (assumption log 2). -/
opaque romVersion : Half → Nat

/-- Fixed by the PA die's mask (0x1001:04; assumption log 2). -/
opaque paDieVersion : Nat

/-- The MAC address fused into OTP (0x1100:03; assumption log 2). -/
opaque macAddress : Nat

/-- The PCI vendor ID of every function of the device, whose number the manual does not state (R84, R154; assumption log 2). -/
opaque vendorId : Nat

/-- The key hashes fused into the four OTP slots (R95; assumption log 2). -/
opaque otpKeyHash : Nat → List Byte

/-- The 32-byte identity seed fused into OTP (R109; assumption log 2). -/
opaque otpSeed : List Byte

/-- The public key of ML-DSA-65 KeyGen for a seed (R109, FIPS 204; assumption log 2). -/
opaque mlDsaKeyGen : List Byte → List Byte

/-- The certificate chain of the factory region (0xB020:03; assumption log 2). -/
opaque certChain : List Byte

/-- Byte i of the output of SHAKE256: an uninterpreted function of the bytes hashed (assumption log 2). -/
opaque shakeByte : List Byte → Nat → Byte

/-- SHAKE256 with a given output length in bytes (R76, R91, R109, R218; assumption log 2). -/
def shake256 (l : List Byte) (n : Nat) : List Byte := (List.range n).map (shakeByte l)

/-- Whether an ML-DSA-65 signature verifies: key, message, context, signature (R91, R387; assumption log 2). -/
opaque mlDsaVerify : List Byte → List Byte → List Byte → List Byte → Bool

/-- The ASCII bytes "AF256-ID" (R109). -/
def identityLabel : List Byte := [0x41, 0x46, 0x32, 0x35, 0x36, 0x2D, 0x49, 0x44]

/-- The seed of the identity key pair, which the ROM of each half computes (R109). -/
def identitySeed : List Byte := shake256 (otpSeed ++ identityLabel) 32

/-- The identity public key (0xB020:01). -/
def identityKey : List Byte := mlDsaKeyGen identitySeed

/-- The ML-DSA-65 signature that the key pair of a seed gives a message (R110; assumption log 2). -/
opaque mlDsaSignWith : List Byte → List Byte → List Byte

/-- The signature by the device's identity key. -/
def mlDsaSign (m : List Byte) : List Byte := mlDsaSignWith identitySeed m

/-- Whether a copy of an image that a half has just written reads back from its flash without an error (R91, R94;
assumption log 27). -/
opaque flashReads : Nat → Bool

/-- The digest of a half's boot ROM (R110, blocks 1 and 2; assumption log 2). -/
opaque romDigest : Half → List Byte

/-- The logarithmic fit of R371, from the summaries of a half: projected loss of slack until the next re-plan, in
FX32 percent (assumption log 2: the manual states the fit over reals). -/
opaque ageingLoss : List (Nat × Nat) → Nat → Nat → Nat

/-- The projected powered hour at which 850 mV no longer meets the margin (0x9100:10), from the same fit
(assumption log 2). -/
opaque exhaustHours : List (Nat × Nat) → Nat → Nat → Nat

/-- The linear projection of eye height of R373 for a lane's summaries, in mV (assumption log 2). -/
opaque eyeProjection : List (Nat × Nat) → Nat → Nat

/-- The projected eye height of a lane at a lower rate (R373; assumption log 2). -/
opaque eyeProjectionAt : Nat → List (Nat × Nat) → Nat → Nat

/-- The header bytes of a TLP as PCI Express or CXL lays them out, which the manual does not repeat (R301, R383, R384;
assumption log 11). -/
opaque tlpHeader : Tlp → List Byte

/-- The TLP that the bytes of a BFL frame of KIND 1 spell, header and payload, as PCI Express or CXL lays it out
(R224; assumption log 11). -/
opaque tlpRead : List Byte → Tlp

/-- The type of a measurement block's value, bits [6:0] of DMTFSpecMeasurementValueType (R110 names the form alone;
assumption log 83). -/
opaque measurementType : Nat → Nat

/-- The 6 ECC bytes of the base specification's flit, over the bytes before them (R223; assumption log 2). -/
opaque flitEcc : List Byte → List Byte

/-- Steps of the sampling LFSR between two draws (R382 does not state them; assumption log 115). -/
opaque sampleSteps : Nat

/-- The number that a draw takes from a state of the sampling LFSR, before it is reduced to its range: R382 does not map 16
bits to a range of up to 2^23 (assumption log 115). -/
opaque sampleDraw : Nat → Nat

/-- Credits of each data channel of a seam module, in frames (R189: "each with its own credits"; their number is not
stated; assumption log 93). -/
opaque seamCredits : Nat → Nat

end Sys2Proof.Config
end

