-- ==== Sys2Proof/Machine/State.lean ====
section
/-!
DEFINITION. Sys2Proof/Machine/State.lean: everything the manual gives the device to hold, as plain data,
the reasons a command can stop, and the state right after reset.
Dictionary objects live in `objs`, keyed by index, subindex and array entry; an object that is not listed reads its
table default. Everything else the chapters name (sessions, engines, queues, rings, timers) has a field of its own.
Times are counts of 0.25 ns fabric time units.
-/
namespace Sys2Proof.Machine

/-- Why the machine stops: raised by a meaning where the manual calls the effect undefined. -/
inductive Fault where
  /-- A PORST_N low pulse of 1 us to 10 us, whose effect R30 calls undefined. Safe: the model stops where the part goes on. -/
  | undefinedPorstPulse
  deriving DecidableEq, Repr

/-- Why a command is refused without an answer. -/
inductive Refusal where
  /-- A command without a meaning yet, named by its mnemonic. Safe. -/
  | notModelled (mnemonic : String)
  deriving DecidableEq, Repr

/-- The place of a dictionary object: index, subindex and, in an ARRAY, the entry (R45, R48). -/
structure Key where
  idx : Nat
  sub : Nat
  ent : Nat := 0
  deriving DecidableEq, Repr

/-- A dictionary value: a number (every fixed-width type, two's complement where signed) or bytes (STR, BLOB). -/
inductive Val where
  | num (n : Nat)
  | bytes (b : List Byte)
  deriving DecidableEq, Repr

/-- Signals and supplies outside the slots (R29 to R31, R397). -/
structure Pins where
  vao18 : Bool := true
  vpa : Bool := true
  /-- level of PORST_N -/
  porstN : Bool := false
  /-- levels of PERSTIN_N[15:0]; the pull-ups read high -/
  perstN : Nat := 0xFFFF
  /-- THERMTRIP_N asserted -/
  thermtrip : Bool := false
  /-- until when the device drives WAKE_N low (R360) -/
  wakePulseEnd : Nat := 0
  deriving DecidableEq, Repr

/-- A PA-die watchdog of one half (R98). -/
structure Watchdog where
  running : Bool := false
  suspended : Bool := false
  /-- period, ms -/
  period : Nat := 10000
  /-- time of the last kick or arming -/
  lastKick : Nat := 0
  deriving DecidableEq, Repr

/-- What a half believes about the rake (R104). -/
structure RakeView where
  holds : Bool := false
  epoch : Nat := 0
  deriving DecidableEq, Repr

/-- State of the PA die that is not a dictionary object (R96, R98, R102, R104, R16, R62, R369). -/
structure PaDie where
  supervisor : Bool := true
  strapped : Bool := false
  forceFlag : Bool := false
  skipStore : Bool := false
  lastMode : Nat := 0
  /-- half of the last failed attempt: 0 West, 1 East, 2 device or PA die -/
  lastFailHalf : Nat := 2
  baselineFlag : Bool := false
  wdW : Watchdog := {}
  wdE : Watchdog := {}
  viewW : RakeView := {}
  viewE : RakeView := {}
  /-- a handover asked for while a commit runs (R66, R106) -/
  handoverPending : Bool := false
  deriving DecidableEq, Repr

/-- One-time programmable cells that the dictionary can change (R95). -/
structure Otp where
  /-- anti-rollback counter, 0 to 64 -/
  counter : Nat := 0
  /-- bit k set: key slot k is revoked -/
  revoked : Nat := 0
  deriving DecidableEq, Repr

/-- What a ROM reported about a firmware slot (R91, R92). -/
structure SlotCheck where
  half : Half
  slot : FwSlot
  result : Nat
  digest : List Byte
  version : Nat
  svn : Nat
  keySlot : Nat
  deriving DecidableEq, Repr

/-- Where the device stands in the boot sequence (R87 to R101). -/
structure Boot where
  /-- the halves are out of reset -/
  released : Bool := false
  /-- time at which PORST_N rose -/
  riseClk : Nat := 0
  /-- time of the last release, on the PA die's clock -/
  releaseClk : Nat := 0
  /-- time of the last granted claim -/
  claimClk : Nat := 0
  romPassW : Bool := false
  romPassE : Bool := false
  romFailW : Bool := false
  romFailE : Bool := false
  romStopW : Bool := false
  romStopE : Bool := false
  paLostW : Bool := false
  paLostE : Bool := false
  qdrTrained : List Nat := []
  checks : List SlotCheck := []
  /-- a slot was chosen and its image may start -/
  slotChosen : Bool := false
  firmwareW : Bool := false
  firmwareE : Bool := false
  bootCommitDone : Bool := false
  laneCalDone : Bool := false
  /-- a warm reset was requested and the PA die is about to release the halves again -/
  warmPending : Bool := false
  /-- a warm reset follows the answer of the write that asked for it (R58, R89) -/
  warmAsked : Bool := false
  /-- halves halted by R318 -/
  haltW : Bool := false
  haltE : Bool := false
  deriving DecidableEq, Repr

/-- Fabric time of the halves and the always-on counter (R191, R363, R364). -/
structure Clocks where
  west : Nat := 0
  east : Nat := 0
  aoRunning : Bool := false
  /-- AO ticks counted up to `aoSince` -/
  aoBase : Nat := 0
  aoSince : Nat := 0
  /-- AO count when the fabric counters stopped (R364) -/
  aoAtStop : Nat := 0
  stopped : Bool := true
  /-- unit by which the East counter slews at its next count (R191) -/
  eastSlew : Int := 0
  deriving DecidableEq, Repr

/-- An item of an FBP request (R73). -/
structure Item where
  idx : Nat
  sub : Nat
  type : Nat
  data : List Byte
  deriving DecidableEq, Repr

/-- A processed item of an FBP request, as the response shows it (R74). -/
structure DoneItem where
  idx : Nat
  sub : Nat
  type : Nat
  status : Nat
  data : List Byte
  deriving DecidableEq, Repr

/-- What the executing request of a session waits for (R23, R63, R199, R243, R349, R378). -/
inductive Wait where
  | none
  | commit
  | farAccess
  | cfgRequest
  | farWrite
  | snapshot
  | evacuate (link : Nat)
  deriving DecidableEq, Repr

/-- The request that a session executes (R75). -/
structure Exec where
  rid : Nat
  opcode : Nat
  staged : Bool
  todo : List Item
  done : List DoneItem
  wait : Wait
  raw : List Byte
  deriving DecidableEq, Repr

/-- A cached response (R75). -/
structure Cached where
  rid : Nat
  request : List Byte
  response : List Byte
  deriving DecidableEq, Repr

/-- An open segmented transfer (R76 to R78). -/
structure Blob where
  handle : Nat
  key : Key
  isWrite : Bool
  total : Nat
  data : List Byte
  lastMsg : Nat
  deriving DecidableEq, Repr

/-- An unacknowledged notification (R79). -/
structure Notice where
  seq : Nat
  cls : Nat
  items : List DoneItem
  deriving DecidableEq, Repr

/-- How a session reaches the device (R80 to R86, R405). -/
inductive Transport where
  | net
  | mailbox (node : Nat)
  | mctp (node eid : Nat)
  | tenant (slice : Nat)
  | firmware (h : Half)
  /-- a management request of a half, while the other half serves it (R194) -/
  | seam (h : Half)
  deriving DecidableEq, Repr

/-- A dictionary session (R47, R52, R59, R75, R79). -/
structure Session where
  sid : Nat
  transport : Transport
  role : Role
  /-- partition, host or slice of the session; 0xFFFF for owner and observer -/
  scope : Nat
  /-- the half that serves it (R86) -/
  half : Half
  windows : List (Nat × Nat) := []
  locals : List (Key × Val) := []
  staged : List (Key × Val) := []
  exec : Option Exec := none
  /-- requests received behind the executing one, oldest first -/
  queue : List (List Byte) := []
  cache : List Cached := []
  blob : Option Blob := none
  notices : List Notice := []
  nextNotice : Nat := 1
  lastMsg : Nat := 0
  /-- an SPDM session secures it (R81, R84) -/
  secured : Bool := false
  /-- messages received and sent since the last key update (R81) -/
  msgs : Nat := 0
  sent : Nat := 0
  deriving DecidableEq, Repr

/-- The mailbox of a management endpoint (R83). -/
structure Mailbox where
  reqLen : Nat := 16
  req : List Byte := []
  rsp : List Byte := []
  busy : Bool := false
  done : Bool := false
  /-- the next notification slot to fill -/
  head : Nat := 0
  /-- the next slot the host reads -/
  tail : Nat := 0
  slots : List (Nat × List Byte) := []
  deriving DecidableEq, Repr

/-- Endpoint facts of a management endpoint: its EID and the keys of IDE stream 0 (R84, R111). -/
structure Endpoint where
  eid : Nat := 0
  /-- an SPDM session over its DOE capability is open (R111) -/
  doe : Bool := false
  ideKey : List Byte := []
  ideActive : Bool := false
  deriving DecidableEq, Repr

/-- The commit that runs (R63, R66). -/
structure RunningCommit where
  sid : Nat
  half : Half
  set : List (Key × Val)
  /-- parts that have not confirmed yet -/
  waitFor : List CommitPart
  /-- apply instant, once every part has confirmed -/
  applyAt : Option Nat
  startClk : Nat
  /-- headers read at prepare, by binding entry (R201) -/
  found : List (Nat × FnInfo)
  deriving DecidableEq, Repr

/-- A commit that waits behind another (R66). -/
structure WaitingCommit where
  sid : Nat
  arrived : Nat
  deriving DecidableEq, Repr

/-- One half's copy of the configuration store (R55 to R57). -/
structure StoreCopy where
  valid : Bool := false
  generation : Nat := 0
  seq : Nat := 0
  content : List (Key × Val) := []
  deriving DecidableEq, Repr

/-- Engine state of a lane that is no object (R123 to R135, R373). -/
structure Lane where
  /-- run in progress: 0 none, 1 background pass, 2 full calibration, 3 BIST -/
  run : Nat := 0
  forced : Bool := false
  passDue : Bool := false
  /-- free sampler: 0 free, 2 margining, 3 calibration; a role exchange and an eye scan are one event each (R125) -/
  samplerUser : Nat := 0
  /-- steps of internal preset offset towards more de-emphasis (R373) -/
  presetMoves : Nat := 0
  /-- rates at which the lane has been equalised since its link came up (R120) -/
  eqDone : List Nat := []
  /-- when the checker locked and from when periodic injection counts, for the counts that run with time, and the eighths of a
  bit sent since the last inversion up to then (R135) -/
  lockAt : Nat := 0
  injAt : Nat := 0
  injRem : Nat := 0
  /-- (hour, eye height) pairs of the summaries -/
  eyes : List (Nat × Nat) := []
  deriving DecidableEq, Repr

/-- Engine state of a port that is no object (R140, R145 to R148, R161, R291, R316). -/
structure Port where
  /-- held in Disabled by `port.cmd` 3 -/
  cmdDisabled : Bool := false
  /-- held in Detect.Quiet by its partition's or host's reset (R153) -/
  resetHeld : Bool := false
  /-- hot reset or link disable requested during Recovery (R148): 0 none, 2 hot reset, 3 disable -/
  afterRecovery : Nat := 0
  /-- an own L0p request withdrawn in favour of the partner's, and when it may be issued again (R147) -/
  l0pRetry : Option (Nat × Nat) := none
  credits : Credits := {}
  /-- IC7 limiter level in 1/32,000,000 byte and last update; full while there is none (R291) -/
  ic7 : Option (Int × Nat) := none
  /-- the station PLL lost lock under the port (event 0x0302) -/
  pllLost : Bool := false
  /-- when the link last left DL_Up -/
  downSince : Nat := 0
  /-- logical-device entries of an MLD behind the port (R161) -/
  lds : List Nat := []
  isMld : Bool := false
  /-- link facts of the last training -/
  flitMode : Bool := false
  /-- event 0x0211 recorded (R141) -/
  clockHeldLogged : Bool := false
  /-- event 0x0209 recorded for the present stall (R316) -/
  stallLogged : Bool := false
  /-- selections made at the port, for the throttle's fraction of slots (R366) -/
  slotNo : Nat := 0
  /-- slot ledger (R380, R381): capacity not yet charged, slots of sent frames and of cancelled grants still to pass -/
  slotFrac : Nat := 0
  carry : Nat := 0
  cancelled : Nat := 0
  /-- replayed slots still to pass -/
  replaying : Nat := 0
  /-- values that the link goes on using until it next enters Detect, by subindex of its record (R142) -/
  kept : List (Nat × Nat) := []
  /-- lanes of the trained link in logical order, from its first lane on (R139) -/
  lanes : List Nat := []
  /-- CXL.mem is on (R159) -/
  cxlMem : Bool := false
  /-- replay buffer (R145): when each frame was sent, and its bytes, oldest first -/
  replay : List (Nat × Nat) := []
  deriving DecidableEq, Repr

/-- Engine state of a partition or host that is no object (R153, R157, R200). -/
structure Node where
  /-- what put it in reset: 0 none, 1 PERSTIN_N, 2 received hot reset, 3 DL_Down -/
  resetBy : Nat := 0
  /-- downstream ports with a hot reset still under way -/
  hotResets : List Nat := []
  ptmOffset : Nat := 0
  /-- bus number captured by the functions of device 0 (R251) -/
  bus : Nat := 0
  deriving DecidableEq, Repr

/-- A tracking entry in use (R211). -/
structure Track where
  entry : Nat
  /-- host, or none for a request of the twin -/
  host : Option Nat
  fromTwin : Bool
  link : Nat
  requester : Nat
  tag : Nat
  tc : Nat
  /-- attributes of the request -/
  ro : Bool := false
  ido : Bool := false
  binding : Nat
  due : Nat
  issued : Nat
  type : TlpType
  cls : Nat
  grant : Nat
  /-- of a host's configuration request: its register, and the value written (R204, R206) -/
  reg : Option (FnReg × Option Nat)
  deriving DecidableEq, Repr

/-- Which account of R176 a queued frame's cells are charged to. -/
inductive Account where
  | credit (port : Nat)
  | pool
  | ic6
  | ic7
  deriving DecidableEq, Repr

/-- A frame held in a half's buffer or seam queue (R167, R173, R178, R292). -/
structure QFrame where
  id : Nat
  frame : Frame
  /-- ingress port, 0xFE for an RME, 0xFD for a management cluster -/
  inPort : Nat
  inHalf : Half
  /-- egress port, or 0xFE, 0xFD as above -/
  outPort : Nat
  outHalf : Half
  /-- class assigned at C5 -/
  cls : Nat
  /-- class it is queued as (R280) -/
  qcls : Nat
  colour : Colour
  cells : Nat
  account : Account
  /-- node by R280 -/
  node : Option Nat
  enq : Nat
  c1 : Nat
  /-- earlier frames that it must not pass and that were queued when it came (R172, R173) -/
  barrier : List Nat
  /-- held until its harvest record is written (R385) -/
  stallHeld : Bool
  crossed : Bool
  /-- the grant of R165 was cancelled -/
  cancelledGrant : Bool := false
  /-- a forced error waits in its cells (R390) -/
  ecc : CellEcc := .clean
  /-- of a frame from BFL: cells taken from its VC's dedicated pool (R227) -/
  ded : Nat := 0
  /-- link credits are owed for it until it leaves its credit reserve (R178); one copy of a broadcast message owes none -/
  credited : Bool := true
  /-- target binding of a request that a host or the twin sent (R202) -/
  bind : Option Nat := none
  /-- the tracking entry that a non-posted request still needs, which it takes in the half of its egress port (R211, R214) -/
  track : Option Track := none
  /-- moved to its link by an evacuation (R243) -/
  moved : Bool := false
  /-- completed tally scans since it was queued (R187) -/
  age : Nat := 0
  deriving DecidableEq, Repr

/-- A frame in a seam queue, or sent and not yet accepted on the far side (R188 to R190). -/
structure SeamFrame where
  station : Nat
  /-- 0 posted, 1 non-posted, 2 completion, 3 RME, 4 IC7 control -/
  channel : Nat
  q : QFrame
  /-- crossing sequence number once sent, with the module -/
  sent : Option (Nat × Nat)
  /-- account that the egress half has admitted the frame to, once sent -/
  admitted : Account := .pool
  /-- discarded while on a module: its number is still accepted in its turn (R190), and nothing is stored -/
  gone : Bool := false
  deriving DecidableEq, Repr

/-- Shared buffer of one half (R176 to R181, R185). -/
structure Buffer where
  frames : List QFrame := []
  /-- cells found without an owner once (R186) -/
  orphans : Nat := 0
  /-- cells lost to descriptors with uncorrectable errors, not yet seen by a scan -/
  lostCells : Nat := 0
  seamQueue : List SeamFrame := []
  scanning : Bool := false
  lastScan : Nat := 0
  /-- cells lost before the running scan started, which it judges (R185) -/
  judged : Nat := 0
  skimming : Bool := false
  /-- frames of the half's own RME and cluster that no account has admitted yet: their sources are held back (R178) -/
  held : List QFrame := []
  /-- cells by which the last commits raised the IC7 and the IC6 reserve, as far as they may still be unfilled (R180) -/
  short7 : Nat := 0
  short6 : Nat := 0
  /-- completed scans since the head of an egress queue advanced (R187) -/
  headAge : List (Nat × Nat) := []
  deriving DecidableEq, Repr

/-- States of a seam module (R191). -/
inductive ModState where
  | training
  | active
  | retry
  | retrain
  | retired
  deriving DecidableEq, Repr

/-- A seam module of one direction. -/
structure SeamModule where
  st : ModState := .training
  fails : Nat := 0
  /-- times of the successful retrains of the last second -/
  retrains : List Nat := []
  /-- when the present retrain began -/
  since : Nat := 0
  /-- credits of each data channel in use: frames sent and not yet accepted (R189) -/
  used : List (Nat × Nat) := []
  /-- the station that the module served last (R188) -/
  last : Nat := 7
  deriving DecidableEq, Repr

/-- The seam (R188 to R194). -/
structure Seam where
  we : List (Nat × SeamModule) := []
  ew : List (Nat × SeamModule) := []
  lost : Bool := false
  hbW : Nat := 0
  hbE : Nat := 0
  /-- next crossing sequence number of each ingress station -/
  txSeq : List (Nat × Nat) := []
  /-- next number accepted of each ingress station -/
  rxSeq : List (Nat × Nat) := []
  /-- the module that a re-tune by `per.cmd` 3 retrains next: 0 to 7 West to East, 8 to 15 East to West (R373) -/
  retune : Option Nat := none
  deriving DecidableEq, Repr

/-- Buckets of a meter in 1/1,024 byte (R283). -/
structure Meter where
  tc : Nat
  tp : Nat
  last : Nat
  deriving DecidableEq, Repr

/-- Level of a shaper in 1/32,000,000 byte (R287). -/
structure Shaper where
  level : Int
  last : Nat
  deriving DecidableEq, Repr

/-- Tags of a child of a fair-queueing arbiter (R293). -/
structure Tags where
  s : Nat := 0
  f : Nat := 0
  deriving DecidableEq, Repr

/-- The host's view of a bound function (R204 to R206). -/
structure HostView where
  bars : List (Nat × Nat) := []
  mse : Bool := false
  intLine : Nat := 0
  deriving DecidableEq, Repr

/-- A global address map entry (R206, R207). -/
structure GamEntry where
  slot : Nat
  /-- 1 BAR, 2 peer -/
  kind : Nat
  host : Nat
  base : Nat
  limit : Nat
  binding : Nat
  bar : Nat
  fabricBase : Nat
  source : Nat
  grant : Nat
  rights : Nat
  valid : Bool
  deriving DecidableEq, Repr

/-- The pair's timers and pending work (R215 to R219). -/
structure Pair where
  /-- when the first BFL link entered ACTIVE while joining -/
  joinSince : Option Nat := none
  refusedAt : Nat := 0
  resyncSince : Nat := 0
  /-- since when generations differ -/
  genDiffSince : Option Nat := none
  /-- since when digests differ at equal generation -/
  digestDiffSince : Option Nat := none
  lastSync : Nat := 0
  linksLostAt : Option Nat := none
  pendingRevoke : List Nat := []
  /-- units of fabric time that this device has still to slew (R217) -/
  slew : Int := 0
  /-- an own pair prepare is outstanding (R216) -/
  ownPrepare : Bool := false
  /-- objects of a confirmed twin prepare, applied at the shared instant -/
  twinPrepared : Option (Nat × List (Nat × Nat × Nat × Nat)) := none
  deriving DecidableEq, Repr

/-- A sent and unacknowledged data flit (R230). -/
structure SentFlit where
  seq : Nat
  vc : Nat
  /-- FIRST and CONT of its header, and its payload (R223, R224) -/
  first : Nat := 63
  cont : Bool := false
  payload : List Byte := []
  /-- the frames that end in this flit -/
  frames : List QFrame
  replays : Nat
  deriving DecidableEq, Repr

/-- Engine state of a BFL link (R227 to R244). -/
structure BflLink where
  txSeq : Nat := 0
  rxSeq : Nat := 0
  replay : List SentFlit := []
  timerOn : Bool := false
  /-- the expected number for which a NAK of a sequence gap has been sent -/
  nakFor : Option Nat := none
  lastCrcNak : Option Nat := none
  sinceAck : Nat := 0
  /-- INC that the partner last sent during an initialisation, and own INC last sent in a completed one (R237, R238) -/
  partnerInc : Option Nat := none
  ownInc : Option Nat := none
  /-- INC and NEXT_EXPECTED of the partner in the present initialisation -/
  peer : Option (Nat × Nat) := none
  /-- width and rate agreed for the next training (R240) -/
  cap : Option (Nat × Nat) := none
  retrainSpent : Bool := false
  activeSince : Nat := 0
  retrainSince : Nat := 0
  /-- reset request outstanding: reason, width, rate -/
  resetReq : Option (Nat × Nat × Nat) := none
  selfAcked : Bool := false
  partnerAcked : Bool := false
  initSince : Nat := 0
  /-- evacuation under way: target link, session and the first frame number queued after its start -/
  evac : Option (Nat × Nat × Nat) := none
  consumed : List (Nat × Nat) := []
  returned : List (Nat × Nat) := []
  /-- cells returned to the partner, per pool, and the pools whose total has changed since a flit last stated it (R228) -/
  given : List (Nat × Nat) := []
  changed : List Nat := []
  /-- a frame received in part: KIND, LENGTH, DED and the bytes so far (R224) -/
  part : Option (Nat × Nat × Nat × List Byte) := none
  /-- when the replay timer last started (R233) -/
  timerAt : Nat := 0
  hbSeq : Nat := 0
  lastHb : Nat := 0
  tseq : Nat := 0
  /-- last TIME of the partner: TSEQ and receipt time -/
  lastTime : Option (Nat × Nat) := none
  /-- own TX_TIME by TSEQ -/
  txTimes : List (Nat × Nat) := []
  /-- an attempt has failed, and the physical layer trains again after 100 ms -/
  needFullTrain : Bool := false
  deriving DecidableEq, Repr

/-- QP states (R255). -/
inductive QpState where
  | reset
  | init
  | ready
  | error
  | flushed
  deriving DecidableEq, Repr

/-- A request packet sent and not acknowledged (R256, R260). -/
structure SentPacket where
  pkt : RmePacket
  /-- ring index of its WQE -/
  wqe : Nat
  /-- last packet of its message -/
  isLast : Bool
  /-- bytes of the latest READ attempt placed so far, by offset -/
  placed : List (Nat × Nat)
  deriving DecidableEq, Repr

/-- A fetched WQE not yet completed. -/
structure LiveWqe where
  index : Nat
  wqe : Wqe
  started : Bool := false
  /-- the local buffer as read when it started -/
  data : List Byte := []
  msn : Nat := 0
  /-- packets sent for the first time -/
  sent : Nat := 0
  deriving DecidableEq, Repr

/-- A queue pair (R255 to R276). -/
structure Qp where
  slice : Nat
  incarnation : Nat
  st : QpState := .reset
  mtu : Nat := 0
  sqLog : Nat := 6
  rqLog : Nat := 0
  sqBase : Nat := 0
  rqBase : Nat := 0
  sendCq : Nat := 0
  recvCq : Nat := 0
  remote : Nat := 0
  remoteSet : Bool := false
  sendPsn : Nat := 0
  sendSet : Bool := false
  recvPsn : Nat := 0
  recvSet : Bool := false
  rights : Nat := 0
  sqProd : Nat := 0
  /-- entries whose host read has been issued -/
  sqAsked : Nat := 0
  sqFetched : Nat := 0
  rqProd : Nat := 0
  rqAsked : Nat := 0
  rqFetched : Nat := 0
  sq : List LiveWqe := []
  rq : List LiveWqe := []
  /-- next PSN to send -/
  psn : Nat := 0
  msn : Nat := 0
  /-- last PSN covered by the cumulative acknowledgement -/
  acked : Nat := 0
  unacked : List SentPacket := []
  /-- selective NAKs waiting for a later acknowledgement: NAK_PSN and the completed point carried -/
  snaks : List (Nat × Nat) := []
  expiries : Nat := 0
  rnr : Nat := 0
  rnrPsn : Nat := 0
  rnrWait : Option Nat := none
  /-- packets sent since the last 16th packet -/
  sinceAckReq : Nat := 0
  timerOn : Bool := false
  timerAt : Nat := 0
  /-- Mb/s -/
  rate : Nat := 0
  lastDecrease : Option Nat := none
  lastEcho : Nat := 0
  weights : List (Nat × Nat) := []
  wcredit : List (Nat × Int) := []
  shaper : Option Nat := none
  /-- paced by gaps because the pool is empty, with the end of the present gap (R275) -/
  gapEnd : Option Nat := none
  /-- responder: completed point -/
  completed : Nat := 0
  /-- PSNs of the window whose bit is set -/
  window : List Nat := []
  staged : List (RmePacket × Nat) := []
  atomics : List (Nat × Nat) := []
  rxMsn : Nat := 0
  /-- a message is under way: its first packet has executed, its last has not -/
  midMsg : Bool := false
  /-- bytes of that message so far -/
  rxBytes : Nat := 0
  /-- packet at the expected PSN whose execution waits for the host -/
  busy : Option RmePacket := none
  /-- receive WQE taken by the message in progress -/
  recv : Option LiveWqe := none
  afterSnak : Bool := false
  marks : List (Nat × Nat) := []
  lastNak4 : Option Nat := none
  /-- responses that wait for a link to the twin (R220) -/
  replies : List RmePacket := []
  /-- context lost to an uncorrectable QDR word (R314) -/
  lost : Bool := false
  deriving DecidableEq, Repr

/-- A completion queue (R252, R253). -/
structure Cq where
  slice : Nat
  base : Nat
  size : Nat
  vector : Nat
  prod : Nat := 0
  cons : Nat := 0
  armed : Bool := false
  overflow : Bool := false
  deriving DecidableEq, Repr

/-- A key table entry (R257). -/
structure KeyEntry where
  valid : Bool := false
  allocated : Bool := false
  slice : Nat := 0
  generation : Nat := 0
  rights : Nat := 0
  qpBound : Bool := false
  boundQp : Nat := 0
  base : Nat := 0
  lenM1 : Nat := 0
  deriving DecidableEq, Repr

/-- Work of an RME towards its host (R251). -/
inductive HostOp where
  | tlp (t : Tlp)
  /-- an MSI-X vector of the RME endpoint -/
  | vector (v : Nat)
  deriving DecidableEq, Repr

/-- Engine state of an RME slice (R248, R254). -/
structure Slice where
  cmdProd : Nat := 0
  cmdFetched : Nat := 0
  cmdDone : Nat := 0
  /-- command entry fetched and not yet executed -/
  cmd : Option Wqe := none
  /-- host memory work that waits for Bus Master Enable, oldest first (R251) -/
  waiting : List HostOp := []
  /-- a DICT whose request has not been answered yet -/
  dictOpen : Bool := false
  stopped : Bool := false
  quiesceSince : Nat := 0
  deriving DecidableEq, Repr

/-- Remote memory engines of both halves. -/
structure Rme where
  /-- by 65,536 × half + index -/
  qps : List (Nat × Qp) := []
  /-- last incarnation and time of the last DESTROY_QP of an index -/
  qpHist : List (Nat × (Nat × Option Nat)) := []
  cqs : List (Nat × Cq) := []
  /-- by 1,048,576 × half + entry -/
  keys : List (Nat × KeyEntry) := []
  slices : List (Nat × Slice) := []
  /-- pool shapers in use, per half: shaper number and QP -/
  shapersW : List (Nat × Nat) := []
  shapersE : List (Nat × Nat) := []
  deriving DecidableEq, Repr

/-- An error log record (R301). -/
structure LogRec where
  time : Nat
  half : Half
  seq : Nat
  scope : Nat
  scopeId : Nat
  severity : Nat
  event : Nat
  count : Nat
  persisted : Bool
  detail : List Byte
  deriving DecidableEq, Repr

/-- The error logs (R301 to R303). -/
structure Log where
  west : List LogRec := []
  east : List LogRec := []
  countW : Nat := 0
  countE : Nat := 0
  ackW : Nat := 0
  ackE : Nat := 0
  persistent : List LogRec := []
  deriving DecidableEq, Repr

/-- A slot power channel (R323 to R334). -/
structure Slot where
  goodA : Bool := false
  goodB : Bool := false
  gateA : Bool := false
  gateB : Bool := false
  gateH : Bool := false
  /-- the channel has conducted since energy and peak were last cleared -/
  metered : Bool := false
  aux : Bool := false
  perstRel : Bool := false
  brake : Bool := false
  pg : Bool := false
  present : Bool := false
  reverse : Bool := false
  /-- a reverse turn-off holds the gate of a feed off until the feed exceeds the common node again (R325) -/
  reverseA : Bool := false
  reverseB : Bool := false
  insertSince : Nat := 0
  /-- end of the running cooldown -/
  cooldownEnd : Option Nat := none
  absentSince : Nat := 0
  rampSince : Nat := 0
  onSince : Nat := 0
  /-- order in which it became ready to start -/
  readyAt : Nat := 0
  deriving DecidableEq, Repr

/-- A far write or direct access that is queued or on the bus (R349, R350). -/
structure FarReq where
  sid : Nat
  isWrite : Bool
  addr : Nat
  reg : Nat
  reg16 : Bool
  len : Nat
  data : List Byte
  /-- value word, and the field that it takes: offset, width, content; for a write through a mapping entry -/
  word : Option (Nat × Nat × Nat × Nat)
  /-- read-modify-write still to read (R343): field offset, width, new field, most significant byte first -/
  rmw : Option (Nat × Nat × Nat × Bool)
  since : Nat
  deriving DecidableEq, Repr

/-- A transaction on a slot bus (R346). -/
inductive SbTxn where
  | far (f : FarReq)
  | alert
  /-- block read: first register, bytes, entries that are due, entries only spanned -/
  | read (addr reg len : Nat) (due spanned : List Nat)
  deriving DecidableEq, Repr

/-- Sideband slot (R337 to R349). -/
structure Sb where
  busUp : Bool := false
  queue : List FarReq := []
  txn : Option SbTxn := none
  /-- due read entries, oldest first -/
  due : List Nat := []
  alertDue : Bool := false
  /-- entries that a commit changed while the bus reads them: address, register and length as the read started (R348) -/
  changed : List (Nat × Nat × Nat × Nat) := []
  /-- a commit's values for a flagged entry that is being read (R348) -/
  deferred : List (Key × Val) := []
  deriving DecidableEq, Repr

/-- A stray-read record (R351). -/
structure Stray where
  time : Nat
  slot : Nat
  addr : Nat
  reg : Nat
  len : Nat
  cause : Nat
  entry : Nat
  count : Nat
  data : List Byte
  deriving DecidableEq, Repr

/-- Device power sequencing (R353 to R360). -/
structure Pwr where
  /-- target of an entry: 2 Sleep, 3 Deep sleep, 4 Off -/
  target : Nat := 0
  off : Bool := false
  wakeAt : Nat := 0
  exitFrom : Nat := 0
  byWakeN : Bool := false
  /-- times of the last thermal warning of each half (R365) -/
  warnW : Option Nat := none
  warnE : Option Nat := none
  /-- levels of LED0 and LED1 of the slots as latched with group SBR (R40, R359) -/
  leds : List (Nat × (Nat × Nat)) := []
  /-- throttle fractions in eighths (R366) -/
  throttleW : Nat := 0
  throttleE : Nat := 0
  deriving DecidableEq, Repr

/-- A Perennial summary of one half (R368, R370). -/
structure Summary where
  half : Half
  hours : Nat
  ageing : Nat
  slack : Nat
  rail : Nat
  eye : Nat
  /-- chain digest of the predecessor -/
  chain : List Byte
  deriving DecidableEq, Repr

/-- Perennial (R368 to R373). -/
structure Per where
  /-- a baseline record in flash: contents and signature -/
  baseline : Option (List Byte) := none
  baselineTaken : Bool := false
  /-- 1 a first baseline, 2 one taken again (R369) -/
  origin : Nat := 0
  ring : List Summary := []
  deriving DecidableEq, Repr

/-- What is known of a sampled frame before its record is written (R383). -/
structure OpenSample where
  /-- half that sampled it -/
  half : Half
  c1 : Nat
  inPort : Nat
  kind : Nat
  /-- first 28 bytes -/
  head : List Byte
  length : Nat := 0
  node : Option Nat := none
  /-- units from C1 to enqueue, cells of the queue and free pool cells then -/
  enq : Option (Nat × Nat × Nat) := none
  captured : Bool := false
  stalled : Bool := false
  deriving DecidableEq, Repr

/-- Sampling and harvest (R382 to R386). -/
structure Telemetry where
  lfsrW : Nat := 0
  lfsrE : Nat := 0
  countW : Nat := 0
  countE : Nat := 0
  seqW : Nat := 0
  seqE : Nat := 0
  recsW : List (List Byte) := []
  recsE : List (List Byte) := []
  /-- samples whose frame has not reached C9 yet: frame number and record -/
  openSamples : List (Nat × OpenSample) := []
  ringW : List (List Byte) := []
  ringE : List (List Byte) := []
  /-- ring writer queue: stall-held frame number if any, and the record -/
  writerW : List (Option Nat × List Byte) := []
  writerE : List (Option Nat × List Byte) := []
  harvSeqW : Nat := 0
  harvSeqE : Nat := 0
  droppedW : Nat := 0
  droppedE : Nat := 0
  /-- snapshot wait: scope number and instant (R378) -/
  snapAt : List (Nat × Nat) := []
  deriving DecidableEq, Repr

/-- An armed perturbation (R390). -/
structure Pert where
  kind : Nat
  target : Nat
  mask : Nat
  p1 : Nat
  p2 : Nat
  left : Nat
  deriving DecidableEq, Repr

/-- Test unlock and perturbation (R387 to R390). -/
structure Test where
  /-- challenge, level and expiry -/
  challenge : Option (List Byte × Nat × Nat) := none
  grantedAt : Nat := 0
  jtagChallengeW : Option (List Byte) := none
  jtagChallengeE : Option (List Byte) := none
  jtagLevelW : Nat := 0
  jtagLevelE : Nat := 0
  armed : List (Nat × Pert) := []
  deriving DecidableEq, Repr

/-- What a PCI Express port advertises to its host and its partner (R143, R157). -/
structure LinkCaps where
  maxPayload : Nat := 4096
  l0s : Bool := false
  l0p : Bool
  aspmL1 : Bool
  l1Substates : Nat
  l1Exit : Nat
  retimers : Nat := 2
  crosslink : Bool := false
  upconfigure : Bool := true
  immediateReadiness : Bool := true
  scaledFlowControl : Bool := true
  localDlf : Bool := true
  ptmGranularityNs : Nat := 1
  deriving DecidableEq, Repr

/-- What leaves the device. -/
inductive Output where
  /-- an FBP message to a session -/
  | fbp (sid : Nat) (bytes : List Byte)
  /-- an FBP message outside any session (R80) -/
  | clear (bytes : List Byte)
  | icmp (kind : Nat) (data : List Byte)
  /-- an MCTP message of a node's management endpoint to an EID, from its type byte on (R84) -/
  | mctp (node eid : Nat) (bytes : List Byte)
  /-- the PA die refuses a half's write or claim, and names the holder and the epoch in force (R104) -/
  | paRefused (h : Half) (holder epoch : Nat)
  /-- an SPDM answer: 0 error, 1 session opened, 2 key update, 3 measurements, 4 busy -/
  | spdm (kind : Nat) (data : List Byte)
  | msix (node vector : Nat)
  /-- a frame at a port's pins, with its class -/
  | frame (port : Nat) (f : Frame) (cls : Nat)
  /-- a frame handed to an RME, a management endpoint or a management cluster -/
  | toRme (h : Half) (f : Frame)
  | toMgmt (node : Nat) (f : Frame)
  | cxlResponse (node : Nat) (poisoned : Bool)
  /-- what an RME sends to a slice's host (R251) -/
  | rmeHost (h : Half) (slice : Nat) (o : HostOp)
  /-- an RME packet on its way to the core -/
  | packet (h : Half) (p : RmePacket)
  | skimNotice (h : Half) (p : RmePacket)
  | hotReset (port : Nat)
  /-- the VC0 credits that a port advertises at training: dedicated, and in flit mode the shared pool (R144) -/
  | credits (port : Nat) (dedicated shared : Credits)
  /-- the options that a port advertises as its link trains (R143, R157) -/
  | options (port : Nat) (c : LinkCaps)
  /-- flow-control credits that the core returns to a port's link partner (R178) -/
  | creditReturn (port : Nat) (c : Credits)
  | flr (binding : Nat)
  | clearBme (binding : Nat)
  | aer (node : Nat) (port : Nat) (fatal : Nat)
  | seamFlit (d : SeamDir) (m : Nat) (f : SeamFrame)
  | seamReplay (d : SeamDir) (m : Nat)
  /-- a heartbeat, on the module that carries the control channels (R191) -/
  | seamHeartbeat (h : Half) (m : Nat)
  | mgmtResponse (h : Half) (status value : Nat)
  /-- a BFL flit of 256 bytes (R223) -/
  | bflFlit (link : Nat) (flit : List Byte)
  | pairLeave
  /-- the pair objects that the authoritative device sends, and the revocations that a device applies on its twin first
  (R216, R218) -/
  | pairObjects (gen : Nat) (objs : List (Nat × Nat × Nat × Nat))
  | pairRevoke (grants : List Nat)
  | pairPrepare (gen : Nat) (objs : List (Nat × Nat × Nat × Nat))
  | pairPrepared (status : Nat)
  | sbStart (slot : Nat) (t : SbTxn)
  | sbRecovery (slot : Nat)
  /-- initialisation of a slot bus in mode 3: RSTDAA, SETAASA, and DISEC with every interrupt disabled (R337) -/
  | sbI3cInit (slot : Nat)
  | ptm (port time : Nat)
  | linkTrain (port rate : Nat)
  /-- a margin step: its offset in µUI or µV, and the errors that the free sampler counts (R122) -/
  | marginStep (lane : Nat) (c : MarginCmd) (offset errors : Nat)
  /-- equalisation of a lane at a rate starts: the preset it transmits, Perennial's moves from it, and whether the port
  advertises it to the link partner (R120, R121, R373) -/
  | equalise (lane rate preset moves : Nat) (advertise : Bool)
  | rail (h : Half) (mv : Nat)
  | event (slot : Nat)
  | jtag (h : Half) (data : List Byte)
  deriving DecidableEq, Repr

/-- Everything the device holds but its command queue, its OTP cells and its commit lock. -/
structure Dev where
  /-- elapsed time in units of 0.25 ns; the model's own, read by the PA die's timers -/
  clk : Nat := 0
  /-- free-value counter; the model's own (assumption log 1) -/
  fresh : Nat := 0
  /-- dictionary objects whose value in force differs from never written -/
  objs : List (Key × Val) := []
  /-- pending values of reset objects (R60) -/
  resetObjs : List (Key × Val) := []
  pins : Pins := {}
  pa : PaDie := {}
  boot : Boot := {}
  clocks : Clocks := {}
  sessions : List Session := []
  nextSid : Nat := 1
  mailboxes : List (Nat × Mailbox) := []
  endpoints : List (Nat × Endpoint) := []
  commit : Option RunningCommit := none
  commitQueue : List WaitingCommit := []
  /-- a store write of a commit is under way, with its generation (R56) -/
  storeWrite : Option Nat := none
  storeW : StoreCopy := {}
  storeE : StoreCopy := {}
  /-- images in the firmware slots of the flashes, as far as this device has written them: half, slot and contents (R92, R94) -/
  flash : List ((Half × FwSlot) × List Byte) := []
  lanes : List (Nat × Lane) := []
  ports : List (Nat × Port) := []
  nodes : List (Nat × Node) := []
  /-- registers of switch port functions that hosts have written -/
  cfg : List ((CfgFunc × CfgReg) × Nat) := []
  /-- bytes of the MSI-X tables of switch port functions that hosts have written, by offset in BAR0 (R409) -/
  msix : List ((CfgFunc × Nat) × Nat) := []
  bufW : Buffer := {}
  bufE : Buffer := {}
  nextFrame : Nat := 1
  seam : Seam := {}
  meters : List (Nat × Meter) := []
  shapers : List (Nat × Shaper) := []
  nodeTags : List (Nat × Tags) := []
  classTags : List (Nat × Tags) := []
  /-- virtual times of the class arbiters, by 64 × port + node -/
  classTime : List (Nat × Nat) := []
  /-- real BARs, FLR flags and FnInfo of bindings -/
  fns : List (Nat × FnInfo) := []
  views : List (Nat × HostView) := []
  /-- real BARs behind a port, as its functions answer the reads of the next `fport.ready` write (R198) -/
  barsFound : List (Nat × List RealBar) := []
  gam : List GamEntry := []
  /-- map entries whose copy in a half has been lost while the seam is LOST (R315): half code and entry number -/
  gamDead : List (Nat × Nat) := []
  trackW : List Track := []
  trackE : List Track := []
  /-- tracking entries retired by an uncorrectable QDR word -/
  trackRetired : List (Nat × Nat) := []
  pair : Pair := {}
  bfl : List (Nat × BflLink) := []
  /-- home link of each active cross-node grant -/
  homes : List (Nat × Nat) := []
  rme : Rme := {}
  log : Log := {}
  slots : List (Nat × Slot) := []
  sb : List (Nat × Sb) := []
  stray : List Stray := []
  /-- value words that a session has read since their last update (R345) -/
  wordsRead : List Nat := []
  pwr : Pwr := {}
  per : Per := {}
  tele : Telemetry := {}
  test : Test := {}
  /-- what has left the device, newest first -/
  out : List Output := []
  deriving DecidableEq, Repr

/-- The state of the block. The queue, the one-time programmable cells and the commit lock stand apart from the rest,
so that what may change them is in view. -/
structure State where
  /-- commands that wait, first in, first out -/
  pending : List Instr := []
  otp : Otp := {}
  /-- 0x1F00:07 `cfg.commit_lock`, held in the PA die's non-volatile cells (R62) -/
  commitLock : Bool := false
  dev : Dev := {}
  deriving DecidableEq, Repr

/-- The device with its supplies applied and PORST_N held low (R30, R44): every die in reset, every object at its
default, the rake unclaimed with epoch 0, no session, no frame, an empty command queue. -/
def State.reset : State := {}

end Sys2Proof.Machine
end

