-- ==== Sys2Proof/Machine/Flags.lean ====
section
/-!
DEFINITION. Sys2Proof/Machine/Flags.lean: bit fields, byte orders and two's complement, and the status words that the
manual lays out bit by bit.
-/
namespace Sys2Proof.Machine

/-- A field [off + w - 1 : off] of a register (R4). -/
def field (n off w : Nat) : Nat := (n >>> off) % 2 ^ w

/-- Bit k of a register. -/
def bitOf (n k : Nat) : Bool := n.testBit k

/-- 1 for true. -/
def b2n (b : Bool) : Nat := if b then 1 else 0

/-- A field replaced by a value. -/
def setField (n off w v : Nat) : Nat := n - field n off w * 2 ^ off + v % 2 ^ w * 2 ^ off

/-- Bit k set or cleared. -/
def setBit (n k : Nat) (b : Bool) : Nat := setField n k 1 (b2n b)

/-- Bits of a list of Booleans, the first in bit 0. -/
def packBits : List Bool → Nat
  | [] => 0
  | b :: t => b2n b + 2 * packBits t

/-- Bits set among the lowest w, in order. -/
def bitsSet (w n : Nat) : List Nat := (List.range w).filter (fun k => bitOf n k)

/-- Most significant byte first (R5). -/
def beBytes : Nat → Nat → List Byte
  | 0, _ => []
  | len + 1, n => BitVec.ofNat 8 (n >>> (8 * len)) :: beBytes len n

/-- The number that bytes spell, most significant first (R5). -/
def beNat (l : List Byte) : Nat := l.foldl (fun a b => a * 256 + b.toNat) 0

/-- Least significant byte first: structures in host memory (R5). -/
def leBytes : Nat → Nat → List Byte
  | 0, _ => []
  | len + 1, n => BitVec.ofNat 8 n :: leBytes len (n >>> 8)

/-- The number that bytes spell, least significant first. -/
def leNat : List Byte → Nat
  | [] => 0
  | b :: t => b.toNat + 256 * leNat t

/-- The integer that a two's complement word of w bits stands for. -/
def toSigned (w n : Nat) : Int := if 2 * (n % 2 ^ w) < 2 ^ w then (n % 2 ^ w : Nat) else (n % 2 ^ w : Nat) - (2 ^ w : Nat)

/-- The two's complement word of w bits of an integer. -/
def ofSigned (w : Nat) (i : Int) : Nat := (i % (2 ^ w : Nat)).toNat

/-- Bytes padded with zeros, or cut, to a length. -/
def padTo (n : Nat) (l : List Byte) : List Byte := (l ++ List.replicate (n - l.length) 0).take n

/-- The largest of a list of numbers, 0 for none. -/
def maxOf (l : List Nat) : Nat := l.foldl max 0


end Sys2Proof.Machine
end

