-- ==== Sys2Proof/Machine/Names.lean ====
section
/-!
DEFINITION. Sys2Proof/Machine/Names.lean: the dotted names of the dictionary objects as keys, so that a meaning
names an object as the manual does: `Obj.bootAttempts` is 0x1020:01, `Obj.slotState k` is 0x7400 + k subindex 01.
-/
namespace Sys2Proof.Machine

/-- 0x1000:01 `id.part_number`. -/
abbrev Obj.idPartNumber : Key := ⟨0x1000, 1, 0⟩
/-- 0x1000:02 `id.silicon_step`. -/
abbrev Obj.idSiliconStep : Key := ⟨0x1000, 2, 0⟩
/-- 0x1000:03 `id.vendor`. -/
abbrev Obj.idVendor : Key := ⟨0x1000, 3, 0⟩
/-- 0x1001:01 `ver.rom_west`. -/
abbrev Obj.verRomWest : Key := ⟨0x1001, 1, 0⟩
/-- 0x1001:02 `ver.rom_east`. -/
abbrev Obj.verRomEast : Key := ⟨0x1001, 2, 0⟩
/-- 0x1001:03 `ver.firmware`. -/
abbrev Obj.verFirmware : Key := ⟨0x1001, 3, 0⟩
/-- 0x1001:04 `ver.pa_die`. -/
abbrev Obj.verPaDie : Key := ⟨0x1001, 4, 0⟩
/-- 0x1001:05 `ver.header_digest`. -/
abbrev Obj.verHeaderDigest : Key := ⟨0x1001, 5, 0⟩
/-- 0x1010:01 `boot.strap.value`. -/
abbrev Obj.bootStrapValue : Key := ⟨0x1010, 1, 0⟩
/-- 0x1020:01 `boot.attempts`. -/
abbrev Obj.bootAttempts : Key := ⟨0x1020, 1, 0⟩
/-- 0x1020:02 `boot.attempt_threshold`. -/
abbrev Obj.bootAttemptThreshold : Key := ⟨0x1020, 2, 0⟩
/-- 0x1020:03 `boot.healthy`. -/
abbrev Obj.bootHealthy : Key := ⟨0x1020, 3, 0⟩
/-- 0x1020:04 `boot.healthy_state`. -/
abbrev Obj.bootHealthyState : Key := ⟨0x1020, 4, 0⟩
/-- 0x1020:05 `boot.phase`. -/
abbrev Obj.bootPhase : Key := ⟨0x1020, 5, 0⟩
/-- 0x1020:06 `boot.warm_reset`. -/
abbrev Obj.bootWarmReset : Key := ⟨0x1020, 6, 0⟩
/-- 0x1020:07 `boot.last_fail`. -/
abbrev Obj.bootLastFail : Key := ⟨0x1020, 7, 0⟩
/-- 0x1020:08 `boot.release_time`. -/
abbrev Obj.bootReleaseTime : Key := ⟨0x1020, 8, 0⟩
/-- 0x1030:01 `boot.crocus.active`. -/
abbrev Obj.bootCrocusActive : Key := ⟨0x1030, 1, 0⟩
/-- 0x1030:02 `boot.crocus.reason`. -/
abbrev Obj.bootCrocusReason : Key := ⟨0x1030, 2, 0⟩
/-- 0x1030:03 `boot.crocus.reason_half`. -/
abbrev Obj.bootCrocusReasonHalf : Key := ⟨0x1030, 3, 0⟩
/-- 0x1030:04 `boot.crocus.history`. -/
abbrev Obj.bootCrocusHistory : Key := ⟨0x1030, 4, 0⟩
/-- 0x1030:05 `boot.crocus.force`. -/
abbrev Obj.bootCrocusForce : Key := ⟨0x1030, 5, 0⟩
/-- 0x1030:06 `boot.crocus.exit`. -/
abbrev Obj.bootCrocusExit : Key := ⟨0x1030, 6, 0⟩
/-- 0x1100:01 `mgmt.t1s.plca_id`. -/
abbrev Obj.mgmtT1sPlcaId : Key := ⟨0x1100, 1, 0⟩
/-- 0x1100:02 `mgmt.t1s.plca_nodes`. -/
abbrev Obj.mgmtT1sPlcaNodes : Key := ⟨0x1100, 2, 0⟩
/-- 0x1100:03 `mgmt.t1s.mac`. -/
abbrev Obj.mgmtT1sMac : Key := ⟨0x1100, 3, 0⟩
/-- 0x1100:04 `mgmt.t1s.udp_port`. -/
abbrev Obj.mgmtT1sUdpPort : Key := ⟨0x1100, 4, 0⟩
/-- 0x1100:05 `mgmt.t1s.enable`. -/
abbrev Obj.mgmtT1sEnable : Key := ⟨0x1100, 5, 0⟩
/-- 0x1110:01 `mgmt.session.max_net`. -/
abbrev Obj.mgmtSessionMaxNet : Key := ⟨0x1110, 1, 0⟩
/-- 0x1110:02 `mgmt.session.active`. -/
abbrev Obj.mgmtSessionActive : Key := ⟨0x1110, 2, 0⟩
/-- 0x1110:03 `mgmt.session.idle_timeout`. -/
abbrev Obj.mgmtSessionIdleTimeout : Key := ⟨0x1110, 3, 0⟩
/-- 0x1110:04 `mgmt.session.role`. -/
abbrev Obj.mgmtSessionRole : Key := ⟨0x1110, 4, 0⟩
/-- 0x1110:05 `mgmt.session.scope`. -/
abbrev Obj.mgmtSessionScope : Key := ⟨0x1110, 5, 0⟩
/-- 0x1120:01 `mgmt.owner.credential`. -/
abbrev Obj.mgmtOwnerCredential : Key := ⟨0x1120, 1, 0⟩
/-- 0x1120:02 `mgmt.owner.partition`. -/
abbrev Obj.mgmtOwnerPartition : Key := ⟨0x1120, 2, 0⟩
/-- 0x1121:01 `mgmt.observer.window`. -/
abbrev Obj.mgmtObserverWindow : Key := ⟨0x1121, 1, 0⟩
/-- 0x1121:03 `mgmt.observer.credential`. -/
abbrev Obj.mgmtObserverCredential (e : Nat) : Key := ⟨0x1121, 3, e⟩
/-- 0x1130:01 `mgmt.notify.mask`. -/
abbrev Obj.mgmtNotifyMask : Key := ⟨0x1130, 1, 0⟩
/-- 0x1130:02 `mgmt.notify.dropped`. -/
abbrev Obj.mgmtNotifyDropped : Key := ⟨0x1130, 2, 0⟩
/-- 0x1F00:01 `cfg.commit`. -/
abbrev Obj.cfgCommit : Key := ⟨0x1F00, 1, 0⟩
/-- 0x1F00:02 `cfg.stage_count`. -/
abbrev Obj.cfgStageCount : Key := ⟨0x1F00, 2, 0⟩
/-- 0x1F00:03 `cfg.commit_result`. -/
abbrev Obj.cfgCommitResult : Key := ⟨0x1F00, 3, 0⟩
/-- 0x1F00:04 `cfg.commit_detail`. -/
abbrev Obj.cfgCommitDetail : Key := ⟨0x1F00, 4, 0⟩
/-- 0x1F00:05 `cfg.commit_detail_entry`. -/
abbrev Obj.cfgCommitDetailEntry : Key := ⟨0x1F00, 5, 0⟩
/-- 0x1F00:06 `cfg.generation`. -/
abbrev Obj.cfgGeneration : Key := ⟨0x1F00, 6, 0⟩
/-- 0x1F00:07 `cfg.commit_lock`. -/
abbrev Obj.cfgCommitLock : Key := ⟨0x1F00, 7, 0⟩
/-- 0x1F00:08 `cfg.commit_guard`. -/
abbrev Obj.cfgCommitGuard : Key := ⟨0x1F00, 8, 0⟩
/-- 0x1F00:09 `cfg.stage_limit`. -/
abbrev Obj.cfgStageLimit : Key := ⟨0x1F00, 9, 0⟩
/-- 0x1F00:0A `cfg.commit_time`. -/
abbrev Obj.cfgCommitTime : Key := ⟨0x1F00, 10, 0⟩
/-- 0x1F00:0B `cfg.store_generation`. -/
abbrev Obj.cfgStoreGeneration : Key := ⟨0x1F00, 11, 0⟩
/-- 0x2000:01 `port.enable`. -/
abbrev Obj.portEnable (n : Nat) : Key := ⟨0x2000 + n, 1, 0⟩
/-- 0x2000:02 `port.role`. -/
abbrev Obj.portRole (n : Nat) : Key := ⟨0x2000 + n, 2, 0⟩
/-- 0x2000:03 `port.partition`. -/
abbrev Obj.portPartition (n : Nat) : Key := ⟨0x2000 + n, 3, 0⟩
/-- 0x2000:04 `port.max_rate`. -/
abbrev Obj.portMaxRate (n : Nat) : Key := ⟨0x2000 + n, 4, 0⟩
/-- 0x2000:05 `port.max_width`. -/
abbrev Obj.portMaxWidth (n : Nat) : Key := ⟨0x2000 + n, 5, 0⟩
/-- 0x2000:06 `port.clocking`. -/
abbrev Obj.portClocking (n : Nat) : Key := ⟨0x2000 + n, 6, 0⟩
/-- 0x2000:07 `port.flit`. -/
abbrev Obj.portFlit (n : Nat) : Key := ⟨0x2000 + n, 7, 0⟩
/-- 0x2000:08 `port.lpm`. -/
abbrev Obj.portLpm (n : Nat) : Key := ⟨0x2000 + n, 8, 0⟩
/-- 0x2000:09 `port.eq_options`. -/
abbrev Obj.portEqOptions (n : Nat) : Key := ⟨0x2000 + n, 9, 0⟩
/-- 0x2000:0A `port.perst_source`. -/
abbrev Obj.portPerstSource (n : Nat) : Key := ⟨0x2000 + n, 10, 0⟩
/-- 0x2000:0B `port.slot_channel`. -/
abbrev Obj.portSlotChannel (n : Nat) : Key := ⟨0x2000 + n, 11, 0⟩
/-- 0x2000:0C `port.vs_devfn`. -/
abbrev Obj.portVsDevfn (n : Nat) : Key := ⟨0x2000 + n, 12, 0⟩
/-- 0x2000:0D `port.cxl`. -/
abbrev Obj.portCxl (n : Nat) : Key := ⟨0x2000 + n, 13, 0⟩
/-- 0x2000:0E `port.cmd`. -/
abbrev Obj.portCmd (n : Nat) : Key := ⟨0x2000 + n, 14, 0⟩
/-- 0x2080:01 `sta.split`. -/
abbrev Obj.staSplit (n : Nat) : Key := ⟨0x2080 + n, 1, 0⟩
/-- 0x2080:02 `sta.split_active`. -/
abbrev Obj.staSplitActive (n : Nat) : Key := ⟨0x2080 + n, 2, 0⟩
/-- 0x2080:03 `sta.refclk`. -/
abbrev Obj.staRefclk (n : Nat) : Key := ⟨0x2080 + n, 3, 0⟩
/-- 0x2080:04 `sta.ports_up`. -/
abbrev Obj.staPortsUp (n : Nat) : Key := ⟨0x2080 + n, 4, 0⟩
/-- 0x2100:01 `pst.ltssm`. -/
abbrev Obj.pstLtssm (n : Nat) : Key := ⟨0x2100 + n, 1, 0⟩
/-- 0x2100:02 `pst.width`. -/
abbrev Obj.pstWidth (n : Nat) : Key := ⟨0x2100 + n, 2, 0⟩
/-- 0x2100:03 `pst.rate`. -/
abbrev Obj.pstRate (n : Nat) : Key := ⟨0x2100 + n, 3, 0⟩
/-- 0x2100:04 `pst.flit`. -/
abbrev Obj.pstFlit (n : Nat) : Key := ⟨0x2100 + n, 4, 0⟩
/-- 0x2100:05 `pst.l0p_width`. -/
abbrev Obj.pstL0pWidth (n : Nat) : Key := ⟨0x2100 + n, 5, 0⟩
/-- 0x2100:06 `pst.protocol`. -/
abbrev Obj.pstProtocol (n : Nat) : Key := ⟨0x2100 + n, 6, 0⟩
/-- 0x2100:07 `pst.lanes_failed`. -/
abbrev Obj.pstLanesFailed (n : Nat) : Key := ⟨0x2100 + n, 7, 0⟩
/-- 0x2100:08 `pst.retrains`. -/
abbrev Obj.pstRetrains (n : Nat) : Key := ⟨0x2100 + n, 8, 0⟩
/-- 0x2100:09 `pst.replays`. -/
abbrev Obj.pstReplays (n : Nat) : Key := ⟨0x2100 + n, 9, 0⟩
/-- 0x2100:0A `pst.linkdown_count`. -/
abbrev Obj.pstLinkdownCount (n : Nat) : Key := ⟨0x2100 + n, 10, 0⟩
/-- 0x2100:0B `pst.clocking`. -/
abbrev Obj.pstClocking (n : Nat) : Key := ⟨0x2100 + n, 11, 0⟩
/-- 0x2100:0C `pst.down_cause`. -/
abbrev Obj.pstDownCause (n : Nat) : Key := ⟨0x2100 + n, 12, 0⟩
/-- 0x2200:01 `lane.rate`. -/
abbrev Obj.laneRate (n : Nat) : Key := ⟨0x2200 + n, 1, 0⟩
/-- 0x2200:02 `lane.status`. -/
abbrev Obj.laneStatus (n : Nat) : Key := ⟨0x2200 + n, 2, 0⟩
/-- 0x2200:03 `lane.los_threshold`. -/
abbrev Obj.laneLosThreshold (n : Nat) : Key := ⟨0x2200 + n, 3, 0⟩
/-- 0x2200:04 `lane.los_count`. -/
abbrev Obj.laneLosCount (n : Nat) : Key := ⟨0x2200 + n, 4, 0⟩
/-- 0x2200:05 `lane.lol_count`. -/
abbrev Obj.laneLolCount (n : Nat) : Key := ⟨0x2200 + n, 5, 0⟩
/-- 0x2200:06 `lane.eq_preset`. -/
abbrev Obj.laneEqPreset (n : Nat) : Key := ⟨0x2200 + n, 6, 0⟩
/-- 0x2200:07 `lane.tx_coeff`. -/
abbrev Obj.laneTxCoeff (n : Nat) : Key := ⟨0x2200 + n, 7, 0⟩
/-- 0x2200:08 `lane.rx_eq`. -/
abbrev Obj.laneRxEq (n : Nat) : Key := ⟨0x2200 + n, 8, 0⟩
/-- 0x2200:09 `lane.cal_cmd`. -/
abbrev Obj.laneCalCmd (n : Nat) : Key := ⟨0x2200 + n, 9, 0⟩
/-- 0x2200:0A `lane.cal_status`. -/
abbrev Obj.laneCalStatus (n : Nat) : Key := ⟨0x2200 + n, 10, 0⟩
/-- 0x2200:0B `lane.cal_result`. -/
abbrev Obj.laneCalResult (n : Nat) : Key := ⟨0x2200 + n, 11, 0⟩
/-- 0x2200:0C `lane.bgcal_period`. -/
abbrev Obj.laneBgcalPeriod (n : Nat) : Key := ⟨0x2200 + n, 12, 0⟩
/-- 0x2200:0D `lane.bgcal_last`. -/
abbrev Obj.laneBgcalLast (n : Nat) : Key := ⟨0x2200 + n, 13, 0⟩
/-- 0x2200:0E `lane.bgcal_count`. -/
abbrev Obj.laneBgcalCount (n : Nat) : Key := ⟨0x2200 + n, 14, 0⟩
/-- 0x2200:0F `lane.swap_abandoned`. -/
abbrev Obj.laneSwapAbandoned (n : Nat) : Key := ⟨0x2200 + n, 15, 0⟩
/-- 0x2200:10 `lane.eye_height`. -/
abbrev Obj.laneEyeHeight (n : Nat) : Key := ⟨0x2200 + n, 16, 0⟩
/-- 0x2200:11 `lane.eye_width`. -/
abbrev Obj.laneEyeWidth (n : Nat) : Key := ⟨0x2200 + n, 17, 0⟩
/-- 0x2200:12 `lane.eye_time`. -/
abbrev Obj.laneEyeTime (n : Nat) : Key := ⟨0x2200 + n, 18, 0⟩
/-- 0x2200:13 `lane.sleep_allow`. -/
abbrev Obj.laneSleepAllow (n : Nat) : Key := ⟨0x2200 + n, 19, 0⟩
/-- 0x2300:01 `cxl.ld_total`. -/
abbrev Obj.cxlLdTotal : Key := ⟨0x2300, 1, 0⟩
/-- 0x2300:02 `cxl.ld_bound`. -/
abbrev Obj.cxlLdBound : Key := ⟨0x2300, 2, 0⟩
/-- 0x2301:01 `cxl.ld.window`. -/
abbrev Obj.cxlLdWindow : Key := ⟨0x2301, 1, 0⟩
/-- 0x2301:03 `cxl.ld.port`. -/
abbrev Obj.cxlLdPort (e : Nat) : Key := ⟨0x2301, 3, e⟩
/-- 0x2301:04 `cxl.ld.ld_id`. -/
abbrev Obj.cxlLdLdId (e : Nat) : Key := ⟨0x2301, 4, e⟩
/-- 0x2301:05 `cxl.ld.partition`. -/
abbrev Obj.cxlLdPartition (e : Nat) : Key := ⟨0x2301, 5, e⟩
/-- 0x2301:06 `cxl.ld.vppb`. -/
abbrev Obj.cxlLdVppb (e : Nat) : Key := ⟨0x2301, 6, e⟩
/-- 0x2301:07 `cxl.ld.state`. -/
abbrev Obj.cxlLdState (e : Nat) : Key := ⟨0x2301, 7, e⟩
/-- 0x3000:01 `vs.enable`. -/
abbrev Obj.vsEnable (n : Nat) : Key := ⟨0x3000 + n, 1, 0⟩
/-- 0x3000:02 `vs.upstream`. -/
abbrev Obj.vsUpstream (n : Nat) : Key := ⟨0x3000 + n, 2, 0⟩
/-- 0x3000:03 `vs.dsp_lo`. -/
abbrev Obj.vsDspLo (n : Nat) : Key := ⟨0x3000 + n, 3, 0⟩
/-- 0x3000:04 `vs.dsp_hi`. -/
abbrev Obj.vsDspHi (n : Nat) : Key := ⟨0x3000 + n, 4, 0⟩
/-- 0x3000:05 `vs.state`. -/
abbrev Obj.vsState (n : Nat) : Key := ⟨0x3000 + n, 5, 0⟩
/-- 0x3000:06 `vs.subsystem`. -/
abbrev Obj.vsSubsystem (n : Nat) : Key := ⟨0x3000 + n, 6, 0⟩
/-- 0x3000:07 `vs.ptm_valid`. -/
abbrev Obj.vsPtmValid (n : Nat) : Key := ⟨0x3000 + n, 7, 0⟩
/-- 0x3100:01 `fabric.mode`. -/
abbrev Obj.fabricMode : Key := ⟨0x3100, 1, 0⟩
/-- 0x3100:02 `fabric.mode_active`. -/
abbrev Obj.fabricModeActive : Key := ⟨0x3100, 2, 0⟩
/-- 0x3101:01 `fabric.ctl.track_timeout`. -/
abbrev Obj.fabricCtlTrackTimeout : Key := ⟨0x3101, 1, 0⟩
/-- 0x3101:02 `fabric.ctl.track_used_w`. -/
abbrev Obj.fabricCtlTrackUsedW : Key := ⟨0x3101, 2, 0⟩
/-- 0x3101:03 `fabric.ctl.track_used_e`. -/
abbrev Obj.fabricCtlTrackUsedE : Key := ⟨0x3101, 3, 0⟩
/-- 0x3101:04 `fabric.ctl.track_timeouts`. -/
abbrev Obj.fabricCtlTrackTimeouts : Key := ⟨0x3101, 4, 0⟩
/-- 0x3101:05 `fabric.ctl.late`. -/
abbrev Obj.fabricCtlLate : Key := ⟨0x3101, 5, 0⟩
/-- 0x3101:06 `fabric.ctl.track_waits`. -/
abbrev Obj.fabricCtlTrackWaits : Key := ⟨0x3101, 6, 0⟩
/-- 0x3101:07 `fabric.ctl.blocked`. -/
abbrev Obj.fabricCtlBlocked : Key := ⟨0x3101, 7, 0⟩
/-- 0x3101:08 `fabric.ctl.gam_used`. -/
abbrev Obj.fabricCtlGamUsed : Key := ⟨0x3101, 8, 0⟩
/-- 0x3102:01 `fabric.cfgreq.rid`. -/
abbrev Obj.fabricCfgreqRid : Key := ⟨0x3102, 1, 0⟩
/-- 0x3102:02 `fabric.cfgreq.offset`. -/
abbrev Obj.fabricCfgreqOffset : Key := ⟨0x3102, 2, 0⟩
/-- 0x3102:03 `fabric.cfgreq.size`. -/
abbrev Obj.fabricCfgreqSize : Key := ⟨0x3102, 3, 0⟩
/-- 0x3102:04 `fabric.cfgreq.data`. -/
abbrev Obj.fabricCfgreqData : Key := ⟨0x3102, 4, 0⟩
/-- 0x3102:05 `fabric.cmd`. -/
abbrev Obj.fabricCmd : Key := ⟨0x3102, 5, 0⟩
/-- 0x3102:06 `fabric.cfgreq.cpl_status`. -/
abbrev Obj.fabricCfgreqCplStatus : Key := ⟨0x3102, 6, 0⟩
/-- 0x3110:01 `fhost.enable`. -/
abbrev Obj.fhostEnable (n : Nat) : Key := ⟨0x3110 + n, 1, 0⟩
/-- 0x3110:02 `fhost.upstream`. -/
abbrev Obj.fhostUpstream (n : Nat) : Key := ⟨0x3110 + n, 2, 0⟩
/-- 0x3110:03 `fhost.state`. -/
abbrev Obj.fhostState (n : Nat) : Key := ⟨0x3110 + n, 3, 0⟩
/-- 0x3110:04 `fhost.bound`. -/
abbrev Obj.fhostBound (n : Nat) : Key := ⟨0x3110 + n, 4, 0⟩
/-- 0x3110:05 `fhost.subsystem`. -/
abbrev Obj.fhostSubsystem (n : Nat) : Key := ⟨0x3110 + n, 5, 0⟩
/-- 0x3110:06 `fhost.ptm_valid`. -/
abbrev Obj.fhostPtmValid (n : Nat) : Key := ⟨0x3110 + n, 6, 0⟩
/-- 0x3110:07 `fhost.twin_state`. -/
abbrev Obj.fhostTwinState (n : Nat) : Key := ⟨0x3110 + n, 7, 0⟩
/-- 0x3180:01 `bind.window`. -/
abbrev Obj.bindWindow : Key := ⟨0x3180, 1, 0⟩
/-- 0x3180:03 `bind.rid`. -/
abbrev Obj.bindRid (e : Nat) : Key := ⟨0x3180, 3, e⟩
/-- 0x3180:04 `bind.host`. -/
abbrev Obj.bindHost (e : Nat) : Key := ⟨0x3180, 4, e⟩
/-- 0x3180:05 `bind.vdsp`. -/
abbrev Obj.bindVdsp (e : Nat) : Key := ⟨0x3180, 5, e⟩
/-- 0x3180:06 `bind.vfn`. -/
abbrev Obj.bindVfn (e : Nat) : Key := ⟨0x3180, 6, e⟩
/-- 0x3180:07 `bind.kind`. -/
abbrev Obj.bindKind (e : Nat) : Key := ⟨0x3180, 7, e⟩
/-- 0x3180:08 `bind.pf`. -/
abbrev Obj.bindPf (e : Nat) : Key := ⟨0x3180, 8, e⟩
/-- 0x3180:09 `bind.state`. -/
abbrev Obj.bindState (e : Nat) : Key := ⟨0x3180, 9, e⟩
/-- 0x3180:0A `bind.tag_bits`. -/
abbrev Obj.bindTagBits (e : Nat) : Key := ⟨0x3180, 10, e⟩
/-- 0x3180:0B `bind.vf_index`. -/
abbrev Obj.bindVfIndex (e : Nat) : Key := ⟨0x3180, 11, e⟩
/-- 0x3180:0C `bind.gam_entries`. -/
abbrev Obj.bindGamEntries (e : Nat) : Key := ⟨0x3180, 12, e⟩
/-- 0x3181:01 `fport.window`. -/
abbrev Obj.fportWindow : Key := ⟨0x3181, 1, 0⟩
/-- 0x3181:03 `fport.bus_base`. -/
abbrev Obj.fportBusBase (e : Nat) : Key := ⟨0x3181, 3, e⟩
/-- 0x3181:04 `fport.bus_count`. -/
abbrev Obj.fportBusCount (e : Nat) : Key := ⟨0x3181, 4, e⟩
/-- 0x3181:05 `fport.ready`. -/
abbrev Obj.fportReady (e : Nat) : Key := ⟨0x3181, 5, e⟩
/-- 0x3181:06 `fport.bindings`. -/
abbrev Obj.fportBindings (e : Nat) : Key := ⟨0x3181, 6, e⟩
/-- 0x3200:01 `gam.window`. -/
abbrev Obj.gamWindow : Key := ⟨0x3200, 1, 0⟩
/-- 0x3200:03 `gam.kind`. -/
abbrev Obj.gamKind (e : Nat) : Key := ⟨0x3200, 3, e⟩
/-- 0x3200:04 `gam.host`. -/
abbrev Obj.gamHost (e : Nat) : Key := ⟨0x3200, 4, e⟩
/-- 0x3200:05 `gam.base`. -/
abbrev Obj.gamBase (e : Nat) : Key := ⟨0x3200, 5, e⟩
/-- 0x3200:06 `gam.limit`. -/
abbrev Obj.gamLimit (e : Nat) : Key := ⟨0x3200, 6, e⟩
/-- 0x3200:07 `gam.binding`. -/
abbrev Obj.gamBinding (e : Nat) : Key := ⟨0x3200, 7, e⟩
/-- 0x3200:08 `gam.bar`. -/
abbrev Obj.gamBar (e : Nat) : Key := ⟨0x3200, 8, e⟩
/-- 0x3200:09 `gam.fabric_base`. -/
abbrev Obj.gamFabricBase (e : Nat) : Key := ⟨0x3200, 9, e⟩
/-- 0x3200:0A `gam.source`. -/
abbrev Obj.gamSource (e : Nat) : Key := ⟨0x3200, 10, e⟩
/-- 0x3200:0B `gam.grant`. -/
abbrev Obj.gamGrant (e : Nat) : Key := ⟨0x3200, 11, e⟩
/-- 0x3200:0C `gam.rights`. -/
abbrev Obj.gamRights (e : Nat) : Key := ⟨0x3200, 12, e⟩
/-- 0x3200:0D `gam.valid`. -/
abbrev Obj.gamValid (e : Nat) : Key := ⟨0x3200, 13, e⟩
/-- 0x3300:01 `grant.window`. -/
abbrev Obj.grantWindow : Key := ⟨0x3300, 1, 0⟩
/-- 0x3300:03 `grant.src_node`. -/
abbrev Obj.grantSrcNode (e : Nat) : Key := ⟨0x3300, 3, e⟩
/-- 0x3300:04 `grant.src_binding`. -/
abbrev Obj.grantSrcBinding (e : Nat) : Key := ⟨0x3300, 4, e⟩
/-- 0x3300:05 `grant.dst_node`. -/
abbrev Obj.grantDstNode (e : Nat) : Key := ⟨0x3300, 5, e⟩
/-- 0x3300:06 `grant.dst_binding`. -/
abbrev Obj.grantDstBinding (e : Nat) : Key := ⟨0x3300, 6, e⟩
/-- 0x3300:07 `grant.dst_bar`. -/
abbrev Obj.grantDstBar (e : Nat) : Key := ⟨0x3300, 7, e⟩
/-- 0x3300:08 `grant.dst_offset`. -/
abbrev Obj.grantDstOffset (e : Nat) : Key := ⟨0x3300, 8, e⟩
/-- 0x3300:09 `grant.length`. -/
abbrev Obj.grantLength (e : Nat) : Key := ⟨0x3300, 9, e⟩
/-- 0x3300:0A `grant.base`. -/
abbrev Obj.grantBase (e : Nat) : Key := ⟨0x3300, 10, e⟩
/-- 0x3300:0B `grant.rights`. -/
abbrev Obj.grantRights (e : Nat) : Key := ⟨0x3300, 11, e⟩
/-- 0x3300:0C `grant.state`. -/
abbrev Obj.grantState (e : Nat) : Key := ⟨0x3300, 12, e⟩
/-- 0x3380:01 `pair.enable`. -/
abbrev Obj.pairEnable : Key := ⟨0x3380, 1, 0⟩
/-- 0x3380:02 `pair.twin_key_hash`. -/
abbrev Obj.pairTwinKeyHash : Key := ⟨0x3380, 2, 0⟩
/-- 0x3380:03 `pair.state`. -/
abbrev Obj.pairState : Key := ⟨0x3380, 3, 0⟩
/-- 0x3380:04 `pair.node`. -/
abbrev Obj.pairNode : Key := ⟨0x3380, 4, 0⟩
/-- 0x3380:05 `pair.generation`. -/
abbrev Obj.pairGeneration : Key := ⟨0x3380, 5, 0⟩
/-- 0x3380:06 `pair.loss_time`. -/
abbrev Obj.pairLossTime : Key := ⟨0x3380, 6, 0⟩
/-- 0x3380:07 `pair.links_active`. -/
abbrev Obj.pairLinksActive : Key := ⟨0x3380, 7, 0⟩
/-- 0x3380:08 `pair.time_offset`. -/
abbrev Obj.pairTimeOffset : Key := ⟨0x3380, 8, 0⟩
/-- 0x3380:09 `pair.refuse_reason`. -/
abbrev Obj.pairRefuseReason : Key := ⟨0x3380, 9, 0⟩
/-- 0x3380:0A `pair.losses`. -/
abbrev Obj.pairLosses : Key := ⟨0x3380, 10, 0⟩
/-- 0x3400:01 `bfl.port`. -/
abbrev Obj.bflPort (n : Nat) : Key := ⟨0x3400 + n, 1, 0⟩
/-- 0x3400:02 `bfl.state`. -/
abbrev Obj.bflState (n : Nat) : Key := ⟨0x3400 + n, 2, 0⟩
/-- 0x3400:03 `bfl.width`. -/
abbrev Obj.bflWidth (n : Nat) : Key := ⟨0x3400 + n, 3, 0⟩
/-- 0x3400:04 `bfl.rate`. -/
abbrev Obj.bflRate (n : Nat) : Key := ⟨0x3400 + n, 4, 0⟩
/-- 0x3400:05 `bfl.replay_limit`. -/
abbrev Obj.bflReplayLimit (n : Nat) : Key := ⟨0x3400 + n, 5, 0⟩
/-- 0x3400:06 `bfl.replay_timer`. -/
abbrev Obj.bflReplayTimer (n : Nat) : Key := ⟨0x3400 + n, 6, 0⟩
/-- 0x3400:07 `bfl.train_cause`. -/
abbrev Obj.bflTrainCause (n : Nat) : Key := ⟨0x3400 + n, 7, 0⟩
/-- 0x3400:08 `bfl.incarnation`. -/
abbrev Obj.bflIncarnation (n : Nat) : Key := ⟨0x3400 + n, 8, 0⟩
/-- 0x3400:09 `bfl.rtt`. -/
abbrev Obj.bflRtt (n : Nat) : Key := ⟨0x3400 + n, 9, 0⟩
/-- 0x3400:0A `bfl.cmd`. -/
abbrev Obj.bflCmd (n : Nat) : Key := ⟨0x3400 + n, 10, 0⟩
/-- 0x3400:0B `bfl.evac_target`. -/
abbrev Obj.bflEvacTarget (n : Nat) : Key := ⟨0x3400 + n, 11, 0⟩
/-- 0x3400:0C `bfl.evac_moved`. -/
abbrev Obj.bflEvacMoved (n : Nat) : Key := ⟨0x3400 + n, 12, 0⟩
/-- 0x3400:0D `bfl.held_frames`. -/
abbrev Obj.bflHeldFrames (n : Nat) : Key := ⟨0x3400 + n, 13, 0⟩
/-- 0x3400:0E `bfl.replays`. -/
abbrev Obj.bflReplays (n : Nat) : Key := ⟨0x3400 + n, 14, 0⟩
/-- 0x3400:0F `bfl.retrains`. -/
abbrev Obj.bflRetrains (n : Nat) : Key := ⟨0x3400 + n, 15, 0⟩
/-- 0x3400:10 `bfl.downs`. -/
abbrev Obj.bflDowns (n : Nat) : Key := ⟨0x3400 + n, 16, 0⟩
/-- 0x3400:11 `bfl.crc_errors`. -/
abbrev Obj.bflCrcErrors (n : Nat) : Key := ⟨0x3400 + n, 17, 0⟩
/-- 0x3400:12 `bfl.duplicates`. -/
abbrev Obj.bflDuplicates (n : Nat) : Key := ⟨0x3400 + n, 18, 0⟩
/-- 0x3400:13 `bfl.naks_sent`. -/
abbrev Obj.bflNaksSent (n : Nat) : Key := ⟨0x3400 + n, 19, 0⟩
/-- 0x3400:14 `bfl.acks_ignored`. -/
abbrev Obj.bflAcksIgnored (n : Nat) : Key := ⟨0x3400 + n, 20, 0⟩
/-- 0x3400:15 `bfl.grants_homed`. -/
abbrev Obj.bflGrantsHomed (n : Nat) : Key := ⟨0x3400 + n, 21, 0⟩
/-- 0x4000:01 `sched.ic7_rate_pct`. -/
abbrev Obj.schedIc7RatePct : Key := ⟨0x4000, 1, 0⟩
/-- 0x4000:02 `sched.ic7_burst`. -/
abbrev Obj.schedIc7Burst : Key := ⟨0x4000, 2, 0⟩
/-- 0x4000:03 `sched.trellis_cap`. -/
abbrev Obj.schedTrellisCap : Key := ⟨0x4000, 3, 0⟩
/-- 0x4000:04 `sched.frame_max`. -/
abbrev Obj.schedFrameMax : Key := ⟨0x4000, 4, 0⟩
/-- 0x4010:01 `sched.port.tc_map`. -/
abbrev Obj.schedPortTcMap (n : Nat) : Key := ⟨0x4010 + n, 1, 0⟩
/-- 0x4010:02 `sched.port.overhead`. -/
abbrev Obj.schedPortOverhead (n : Nat) : Key := ⟨0x4010 + n, 2, 0⟩
/-- 0x4010:03 `sched.port.meter_base`. -/
abbrev Obj.schedPortMeterBase (n : Nat) : Key := ⟨0x4010 + n, 3, 0⟩
/-- 0x4010:04 `sched.port.meter_mask`. -/
abbrev Obj.schedPortMeterMask (n : Nat) : Key := ⟨0x4010 + n, 4, 0⟩
/-- 0x4010:05 `sched.port.precolour`. -/
abbrev Obj.schedPortPrecolour (n : Nat) : Key := ⟨0x4010 + n, 5, 0⟩
/-- 0x4010:06 `sched.port.shaper`. -/
abbrev Obj.schedPortShaper (n : Nat) : Key := ⟨0x4010 + n, 6, 0⟩
/-- 0x4010:07 `sched.port.class_weight`. -/
abbrev Obj.schedPortClassWeight (n : Nat) : Key := ⟨0x4010 + n, 7, 0⟩
/-- 0x4010:08 `sched.port.capacity`. -/
abbrev Obj.schedPortCapacity (n : Nat) : Key := ⟨0x4010 + n, 8, 0⟩
/-- 0x4010:09 `sched.port.contracts`. -/
abbrev Obj.schedPortContracts (n : Nat) : Key := ⟨0x4010 + n, 9, 0⟩
/-- 0x4010:0A `sched.port.vtime`. -/
abbrev Obj.schedPortVtime (n : Nat) : Key := ⟨0x4010 + n, 10, 0⟩
/-- 0x4010:0B `sched.port.ic6_demoted`. -/
abbrev Obj.schedPortIc6Demoted (n : Nat) : Key := ⟨0x4010 + n, 11, 0⟩
/-- 0x40A0:01 `sched.node.window`. -/
abbrev Obj.schedNodeWindow : Key := ⟨0x40A0, 1, 0⟩
/-- 0x40A0:03 `sched.node.weight`. -/
abbrev Obj.schedNodeWeight (e : Nat) : Key := ⟨0x40A0, 3, e⟩
/-- 0x40A0:04 `sched.node.shaper`. -/
abbrev Obj.schedNodeShaper (e : Nat) : Key := ⟨0x40A0, 4, e⟩
/-- 0x40A0:05 `sched.node.backlog`. -/
abbrev Obj.schedNodeBacklog (e : Nat) : Key := ⟨0x40A0, 5, e⟩
/-- 0x40A0:06 `sched.node.finish`. -/
abbrev Obj.schedNodeFinish (e : Nat) : Key := ⟨0x40A0, 6, e⟩
/-- 0x4100:01 `meter.window`. -/
abbrev Obj.meterWindow (h : Half) : Key := ⟨0x4100 + h.code, 1, 0⟩
/-- 0x4100:03 `meter.cir`. -/
abbrev Obj.meterCir (h : Half) (e : Nat) : Key := ⟨0x4100 + h.code, 3, e⟩
/-- 0x4100:04 `meter.cbs`. -/
abbrev Obj.meterCbs (h : Half) (e : Nat) : Key := ⟨0x4100 + h.code, 4, e⟩
/-- 0x4100:05 `meter.pir`. -/
abbrev Obj.meterPir (h : Half) (e : Nat) : Key := ⟨0x4100 + h.code, 5, e⟩
/-- 0x4100:06 `meter.pbs`. -/
abbrev Obj.meterPbs (h : Half) (e : Nat) : Key := ⟨0x4100 + h.code, 6, e⟩
/-- 0x4100:07 `meter.mode`. -/
abbrev Obj.meterMode (h : Half) (e : Nat) : Key := ⟨0x4100 + h.code, 7, e⟩
/-- 0x4100:08 `meter.red_rme`. -/
abbrev Obj.meterRedRme (h : Half) (e : Nat) : Key := ⟨0x4100 + h.code, 8, e⟩
/-- 0x4100:09 `meter.green`. -/
abbrev Obj.meterGreen (h : Half) (e : Nat) : Key := ⟨0x4100 + h.code, 9, e⟩
/-- 0x4100:0A `meter.yellow`. -/
abbrev Obj.meterYellow (h : Half) (e : Nat) : Key := ⟨0x4100 + h.code, 10, e⟩
/-- 0x4100:0B `meter.red`. -/
abbrev Obj.meterRed (h : Half) (e : Nat) : Key := ⟨0x4100 + h.code, 11, e⟩
/-- 0x4200:01 `shaper.window`. -/
abbrev Obj.shaperWindow (h : Half) : Key := ⟨0x4200 + h.code, 1, 0⟩
/-- 0x4200:03 `shaper.rate`. -/
abbrev Obj.shaperRate (h : Half) (e : Nat) : Key := ⟨0x4200 + h.code, 3, e⟩
/-- 0x4200:04 `shaper.burst`. -/
abbrev Obj.shaperBurst (h : Half) (e : Nat) : Key := ⟨0x4200 + h.code, 4, e⟩
/-- 0x4200:05 `shaper.mode`. -/
abbrev Obj.shaperMode (h : Half) (e : Nat) : Key := ⟨0x4200 + h.code, 5, e⟩
/-- 0x4200:06 `shaper.user`. -/
abbrev Obj.shaperUser (h : Half) (e : Nat) : Key := ⟨0x4200 + h.code, 6, e⟩
/-- 0x4200:07 `shaper.level`. -/
abbrev Obj.shaperLevel (h : Half) (e : Nat) : Key := ⟨0x4200 + h.code, 7, e⟩
/-- 0x4300:01 `trellis.window`. -/
abbrev Obj.trellisWindow : Key := ⟨0x4300, 1, 0⟩
/-- 0x4300:03 `trellis.port`. -/
abbrev Obj.trellisPort (e : Nat) : Key := ⟨0x4300, 3, e⟩
/-- 0x4300:04 `trellis.node`. -/
abbrev Obj.trellisNode (e : Nat) : Key := ⟨0x4300, 4, e⟩
/-- 0x4300:05 `trellis.ingress`. -/
abbrev Obj.trellisIngress (e : Nat) : Key := ⟨0x4300, 5, e⟩
/-- 0x4300:06 `trellis.shaper`. -/
abbrev Obj.trellisShaper (e : Nat) : Key := ⟨0x4300, 6, e⟩
/-- 0x4300:07 `trellis.rate`. -/
abbrev Obj.trellisRate (e : Nat) : Key := ⟨0x4300, 7, e⟩
/-- 0x4300:08 `trellis.burst`. -/
abbrev Obj.trellisBurst (e : Nat) : Key := ⟨0x4300, 8, e⟩
/-- 0x4300:09 `trellis.frame_max`. -/
abbrev Obj.trellisFrameMax (e : Nat) : Key := ⟨0x4300, 9, e⟩
/-- 0x4300:0A `trellis.deadline`. -/
abbrev Obj.trellisDeadline (e : Nat) : Key := ⟨0x4300, 10, e⟩
/-- 0x4300:0B `trellis.bound`. -/
abbrev Obj.trellisBound (e : Nat) : Key := ⟨0x4300, 11, e⟩
/-- 0x4300:0C `trellis.state`. -/
abbrev Obj.trellisState (e : Nat) : Key := ⟨0x4300, 12, e⟩
/-- 0x4300:0D `trellis.frames`. -/
abbrev Obj.trellisFrames (e : Nat) : Key := ⟨0x4300, 13, e⟩
/-- 0x5000:01 `core.buf.cells_total`. -/
abbrev Obj.coreBufCellsTotal (h : Half) : Key := ⟨0x5000 + h.code, 1, 0⟩
/-- 0x5000:02 `core.buf.cells_free`. -/
abbrev Obj.coreBufCellsFree (h : Half) : Key := ⟨0x5000 + h.code, 2, 0⟩
/-- 0x5000:03 `core.buf.credit_reserve`. -/
abbrev Obj.coreBufCreditReserve (h : Half) : Key := ⟨0x5000 + h.code, 3, 0⟩
/-- 0x5000:04 `core.buf.pool_size`. -/
abbrev Obj.coreBufPoolSize (h : Half) : Key := ⟨0x5000 + h.code, 4, 0⟩
/-- 0x5000:05 `core.buf.pool_free`. -/
abbrev Obj.coreBufPoolFree (h : Half) : Key := ⟨0x5000 + h.code, 5, 0⟩
/-- 0x5000:06 `core.buf.pool_low`. -/
abbrev Obj.coreBufPoolLow (h : Half) : Key := ⟨0x5000 + h.code, 6, 0⟩
/-- 0x5000:07 `core.buf.staging_used`. -/
abbrev Obj.coreBufStagingUsed (h : Half) : Key := ⟨0x5000 + h.code, 7, 0⟩
/-- 0x5010:01 `core.skim.floor`. -/
abbrev Obj.coreSkimFloor : Key := ⟨0x5010, 1, 0⟩
/-- 0x5010:02 `core.skim.enable`. -/
abbrev Obj.coreSkimEnable : Key := ⟨0x5010, 2, 0⟩
/-- 0x5010:03 `core.skim.class_mask`. -/
abbrev Obj.coreSkimClassMask : Key := ⟨0x5010, 3, 0⟩
/-- 0x5010:04 `core.skim.hysteresis`. -/
abbrev Obj.coreSkimHysteresis : Key := ⟨0x5010, 4, 0⟩
/-- 0x5010:05 `core.skim.count_w`. -/
abbrev Obj.coreSkimCountW : Key := ⟨0x5010, 5, 0⟩
/-- 0x5010:06 `core.skim.count_e`. -/
abbrev Obj.coreSkimCountE : Key := ⟨0x5010, 6, 0⟩
/-- 0x5020:01 `core.thresh.alpha`. -/
abbrev Obj.coreThreshAlpha : Key := ⟨0x5020, 1, 0⟩
/-- 0x5020:02 `core.thresh.ic7_reserve`. -/
abbrev Obj.coreThreshIc7Reserve : Key := ⟨0x5020, 2, 0⟩
/-- 0x5020:03 `core.thresh.ic6_reserve`. -/
abbrev Obj.coreThreshIc6Reserve : Key := ⟨0x5020, 3, 0⟩
/-- 0x5030:01 `core.tally.enable`. -/
abbrev Obj.coreTallyEnable : Key := ⟨0x5030, 1, 0⟩
/-- 0x5030:02 `core.tally.period`. -/
abbrev Obj.coreTallyPeriod : Key := ⟨0x5030, 2, 0⟩
/-- 0x5030:03 `core.tally.stuck_age`. -/
abbrev Obj.coreTallyStuckAge : Key := ⟨0x5030, 3, 0⟩
/-- 0x5030:04 `core.tally.reclaimed_w`. -/
abbrev Obj.coreTallyReclaimedW : Key := ⟨0x5030, 4, 0⟩
/-- 0x5030:05 `core.tally.reclaimed_e`. -/
abbrev Obj.coreTallyReclaimedE : Key := ⟨0x5030, 5, 0⟩
/-- 0x5030:06 `core.tally.stuck`. -/
abbrev Obj.coreTallyStuck : Key := ⟨0x5030, 6, 0⟩
/-- 0x5030:07 `core.tally.mismatch`. -/
abbrev Obj.coreTallyMismatch : Key := ⟨0x5030, 7, 0⟩
/-- 0x5030:08 `core.tally.scans`. -/
abbrev Obj.coreTallyScans : Key := ⟨0x5030, 8, 0⟩
/-- 0x5040:01 `core.ct.enable`. -/
abbrev Obj.coreCtEnable : Key := ⟨0x5040, 1, 0⟩
/-- 0x5040:02 `core.ct.port_mask_lo`. -/
abbrev Obj.coreCtPortMaskLo : Key := ⟨0x5040, 2, 0⟩
/-- 0x5040:03 `core.ct.port_mask_hi`. -/
abbrev Obj.coreCtPortMaskHi : Key := ⟨0x5040, 3, 0⟩
/-- 0x5040:04 `core.ct.count_w`. -/
abbrev Obj.coreCtCountW : Key := ⟨0x5040, 4, 0⟩
/-- 0x5040:05 `core.ct.count_e`. -/
abbrev Obj.coreCtCountE : Key := ⟨0x5040, 5, 0⟩
/-- 0x5040:06 `core.ct.cancel_w`. -/
abbrev Obj.coreCtCancelW : Key := ⟨0x5040, 6, 0⟩
/-- 0x5040:07 `core.ct.cancel_e`. -/
abbrev Obj.coreCtCancelE : Key := ⟨0x5040, 7, 0⟩
/-- 0x5050:01 `core.seam.state`. -/
abbrev Obj.coreSeamState : Key := ⟨0x5050, 1, 0⟩
/-- 0x5050:02 `core.seam.modules_we`. -/
abbrev Obj.coreSeamModulesWe : Key := ⟨0x5050, 2, 0⟩
/-- 0x5050:03 `core.seam.modules_ew`. -/
abbrev Obj.coreSeamModulesEw : Key := ⟨0x5050, 3, 0⟩
/-- 0x5050:04 `core.seam.retries`. -/
abbrev Obj.coreSeamRetries : Key := ⟨0x5050, 4, 0⟩
/-- 0x5050:05 `core.seam.retrains`. -/
abbrev Obj.coreSeamRetrains : Key := ⟨0x5050, 5, 0⟩
/-- 0x5050:06 `core.seam.retire_limit`. -/
abbrev Obj.coreSeamRetireLimit : Key := ⟨0x5050, 6, 0⟩
/-- 0x5050:07 `core.seam.heartbeat_lost`. -/
abbrev Obj.coreSeamHeartbeatLost : Key := ⟨0x5050, 7, 0⟩
/-- 0x5050:08 `core.seam.duplicates`. -/
abbrev Obj.coreSeamDuplicates : Key := ⟨0x5050, 8, 0⟩
/-- 0x5050:09 `core.seam.time_offset`. -/
abbrev Obj.coreSeamTimeOffset : Key := ⟨0x5050, 9, 0⟩
/-- 0x5050:0A `core.seam.lost_time`. -/
abbrev Obj.coreSeamLostTime : Key := ⟨0x5050, 10, 0⟩
/-- 0x5060:01 `core.order.relaxed`. -/
abbrev Obj.coreOrderRelaxed : Key := ⟨0x5060, 1, 0⟩
/-- 0x5100:01 `harv.enable`. -/
abbrev Obj.harvEnable : Key := ⟨0x5100, 1, 0⟩
/-- 0x5100:02 `harv.mode`. -/
abbrev Obj.harvMode : Key := ⟨0x5100, 2, 0⟩
/-- 0x5100:03 `harv.used_w`. -/
abbrev Obj.harvUsedW : Key := ⟨0x5100, 3, 0⟩
/-- 0x5100:04 `harv.used_e`. -/
abbrev Obj.harvUsedE : Key := ⟨0x5100, 4, 0⟩
/-- 0x5100:05 `harv.read_half`. -/
abbrev Obj.harvReadHalf : Key := ⟨0x5100, 5, 0⟩
/-- 0x5100:06 `harv.data`. -/
abbrev Obj.harvData : Key := ⟨0x5100, 6, 0⟩
/-- 0x5100:07 `harv.clear`. -/
abbrev Obj.harvClear : Key := ⟨0x5100, 7, 0⟩
/-- 0x5110:01 `harv.filter.window`. -/
abbrev Obj.harvFilterWindow : Key := ⟨0x5110, 1, 0⟩
/-- 0x5110:03 `harv.filter.mode`. -/
abbrev Obj.harvFilterMode (e : Nat) : Key := ⟨0x5110, 3, e⟩
/-- 0x5110:04 `harv.filter.in_port`. -/
abbrev Obj.harvFilterInPort (e : Nat) : Key := ⟨0x5110, 4, e⟩
/-- 0x5110:05 `harv.filter.out_port`. -/
abbrev Obj.harvFilterOutPort (e : Nat) : Key := ⟨0x5110, 5, e⟩
/-- 0x5110:06 `harv.filter.kind_mask`. -/
abbrev Obj.harvFilterKindMask (e : Nat) : Key := ⟨0x5110, 6, e⟩
/-- 0x5110:07 `harv.filter.class_mask`. -/
abbrev Obj.harvFilterClassMask (e : Nat) : Key := ⟨0x5110, 7, e⟩
/-- 0x5110:08 `harv.filter.colour_mask`. -/
abbrev Obj.harvFilterColourMask (e : Nat) : Key := ⟨0x5110, 8, e⟩
/-- 0x5110:09 `harv.filter.node`. -/
abbrev Obj.harvFilterNode (e : Nat) : Key := ⟨0x5110, 9, e⟩
/-- 0x5110:0A `harv.filter.value`. -/
abbrev Obj.harvFilterValue (e : Nat) : Key := ⟨0x5110, 10, e⟩
/-- 0x5110:0B `harv.filter.mask`. -/
abbrev Obj.harvFilterMask (e : Nat) : Key := ⟨0x5110, 11, e⟩
/-- 0x5110:0C `harv.filter.snap`. -/
abbrev Obj.harvFilterSnap (e : Nat) : Key := ⟨0x5110, 12, e⟩
/-- 0x6000:01 `rme.slice.enable`. -/
abbrev Obj.rmeSliceEnable (n : Nat) : Key := ⟨0x6000 + n, 1, 0⟩
/-- 0x6000:02 `rme.slice.owner`. -/
abbrev Obj.rmeSliceOwner (n : Nat) : Key := ⟨0x6000 + n, 2, 0⟩
/-- 0x6000:03 `rme.slice.pasid`. -/
abbrev Obj.rmeSlicePasid (n : Nat) : Key := ⟨0x6000 + n, 3, 0⟩
/-- 0x6000:04 `rme.slice.class`. -/
abbrev Obj.rmeSliceClass (n : Nat) : Key := ⟨0x6000 + n, 4, 0⟩
/-- 0x6000:05 `rme.slice.relaxed`. -/
abbrev Obj.rmeSliceRelaxed (n : Nat) : Key := ⟨0x6000 + n, 5, 0⟩
/-- 0x6000:06 `rme.slice.cmdq_base`. -/
abbrev Obj.rmeSliceCmdqBase (n : Nat) : Key := ⟨0x6000 + n, 6, 0⟩
/-- 0x6000:07 `rme.slice.cmdq_log`. -/
abbrev Obj.rmeSliceCmdqLog (n : Nat) : Key := ⟨0x6000 + n, 7, 0⟩
/-- 0x6000:08 `rme.slice.cmdc_base`. -/
abbrev Obj.rmeSliceCmdcBase (n : Nat) : Key := ⟨0x6000 + n, 8, 0⟩
/-- 0x6000:09 `rme.slice.msix_base`. -/
abbrev Obj.rmeSliceMsixBase (n : Nat) : Key := ⟨0x6000 + n, 9, 0⟩
/-- 0x6000:0A `rme.slice.msix_count`. -/
abbrev Obj.rmeSliceMsixCount (n : Nat) : Key := ⟨0x6000 + n, 10, 0⟩
/-- 0x6000:0B `rme.slice.state`. -/
abbrev Obj.rmeSliceState (n : Nat) : Key := ⟨0x6000 + n, 11, 0⟩
/-- 0x6000:0C `rme.slice.cmd`. -/
abbrev Obj.rmeSliceCmd (n : Nat) : Key := ⟨0x6000 + n, 12, 0⟩
/-- 0x6000:0D `rme.slice.qp_quota`. -/
abbrev Obj.rmeSliceQpQuota (n : Nat) : Key := ⟨0x6000 + n, 13, 0⟩
/-- 0x6000:0E `rme.slice.cq_quota`. -/
abbrev Obj.rmeSliceCqQuota (n : Nat) : Key := ⟨0x6000 + n, 14, 0⟩
/-- 0x6000:0F `rme.slice.key_quota`. -/
abbrev Obj.rmeSliceKeyQuota (n : Nat) : Key := ⟨0x6000 + n, 15, 0⟩
/-- 0x6000:10 `rme.slice.staging_quota`. -/
abbrev Obj.rmeSliceStagingQuota (n : Nat) : Key := ⟨0x6000 + n, 16, 0⟩
/-- 0x6000:11 `rme.slice.rate_limit`. -/
abbrev Obj.rmeSliceRateLimit (n : Nat) : Key := ⟨0x6000 + n, 17, 0⟩
/-- 0x6000:12 `rme.slice.qp_used`. -/
abbrev Obj.rmeSliceQpUsed (n : Nat) : Key := ⟨0x6000 + n, 18, 0⟩
/-- 0x6000:13 `rme.slice.cq_used`. -/
abbrev Obj.rmeSliceCqUsed (n : Nat) : Key := ⟨0x6000 + n, 19, 0⟩
/-- 0x6000:14 `rme.slice.key_used`. -/
abbrev Obj.rmeSliceKeyUsed (n : Nat) : Key := ⟨0x6000 + n, 20, 0⟩
/-- 0x6000:15 `rme.slice.staging_used`. -/
abbrev Obj.rmeSliceStagingUsed (n : Nat) : Key := ⟨0x6000 + n, 21, 0⟩
/-- 0x6000:16 `rme.slice.doorbell_drops`. -/
abbrev Obj.rmeSliceDoorbellDrops (n : Nat) : Key := ⟨0x6000 + n, 22, 0⟩
/-- 0x6000:17 `rme.slice.qp_errors`. -/
abbrev Obj.rmeSliceQpErrors (n : Nat) : Key := ⟨0x6000 + n, 23, 0⟩
/-- 0x6000:18 `rme.slice.lost_host`. -/
abbrev Obj.rmeSliceLostHost (n : Nat) : Key := ⟨0x6000 + n, 24, 0⟩
/-- 0x7000:01 `rme.staging_quota_w`. -/
abbrev Obj.rmeStagingQuotaW : Key := ⟨0x7000, 1, 0⟩
/-- 0x7000:02 `rme.staging_quota_e`. -/
abbrev Obj.rmeStagingQuotaE : Key := ⟨0x7000, 2, 0⟩
/-- 0x7000:03 `rme.retx_timeout`. -/
abbrev Obj.rmeRetxTimeout : Key := ⟨0x7000, 3, 0⟩
/-- 0x7000:04 `rme.retry_limit`. -/
abbrev Obj.rmeRetryLimit : Key := ⟨0x7000, 4, 0⟩
/-- 0x7000:05 `rme.rnr_limit`. -/
abbrev Obj.rmeRnrLimit : Key := ⟨0x7000, 5, 0⟩
/-- 0x7000:06 `rme.rnr_delay`. -/
abbrev Obj.rmeRnrDelay : Key := ⟨0x7000, 6, 0⟩
/-- 0x7000:07 `rme.cc.mark_cells`. -/
abbrev Obj.rmeCcMarkCells : Key := ⟨0x7000, 7, 0⟩
/-- 0x7000:08 `rme.cc.decrease_interval`. -/
abbrev Obj.rmeCcDecreaseInterval : Key := ⟨0x7000, 8, 0⟩
/-- 0x7000:09 `rme.cc.increase_period`. -/
abbrev Obj.rmeCcIncreasePeriod : Key := ⟨0x7000, 9, 0⟩
/-- 0x7000:0A `rme.cc.increase_step`. -/
abbrev Obj.rmeCcIncreaseStep : Key := ⟨0x7000, 10, 0⟩
/-- 0x7000:0B `rme.cc.min_rate`. -/
abbrev Obj.rmeCcMinRate : Key := ⟨0x7000, 11, 0⟩
/-- 0x7000:0C `rme.cc.shaper_first`. -/
abbrev Obj.rmeCcShaperFirst : Key := ⟨0x7000, 12, 0⟩
/-- 0x7000:0D `rme.cc.shaper_count`. -/
abbrev Obj.rmeCcShaperCount : Key := ⟨0x7000, 13, 0⟩
/-- 0x7000:0E `rme.stat.drop_stale`. -/
abbrev Obj.rmeStatDropStale : Key := ⟨0x7000, 14, 0⟩
/-- 0x7000:0F `rme.stat.drop_keygen`. -/
abbrev Obj.rmeStatDropKeygen : Key := ⟨0x7000, 15, 0⟩
/-- 0x7000:10 `rme.stat.duplicates`. -/
abbrev Obj.rmeStatDuplicates : Key := ⟨0x7000, 16, 0⟩
/-- 0x7000:11 `rme.stat.atomic_replays`. -/
abbrev Obj.rmeStatAtomicReplays : Key := ⟨0x7000, 17, 0⟩
/-- 0x7000:12 `rme.stat.snaks`. -/
abbrev Obj.rmeStatSnaks : Key := ⟨0x7000, 18, 0⟩
/-- 0x7000:13 `rme.stat.staging_refused`. -/
abbrev Obj.rmeStatStagingRefused : Key := ⟨0x7000, 19, 0⟩
/-- 0x7000:14 `rme.stat.beyond_window`. -/
abbrev Obj.rmeStatBeyondWindow : Key := ⟨0x7000, 20, 0⟩
/-- 0x7000:15 `rme.stat.skim_notices`. -/
abbrev Obj.rmeStatSkimNotices : Key := ⟨0x7000, 21, 0⟩
/-- 0x7000:16 `rme.stat.shaper_short`. -/
abbrev Obj.rmeStatShaperShort : Key := ⟨0x7000, 22, 0⟩
/-- 0x7000:17 `rme.stat.qp_errors`. -/
abbrev Obj.rmeStatQpErrors : Key := ⟨0x7000, 23, 0⟩
/-- 0x7400:01 `slot.state`. -/
abbrev Obj.slotState (n : Nat) : Key := ⟨0x7400 + n, 1, 0⟩
/-- 0x7400:02 `slot.enable`. -/
abbrev Obj.slotEnable (n : Nat) : Key := ⟨0x7400 + n, 2, 0⟩
/-- 0x7400:03 `slot.rsense`. -/
abbrev Obj.slotRsense (n : Nat) : Key := ⟨0x7400 + n, 3, 0⟩
/-- 0x7400:04 `slot.ilimit`. -/
abbrev Obj.slotIlimit (n : Nat) : Key := ⟨0x7400 + n, 4, 0⟩
/-- 0x7400:05 `slot.ifast`. -/
abbrev Obj.slotIfast (n : Nat) : Key := ⟨0x7400 + n, 5, 0⟩
/-- 0x7400:06 `slot.limit_time`. -/
abbrev Obj.slotLimitTime (n : Nat) : Key := ⟨0x7400 + n, 6, 0⟩
/-- 0x7400:07 `slot.ramp_rate`. -/
abbrev Obj.slotRampRate (n : Nat) : Key := ⟨0x7400 + n, 7, 0⟩
/-- 0x7400:08 `slot.ramp_timeout`. -/
abbrev Obj.slotRampTimeout (n : Nat) : Key := ⟨0x7400 + n, 8, 0⟩
/-- 0x7400:09 `slot.uv`. -/
abbrev Obj.slotUv (n : Nat) : Key := ⟨0x7400 + n, 9, 0⟩
/-- 0x7400:0A `slot.ov`. -/
abbrev Obj.slotOv (n : Nat) : Key := ⟨0x7400 + n, 10, 0⟩
/-- 0x7400:0B `slot.feed_mode`. -/
abbrev Obj.slotFeedMode (n : Nat) : Key := ⟨0x7400 + n, 11, 0⟩
/-- 0x7400:0C `slot.insert_delay`. -/
abbrev Obj.slotInsertDelay (n : Nat) : Key := ⟨0x7400 + n, 12, 0⟩
/-- 0x7400:0D `slot.cooldown`. -/
abbrev Obj.slotCooldown (n : Nat) : Key := ⟨0x7400 + n, 13, 0⟩
/-- 0x7400:0E `slot.fault_limit`. -/
abbrev Obj.slotFaultLimit (n : Nat) : Key := ⟨0x7400 + n, 14, 0⟩
/-- 0x7400:0F `slot.fault_count`. -/
abbrev Obj.slotFaultCount (n : Nat) : Key := ⟨0x7400 + n, 15, 0⟩
/-- 0x7400:10 `slot.last_fault`. -/
abbrev Obj.slotLastFault (n : Nat) : Key := ⟨0x7400 + n, 16, 0⟩
/-- 0x7400:11 `slot.cooldown_left`. -/
abbrev Obj.slotCooldownLeft (n : Nat) : Key := ⟨0x7400 + n, 17, 0⟩
/-- 0x7400:12 `slot.perst`. -/
abbrev Obj.slotPerst (n : Nat) : Key := ⟨0x7400 + n, 18, 0⟩
/-- 0x7400:13 `slot.perst_delay`. -/
abbrev Obj.slotPerstDelay (n : Nat) : Key := ⟨0x7400 + n, 19, 0⟩
/-- 0x7400:14 `slot.aux_keep`. -/
abbrev Obj.slotAuxKeep (n : Nat) : Key := ⟨0x7400 + n, 20, 0⟩
/-- 0x7400:15 `slot.cmd`. -/
abbrev Obj.slotCmd (n : Nat) : Key := ⟨0x7400 + n, 21, 0⟩
/-- 0x7400:16 `slot.meas.vin_a`. -/
abbrev Obj.slotMeasVinA (n : Nat) : Key := ⟨0x7400 + n, 22, 0⟩
/-- 0x7400:17 `slot.meas.vin_b`. -/
abbrev Obj.slotMeasVinB (n : Nat) : Key := ⟨0x7400 + n, 23, 0⟩
/-- 0x7400:18 `slot.meas.vout`. -/
abbrev Obj.slotMeasVout (n : Nat) : Key := ⟨0x7400 + n, 24, 0⟩
/-- 0x7400:19 `slot.meas.current`. -/
abbrev Obj.slotMeasCurrent (n : Nat) : Key := ⟨0x7400 + n, 25, 0⟩
/-- 0x7400:1A `slot.meas.power`. -/
abbrev Obj.slotMeasPower (n : Nat) : Key := ⟨0x7400 + n, 26, 0⟩
/-- 0x7400:1B `slot.meas.energy`. -/
abbrev Obj.slotMeasEnergy (n : Nat) : Key := ⟨0x7400 + n, 27, 0⟩
/-- 0x7400:1C `slot.meas.peak`. -/
abbrev Obj.slotMeasPeak (n : Nat) : Key := ⟨0x7400 + n, 28, 0⟩
/-- 0x7400:1D `slot.status`. -/
abbrev Obj.slotStatus (n : Nat) : Key := ⟨0x7400 + n, 29, 0⟩
/-- 0x7420:01 `sgrp.ramp_max`. -/
abbrev Obj.sgrpRampMax (n : Nat) : Key := ⟨0x7420 + n, 1, 0⟩
/-- 0x7420:02 `sgrp.brake_mw`. -/
abbrev Obj.sgrpBrakeMw (n : Nat) : Key := ⟨0x7420 + n, 2, 0⟩
/-- 0x7420:03 `sgrp.power`. -/
abbrev Obj.sgrpPower (n : Nat) : Key := ⟨0x7420 + n, 3, 0⟩
/-- 0x7420:04 `sgrp.ramping`. -/
abbrev Obj.sgrpRamping (n : Nat) : Key := ⟨0x7420 + n, 4, 0⟩
/-- 0x7420:05 `sgrp.channels_on`. -/
abbrev Obj.sgrpChannelsOn (n : Nat) : Key := ⟨0x7420 + n, 5, 0⟩
/-- 0x7500:01 `sb.mode`. -/
abbrev Obj.sbMode (n : Nat) : Key := ⟨0x7500 + n, 1, 0⟩
/-- 0x7500:02 `sb.pec`. -/
abbrev Obj.sbPec (n : Nat) : Key := ⟨0x7500 + n, 2, 0⟩
/-- 0x7500:03 `sb.merge`. -/
abbrev Obj.sbMerge (n : Nat) : Key := ⟨0x7500 + n, 3, 0⟩
/-- 0x7500:04 `sb.alert_poll`. -/
abbrev Obj.sbAlertPoll (n : Nat) : Key := ⟨0x7500 + n, 4, 0⟩
/-- 0x7500:05 `sb.led_source`. -/
abbrev Obj.sbLedSource (n : Nat) : Key := ⟨0x7500 + n, 5, 0⟩
/-- 0x7500:06 `sb.led`. -/
abbrev Obj.sbLed (n : Nat) : Key := ⟨0x7500 + n, 6, 0⟩
/-- 0x7500:07 `sb.status`. -/
abbrev Obj.sbStatus (n : Nat) : Key := ⟨0x7500 + n, 7, 0⟩
/-- 0x7500:08 `sb.attn_count`. -/
abbrev Obj.sbAttnCount (n : Nat) : Key := ⟨0x7500 + n, 8, 0⟩
/-- 0x7500:09 `sb.alert_count`. -/
abbrev Obj.sbAlertCount (n : Nat) : Key := ⟨0x7500 + n, 9, 0⟩
/-- 0x7500:0A `sb.alert_last`. -/
abbrev Obj.sbAlertLast (n : Nat) : Key := ⟨0x7500 + n, 10, 0⟩
/-- 0x7500:0B `sb.nak_count`. -/
abbrev Obj.sbNakCount (n : Nat) : Key := ⟨0x7500 + n, 11, 0⟩
/-- 0x7500:0C `sb.timeout_count`. -/
abbrev Obj.sbTimeoutCount (n : Nat) : Key := ⟨0x7500 + n, 12, 0⟩
/-- 0x7500:0D `sb.recoveries`. -/
abbrev Obj.sbRecoveries (n : Nat) : Key := ⟨0x7500 + n, 13, 0⟩
/-- 0x7520:01 `sbmap.window`. -/
abbrev Obj.sbmapWindow : Key := ⟨0x7520, 1, 0⟩
/-- 0x7520:03 `sbmap.slot`. -/
abbrev Obj.sbmapSlot (e : Nat) : Key := ⟨0x7520, 3, e⟩
/-- 0x7520:04 `sbmap.addr`. -/
abbrev Obj.sbmapAddr (e : Nat) : Key := ⟨0x7520, 4, e⟩
/-- 0x7520:05 `sbmap.reg`. -/
abbrev Obj.sbmapReg (e : Nat) : Key := ⟨0x7520, 5, e⟩
/-- 0x7520:06 `sbmap.flags`. -/
abbrev Obj.sbmapFlags (e : Nat) : Key := ⟨0x7520, 6, e⟩
/-- 0x7520:07 `sbmap.len`. -/
abbrev Obj.sbmapLen (e : Nat) : Key := ⟨0x7520, 7, e⟩
/-- 0x7520:08 `sbmap.src`. -/
abbrev Obj.sbmapSrc (e : Nat) : Key := ⟨0x7520, 8, e⟩
/-- 0x7520:09 `sbmap.scale`. -/
abbrev Obj.sbmapScale (e : Nat) : Key := ⟨0x7520, 9, e⟩
/-- 0x7520:0A `sbmap.offset`. -/
abbrev Obj.sbmapOffset (e : Nat) : Key := ⟨0x7520, 10, e⟩
/-- 0x7520:0B `sbmap.dst`. -/
abbrev Obj.sbmapDst (e : Nat) : Key := ⟨0x7520, 11, e⟩
/-- 0x7520:0C `sbmap.period`. -/
abbrev Obj.sbmapPeriod (e : Nat) : Key := ⟨0x7520, 12, e⟩
/-- 0x7520:0D `sbmap.state`. -/
abbrev Obj.sbmapState (e : Nat) : Key := ⟨0x7520, 13, e⟩
/-- 0x7520:0E `sbmap.raw`. -/
abbrev Obj.sbmapRaw (e : Nat) : Key := ⟨0x7520, 14, e⟩
/-- 0x7520:0F `sbmap.time`. -/
abbrev Obj.sbmapTime (e : Nat) : Key := ⟨0x7520, 15, e⟩
/-- 0x7520:10 `sbmap.saturations`. -/
abbrev Obj.sbmapSaturations (e : Nat) : Key := ⟨0x7520, 16, e⟩
/-- 0x7521:01 `sbval.window`. -/
abbrev Obj.sbvalWindow : Key := ⟨0x7521, 1, 0⟩
/-- 0x7521:03 `sbval.word`. -/
abbrev Obj.sbvalWord (e : Nat) : Key := ⟨0x7521, 3, e⟩
/-- 0x7521:04 `sbval.seq`. -/
abbrev Obj.sbvalSeq (e : Nat) : Key := ⟨0x7521, 4, e⟩
/-- 0x7521:05 `sbval.time`. -/
abbrev Obj.sbvalTime (e : Nat) : Key := ⟨0x7521, 5, e⟩
/-- 0x7522:01 `sbfar.slot`. -/
abbrev Obj.sbfarSlot : Key := ⟨0x7522, 1, 0⟩
/-- 0x7522:02 `sbfar.addr`. -/
abbrev Obj.sbfarAddr : Key := ⟨0x7522, 2, 0⟩
/-- 0x7522:03 `sbfar.reg`. -/
abbrev Obj.sbfarReg : Key := ⟨0x7522, 3, 0⟩
/-- 0x7522:04 `sbfar.flags`. -/
abbrev Obj.sbfarFlags : Key := ⟨0x7522, 4, 0⟩
/-- 0x7522:05 `sbfar.len`. -/
abbrev Obj.sbfarLen : Key := ⟨0x7522, 5, 0⟩
/-- 0x7522:06 `sbfar.data`. -/
abbrev Obj.sbfarData : Key := ⟨0x7522, 6, 0⟩
/-- 0x7522:07 `sbfar.cmd`. -/
abbrev Obj.sbfarCmd : Key := ⟨0x7522, 7, 0⟩
/-- 0x7523:01 `sbstray.window`. -/
abbrev Obj.sbstrayWindow : Key := ⟨0x7523, 1, 0⟩
/-- 0x7523:03 `sbstray.record`. -/
abbrev Obj.sbstrayRecord (e : Nat) : Key := ⟨0x7523, 3, e⟩
/-- 0x7524:01 `sbg.far_timeout`. -/
abbrev Obj.sbgFarTimeout : Key := ⟨0x7524, 1, 0⟩
/-- 0x7524:02 `sbg.stray_total`. -/
abbrev Obj.sbgStrayTotal : Key := ⟨0x7524, 2, 0⟩
/-- 0x7524:03 `sbg.stray_clear`. -/
abbrev Obj.sbgStrayClear : Key := ⟨0x7524, 3, 0⟩
/-- 0x8000:01 `pmu.slots_free_w`. -/
abbrev Obj.pmuSlotsFreeW : Key := ⟨0x8000, 1, 0⟩
/-- 0x8000:02 `pmu.slots_free_e`. -/
abbrev Obj.pmuSlotsFreeE : Key := ⟨0x8000, 2, 0⟩
/-- 0x8000:03 `pmu.node_quota`. -/
abbrev Obj.pmuNodeQuota : Key := ⟨0x8000, 3, 0⟩
/-- 0x8000:04 `pmu.slice_quota`. -/
abbrev Obj.pmuSliceQuota : Key := ⟨0x8000, 4, 0⟩
/-- 0x8000:05 `pmu.snap`. -/
abbrev Obj.pmuSnap : Key := ⟨0x8000, 5, 0⟩
/-- 0x8000:06 `pmu.snap_time`. -/
abbrev Obj.pmuSnapTime : Key := ⟨0x8000, 6, 0⟩
/-- 0x8010:01 `pmu.ctr.window`. -/
abbrev Obj.pmuCtrWindow : Key := ⟨0x8010, 1, 0⟩
/-- 0x8010:03 `pmu.ctr.event`. -/
abbrev Obj.pmuCtrEvent (e : Nat) : Key := ⟨0x8010, 3, e⟩
/-- 0x8010:04 `pmu.ctr.qual`. -/
abbrev Obj.pmuCtrQual (e : Nat) : Key := ⟨0x8010, 4, e⟩
/-- 0x8010:05 `pmu.ctr.enable`. -/
abbrev Obj.pmuCtrEnable (e : Nat) : Key := ⟨0x8010, 5, e⟩
/-- 0x8010:06 `pmu.ctr.value`. -/
abbrev Obj.pmuCtrValue (e : Nat) : Key := ⟨0x8010, 6, e⟩
/-- 0x8010:07 `pmu.ctr.snap_value`. -/
abbrev Obj.pmuCtrSnapValue (e : Nat) : Key := ⟨0x8010, 7, e⟩
/-- 0x8010:08 `pmu.ctr.cmd`. -/
abbrev Obj.pmuCtrCmd (e : Nat) : Key := ⟨0x8010, 8, e⟩
/-- 0x8010:09 `pmu.ctr.slots`. -/
abbrev Obj.pmuCtrSlots (e : Nat) : Key := ⟨0x8010, 9, e⟩
/-- 0x8100:01 `smp.enable`. -/
abbrev Obj.smpEnable : Key := ⟨0x8100, 1, 0⟩
/-- 0x8100:02 `smp.interval`. -/
abbrev Obj.smpInterval : Key := ⟨0x8100, 2, 0⟩
/-- 0x8100:03 `smp.seed`. -/
abbrev Obj.smpSeed : Key := ⟨0x8100, 3, 0⟩
/-- 0x8100:04 `smp.mode`. -/
abbrev Obj.smpMode : Key := ⟨0x8100, 4, 0⟩
/-- 0x8100:05 `smp.in_port`. -/
abbrev Obj.smpInPort : Key := ⟨0x8100, 5, 0⟩
/-- 0x8100:06 `smp.out_port`. -/
abbrev Obj.smpOutPort : Key := ⟨0x8100, 6, 0⟩
/-- 0x8100:07 `smp.class_mask`. -/
abbrev Obj.smpClassMask : Key := ⟨0x8100, 7, 0⟩
/-- 0x8100:08 `smp.kind_mask`. -/
abbrev Obj.smpKindMask : Key := ⟨0x8100, 8, 0⟩
/-- 0x8100:09 `smp.records`. -/
abbrev Obj.smpRecords : Key := ⟨0x8100, 9, 0⟩
/-- 0x8100:0A `smp.lost`. -/
abbrev Obj.smpLost : Key := ⟨0x8100, 10, 0⟩
/-- 0x8110:01 `smp.rec.window`. -/
abbrev Obj.smpRecWindow : Key := ⟨0x8110, 1, 0⟩
/-- 0x8110:03 `smp.rec.record`. -/
abbrev Obj.smpRecRecord (e : Nat) : Key := ⟨0x8110, 3, e⟩
/-- 0x9000:01 `pwr.state`. -/
abbrev Obj.pwrState : Key := ⟨0x9000, 1, 0⟩
/-- 0x9000:02 `pwr.state_req`. -/
abbrev Obj.pwrStateReq : Key := ⟨0x9000, 2, 0⟩
/-- 0x9000:03 `pwr.idle_armed`. -/
abbrev Obj.pwrIdleArmed : Key := ⟨0x9000, 3, 0⟩
/-- 0x9000:04 `pwr.wake_mask`. -/
abbrev Obj.pwrWakeMask : Key := ⟨0x9000, 4, 0⟩
/-- 0x9000:05 `pwr.wake_cause`. -/
abbrev Obj.pwrWakeCause : Key := ⟨0x9000, 5, 0⟩
/-- 0x9000:06 `pwr.exit_time`. -/
abbrev Obj.pwrExitTime : Key := ⟨0x9000, 6, 0⟩
/-- 0x9000:07 `pwr.aborted`. -/
abbrev Obj.pwrAborted : Key := ⟨0x9000, 7, 0⟩
/-- 0x9000:08 `pwr.ao_counter`. -/
abbrev Obj.pwrAoCounter : Key := ⟨0x9000, 8, 0⟩
/-- 0x9000:09 `pwr.alarm`. -/
abbrev Obj.pwrAlarm : Key := ⟨0x9000, 9, 0⟩
/-- 0x9000:0A `pwr.ao_source`. -/
abbrev Obj.pwrAoSource : Key := ⟨0x9000, 10, 0⟩
/-- 0x9000:0B `pwr.wake_pulse`. -/
abbrev Obj.pwrWakePulse : Key := ⟨0x9000, 11, 0⟩
/-- 0x9001:01 `pwr.dom.on`. -/
abbrev Obj.pwrDomOn : Key := ⟨0x9001, 1, 0⟩
/-- 0x9001:02 `pwr.dom.retained`. -/
abbrev Obj.pwrDomRetained : Key := ⟨0x9001, 2, 0⟩
/-- 0x9010:01 `pwr.pad_hold.held`. -/
abbrev Obj.pwrPadHoldHeld : Key := ⟨0x9010, 1, 0⟩
/-- 0x9010:02 `pwr.pad_hold.release`. -/
abbrev Obj.pwrPadHoldRelease : Key := ⟨0x9010, 2, 0⟩
/-- 0x9020:01 `pwr.therm.max`. -/
abbrev Obj.pwrThermMax : Key := ⟨0x9020, 1, 0⟩
/-- 0x9020:02 `pwr.therm.max_seen`. -/
abbrev Obj.pwrThermMaxSeen : Key := ⟨0x9020, 2, 0⟩
/-- 0x9020:03 `pwr.therm.warn`. -/
abbrev Obj.pwrThermWarn : Key := ⟨0x9020, 3, 0⟩
/-- 0x9020:04 `pwr.therm.throttle`. -/
abbrev Obj.pwrThermThrottle : Key := ⟨0x9020, 4, 0⟩
/-- 0x9020:05 `pwr.therm.throttle_pct_w`. -/
abbrev Obj.pwrThermThrottlePctW : Key := ⟨0x9020, 5, 0⟩
/-- 0x9020:06 `pwr.therm.throttle_pct_e`. -/
abbrev Obj.pwrThermThrottlePctE : Key := ⟨0x9020, 6, 0⟩
/-- 0x9020:07 `pwr.therm.throttle_time`. -/
abbrev Obj.pwrThermThrottleTime : Key := ⟨0x9020, 7, 0⟩
/-- 0x9021:01 `pwr.sensor.window`. -/
abbrev Obj.pwrSensorWindow : Key := ⟨0x9021, 1, 0⟩
/-- 0x9021:03 `pwr.sensor.temp`. -/
abbrev Obj.pwrSensorTemp (e : Nat) : Key := ⟨0x9021, 3, e⟩
/-- 0x9021:04 `pwr.sensor.site`. -/
abbrev Obj.pwrSensorSite (e : Nat) : Key := ⟨0x9021, 4, e⟩
/-- 0x9100:01 `per.enable`. -/
abbrev Obj.perEnable : Key := ⟨0x9100, 1, 0⟩
/-- 0x9100:02 `per.status`. -/
abbrev Obj.perStatus : Key := ⟨0x9100, 2, 0⟩
/-- 0x9100:03 `per.period`. -/
abbrev Obj.perPeriod : Key := ⟨0x9100, 3, 0⟩
/-- 0x9100:04 `per.replan_period`. -/
abbrev Obj.perReplanPeriod : Key := ⟨0x9100, 4, 0⟩
/-- 0x9100:05 `per.life_hours`. -/
abbrev Obj.perLifeHours : Key := ⟨0x9100, 5, 0⟩
/-- 0x9100:06 `per.vdd_margin`. -/
abbrev Obj.perVddMargin : Key := ⟨0x9100, 6, 0⟩
/-- 0x9100:07 `per.vdd_gain`. -/
abbrev Obj.perVddGain : Key := ⟨0x9100, 7, 0⟩
/-- 0x9100:08 `per.vdd_request_w`. -/
abbrev Obj.perVddRequestW : Key := ⟨0x9100, 8, 0⟩
/-- 0x9100:09 `per.vdd_request_e`. -/
abbrev Obj.perVddRequestE : Key := ⟨0x9100, 9, 0⟩
/-- 0x9100:0A `per.vdd_measured_w`. -/
abbrev Obj.perVddMeasuredW : Key := ⟨0x9100, 10, 0⟩
/-- 0x9100:0B `per.vdd_measured_e`. -/
abbrev Obj.perVddMeasuredE : Key := ⟨0x9100, 11, 0⟩
/-- 0x9100:0C `per.slack_w`. -/
abbrev Obj.perSlackW : Key := ⟨0x9100, 12, 0⟩
/-- 0x9100:0D `per.slack_e`. -/
abbrev Obj.perSlackE : Key := ⟨0x9100, 13, 0⟩
/-- 0x9100:0E `per.ageing_w`. -/
abbrev Obj.perAgeingW : Key := ⟨0x9100, 14, 0⟩
/-- 0x9100:0F `per.ageing_e`. -/
abbrev Obj.perAgeingE : Key := ⟨0x9100, 15, 0⟩
/-- 0x9100:10 `per.exhaust_hours`. -/
abbrev Obj.perExhaustHours : Key := ⟨0x9100, 16, 0⟩
/-- 0x9100:11 `per.run_hours`. -/
abbrev Obj.perRunHours : Key := ⟨0x9100, 17, 0⟩
/-- 0x9100:12 `per.baseline_origin`. -/
abbrev Obj.perBaselineOrigin : Key := ⟨0x9100, 18, 0⟩
/-- 0x9100:13 `per.cmd`. -/
abbrev Obj.perCmd : Key := ⟨0x9100, 19, 0⟩
/-- 0x9100:14 `per.lane_floor`. -/
abbrev Obj.perLaneFloor : Key := ⟨0x9100, 20, 0⟩
/-- 0x9101:01 `per.port.window`. -/
abbrev Obj.perPortWindow : Key := ⟨0x9101, 1, 0⟩
/-- 0x9101:03 `per.port.rate_advice`. -/
abbrev Obj.perPortRateAdvice (e : Nat) : Key := ⟨0x9101, 3, e⟩
/-- 0x9101:04 `per.port.eye_projection`. -/
abbrev Obj.perPortEyeProjection (e : Nat) : Key := ⟨0x9101, 4, e⟩
/-- 0xA000:01 `err.log_size`. -/
abbrev Obj.errLogSize : Key := ⟨0xA000, 1, 0⟩
/-- 0xA000:02 `err.log_head`. -/
abbrev Obj.errLogHead : Key := ⟨0xA000, 2, 0⟩
/-- 0xA000:03 `err.log_lost`. -/
abbrev Obj.errLogLost : Key := ⟨0xA000, 3, 0⟩
/-- 0xA000:04 `err.plog_count`. -/
abbrev Obj.errPlogCount : Key := ⟨0xA000, 4, 0⟩
/-- 0xA000:05 `err.alert_mask`. -/
abbrev Obj.errAlertMask : Key := ⟨0xA000, 5, 0⟩
/-- 0xA000:06 `err.alert_ack`. -/
abbrev Obj.errAlertAck : Key := ⟨0xA000, 6, 0⟩
/-- 0xA000:07 `err.plog_clear`. -/
abbrev Obj.errPlogClear : Key := ⟨0xA000, 7, 0⟩
/-- 0xA000:08 `err.coalesce`. -/
abbrev Obj.errCoalesce : Key := ⟨0xA000, 8, 0⟩
/-- 0xA010:01 `err.log.window`. -/
abbrev Obj.errLogWindow : Key := ⟨0xA010, 1, 0⟩
/-- 0xA010:03 `err.log.record`. -/
abbrev Obj.errLogRecord (e : Nat) : Key := ⟨0xA010, 3, e⟩
/-- 0xA011:01 `err.plog.window`. -/
abbrev Obj.errPlogWindow : Key := ⟨0xA011, 1, 0⟩
/-- 0xA011:03 `err.plog.record`. -/
abbrev Obj.errPlogRecord (e : Nat) : Key := ⟨0xA011, 3, e⟩
/-- 0xA020:01 `err.pol.half_fatal_action`. -/
abbrev Obj.errPolHalfFatalAction : Key := ⟨0xA020, 1, 0⟩
/-- 0xA020:02 `err.pol.qdr_scrub_period`. -/
abbrev Obj.errPolQdrScrubPeriod : Key := ⟨0xA020, 2, 0⟩
/-- 0xA020:03 `err.pol.table_scrub_period`. -/
abbrev Obj.errPolTableScrubPeriod : Key := ⟨0xA020, 3, 0⟩
/-- 0xA020:04 `err.pol.credit_stall`. -/
abbrev Obj.errPolCreditStall : Key := ⟨0xA020, 4, 0⟩
/-- 0xA040:01 `err.node.cpl_policy`. -/
abbrev Obj.errNodeCplPolicy (n : Nat) : Key := ⟨0xA040 + n, 1, 0⟩
/-- 0xA040:02 `err.node.stall_dpc`. -/
abbrev Obj.errNodeStallDpc (n : Nat) : Key := ⟨0xA040 + n, 2, 0⟩
/-- 0xA040:03 `err.node.synth_cpl`. -/
abbrev Obj.errNodeSynthCpl (n : Nat) : Key := ⟨0xA040 + n, 3, 0⟩
/-- 0xA040:04 `err.node.posted_discarded`. -/
abbrev Obj.errNodePostedDiscarded (n : Nat) : Key := ⟨0xA040 + n, 4, 0⟩
/-- 0xA040:05 `err.node.poisoned`. -/
abbrev Obj.errNodePoisoned (n : Nat) : Key := ⟨0xA040 + n, 5, 0⟩
/-- 0xA040:06 `err.node.last_seq`. -/
abbrev Obj.errNodeLastSeq (n : Nat) : Key := ⟨0xA040 + n, 6, 0⟩
/-- 0xB000:01 `fw.boot_slot`. -/
abbrev Obj.fwBootSlot : Key := ⟨0xB000, 1, 0⟩
/-- 0xB000:02 `fw.active_slot`. -/
abbrev Obj.fwActiveSlot : Key := ⟨0xB000, 2, 0⟩
/-- 0xB000:03 `fw.slot_a.state`. -/
abbrev Obj.fwSlotAState : Key := ⟨0xB000, 3, 0⟩
/-- 0xB000:04 `fw.slot_b.state`. -/
abbrev Obj.fwSlotBState : Key := ⟨0xB000, 4, 0⟩
/-- 0xB000:05 `fw.slot_a.version`. -/
abbrev Obj.fwSlotAVersion : Key := ⟨0xB000, 5, 0⟩
/-- 0xB000:06 `fw.slot_b.version`. -/
abbrev Obj.fwSlotBVersion : Key := ⟨0xB000, 6, 0⟩
/-- 0xB000:07 `fw.slot_a.image`. -/
abbrev Obj.fwSlotAImage : Key := ⟨0xB000, 7, 0⟩
/-- 0xB000:08 `fw.slot_b.image`. -/
abbrev Obj.fwSlotBImage : Key := ⟨0xB000, 8, 0⟩
/-- 0xB000:09 `fw.verify_result`. -/
abbrev Obj.fwVerifyResult : Key := ⟨0xB000, 9, 0⟩
/-- 0xB000:0A `fw.last_booted`. -/
abbrev Obj.fwLastBooted : Key := ⟨0xB000, 10, 0⟩
/-- 0xB010:01 `fw.otp.counter`. -/
abbrev Obj.fwOtpCounter : Key := ⟨0xB010, 1, 0⟩
/-- 0xB010:02 `fw.otp.commit`. -/
abbrev Obj.fwOtpCommit : Key := ⟨0xB010, 2, 0⟩
/-- 0xB010:03 `fw.otp.revoke`. -/
abbrev Obj.fwOtpRevoke : Key := ⟨0xB010, 3, 0⟩
/-- 0xB010:04 `fw.otp.revoked`. -/
abbrev Obj.fwOtpRevoked : Key := ⟨0xB010, 4, 0⟩
/-- 0xB020:01 `sec.id.public_key`. -/
abbrev Obj.secIdPublicKey : Key := ⟨0xB020, 1, 0⟩
/-- 0xB020:02 `sec.id.key_hash`. -/
abbrev Obj.secIdKeyHash : Key := ⟨0xB020, 2, 0⟩
/-- 0xB020:03 `sec.id.cert_chain`. -/
abbrev Obj.secIdCertChain : Key := ⟨0xB020, 3, 0⟩
/-- 0xB030:01 `sec.meas.window`. -/
abbrev Obj.secMeasWindow : Key := ⟨0xB030, 1, 0⟩
/-- 0xB030:03 `sec.meas.value`. -/
abbrev Obj.secMeasValue (e : Nat) : Key := ⟨0xB030, 3, e⟩
/-- 0xB040:01 `rake.holder`. -/
abbrev Obj.rakeHolder : Key := ⟨0xB040, 1, 0⟩
/-- 0xB040:02 `rake.epoch`. -/
abbrev Obj.rakeEpoch : Key := ⟨0xB040, 2, 0⟩
/-- 0xB040:03 `rake.handover`. -/
abbrev Obj.rakeHandover : Key := ⟨0xB040, 3, 0⟩
/-- 0xB040:04 `rake.wd_period`. -/
abbrev Obj.rakeWdPeriod : Key := ⟨0xB040, 4, 0⟩
/-- 0xB040:05 `rake.wd_expiries`. -/
abbrev Obj.rakeWdExpiries : Key := ⟨0xB040, 5, 0⟩
/-- 0xB040:06 `rake.claim_time`. -/
abbrev Obj.rakeClaimTime : Key := ⟨0xB040, 6, 0⟩
/-- 0xC000:01 `test.unlock.req`. -/
abbrev Obj.testUnlockReq : Key := ⟨0xC000, 1, 0⟩
/-- 0xC000:02 `test.unlock.challenge`. -/
abbrev Obj.testUnlockChallenge : Key := ⟨0xC000, 2, 0⟩
/-- 0xC000:03 `test.unlock.response`. -/
abbrev Obj.testUnlockResponse : Key := ⟨0xC000, 3, 0⟩
/-- 0xC000:04 `test.unlock.level`. -/
abbrev Obj.testUnlockLevel : Key := ⟨0xC000, 4, 0⟩
/-- 0xC000:05 `test.unlock.timeout`. -/
abbrev Obj.testUnlockTimeout : Key := ⟨0xC000, 5, 0⟩
/-- 0xC010:01 `test.lane.window`. -/
abbrev Obj.testLaneWindow : Key := ⟨0xC010, 1, 0⟩
/-- 0xC010:03 `test.lane.loopback`. -/
abbrev Obj.testLaneLoopback (e : Nat) : Key := ⟨0xC010, 3, e⟩
/-- 0xC010:04 `test.lane.tx_pads`. -/
abbrev Obj.testLaneTxPads (e : Nat) : Key := ⟨0xC010, 4, e⟩
/-- 0xC010:05 `test.lane.gen`. -/
abbrev Obj.testLaneGen (e : Nat) : Key := ⟨0xC010, 5, e⟩
/-- 0xC010:06 `test.lane.user`. -/
abbrev Obj.testLaneUser (e : Nat) : Key := ⟨0xC010, 6, e⟩
/-- 0xC010:07 `test.lane.rate`. -/
abbrev Obj.testLaneRate (e : Nat) : Key := ⟨0xC010, 7, e⟩
/-- 0xC010:08 `test.lane.inject`. -/
abbrev Obj.testLaneInject (e : Nat) : Key := ⟨0xC010, 8, e⟩
/-- 0xC010:09 `test.lane.chk`. -/
abbrev Obj.testLaneChk (e : Nat) : Key := ⟨0xC010, 9, e⟩
/-- 0xC010:0A `test.lane.chk_status`. -/
abbrev Obj.testLaneChkStatus (e : Nat) : Key := ⟨0xC010, 10, e⟩
/-- 0xC010:0B `test.lane.bits`. -/
abbrev Obj.testLaneBits (e : Nat) : Key := ⟨0xC010, 11, e⟩
/-- 0xC010:0C `test.lane.errors`. -/
abbrev Obj.testLaneErrors (e : Nat) : Key := ⟨0xC010, 12, e⟩
/-- 0xC010:0D `test.lane.injected`. -/
abbrev Obj.testLaneInjected (e : Nat) : Key := ⟨0xC010, 13, e⟩
/-- 0xC020:01 `test.pert.window`. -/
abbrev Obj.testPertWindow : Key := ⟨0xC020, 1, 0⟩
/-- 0xC020:03 `test.pert.kind`. -/
abbrev Obj.testPertKind (e : Nat) : Key := ⟨0xC020, 3, e⟩
/-- 0xC020:04 `test.pert.target`. -/
abbrev Obj.testPertTarget (e : Nat) : Key := ⟨0xC020, 4, e⟩
/-- 0xC020:05 `test.pert.class_mask`. -/
abbrev Obj.testPertClassMask (e : Nat) : Key := ⟨0xC020, 5, e⟩
/-- 0xC020:06 `test.pert.p1`. -/
abbrev Obj.testPertP1 (e : Nat) : Key := ⟨0xC020, 6, e⟩
/-- 0xC020:07 `test.pert.p2`. -/
abbrev Obj.testPertP2 (e : Nat) : Key := ⟨0xC020, 7, e⟩
/-- 0xC020:08 `test.pert.repeat`. -/
abbrev Obj.testPertRepeat (e : Nat) : Key := ⟨0xC020, 8, e⟩
/-- 0xC020:09 `test.pert.arm`. -/
abbrev Obj.testPertArm (e : Nat) : Key := ⟨0xC020, 9, e⟩
/-- 0xC020:0A `test.pert.fired`. -/
abbrev Obj.testPertFired (e : Nat) : Key := ⟨0xC020, 10, e⟩

end Sys2Proof.Machine
end

