-- ==== Sys2Proof/Machine/Objects.lean ====
section
/-!
DEFINITION. Sys2Proof/Machine/Objects.lean: the object tables of the manual as data: every record and array of the
dictionary with, for each subindex, its type, access code, default, commit class, persistence class and range.
-/
namespace Sys2Proof.Machine

/-- Types of dictionary objects (03, "Types"). -/
inductive ObjType where
  | bool | u8 | u16 | u32 | u64 | i32 | fx32 | time64 | str | blob
  deriving DecidableEq, Repr

/-- Type codes on the wire. -/
def ObjType.code : ObjType → Nat
  | .bool => 1 | .u8 => 2 | .u16 => 3 | .u32 => 4 | .u64 => 5 | .i32 => 6 | .fx32 => 7 | .time64 => 8 | .str => 9
  | .blob => 10

/-- Wire length in bytes of a fixed-width type; 0 for STR and BLOB. -/
def ObjType.width : ObjType → Nat
  | .bool => 1 | .u8 => 1 | .u16 => 2 | .u32 => 4 | .u64 => 8 | .i32 => 4 | .fx32 => 4 | .time64 => 8 | .str => 0
  | .blob => 0

/-- Access codes (R49), in the order of the DESCRIBE codes (R404). -/
inductive Access where
  | ro | rw | wo | w1c | rwl | const
  deriving DecidableEq, Repr

/-- DESCRIBE codes of the access codes (R404). -/
def Access.code : Access → Nat
  | .ro => 0 | .rw => 1 | .wo => 2 | .w1c => 3 | .rwl => 4 | .const => 5

/-- Commit classes (R58 to R60). -/
inductive CommitClass where
  | live | staged | reset | none
  deriving DecidableEq, Repr

/-- DESCRIBE codes of the commit classes (R404). -/
def CommitClass.code : CommitClass → Nat
  | .live => 0 | .staged => 1 | .reset => 2 | .none => 3

/-- Persistence classes (R55). -/
inductive Persist where
  | constant | stored | volatile | otp | pa
  deriving DecidableEq, Repr

/-- DESCRIBE codes of the persistence classes (R404). -/
def Persist.code : Persist → Nat
  | .constant => 0 | .stored => 1 | .volatile => 2 | .otp => 3 | .pa => 4

/-- What a value of an object may be (the Meaning column). -/
inductive Range where
  | any
  | bool
  | between (lo hi : Nat)
  /-- 0, or between the bounds -/
  | zeroOr (lo hi : Nat)
  /-- up to a bound, or the value that means none -/
  | orNone (hi none : Nat)
  | oneOf (l : List Nat)
  /-- reserved bits outside the mask are ignored (R6) -/
  | masked (m : Nat)
  /-- fields as offset, width, lowest and highest value; bits outside every field are ignored (R7) -/
  | fields (l : List (Nat × Nat × Nat × Nat))
  /-- a multiple -/
  | aligned (n : Nat)
  /-- two's complement, from minus the first bound to the second -/
  | signed (neg hi : Nat)
  /-- a value above the upper bound is clamped (R54) -/
  | clampHi (lo hi : Nat)
  /-- a value below the lower bound is clamped (R54) -/
  | clampLo (lo hi : Nat)
  /-- checked by a rule of its own -/
  | custom (n : Nat)
  /-- a BLOB of exactly that many bytes -/
  | exactly (n : Nat)
  /-- a BLOB of at most that many bytes -/
  | upTo (n : Nat)
  deriving DecidableEq, Repr

/-- A subindex of a record or an array. -/
structure ObjRow where
  sub : Nat
  ty : ObjType
  access : Access
  dflt : Val
  cls : CommitClass
  persist : Persist
  range : Range
  /-- one value per session (R47, R52) -/
  isLocal : Bool
  deriving DecidableEq, Repr

/-- A record at `base` and the following `count` - 1 indices; `entries` is 0 for a record, else the array's entries. -/
structure ObjRec where
  base : Nat
  count : Nat
  entries : Nat
  rows : List ObjRow
  deriving DecidableEq, Repr

/-- The UTF-8 bytes of an ASCII text. -/
def utf8 (t : String) : List Byte := t.toList.map (fun c => BitVec.ofNat 8 c.toNat)

/-- A run of zero bytes. -/
def zeros (n : Nat) : List Byte := List.replicate n 0

/-- Record 0x1000, `id`. -/
def rec1000 : ObjRec := ⟨0x1000, 1, 0, [
  ⟨0, .u8, .const, .num 3, .none, .constant, .any, false⟩,
  ⟨1, .str, .const, .bytes (utf8 "PZX-AF256-FC"), .none, .constant, .any, false⟩,
  ⟨2, .u8, .const, .num 177, .none, .constant, .any, false⟩,
  ⟨3, .str, .const, .bytes (utf8 "Palzetex"), .none, .constant, .any, false⟩]⟩

/-- Record 0x1001, `ver`. -/
def rec1001 : ObjRec := ⟨0x1001, 1, 0, [
  ⟨0, .u8, .const, .num 5, .none, .constant, .any, false⟩,
  ⟨1, .u32, .const, .num 0, .none, .constant, .any, false⟩,
  ⟨2, .u32, .const, .num 0, .none, .constant, .any, false⟩,
  ⟨3, .u32, .ro, .num 0, .none, .volatile, .any, false⟩,
  ⟨4, .u32, .const, .num 0, .none, .constant, .any, false⟩,
  ⟨5, .blob, .ro, .bytes (zeros 64), .none, .volatile, .any, false⟩]⟩

/-- Record 0x1010, `boot.strap`. -/
def rec1010 : ObjRec := ⟨0x1010, 1, 0, [
  ⟨0, .u8, .const, .num 1, .none, .constant, .any, false⟩,
  ⟨1, .u16, .ro, .num 0, .none, .pa, .any, false⟩]⟩

/-- Record 0x1020, `boot`. -/
def rec1020 : ObjRec := ⟨0x1020, 1, 0, [
  ⟨0, .u8, .const, .num 8, .none, .constant, .any, false⟩,
  ⟨1, .u8, .ro, .num 0, .none, .pa, .any, false⟩,
  ⟨2, .u8, .rwl, .num 3, .live, .pa, .between 1 7, false⟩,
  ⟨3, .u8, .wo, .num 0, .live, .volatile, .between 1 1, false⟩,
  ⟨4, .bool, .ro, .num 0, .none, .volatile, .any, false⟩,
  ⟨5, .u8, .ro, .num 0, .none, .volatile, .any, false⟩,
  ⟨6, .u8, .wo, .num 0, .live, .volatile, .between 1 1, false⟩,
  ⟨7, .u8, .ro, .num 0, .none, .pa, .any, false⟩,
  ⟨8, .time64, .ro, .num 0, .none, .volatile, .any, false⟩]⟩

/-- Record 0x1030, `boot.crocus`. -/
def rec1030 : ObjRec := ⟨0x1030, 1, 0, [
  ⟨0, .u8, .const, .num 6, .none, .constant, .any, false⟩,
  ⟨1, .bool, .ro, .num 0, .none, .volatile, .any, false⟩,
  ⟨2, .u8, .ro, .num 0, .none, .volatile, .any, false⟩,
  ⟨3, .u8, .ro, .num 2, .none, .volatile, .any, false⟩,
  ⟨4, .u64, .ro, .num 0, .none, .pa, .any, false⟩,
  ⟨5, .u8, .wo, .num 0, .live, .pa, .between 1 1, false⟩,
  ⟨6, .u8, .wo, .num 0, .live, .volatile, .between 1 2, false⟩]⟩

/-- Record 0x1100, `mgmt.t1s`. -/
def rec1100 : ObjRec := ⟨0x1100, 1, 0, [
  ⟨0, .u8, .const, .num 5, .none, .constant, .any, false⟩,
  ⟨1, .u8, .rw, .num 0, .reset, .stored, .between 0 15, false⟩,
  ⟨2, .u8, .rw, .num 8, .reset, .stored, .between 2 16, false⟩,
  ⟨3, .u64, .const, .num 0, .none, .otp, .any, false⟩,
  ⟨4, .u16, .const, .num 47590, .none, .constant, .any, false⟩,
  ⟨5, .bool, .rwl, .num 1, .reset, .stored, .bool, false⟩]⟩

/-- Record 0x1110, `mgmt.session`. -/
def rec1110 : ObjRec := ⟨0x1110, 1, 0, [
  ⟨0, .u8, .const, .num 5, .none, .constant, .any, false⟩,
  ⟨1, .u8, .const, .num 8, .none, .constant, .any, false⟩,
  ⟨2, .u8, .ro, .num 0, .none, .volatile, .any, false⟩,
  ⟨3, .u32, .rw, .num 300, .live, .volatile, .between 10 86400, false⟩,
  ⟨4, .u8, .ro, .num 0, .none, .volatile, .any, true⟩,
  ⟨5, .u16, .ro, .num 0, .none, .volatile, .any, true⟩]⟩

/-- Record 0x1120, `mgmt.owner`. -/
def rec1120 : ObjRec := ⟨0x1120, 1, 0, [
  ⟨0, .u8, .const, .num 2, .none, .constant, .any, false⟩,
  ⟨1, .blob, .rw, .bytes (zeros 32), .live, .stored, .exactly 32, false⟩,
  ⟨2, .u8, .rwl, .num 0, .reset, .stored, .between 0 63, false⟩]⟩

/-- Record 0x1121, `mgmt.observer`. -/
def rec1121 : ObjRec := ⟨0x1121, 1, 8, [
  ⟨0, .u8, .const, .num 3, .none, .constant, .any, false⟩,
  ⟨1, .u32, .rw, .num 0, .live, .volatile, .between 0 7, true⟩,
  ⟨2, .u32, .const, .num 8, .none, .constant, .any, false⟩,
  ⟨3, .blob, .rw, .bytes (zeros 32), .live, .stored, .exactly 32, false⟩]⟩

/-- Record 0x1130, `mgmt.notify`. -/
def rec1130 : ObjRec := ⟨0x1130, 1, 0, [
  ⟨0, .u8, .const, .num 2, .none, .constant, .any, false⟩,
  ⟨1, .u32, .rw, .num 0, .live, .volatile, .masked 0xFF, true⟩,
  ⟨2, .u32, .ro, .num 0, .none, .volatile, .any, true⟩]⟩

/-- Record 0x1F00, `cfg`. -/
def rec1F00 : ObjRec := ⟨0x1F00, 1, 0, [
  ⟨0, .u8, .const, .num 11, .none, .constant, .any, false⟩,
  ⟨1, .u8, .wo, .num 0, .live, .volatile, .between 1 3, false⟩,
  ⟨2, .u16, .ro, .num 0, .none, .volatile, .any, true⟩,
  ⟨3, .u16, .ro, .num 0, .none, .volatile, .any, true⟩,
  ⟨4, .u32, .ro, .num 0, .none, .volatile, .any, true⟩,
  ⟨5, .u32, .ro, .num 4294967295, .none, .volatile, .any, true⟩,
  ⟨6, .u32, .ro, .num 1, .none, .stored, .any, false⟩,
  ⟨7, .u8, .rw, .num 0, .live, .pa, .between 0 1, false⟩,
  ⟨8, .u32, .rw, .num 0, .live, .volatile, .any, true⟩,
  ⟨9, .u16, .const, .num 4096, .none, .constant, .any, false⟩,
  ⟨10, .time64, .ro, .num 0, .none, .volatile, .any, false⟩,
  ⟨11, .u32, .ro, .num 0, .none, .volatile, .any, false⟩]⟩

/-- Record 0x2000, `port`. -/
def rec2000 : ObjRec := ⟨0x2000, 128, 0, [
  ⟨0, .u8, .const, .num 14, .none, .constant, .any, false⟩,
  ⟨1, .bool, .rw, .num 0, .staged, .stored, .bool, false⟩,
  ⟨2, .u8, .rw, .num 0, .staged, .stored, .between 0 2, false⟩,
  ⟨3, .u8, .rw, .num 0, .staged, .stored, .between 0 63, false⟩,
  ⟨4, .u8, .rw, .num 7, .staged, .stored, .between 1 7, false⟩,
  ⟨5, .u8, .rw, .num 16, .staged, .stored, .oneOf [1, 2, 4, 8, 16], false⟩,
  ⟨6, .u8, .rw, .num 0, .staged, .stored, .between 0 2, false⟩,
  ⟨7, .u8, .rw, .num 0, .staged, .stored, .between 0 1, false⟩,
  ⟨8, .u8, .rw, .num 15, .staged, .stored, .masked 0xF, false⟩,
  ⟨9, .u8, .rw, .num 3, .staged, .stored, .masked 0x3, false⟩,
  ⟨10, .u8, .rw, .num 0, .staged, .stored, .between 0 1, false⟩,
  ⟨11, .u8, .rw, .num 255, .staged, .stored, .orNone 31 0xFF, false⟩,
  ⟨12, .u8, .rw, .num 0, .staged, .stored, .any, false⟩,
  ⟨13, .u8, .rw, .num 0, .staged, .stored, .between 0 1, false⟩,
  ⟨14, .u8, .wo, .num 0, .live, .volatile, .between 1 3, false⟩]⟩

/-- Record 0x2080, `sta`. -/
def rec2080 : ObjRec := ⟨0x2080, 16, 0, [
  ⟨0, .u8, .const, .num 4, .none, .constant, .any, false⟩,
  ⟨1, .u8, .rw, .num 0, .staged, .stored, .between 0 7, false⟩,
  ⟨2, .u8, .ro, .num 0, .none, .volatile, .any, false⟩,
  ⟨3, .u8, .ro, .num 0, .none, .volatile, .any, false⟩,
  ⟨4, .u8, .ro, .num 0, .none, .volatile, .any, false⟩]⟩

/-- Record 0x2100, `pst`. -/
def rec2100 : ObjRec := ⟨0x2100, 128, 0, [
  ⟨0, .u8, .const, .num 12, .none, .constant, .any, false⟩,
  ⟨1, .u8, .ro, .num 0, .none, .volatile, .any, false⟩,
  ⟨2, .u8, .ro, .num 0, .none, .volatile, .any, false⟩,
  ⟨3, .u8, .ro, .num 0, .none, .volatile, .any, false⟩,
  ⟨4, .bool, .ro, .num 0, .none, .volatile, .any, false⟩,
  ⟨5, .u8, .ro, .num 0, .none, .volatile, .any, false⟩,
  ⟨6, .u8, .ro, .num 0, .none, .volatile, .any, false⟩,
  ⟨7, .u16, .ro, .num 0, .none, .volatile, .any, false⟩,
  ⟨8, .u32, .ro, .num 0, .none, .volatile, .any, false⟩,
  ⟨9, .u32, .ro, .num 0, .none, .volatile, .any, false⟩,
  ⟨10, .u32, .ro, .num 0, .none, .volatile, .any, false⟩,
  ⟨11, .u8, .ro, .num 0, .none, .volatile, .any, false⟩,
  ⟨12, .u8, .ro, .num 0, .none, .volatile, .any, false⟩]⟩

/-- Record 0x2200, `lane`. -/
def rec2200 : ObjRec := ⟨0x2200, 256, 0, [
  ⟨0, .u8, .const, .num 19, .none, .constant, .any, false⟩,
  ⟨1, .u8, .ro, .num 0, .none, .volatile, .any, false⟩,
  ⟨2, .u32, .ro, .num 0, .none, .volatile, .any, false⟩,
  ⟨3, .u8, .rw, .num 2, .staged, .stored, .custom 1, false⟩,
  ⟨4, .u32, .ro, .num 0, .none, .volatile, .any, false⟩,
  ⟨5, .u32, .ro, .num 0, .none, .volatile, .any, false⟩,
  ⟨6, .u32, .rw, .num 1048575, .staged, .stored, .custom 2, false⟩,
  ⟨7, .u32, .ro, .num 0, .none, .volatile, .any, false⟩,
  ⟨8, .u32, .ro, .num 0, .none, .volatile, .any, false⟩,
  ⟨9, .u8, .wo, .num 0, .live, .volatile, .oneOf [1, 2, 3, 0x82, 0x83], false⟩,
  ⟨10, .u8, .ro, .num 0, .none, .volatile, .any, false⟩,
  ⟨11, .u16, .ro, .num 0, .none, .volatile, .any, false⟩,
  ⟨12, .u16, .rw, .num 100, .staged, .stored, .between 10 10000, false⟩,
  ⟨13, .time64, .ro, .num 0, .none, .volatile, .any, false⟩,
  ⟨14, .u32, .ro, .num 0, .none, .volatile, .any, false⟩,
  ⟨15, .u32, .ro, .num 0, .none, .volatile, .any, false⟩,
  ⟨16, .u16, .ro, .num 0, .none, .volatile, .any, false⟩,
  ⟨17, .u16, .ro, .num 0, .none, .volatile, .any, false⟩,
  ⟨18, .time64, .ro, .num 0, .none, .volatile, .any, false⟩,
  ⟨19, .u8, .rw, .num 3, .staged, .stored, .masked 0x3, false⟩]⟩

/-- Record 0x2300, `cxl`. -/
def rec2300 : ObjRec := ⟨0x2300, 1, 0, [
  ⟨0, .u8, .const, .num 2, .none, .constant, .any, false⟩,
  ⟨1, .u16, .const, .num 256, .none, .constant, .any, false⟩,
  ⟨2, .u16, .ro, .num 0, .none, .volatile, .any, false⟩]⟩

/-- Record 0x2301, `cxl.ld`. -/
def rec2301 : ObjRec := ⟨0x2301, 1, 256, [
  ⟨0, .u8, .const, .num 7, .none, .constant, .any, false⟩,
  ⟨1, .u32, .rw, .num 0, .live, .volatile, .between 0 255, true⟩,
  ⟨2, .u32, .const, .num 256, .none, .constant, .any, false⟩,
  ⟨3, .u8, .ro, .num 255, .none, .volatile, .any, false⟩,
  ⟨4, .u8, .ro, .num 0, .none, .volatile, .any, false⟩,
  ⟨5, .u8, .rw, .num 255, .staged, .stored, .orNone 63 0xFF, false⟩,
  ⟨6, .u8, .rw, .num 248, .staged, .stored, .any, false⟩,
  ⟨7, .u8, .ro, .num 0, .none, .volatile, .any, false⟩]⟩

/-- Record 0x3000, `vs`. -/
def rec3000 : ObjRec := ⟨0x3000, 64, 0, [
  ⟨0, .u8, .const, .num 7, .none, .constant, .any, false⟩,
  ⟨1, .bool, .rw, .num 0, .staged, .stored, .bool, false⟩,
  ⟨2, .u8, .ro, .num 0, .none, .volatile, .any, false⟩,
  ⟨3, .u64, .ro, .num 0, .none, .volatile, .any, false⟩,
  ⟨4, .u64, .ro, .num 0, .none, .volatile, .any, false⟩,
  ⟨5, .u8, .ro, .num 0, .none, .volatile, .any, false⟩,
  ⟨6, .u32, .rw, .num 0, .staged, .stored, .any, false⟩,
  ⟨7, .bool, .ro, .num 0, .none, .volatile, .any, false⟩]⟩

/-- Record 0x3100, `fabric`. -/
def rec3100 : ObjRec := ⟨0x3100, 1, 0, [
  ⟨0, .u8, .const, .num 2, .none, .constant, .any, false⟩,
  ⟨1, .u8, .rwl, .num 0, .staged, .stored, .between 0 1, false⟩,
  ⟨2, .u8, .ro, .num 0, .none, .volatile, .any, false⟩]⟩

/-- Record 0x3101, `fabric.ctl`. -/
def rec3101 : ObjRec := ⟨0x3101, 1, 0, [
  ⟨0, .u8, .const, .num 8, .none, .constant, .any, false⟩,
  ⟨1, .u32, .rw, .num 10000, .staged, .stored, .between 100 100000, false⟩,
  ⟨2, .u32, .ro, .num 0, .none, .volatile, .any, false⟩,
  ⟨3, .u32, .ro, .num 0, .none, .volatile, .any, false⟩,
  ⟨4, .u64, .ro, .num 0, .none, .volatile, .any, false⟩,
  ⟨5, .u64, .ro, .num 0, .none, .volatile, .any, false⟩,
  ⟨6, .u64, .ro, .num 0, .none, .volatile, .any, false⟩,
  ⟨7, .u64, .ro, .num 0, .none, .volatile, .any, false⟩,
  ⟨8, .u16, .ro, .num 0, .none, .volatile, .any, false⟩]⟩

/-- Record 0x3102, `fabric.cfgreq`. -/
def rec3102 : ObjRec := ⟨0x3102, 1, 0, [
  ⟨0, .u8, .const, .num 6, .none, .constant, .any, false⟩,
  ⟨1, .u16, .rw, .num 0, .live, .volatile, .any, true⟩,
  ⟨2, .u16, .rw, .num 0, .live, .volatile, .between 0 4092, true⟩,
  ⟨3, .u8, .rw, .num 4, .live, .volatile, .oneOf [1, 2, 4], true⟩,
  ⟨4, .u32, .rw, .num 0, .live, .volatile, .any, true⟩,
  ⟨5, .u8, .wo, .num 0, .live, .volatile, .between 1 2, false⟩,
  ⟨6, .u8, .ro, .num 0, .none, .volatile, .any, true⟩]⟩

/-- Record 0x3110, `fhost`. -/
def rec3110 : ObjRec := ⟨0x3110, 64, 0, [
  ⟨0, .u8, .const, .num 7, .none, .constant, .any, false⟩,
  ⟨1, .bool, .rw, .num 0, .staged, .stored, .bool, false⟩,
  ⟨2, .u8, .ro, .num 255, .none, .volatile, .any, false⟩,
  ⟨3, .u8, .ro, .num 0, .none, .volatile, .any, false⟩,
  ⟨4, .u16, .ro, .num 0, .none, .volatile, .any, false⟩,
  ⟨5, .u32, .rw, .num 0, .staged, .stored, .any, false⟩,
  ⟨6, .bool, .ro, .num 0, .none, .volatile, .any, false⟩,
  ⟨7, .u8, .ro, .num 0, .none, .volatile, .any, false⟩]⟩

/-- Record 0x3180, `bind`. -/
def rec3180 : ObjRec := ⟨0x3180, 1, 8192, [
  ⟨0, .u8, .const, .num 12, .none, .constant, .any, false⟩,
  ⟨1, .u32, .rw, .num 0, .live, .volatile, .between 0 8191, true⟩,
  ⟨2, .u32, .const, .num 8192, .none, .constant, .any, false⟩,
  ⟨3, .u16, .rw, .num 0, .staged, .stored, .any, false⟩,
  ⟨4, .u8, .rw, .num 255, .staged, .stored, .orNone 63 0xFF, false⟩,
  ⟨5, .u8, .rw, .num 0, .staged, .stored, .any, false⟩,
  ⟨6, .u8, .rw, .num 0, .staged, .stored, .between 0 7, false⟩,
  ⟨7, .u8, .ro, .num 0, .none, .volatile, .any, false⟩,
  ⟨8, .u16, .rw, .num 65535, .staged, .stored, .orNone 8191 0xFFFF, false⟩,
  ⟨9, .u8, .ro, .num 0, .none, .volatile, .any, false⟩,
  ⟨10, .u8, .ro, .num 0, .none, .volatile, .any, false⟩,
  ⟨11, .u16, .ro, .num 0, .none, .volatile, .any, false⟩,
  ⟨12, .u8, .ro, .num 0, .none, .volatile, .any, false⟩]⟩

/-- Record 0x3181, `fport`. -/
def rec3181 : ObjRec := ⟨0x3181, 1, 128, [
  ⟨0, .u8, .const, .num 6, .none, .constant, .any, false⟩,
  ⟨1, .u32, .rw, .num 0, .live, .volatile, .between 0 127, true⟩,
  ⟨2, .u32, .const, .num 128, .none, .constant, .any, false⟩,
  ⟨3, .u8, .rw, .num 0, .staged, .stored, .any, false⟩,
  ⟨4, .u8, .rw, .num 0, .staged, .stored, .between 0 32, false⟩,
  ⟨5, .bool, .rw, .num 0, .live, .volatile, .bool, false⟩,
  ⟨6, .u16, .ro, .num 0, .none, .volatile, .any, false⟩]⟩

/-- Record 0x3200, `gam`. -/
def rec3200 : ObjRec := ⟨0x3200, 1, 16384, [
  ⟨0, .u8, .const, .num 13, .none, .constant, .any, false⟩,
  ⟨1, .u32, .rw, .num 0, .live, .volatile, .between 0 16383, true⟩,
  ⟨2, .u32, .const, .num 16384, .none, .constant, .any, false⟩,
  ⟨3, .u8, .ro, .num 0, .none, .volatile, .any, false⟩,
  ⟨4, .u8, .ro, .num 255, .none, .volatile, .any, false⟩,
  ⟨5, .u64, .ro, .num 0, .none, .volatile, .any, false⟩,
  ⟨6, .u64, .ro, .num 0, .none, .volatile, .any, false⟩,
  ⟨7, .u16, .ro, .num 65535, .none, .volatile, .any, false⟩,
  ⟨8, .u8, .ro, .num 0, .none, .volatile, .any, false⟩,
  ⟨9, .u64, .ro, .num 0, .none, .volatile, .any, false⟩,
  ⟨10, .u16, .ro, .num 65535, .none, .volatile, .any, false⟩,
  ⟨11, .u16, .ro, .num 65535, .none, .volatile, .any, false⟩,
  ⟨12, .u8, .ro, .num 0, .none, .volatile, .any, false⟩,
  ⟨13, .bool, .ro, .num 0, .none, .volatile, .any, false⟩]⟩

/-- Record 0x3300, `grant`. -/
def rec3300 : ObjRec := ⟨0x3300, 1, 4096, [
  ⟨0, .u8, .const, .num 12, .none, .constant, .any, false⟩,
  ⟨1, .u32, .rw, .num 0, .live, .volatile, .between 0 4095, true⟩,
  ⟨2, .u32, .const, .num 4096, .none, .constant, .any, false⟩,
  ⟨3, .u8, .rw, .num 0, .staged, .stored, .any, false⟩,
  ⟨4, .u16, .rw, .num 65535, .staged, .stored, .orNone 8191 0xFFFF, false⟩,
  ⟨5, .u8, .rw, .num 0, .staged, .stored, .any, false⟩,
  ⟨6, .u16, .rw, .num 65535, .staged, .stored, .orNone 8191 0xFFFF, false⟩,
  ⟨7, .u8, .rw, .num 0, .staged, .stored, .between 0 5, false⟩,
  ⟨8, .u64, .rw, .num 0, .staged, .stored, .aligned 4096, false⟩,
  ⟨9, .u64, .rw, .num 0, .staged, .stored, .custom 5, false⟩,
  ⟨10, .u64, .rw, .num 0, .staged, .stored, .aligned 4096, false⟩,
  ⟨11, .u8, .rw, .num 0, .staged, .stored, .masked 0x7, false⟩,
  ⟨12, .u8, .ro, .num 0, .none, .volatile, .any, false⟩]⟩

/-- Record 0x3380, `pair`. -/
def rec3380 : ObjRec := ⟨0x3380, 1, 0, [
  ⟨0, .u8, .const, .num 10, .none, .constant, .any, false⟩,
  ⟨1, .bool, .rw, .num 0, .staged, .stored, .bool, false⟩,
  ⟨2, .blob, .rwl, .bytes (zeros 32), .staged, .stored, .exactly 32, false⟩,
  ⟨3, .u8, .ro, .num 0, .none, .volatile, .any, false⟩,
  ⟨4, .u8, .ro, .num 0, .none, .volatile, .any, false⟩,
  ⟨5, .u32, .ro, .num 0, .none, .stored, .any, false⟩,
  ⟨6, .u16, .rw, .num 10, .staged, .stored, .between 1 1000, false⟩,
  ⟨7, .u16, .ro, .num 0, .none, .volatile, .any, false⟩,
  ⟨8, .i32, .ro, .num 0, .none, .volatile, .any, false⟩,
  ⟨9, .u8, .ro, .num 0, .none, .volatile, .any, false⟩,
  ⟨10, .u32, .ro, .num 0, .none, .pa, .any, false⟩]⟩

/-- Record 0x3400, `bfl`. -/
def rec3400 : ObjRec := ⟨0x3400, 16, 0, [
  ⟨0, .u8, .const, .num 21, .none, .constant, .any, false⟩,
  ⟨1, .u8, .rw, .num 255, .staged, .stored, .orNone 127 0xFF, false⟩,
  ⟨2, .u8, .ro, .num 0, .none, .volatile, .any, false⟩,
  ⟨3, .u8, .ro, .num 0, .none, .volatile, .any, false⟩,
  ⟨4, .u8, .ro, .num 0, .none, .volatile, .any, false⟩,
  ⟨5, .u8, .rw, .num 4, .staged, .stored, .between 1 15, false⟩,
  ⟨6, .u16, .rw, .num 1000, .staged, .stored, .between 200 20000, false⟩,
  ⟨7, .u8, .ro, .num 0, .none, .volatile, .any, false⟩,
  ⟨8, .u16, .ro, .num 0, .none, .volatile, .any, false⟩,
  ⟨9, .u32, .ro, .num 0, .none, .volatile, .any, false⟩,
  ⟨10, .u8, .wo, .num 0, .live, .volatile, .oneOf [1, 0x81, 2], false⟩,
  ⟨11, .u8, .rw, .num 255, .live, .volatile, .orNone 15 0xFF, false⟩,
  ⟨12, .u32, .ro, .num 0, .none, .volatile, .any, false⟩,
  ⟨13, .u32, .ro, .num 0, .none, .volatile, .any, false⟩,
  ⟨14, .u64, .ro, .num 0, .none, .volatile, .any, false⟩,
  ⟨15, .u32, .ro, .num 0, .none, .volatile, .any, false⟩,
  ⟨16, .u32, .ro, .num 0, .none, .volatile, .any, false⟩,
  ⟨17, .u64, .ro, .num 0, .none, .volatile, .any, false⟩,
  ⟨18, .u64, .ro, .num 0, .none, .volatile, .any, false⟩,
  ⟨19, .u64, .ro, .num 0, .none, .volatile, .any, false⟩,
  ⟨20, .u32, .ro, .num 0, .none, .volatile, .any, false⟩,
  ⟨21, .u16, .ro, .num 0, .none, .volatile, .any, false⟩]⟩

/-- Record 0x4000, `sched`. -/
def rec4000 : ObjRec := ⟨0x4000, 1, 0, [
  ⟨0, .u8, .const, .num 4, .none, .constant, .any, false⟩,
  ⟨1, .u8, .rw, .num 2, .staged, .stored, .between 1 10, false⟩,
  ⟨2, .u32, .rw, .num 8192, .staged, .stored, .between 4224 65536, false⟩,
  ⟨3, .u8, .rw, .num 90, .staged, .stored, .between 50 100, false⟩,
  ⟨4, .u16, .const, .num 4224, .none, .constant, .any, false⟩]⟩

/-- Record 0x4010, `sched.port`. -/
def rec4010 : ObjRec := ⟨0x4010, 128, 0, [
  ⟨0, .u8, .const, .num 11, .none, .constant, .any, false⟩,
  ⟨1, .u32, .rw, .num 2396745, .staged, .stored, .fields [(0, 3, 0, 6), (3, 3, 0, 6), (6, 3, 0, 6), (9, 3, 0, 6), (12, 3, 0, 6), (15, 3, 0, 6), (18, 3, 0, 6), (21, 3, 0, 6)], false⟩,
  ⟨2, .i32, .rw, .num 0, .staged, .stored, .signed 64 255, false⟩,
  ⟨3, .u16, .rw, .num 65535, .staged, .stored, .orNone 16383 0xFFFF, false⟩,
  ⟨4, .u8, .rw, .num 63, .staged, .stored, .masked 0x7F, false⟩,
  ⟨5, .u16, .rw, .num 0, .staged, .stored, .fields [(0, 2, 0, 2), (2, 2, 0, 2), (4, 2, 0, 2), (6, 2, 0, 2), (8, 2, 0, 2), (10, 2, 0, 2), (12, 2, 0, 2), (14, 2, 0, 2)], false⟩,
  ⟨6, .u16, .rw, .num 65535, .staged, .stored, .orNone 8191 0xFFFF, false⟩,
  ⟨7, .u64, .rw, .num 9016003946094593, .staged, .stored, .fields [(0, 10, 1, 1000), (10, 10, 1, 1000), (20, 10, 1, 1000), (30, 10, 1, 1000), (40, 10, 1, 1000), (50, 10, 1, 1000)], false⟩,
  ⟨8, .u32, .ro, .num 0, .none, .volatile, .any, false⟩,
  ⟨9, .u16, .ro, .num 0, .none, .volatile, .any, false⟩,
  ⟨10, .u64, .ro, .num 0, .none, .volatile, .any, false⟩,
  ⟨11, .u64, .ro, .num 0, .none, .volatile, .any, false⟩]⟩

/-- Record 0x40A0, `sched.node`. -/
def rec40A0 : ObjRec := ⟨0x40A0, 1, 8192, [
  ⟨0, .u8, .const, .num 6, .none, .constant, .any, false⟩,
  ⟨1, .u32, .rw, .num 0, .live, .volatile, .between 0 8191, true⟩,
  ⟨2, .u32, .const, .num 8192, .none, .constant, .any, false⟩,
  ⟨3, .u16, .rw, .num 10, .staged, .stored, .between 1 1000, false⟩,
  ⟨4, .u16, .rw, .num 65535, .staged, .stored, .orNone 8191 0xFFFF, false⟩,
  ⟨5, .u32, .ro, .num 0, .none, .volatile, .any, false⟩,
  ⟨6, .u64, .ro, .num 0, .none, .volatile, .any, false⟩]⟩

/-- Record 0x4100, `meter`. -/
def rec4100 : ObjRec := ⟨0x4100, 1, 16384, [
  ⟨0, .u8, .const, .num 11, .none, .constant, .any, false⟩,
  ⟨1, .u32, .rw, .num 0, .live, .volatile, .between 0 16383, true⟩,
  ⟨2, .u32, .const, .num 16384, .none, .constant, .any, false⟩,
  ⟨3, .u32, .rw, .num 0, .staged, .stored, .zeroOr 1000 2048000000, false⟩,
  ⟨4, .u32, .rw, .num 65536, .staged, .stored, .between 4224 67108864, false⟩,
  ⟨5, .u32, .rw, .num 0, .staged, .stored, .zeroOr 1000 2048000000, false⟩,
  ⟨6, .u32, .rw, .num 131072, .staged, .stored, .between 4224 67108864, false⟩,
  ⟨7, .u8, .rw, .num 0, .staged, .stored, .between 0 2, false⟩,
  ⟨8, .u8, .rw, .num 0, .staged, .stored, .between 0 1, false⟩,
  ⟨9, .u64, .ro, .num 0, .none, .volatile, .any, false⟩,
  ⟨10, .u64, .ro, .num 0, .none, .volatile, .any, false⟩,
  ⟨11, .u64, .ro, .num 0, .none, .volatile, .any, false⟩]⟩

/-- Record 0x4101, `meter`. -/
def rec4101 : ObjRec := ⟨0x4101, 1, 16384, [
  ⟨0, .u8, .const, .num 11, .none, .constant, .any, false⟩,
  ⟨1, .u32, .rw, .num 0, .live, .volatile, .between 0 16383, true⟩,
  ⟨2, .u32, .const, .num 16384, .none, .constant, .any, false⟩,
  ⟨3, .u32, .rw, .num 0, .staged, .stored, .zeroOr 1000 2048000000, false⟩,
  ⟨4, .u32, .rw, .num 65536, .staged, .stored, .between 4224 67108864, false⟩,
  ⟨5, .u32, .rw, .num 0, .staged, .stored, .zeroOr 1000 2048000000, false⟩,
  ⟨6, .u32, .rw, .num 131072, .staged, .stored, .between 4224 67108864, false⟩,
  ⟨7, .u8, .rw, .num 0, .staged, .stored, .between 0 2, false⟩,
  ⟨8, .u8, .rw, .num 0, .staged, .stored, .between 0 1, false⟩,
  ⟨9, .u64, .ro, .num 0, .none, .volatile, .any, false⟩,
  ⟨10, .u64, .ro, .num 0, .none, .volatile, .any, false⟩,
  ⟨11, .u64, .ro, .num 0, .none, .volatile, .any, false⟩]⟩

/-- Record 0x4200, `shaper`. -/
def rec4200 : ObjRec := ⟨0x4200, 1, 8192, [
  ⟨0, .u8, .const, .num 7, .none, .constant, .any, false⟩,
  ⟨1, .u32, .rw, .num 0, .live, .volatile, .between 0 8191, true⟩,
  ⟨2, .u32, .const, .num 8192, .none, .constant, .any, false⟩,
  ⟨3, .u32, .rw, .num 0, .live, .volatile, .zeroOr 1000 2048000000, false⟩,
  ⟨4, .u32, .rw, .num 16384, .live, .volatile, .between 4224 16777216, false⟩,
  ⟨5, .u8, .rw, .num 0, .live, .volatile, .between 0 1, false⟩,
  ⟨6, .u8, .ro, .num 0, .none, .volatile, .any, false⟩,
  ⟨7, .i32, .ro, .num 16384, .none, .volatile, .any, false⟩]⟩

/-- Record 0x4201, `shaper`. -/
def rec4201 : ObjRec := ⟨0x4201, 1, 8192, [
  ⟨0, .u8, .const, .num 7, .none, .constant, .any, false⟩,
  ⟨1, .u32, .rw, .num 0, .live, .volatile, .between 0 8191, true⟩,
  ⟨2, .u32, .const, .num 8192, .none, .constant, .any, false⟩,
  ⟨3, .u32, .rw, .num 0, .live, .volatile, .zeroOr 1000 2048000000, false⟩,
  ⟨4, .u32, .rw, .num 16384, .live, .volatile, .between 4224 16777216, false⟩,
  ⟨5, .u8, .rw, .num 0, .live, .volatile, .between 0 1, false⟩,
  ⟨6, .u8, .ro, .num 0, .none, .volatile, .any, false⟩,
  ⟨7, .i32, .ro, .num 16384, .none, .volatile, .any, false⟩]⟩

/-- Record 0x4300, `trellis`. -/
def rec4300 : ObjRec := ⟨0x4300, 1, 1024, [
  ⟨0, .u8, .const, .num 13, .none, .constant, .any, false⟩,
  ⟨1, .u32, .rw, .num 0, .live, .volatile, .between 0 1023, true⟩,
  ⟨2, .u32, .const, .num 1024, .none, .constant, .any, false⟩,
  ⟨3, .u8, .rw, .num 255, .staged, .stored, .orNone 127 0xFF, false⟩,
  ⟨4, .u8, .rw, .num 0, .staged, .stored, .between 0 63, false⟩,
  ⟨5, .u8, .rw, .num 255, .staged, .stored, .orNone 127 0xFF, false⟩,
  ⟨6, .u16, .rw, .num 65535, .staged, .stored, .orNone 8191 0xFFFF, false⟩,
  ⟨7, .u32, .rw, .num 0, .staged, .stored, .zeroOr 1000 2048000000, false⟩,
  ⟨8, .u32, .rw, .num 4224, .staged, .stored, .between 4224 16777216, false⟩,
  ⟨9, .u16, .rw, .num 4224, .staged, .stored, .between 64 4224, false⟩,
  ⟨10, .u32, .rw, .num 0, .staged, .stored, .zeroOr 1000 4000000000, false⟩,
  ⟨11, .u32, .ro, .num 0, .none, .volatile, .any, false⟩,
  ⟨12, .u8, .ro, .num 0, .none, .volatile, .any, false⟩,
  ⟨13, .u64, .ro, .num 0, .none, .volatile, .any, false⟩]⟩

/-- Record 0x5000, `core.buf`. -/
def rec5000 : ObjRec := ⟨0x5000, 1, 0, [
  ⟨0, .u8, .const, .num 7, .none, .constant, .any, false⟩,
  ⟨1, .u32, .const, .num 131072, .none, .constant, .any, false⟩,
  ⟨2, .u32, .ro, .num 131072, .none, .volatile, .any, false⟩,
  ⟨3, .u32, .ro, .num 0, .none, .volatile, .any, false⟩,
  ⟨4, .u32, .ro, .num 0, .none, .volatile, .any, false⟩,
  ⟨5, .u32, .ro, .num 0, .none, .volatile, .any, false⟩,
  ⟨6, .u32, .ro, .num 0, .none, .volatile, .any, false⟩,
  ⟨7, .u32, .ro, .num 0, .none, .volatile, .any, false⟩]⟩

/-- Record 0x5001, `core.buf`. -/
def rec5001 : ObjRec := ⟨0x5001, 1, 0, [
  ⟨0, .u8, .const, .num 7, .none, .constant, .any, false⟩,
  ⟨1, .u32, .const, .num 131072, .none, .constant, .any, false⟩,
  ⟨2, .u32, .ro, .num 131072, .none, .volatile, .any, false⟩,
  ⟨3, .u32, .ro, .num 0, .none, .volatile, .any, false⟩,
  ⟨4, .u32, .ro, .num 0, .none, .volatile, .any, false⟩,
  ⟨5, .u32, .ro, .num 0, .none, .volatile, .any, false⟩,
  ⟨6, .u32, .ro, .num 0, .none, .volatile, .any, false⟩,
  ⟨7, .u32, .ro, .num 0, .none, .volatile, .any, false⟩]⟩

/-- Record 0x5010, `core.skim`. -/
def rec5010 : ObjRec := ⟨0x5010, 1, 0, [
  ⟨0, .u8, .const, .num 6, .none, .constant, .any, false⟩,
  ⟨1, .u32, .rw, .num 4096, .staged, .stored, .between 1024 16384, false⟩,
  ⟨2, .bool, .rw, .num 1, .staged, .stored, .bool, false⟩,
  ⟨3, .u8, .rw, .num 63, .staged, .stored, .masked 0x3F, false⟩,
  ⟨4, .u32, .rw, .num 512, .staged, .stored, .between 64 8192, false⟩,
  ⟨5, .u64, .ro, .num 0, .none, .volatile, .any, false⟩,
  ⟨6, .u64, .ro, .num 0, .none, .volatile, .any, false⟩]⟩

/-- Record 0x5020, `core.thresh`. -/
def rec5020 : ObjRec := ⟨0x5020, 1, 0, [
  ⟨0, .u8, .const, .num 3, .none, .constant, .any, false⟩,
  ⟨1, .u32, .rw, .num 2252620866, .staged, .stored, .fields [(0, 4, 0, 8), (4, 4, 0, 8), (8, 4, 0, 8), (12, 4, 0, 8), (16, 4, 0, 8), (20, 4, 0, 8), (24, 4, 0, 8), (28, 4, 0, 8)], false⟩,
  ⟨2, .u32, .rw, .num 512, .staged, .stored, .between 256 2048, false⟩,
  ⟨3, .u32, .rw, .num 0, .staged, .stored, .between 0 16384, false⟩]⟩

/-- Record 0x5030, `core.tally`. -/
def rec5030 : ObjRec := ⟨0x5030, 1, 0, [
  ⟨0, .u8, .const, .num 8, .none, .constant, .any, false⟩,
  ⟨1, .bool, .rw, .num 1, .live, .volatile, .bool, false⟩,
  ⟨2, .u16, .rw, .num 10, .live, .volatile, .between 1 1000, false⟩,
  ⟨3, .u16, .rw, .num 1000, .live, .volatile, .between 10 65535, false⟩,
  ⟨4, .u64, .ro, .num 0, .none, .volatile, .any, false⟩,
  ⟨5, .u64, .ro, .num 0, .none, .volatile, .any, false⟩,
  ⟨6, .u32, .ro, .num 0, .none, .volatile, .any, false⟩,
  ⟨7, .u32, .ro, .num 0, .none, .volatile, .any, false⟩,
  ⟨8, .u64, .ro, .num 0, .none, .volatile, .any, false⟩]⟩

/-- Record 0x5040, `core.ct`. -/
def rec5040 : ObjRec := ⟨0x5040, 1, 0, [
  ⟨0, .u8, .const, .num 7, .none, .constant, .any, false⟩,
  ⟨1, .bool, .rw, .num 1, .staged, .stored, .bool, false⟩,
  ⟨2, .u64, .rw, .num 18446744073709551615, .staged, .stored, .any, false⟩,
  ⟨3, .u64, .rw, .num 18446744073709551615, .staged, .stored, .any, false⟩,
  ⟨4, .u64, .ro, .num 0, .none, .volatile, .any, false⟩,
  ⟨5, .u64, .ro, .num 0, .none, .volatile, .any, false⟩,
  ⟨6, .u64, .ro, .num 0, .none, .volatile, .any, false⟩,
  ⟨7, .u64, .ro, .num 0, .none, .volatile, .any, false⟩]⟩

/-- Record 0x5050, `core.seam`. -/
def rec5050 : ObjRec := ⟨0x5050, 1, 0, [
  ⟨0, .u8, .const, .num 10, .none, .constant, .any, false⟩,
  ⟨1, .u8, .ro, .num 0, .none, .volatile, .any, false⟩,
  ⟨2, .u8, .ro, .num 0, .none, .volatile, .any, false⟩,
  ⟨3, .u8, .ro, .num 0, .none, .volatile, .any, false⟩,
  ⟨4, .u64, .ro, .num 0, .none, .volatile, .any, false⟩,
  ⟨5, .u32, .ro, .num 0, .none, .volatile, .any, false⟩,
  ⟨6, .u8, .rw, .num 3, .staged, .stored, .between 1 8, false⟩,
  ⟨7, .u32, .ro, .num 0, .none, .volatile, .any, false⟩,
  ⟨8, .u32, .ro, .num 0, .none, .volatile, .any, false⟩,
  ⟨9, .i32, .ro, .num 0, .none, .volatile, .any, false⟩,
  ⟨10, .time64, .ro, .num 0, .none, .volatile, .any, false⟩]⟩

/-- Record 0x5060, `core.order`. -/
def rec5060 : ObjRec := ⟨0x5060, 1, 0, [
  ⟨0, .u8, .const, .num 1, .none, .constant, .any, false⟩,
  ⟨1, .bool, .rw, .num 1, .staged, .stored, .bool, false⟩]⟩

/-- Record 0x5100, `harv`. -/
def rec5100 : ObjRec := ⟨0x5100, 1, 0, [
  ⟨0, .u8, .const, .num 7, .none, .constant, .any, false⟩,
  ⟨1, .bool, .rw, .num 0, .live, .volatile, .bool, false⟩,
  ⟨2, .u8, .rw, .num 0, .live, .volatile, .between 0 1, false⟩,
  ⟨3, .u32, .ro, .num 0, .none, .volatile, .any, false⟩,
  ⟨4, .u32, .ro, .num 0, .none, .volatile, .any, false⟩,
  ⟨5, .u8, .rw, .num 0, .live, .volatile, .between 0 1, true⟩,
  ⟨6, .blob, .ro, .bytes [], .none, .volatile, .any, false⟩,
  ⟨7, .u8, .wo, .num 0, .live, .volatile, .between 1 1, false⟩]⟩

/-- Record 0x5110, `harv.filter`. -/
def rec5110 : ObjRec := ⟨0x5110, 1, 64, [
  ⟨0, .u8, .const, .num 12, .none, .constant, .any, false⟩,
  ⟨1, .u32, .rw, .num 0, .live, .volatile, .between 0 63, true⟩,
  ⟨2, .u32, .const, .num 64, .none, .constant, .any, false⟩,
  ⟨3, .u8, .rw, .num 0, .live, .volatile, .between 0 2, false⟩,
  ⟨4, .u8, .rw, .num 255, .live, .volatile, .custom 8, false⟩,
  ⟨5, .u8, .rw, .num 255, .live, .volatile, .orNone 127 0xFF, false⟩,
  ⟨6, .u8, .rw, .num 15, .live, .volatile, .masked 0xF, false⟩,
  ⟨7, .u8, .rw, .num 255, .live, .volatile, .any, false⟩,
  ⟨8, .u8, .rw, .num 7, .live, .volatile, .masked 0x7, false⟩,
  ⟨9, .u8, .rw, .num 255, .live, .volatile, .orNone 63 0xFF, false⟩,
  ⟨10, .blob, .rw, .bytes (zeros 16), .live, .volatile, .exactly 16, false⟩,
  ⟨11, .blob, .rw, .bytes (zeros 16), .live, .volatile, .exactly 16, false⟩,
  ⟨12, .u16, .rw, .num 128, .live, .volatile, .between 32 4224, false⟩]⟩

/-- Record 0x6000, `rme.slice`. -/
def rec6000 : ObjRec := ⟨0x6000, 4096, 0, [
  ⟨0, .u8, .const, .num 24, .none, .constant, .any, false⟩,
  ⟨1, .bool, .rw, .num 0, .staged, .stored, .bool, false⟩,
  ⟨2, .u8, .rw, .num 0, .staged, .stored, .between 0 63, false⟩,
  ⟨3, .u32, .rw, .num 4294967295, .staged, .stored, .orNone 0xFFFFF 0xFFFFFFFF, false⟩,
  ⟨4, .u8, .rw, .num 1, .staged, .stored, .between 0 6, false⟩,
  ⟨5, .bool, .rw, .num 0, .staged, .stored, .bool, false⟩,
  ⟨6, .u64, .rw, .num 0, .staged, .stored, .aligned 64, false⟩,
  ⟨7, .u8, .rw, .num 6, .staged, .stored, .between 4 12, false⟩,
  ⟨8, .u64, .rw, .num 0, .staged, .stored, .aligned 32, false⟩,
  ⟨9, .u16, .rw, .num 0, .staged, .stored, .between 0 2047, false⟩,
  ⟨10, .u16, .rw, .num 1, .staged, .stored, .between 1 2048, false⟩,
  ⟨11, .u8, .ro, .num 0, .none, .volatile, .any, false⟩,
  ⟨12, .u8, .wo, .num 0, .live, .volatile, .between 1 3, false⟩,
  ⟨13, .u32, .rw, .num 64, .live, .volatile, .between 0 65536, false⟩,
  ⟨14, .u32, .rw, .num 64, .live, .volatile, .between 0 65536, false⟩,
  ⟨15, .u32, .rw, .num 1024, .live, .volatile, .between 0 1048576, false⟩,
  ⟨16, .u32, .rw, .num 2048, .live, .volatile, .between 0 32768, false⟩,
  ⟨17, .u32, .rw, .num 1200, .live, .volatile, .between 1 1200, false⟩,
  ⟨18, .u32, .ro, .num 0, .none, .volatile, .any, false⟩,
  ⟨19, .u32, .ro, .num 0, .none, .volatile, .any, false⟩,
  ⟨20, .u32, .ro, .num 0, .none, .volatile, .any, false⟩,
  ⟨21, .u32, .ro, .num 0, .none, .volatile, .any, false⟩,
  ⟨22, .u32, .ro, .num 0, .none, .volatile, .any, false⟩,
  ⟨23, .u32, .ro, .num 0, .none, .volatile, .any, false⟩,
  ⟨24, .bool, .ro, .num 0, .none, .volatile, .any, false⟩]⟩

/-- Record 0x7000, `rme`. -/
def rec7000 : ObjRec := ⟨0x7000, 1, 0, [
  ⟨0, .u8, .const, .num 23, .none, .constant, .any, false⟩,
  ⟨1, .u32, .rw, .num 16384, .staged, .stored, .between 0 32768, false⟩,
  ⟨2, .u32, .rw, .num 16384, .staged, .stored, .between 0 32768, false⟩,
  ⟨3, .u32, .rw, .num 100, .live, .volatile, .between 10 100000, false⟩,
  ⟨4, .u8, .rw, .num 7, .live, .volatile, .between 1 15, false⟩,
  ⟨5, .u8, .rw, .num 7, .live, .volatile, .between 1 15, false⟩,
  ⟨6, .u32, .rw, .num 50, .live, .volatile, .between 1 100000, false⟩,
  ⟨7, .u32, .rw, .num 1024, .staged, .stored, .between 64 65536, false⟩,
  ⟨8, .u16, .rw, .num 4, .live, .volatile, .between 1 1000, false⟩,
  ⟨9, .u16, .rw, .num 20, .live, .volatile, .between 2 10000, false⟩,
  ⟨10, .u16, .rw, .num 5000, .live, .volatile, .between 100 100000, false⟩,
  ⟨11, .u16, .rw, .num 1000, .live, .volatile, .between 100 10000, false⟩,
  ⟨12, .u16, .rw, .num 7168, .staged, .stored, .between 0 8191, false⟩,
  ⟨13, .u16, .rw, .num 1024, .staged, .stored, .between 0 8192, false⟩,
  ⟨14, .u64, .ro, .num 0, .none, .volatile, .any, false⟩,
  ⟨15, .u64, .ro, .num 0, .none, .volatile, .any, false⟩,
  ⟨16, .u64, .ro, .num 0, .none, .volatile, .any, false⟩,
  ⟨17, .u64, .ro, .num 0, .none, .volatile, .any, false⟩,
  ⟨18, .u64, .ro, .num 0, .none, .volatile, .any, false⟩,
  ⟨19, .u64, .ro, .num 0, .none, .volatile, .any, false⟩,
  ⟨20, .u64, .ro, .num 0, .none, .volatile, .any, false⟩,
  ⟨21, .u64, .ro, .num 0, .none, .volatile, .any, false⟩,
  ⟨22, .u64, .ro, .num 0, .none, .volatile, .any, false⟩,
  ⟨23, .u64, .ro, .num 0, .none, .volatile, .any, false⟩]⟩

/-- Record 0x7400, `slot`. -/
def rec7400 : ObjRec := ⟨0x7400, 32, 0, [
  ⟨0, .u8, .const, .num 29, .none, .constant, .any, false⟩,
  ⟨1, .u8, .ro, .num 0, .none, .pa, .any, false⟩,
  ⟨2, .u8, .rw, .num 0, .live, .pa, .between 0 2, false⟩,
  ⟨3, .u32, .rw, .num 2000, .staged, .stored, .between 100 100000, false⟩,
  ⟨4, .u32, .rw, .num 10000, .staged, .stored, .custom 6, false⟩,
  ⟨5, .u32, .rw, .num 25000, .staged, .stored, .custom 6, false⟩,
  ⟨6, .u16, .rw, .num 5000, .staged, .stored, .clampHi 100 20000, false⟩,
  ⟨7, .u16, .rw, .num 1000, .staged, .stored, .between 100 10000, false⟩,
  ⟨8, .u16, .rw, .num 50, .staged, .stored, .between 5 500, false⟩,
  ⟨9, .u16, .rw, .num 10200, .staged, .stored, .between 9000 12000, false⟩,
  ⟨10, .u16, .rw, .num 14000, .staged, .stored, .clampHi 12500 14500, false⟩,
  ⟨11, .u8, .rw, .num 0, .staged, .stored, .between 0 3, false⟩,
  ⟨12, .u16, .rw, .num 1000, .staged, .stored, .clampLo 100 10000, false⟩,
  ⟨13, .u16, .rw, .num 10000, .staged, .stored, .clampLo 1000 60000, false⟩,
  ⟨14, .u8, .rw, .num 3, .staged, .stored, .between 1 15, false⟩,
  ⟨15, .u8, .ro, .num 0, .none, .pa, .any, false⟩,
  ⟨16, .u8, .ro, .num 0, .none, .pa, .any, false⟩,
  ⟨17, .u32, .ro, .num 0, .none, .pa, .any, false⟩,
  ⟨18, .u8, .rw, .num 0, .live, .volatile, .between 0 1, false⟩,
  ⟨19, .u16, .rw, .num 100, .staged, .stored, .between 100 1000, false⟩,
  ⟨20, .bool, .rw, .num 0, .staged, .stored, .bool, false⟩,
  ⟨21, .u8, .wo, .num 0, .live, .volatile, .between 1 2, false⟩,
  ⟨22, .u16, .ro, .num 0, .none, .pa, .any, false⟩,
  ⟨23, .u16, .ro, .num 0, .none, .pa, .any, false⟩,
  ⟨24, .u16, .ro, .num 0, .none, .pa, .any, false⟩,
  ⟨25, .i32, .ro, .num 0, .none, .pa, .any, false⟩,
  ⟨26, .u32, .ro, .num 0, .none, .pa, .any, false⟩,
  ⟨27, .u64, .ro, .num 0, .none, .pa, .any, false⟩,
  ⟨28, .u32, .ro, .num 0, .none, .pa, .any, false⟩,
  ⟨29, .u16, .ro, .num 0, .none, .pa, .any, false⟩]⟩

/-- Record 0x7420, `sgrp`. -/
def rec7420 : ObjRec := ⟨0x7420, 4, 0, [
  ⟨0, .u8, .const, .num 5, .none, .constant, .any, false⟩,
  ⟨1, .u8, .rw, .num 1, .staged, .stored, .between 1 8, false⟩,
  ⟨2, .u32, .rw, .num 0, .staged, .stored, .zeroOr 1000 2000000, false⟩,
  ⟨3, .u32, .ro, .num 0, .none, .pa, .any, false⟩,
  ⟨4, .u8, .ro, .num 0, .none, .pa, .any, false⟩,
  ⟨5, .u8, .ro, .num 0, .none, .pa, .any, false⟩]⟩

/-- Record 0x7500, `sb`. -/
def rec7500 : ObjRec := ⟨0x7500, 32, 0, [
  ⟨0, .u8, .const, .num 13, .none, .constant, .any, false⟩,
  ⟨1, .u8, .rw, .num 1, .staged, .stored, .between 0 4, false⟩,
  ⟨2, .bool, .rw, .num 0, .staged, .stored, .bool, false⟩,
  ⟨3, .bool, .rw, .num 1, .staged, .stored, .bool, false⟩,
  ⟨4, .u16, .rw, .num 100, .staged, .stored, .zeroOr 10 10000, false⟩,
  ⟨5, .u8, .rw, .num 0, .staged, .stored, .between 0 1, false⟩,
  ⟨6, .u8, .rw, .num 0, .live, .volatile, .fields [(0, 2, 0, 2), (2, 2, 0, 2)], false⟩,
  ⟨7, .u8, .ro, .num 0, .none, .volatile, .any, false⟩,
  ⟨8, .u32, .ro, .num 0, .none, .volatile, .any, false⟩,
  ⟨9, .u32, .ro, .num 0, .none, .volatile, .any, false⟩,
  ⟨10, .u8, .ro, .num 0, .none, .volatile, .any, false⟩,
  ⟨11, .u32, .ro, .num 0, .none, .volatile, .any, false⟩,
  ⟨12, .u32, .ro, .num 0, .none, .volatile, .any, false⟩,
  ⟨13, .u32, .ro, .num 0, .none, .volatile, .any, false⟩]⟩

/-- Record 0x7520, `sbmap`. -/
def rec7520 : ObjRec := ⟨0x7520, 1, 512, [
  ⟨0, .u8, .const, .num 16, .none, .constant, .any, false⟩,
  ⟨1, .u32, .rw, .num 0, .live, .volatile, .between 0 511, true⟩,
  ⟨2, .u32, .const, .num 512, .none, .constant, .any, false⟩,
  ⟨3, .u8, .rw, .num 255, .staged, .stored, .orNone 31 0xFF, false⟩,
  ⟨4, .u8, .rw, .num 0, .staged, .stored, .masked 0x7F, false⟩,
  ⟨5, .u16, .rw, .num 0, .staged, .stored, .any, false⟩,
  ⟨6, .u8, .rw, .num 0, .staged, .stored, .masked 0x7F, false⟩,
  ⟨7, .u8, .rw, .num 1, .staged, .stored, .between 1 32, false⟩,
  ⟨8, .u16, .rw, .num 8, .staged, .stored, .fields [(0, 8, 1, 32), (8, 8, 0, 255)], false⟩,
  ⟨9, .fx32, .rw, .num 65536, .staged, .stored, .any, false⟩,
  ⟨10, .fx32, .rw, .num 0, .staged, .stored, .any, false⟩,
  ⟨11, .u32, .rw, .num 32, .staged, .stored, .fields [(0, 8, 1, 32), (8, 8, 0, 31), (16, 16, 0, 255)], false⟩,
  ⟨12, .u32, .rw, .num 1000, .staged, .stored, .between 10 3600000, false⟩,
  ⟨13, .u8, .ro, .num 0, .none, .volatile, .any, false⟩,
  ⟨14, .u32, .ro, .num 0, .none, .volatile, .any, false⟩,
  ⟨15, .time64, .ro, .num 0, .none, .volatile, .any, false⟩,
  ⟨16, .u32, .ro, .num 0, .none, .volatile, .any, false⟩]⟩

/-- Record 0x7521, `sbval`. -/
def rec7521 : ObjRec := ⟨0x7521, 1, 256, [
  ⟨0, .u8, .const, .num 5, .none, .constant, .any, false⟩,
  ⟨1, .u32, .rw, .num 0, .live, .volatile, .between 0 255, true⟩,
  ⟨2, .u32, .const, .num 256, .none, .constant, .any, false⟩,
  ⟨3, .u32, .rw, .num 0, .live, .volatile, .any, false⟩,
  ⟨4, .u32, .ro, .num 0, .none, .volatile, .any, false⟩,
  ⟨5, .time64, .ro, .num 0, .none, .volatile, .any, false⟩]⟩

/-- Record 0x7522, `sbfar`. -/
def rec7522 : ObjRec := ⟨0x7522, 1, 0, [
  ⟨0, .u8, .const, .num 7, .none, .constant, .any, false⟩,
  ⟨1, .u8, .rw, .num 0, .live, .volatile, .between 0 31, true⟩,
  ⟨2, .u8, .rw, .num 0, .live, .volatile, .masked 0x7F, true⟩,
  ⟨3, .u16, .rw, .num 0, .live, .volatile, .any, true⟩,
  ⟨4, .u8, .rw, .num 0, .live, .volatile, .masked 0x1, true⟩,
  ⟨5, .u8, .rw, .num 1, .live, .volatile, .between 1 32, true⟩,
  ⟨6, .blob, .rw, .bytes [], .live, .volatile, .upTo 32, true⟩,
  ⟨7, .u8, .wo, .num 0, .live, .volatile, .between 1 2, false⟩]⟩

/-- Record 0x7523, `sbstray`. -/
def rec7523 : ObjRec := ⟨0x7523, 1, 64, [
  ⟨0, .u8, .const, .num 3, .none, .constant, .any, false⟩,
  ⟨1, .u32, .rw, .num 0, .live, .volatile, .between 0 63, true⟩,
  ⟨2, .u32, .const, .num 64, .none, .constant, .any, false⟩,
  ⟨3, .blob, .ro, .bytes (zeros 64), .none, .volatile, .any, false⟩]⟩

/-- Record 0x7524, `sbg`. -/
def rec7524 : ObjRec := ⟨0x7524, 1, 0, [
  ⟨0, .u8, .const, .num 3, .none, .constant, .any, false⟩,
  ⟨1, .u16, .rw, .num 100, .staged, .stored, .between 10 1000, false⟩,
  ⟨2, .u64, .ro, .num 0, .none, .volatile, .any, false⟩,
  ⟨3, .u8, .wo, .num 0, .live, .volatile, .between 1 1, false⟩]⟩

/-- Record 0x8000, `pmu`. -/
def rec8000 : ObjRec := ⟨0x8000, 1, 0, [
  ⟨0, .u8, .const, .num 6, .none, .constant, .any, false⟩,
  ⟨1, .u16, .ro, .num 2048, .none, .volatile, .any, false⟩,
  ⟨2, .u16, .ro, .num 2048, .none, .volatile, .any, false⟩,
  ⟨3, .u8, .rw, .num 32, .staged, .stored, .between 0 64, false⟩,
  ⟨4, .u8, .rw, .num 8, .staged, .stored, .between 0 16, false⟩,
  ⟨5, .u8, .wo, .num 0, .live, .volatile, .between 1 1, false⟩,
  ⟨6, .time64, .ro, .num 0, .none, .volatile, .any, false⟩]⟩

/-- Record 0x8010, `pmu.ctr`. -/
def rec8010 : ObjRec := ⟨0x8010, 1, 256, [
  ⟨0, .u8, .const, .num 9, .none, .constant, .any, false⟩,
  ⟨1, .u32, .rw, .num 0, .live, .volatile, .between 0 255, true⟩,
  ⟨2, .u32, .const, .num 256, .none, .constant, .any, false⟩,
  ⟨3, .u16, .rw, .num 0, .staged, .stored, .custom 7, false⟩,
  ⟨4, .u32, .rw, .num 65535, .staged, .stored, .masked 0xFFFFFF, false⟩,
  ⟨5, .bool, .rw, .num 0, .live, .volatile, .bool, false⟩,
  ⟨6, .u64, .ro, .num 0, .none, .volatile, .any, false⟩,
  ⟨7, .u64, .ro, .num 0, .none, .volatile, .any, false⟩,
  ⟨8, .u8, .wo, .num 0, .live, .volatile, .between 1 1, false⟩,
  ⟨9, .u8, .ro, .num 0, .none, .volatile, .any, false⟩]⟩

/-- Record 0x8100, `smp`. -/
def rec8100 : ObjRec := ⟨0x8100, 1, 0, [
  ⟨0, .u8, .const, .num 10, .none, .constant, .any, false⟩,
  ⟨1, .bool, .rw, .num 0, .live, .volatile, .bool, false⟩,
  ⟨2, .u32, .rw, .num 4096, .live, .volatile, .between 16 16777216, false⟩,
  ⟨3, .u16, .rw, .num 44257, .live, .volatile, .between 1 65535, false⟩,
  ⟨4, .u8, .rw, .num 0, .live, .volatile, .between 0 1, false⟩,
  ⟨5, .u8, .rw, .num 255, .live, .volatile, .orNone 127 0xFF, false⟩,
  ⟨6, .u8, .rw, .num 255, .live, .volatile, .orNone 127 0xFF, false⟩,
  ⟨7, .u8, .rw, .num 255, .live, .volatile, .any, false⟩,
  ⟨8, .u8, .rw, .num 15, .live, .volatile, .masked 0xF, false⟩,
  ⟨9, .u32, .ro, .num 0, .none, .volatile, .any, false⟩,
  ⟨10, .u32, .ro, .num 0, .none, .volatile, .any, false⟩]⟩

/-- Record 0x8110, `smp.rec`. -/
def rec8110 : ObjRec := ⟨0x8110, 1, 8192, [
  ⟨0, .u8, .const, .num 3, .none, .constant, .any, false⟩,
  ⟨1, .u32, .rw, .num 0, .live, .volatile, .between 0 8191, true⟩,
  ⟨2, .u32, .const, .num 8192, .none, .constant, .any, false⟩,
  ⟨3, .blob, .ro, .bytes (zeros 64), .none, .volatile, .any, false⟩]⟩

/-- Record 0x9000, `pwr`. -/
def rec9000 : ObjRec := ⟨0x9000, 1, 0, [
  ⟨0, .u8, .const, .num 11, .none, .constant, .any, false⟩,
  ⟨1, .u8, .ro, .num 0, .none, .pa, .any, false⟩,
  ⟨2, .u8, .wo, .num 0, .live, .volatile, .between 0 4, false⟩,
  ⟨3, .bool, .ro, .num 0, .none, .pa, .any, false⟩,
  ⟨4, .u16, .rw, .num 39, .staged, .stored, .masked 0xFF, false⟩,
  ⟨5, .u16, .ro, .num 0, .none, .pa, .any, false⟩,
  ⟨6, .u32, .ro, .num 0, .none, .pa, .any, false⟩,
  ⟨7, .u32, .ro, .num 0, .none, .pa, .any, false⟩,
  ⟨8, .u64, .ro, .num 0, .none, .pa, .any, false⟩,
  ⟨9, .u64, .rw, .num 0, .live, .volatile, .any, false⟩,
  ⟨10, .u8, .ro, .num 0, .none, .pa, .any, false⟩,
  ⟨11, .bool, .rw, .num 1, .staged, .stored, .bool, false⟩]⟩

/-- Record 0x9001, `pwr.dom`. -/
def rec9001 : ObjRec := ⟨0x9001, 1, 0, [
  ⟨0, .u8, .const, .num 2, .none, .constant, .any, false⟩,
  ⟨1, .u64, .ro, .num 0, .none, .volatile, .any, false⟩,
  ⟨2, .u64, .ro, .num 0, .none, .volatile, .any, false⟩]⟩

/-- Record 0x9010, `pwr.pad_hold`. -/
def rec9010 : ObjRec := ⟨0x9010, 1, 0, [
  ⟨0, .u8, .const, .num 2, .none, .constant, .any, false⟩,
  ⟨1, .u32, .ro, .num 0, .none, .pa, .any, false⟩,
  ⟨2, .u32, .wo, .num 0, .live, .volatile, .masked 0x7FFFFF, false⟩]⟩

/-- Record 0x9020, `pwr.therm`. -/
def rec9020 : ObjRec := ⟨0x9020, 1, 0, [
  ⟨0, .u8, .const, .num 7, .none, .constant, .any, false⟩,
  ⟨1, .fx32, .ro, .num 0, .none, .volatile, .any, false⟩,
  ⟨2, .fx32, .ro, .num 0, .none, .pa, .any, false⟩,
  ⟨3, .u8, .rw, .num 95, .staged, .stored, .between 70 105, false⟩,
  ⟨4, .u8, .rw, .num 100, .staged, .stored, .clampHi 80 110, false⟩,
  ⟨5, .u8, .ro, .num 0, .none, .volatile, .any, false⟩,
  ⟨6, .u8, .ro, .num 0, .none, .volatile, .any, false⟩,
  ⟨7, .u64, .ro, .num 0, .none, .volatile, .any, false⟩]⟩

/-- Record 0x9021, `pwr.sensor`. -/
def rec9021 : ObjRec := ⟨0x9021, 1, 28, [
  ⟨0, .u8, .const, .num 4, .none, .constant, .any, false⟩,
  ⟨1, .u32, .rw, .num 0, .live, .volatile, .between 0 27, true⟩,
  ⟨2, .u32, .const, .num 28, .none, .constant, .any, false⟩,
  ⟨3, .fx32, .ro, .num 0, .none, .volatile, .any, false⟩,
  ⟨4, .u8, .ro, .num 0, .none, .volatile, .any, false⟩]⟩

/-- Record 0x9100, `per`. -/
def rec9100 : ObjRec := ⟨0x9100, 1, 0, [
  ⟨0, .u8, .const, .num 20, .none, .constant, .any, false⟩,
  ⟨1, .bool, .rw, .num 1, .staged, .stored, .bool, false⟩,
  ⟨2, .u16, .ro, .num 0, .none, .volatile, .any, false⟩,
  ⟨3, .u16, .rw, .num 60, .staged, .stored, .between 10 1440, false⟩,
  ⟨4, .u16, .rw, .num 720, .staged, .stored, .between 24 8760, false⟩,
  ⟨5, .u32, .rw, .num 87600, .staged, .stored, .between 8760 175200, false⟩,
  ⟨6, .fx32, .rw, .num 524288, .staged, .stored, .between 196608 1310720, false⟩,
  ⟨7, .fx32, .const, .num 39322, .none, .constant, .any, false⟩,
  ⟨8, .u16, .ro, .num 750, .none, .volatile, .any, false⟩,
  ⟨9, .u16, .ro, .num 750, .none, .volatile, .any, false⟩,
  ⟨10, .u16, .ro, .num 0, .none, .volatile, .any, false⟩,
  ⟨11, .u16, .ro, .num 0, .none, .volatile, .any, false⟩,
  ⟨12, .fx32, .ro, .num 0, .none, .volatile, .any, false⟩,
  ⟨13, .fx32, .ro, .num 0, .none, .volatile, .any, false⟩,
  ⟨14, .fx32, .ro, .num 0, .none, .volatile, .any, false⟩,
  ⟨15, .fx32, .ro, .num 0, .none, .volatile, .any, false⟩,
  ⟨16, .u32, .ro, .num 4294967295, .none, .volatile, .any, false⟩,
  ⟨17, .u32, .ro, .num 0, .none, .volatile, .any, false⟩,
  ⟨18, .u8, .ro, .num 0, .none, .volatile, .any, false⟩,
  ⟨19, .u8, .wo, .num 0, .live, .volatile, .between 1 3, false⟩,
  ⟨20, .u16, .rw, .num 15, .staged, .stored, .between 5 100, false⟩]⟩

/-- Record 0x9101, `per.port`. -/
def rec9101 : ObjRec := ⟨0x9101, 1, 128, [
  ⟨0, .u8, .const, .num 4, .none, .constant, .any, false⟩,
  ⟨1, .u32, .rw, .num 0, .live, .volatile, .between 0 127, true⟩,
  ⟨2, .u32, .const, .num 128, .none, .constant, .any, false⟩,
  ⟨3, .u8, .ro, .num 0, .none, .volatile, .any, false⟩,
  ⟨4, .u16, .ro, .num 0, .none, .volatile, .any, false⟩]⟩

/-- Record 0xA000, `err`. -/
def recA000 : ObjRec := ⟨0xA000, 1, 0, [
  ⟨0, .u8, .const, .num 8, .none, .constant, .any, false⟩,
  ⟨1, .u32, .const, .num 4096, .none, .constant, .any, false⟩,
  ⟨2, .u32, .ro, .num 0, .none, .volatile, .any, false⟩,
  ⟨3, .u32, .ro, .num 0, .none, .volatile, .any, false⟩,
  ⟨4, .u8, .ro, .num 0, .none, .pa, .any, false⟩,
  ⟨5, .u8, .rw, .num 4, .staged, .stored, .masked 0xF, false⟩,
  ⟨6, .u32, .wo, .num 0, .live, .volatile, .any, false⟩,
  ⟨7, .u8, .wo, .num 0, .live, .volatile, .between 1 1, false⟩,
  ⟨8, .u16, .rw, .num 1000, .staged, .stored, .between 0 10000, false⟩]⟩

/-- Record 0xA010, `err.log`. -/
def recA010 : ObjRec := ⟨0xA010, 1, 8192, [
  ⟨0, .u8, .const, .num 3, .none, .constant, .any, false⟩,
  ⟨1, .u32, .rw, .num 0, .live, .volatile, .between 0 8191, true⟩,
  ⟨2, .u32, .const, .num 8192, .none, .constant, .any, false⟩,
  ⟨3, .blob, .ro, .bytes (zeros 32), .none, .volatile, .any, false⟩]⟩

/-- Record 0xA011, `err.plog`. -/
def recA011 : ObjRec := ⟨0xA011, 1, 64, [
  ⟨0, .u8, .const, .num 3, .none, .constant, .any, false⟩,
  ⟨1, .u32, .rw, .num 0, .live, .volatile, .between 0 63, true⟩,
  ⟨2, .u32, .const, .num 64, .none, .constant, .any, false⟩,
  ⟨3, .blob, .ro, .bytes (zeros 32), .none, .pa, .any, false⟩]⟩

/-- Record 0xA020, `err.pol`. -/
def recA020 : ObjRec := ⟨0xA020, 1, 0, [
  ⟨0, .u8, .const, .num 4, .none, .constant, .any, false⟩,
  ⟨1, .u8, .rw, .num 0, .staged, .stored, .between 0 1, false⟩,
  ⟨2, .u16, .rw, .num 60, .staged, .stored, .between 10 3600, false⟩,
  ⟨3, .u16, .rw, .num 10, .staged, .stored, .between 1 3600, false⟩,
  ⟨4, .u32, .rw, .num 100, .staged, .stored, .between 1 10000, false⟩]⟩

/-- Record 0xA040, `err.node`. -/
def recA040 : ObjRec := ⟨0xA040, 64, 0, [
  ⟨0, .u8, .const, .num 6, .none, .constant, .any, false⟩,
  ⟨1, .u8, .rw, .num 0, .staged, .stored, .between 0 2, false⟩,
  ⟨2, .bool, .rw, .num 0, .staged, .stored, .bool, false⟩,
  ⟨3, .u64, .ro, .num 0, .none, .volatile, .any, false⟩,
  ⟨4, .u64, .ro, .num 0, .none, .volatile, .any, false⟩,
  ⟨5, .u64, .ro, .num 0, .none, .volatile, .any, false⟩,
  ⟨6, .u32, .ro, .num 0, .none, .volatile, .any, false⟩]⟩

/-- Record 0xB000, `fw`. -/
def recB000 : ObjRec := ⟨0xB000, 1, 0, [
  ⟨0, .u8, .const, .num 10, .none, .constant, .any, false⟩,
  ⟨1, .u8, .rw, .num 0, .live, .pa, .between 0 1, false⟩,
  ⟨2, .u8, .ro, .num 255, .none, .volatile, .any, false⟩,
  ⟨3, .u8, .ro, .num 0, .none, .volatile, .any, false⟩,
  ⟨4, .u8, .ro, .num 0, .none, .volatile, .any, false⟩,
  ⟨5, .u32, .ro, .num 0, .none, .volatile, .any, false⟩,
  ⟨6, .u32, .ro, .num 0, .none, .volatile, .any, false⟩,
  ⟨7, .blob, .wo, .bytes [], .live, .volatile, .upTo 33554432, false⟩,
  ⟨8, .blob, .wo, .bytes [], .live, .volatile, .upTo 33554432, false⟩,
  ⟨9, .u8, .ro, .num 0, .none, .volatile, .any, false⟩,
  ⟨10, .u8, .ro, .num 0, .none, .pa, .any, false⟩]⟩

/-- Record 0xB010, `fw.otp`. -/
def recB010 : ObjRec := ⟨0xB010, 1, 0, [
  ⟨0, .u8, .const, .num 4, .none, .constant, .any, false⟩,
  ⟨1, .u8, .ro, .num 0, .none, .otp, .any, false⟩,
  ⟨2, .u8, .wo, .num 0, .live, .volatile, .between 1 1, false⟩,
  ⟨3, .u8, .wo, .num 0, .live, .volatile, .masked 0xF, false⟩,
  ⟨4, .u8, .ro, .num 0, .none, .otp, .any, false⟩]⟩

/-- Record 0xB020, `sec.id`. -/
def recB020 : ObjRec := ⟨0xB020, 1, 0, [
  ⟨0, .u8, .const, .num 3, .none, .constant, .any, false⟩,
  ⟨1, .blob, .ro, .bytes [], .none, .volatile, .any, false⟩,
  ⟨2, .blob, .ro, .bytes [], .none, .volatile, .any, false⟩,
  ⟨3, .blob, .ro, .bytes [], .none, .volatile, .any, false⟩]⟩

/-- Record 0xB030, `sec.meas`. -/
def recB030 : ObjRec := ⟨0xB030, 1, 8, [
  ⟨0, .u8, .const, .num 3, .none, .constant, .any, false⟩,
  ⟨1, .u32, .rw, .num 0, .live, .volatile, .between 0 7, true⟩,
  ⟨2, .u32, .const, .num 8, .none, .constant, .any, false⟩,
  ⟨3, .blob, .ro, .bytes [], .none, .volatile, .any, false⟩]⟩

/-- Record 0xB040, `rake`. -/
def recB040 : ObjRec := ⟨0xB040, 1, 0, [
  ⟨0, .u8, .const, .num 6, .none, .constant, .any, false⟩,
  ⟨1, .u8, .ro, .num 2, .none, .pa, .any, false⟩,
  ⟨2, .u32, .ro, .num 0, .none, .pa, .any, false⟩,
  ⟨3, .u8, .wo, .num 0, .live, .volatile, .between 1 1, false⟩,
  ⟨4, .u16, .rw, .num 1000, .live, .volatile, .between 100 10000, false⟩,
  ⟨5, .u32, .ro, .num 0, .none, .pa, .any, false⟩,
  ⟨6, .time64, .ro, .num 0, .none, .pa, .any, false⟩]⟩

/-- Record 0xC000, `test.unlock`. -/
def recC000 : ObjRec := ⟨0xC000, 1, 0, [
  ⟨0, .u8, .const, .num 5, .none, .constant, .any, false⟩,
  ⟨1, .u8, .wo, .num 0, .live, .volatile, .between 0 2, false⟩,
  ⟨2, .blob, .ro, .bytes (zeros 32), .none, .volatile, .any, false⟩,
  ⟨3, .blob, .wo, .bytes [], .live, .volatile, .exactly 5261, false⟩,
  ⟨4, .u8, .ro, .num 0, .none, .volatile, .any, false⟩,
  ⟨5, .u32, .rw, .num 3600, .live, .volatile, .between 60 86400, false⟩]⟩

/-- Record 0xC010, `test.lane`. -/
def recC010 : ObjRec := ⟨0xC010, 1, 256, [
  ⟨0, .u8, .const, .num 13, .none, .constant, .any, false⟩,
  ⟨1, .u32, .rw, .num 0, .live, .volatile, .between 0 255, true⟩,
  ⟨2, .u32, .const, .num 256, .none, .constant, .any, false⟩,
  ⟨3, .u8, .rw, .num 0, .live, .volatile, .between 0 3, false⟩,
  ⟨4, .u8, .rw, .num 0, .live, .volatile, .between 0 1, false⟩,
  ⟨5, .u8, .rw, .num 0, .live, .volatile, .between 0 12, false⟩,
  ⟨6, .u64, .rw, .num 0, .live, .volatile, .any, false⟩,
  ⟨7, .u8, .rw, .num 7, .live, .volatile, .between 1 7, false⟩,
  ⟨8, .u32, .rw, .num 0, .live, .volatile, .custom 3, false⟩,
  ⟨9, .u8, .rw, .num 0, .live, .volatile, .custom 4, false⟩,
  ⟨10, .u8, .ro, .num 0, .none, .volatile, .any, false⟩,
  ⟨11, .u64, .ro, .num 0, .none, .volatile, .any, false⟩,
  ⟨12, .u64, .ro, .num 0, .none, .volatile, .any, false⟩,
  ⟨13, .u64, .ro, .num 0, .none, .volatile, .any, false⟩]⟩

/-- Record 0xC020, `test.pert`. -/
def recC020 : ObjRec := ⟨0xC020, 1, 32, [
  ⟨0, .u8, .const, .num 10, .none, .constant, .any, false⟩,
  ⟨1, .u32, .rw, .num 0, .live, .volatile, .between 0 31, true⟩,
  ⟨2, .u32, .const, .num 32, .none, .constant, .any, false⟩,
  ⟨3, .u8, .rw, .num 0, .live, .volatile, .between 0 4, false⟩,
  ⟨4, .u16, .rw, .num 0, .live, .volatile, .any, false⟩,
  ⟨5, .u8, .rw, .num 255, .live, .volatile, .any, false⟩,
  ⟨6, .u32, .rw, .num 0, .live, .volatile, .any, false⟩,
  ⟨7, .u32, .rw, .num 0, .live, .volatile, .any, false⟩,
  ⟨8, .u32, .rw, .num 1, .live, .volatile, .any, false⟩,
  ⟨9, .bool, .rw, .num 0, .live, .volatile, .bool, false⟩,
  ⟨10, .u64, .ro, .num 0, .none, .volatile, .any, false⟩]⟩

/-- Part 1 of the object tables. -/
def objTable1 : List ObjRec := [rec1000, rec1001, rec1010, rec1020, rec1030, rec1100, rec1110, rec1120, rec1121, rec1130, rec1F00, rec2000, rec2080, rec2100, rec2200, rec2300]

/-- Part 2 of the object tables. -/
def objTable2 : List ObjRec := [rec2301, rec3000, rec3100, rec3101, rec3102, rec3110, rec3180, rec3181, rec3200, rec3300, rec3380, rec3400, rec4000, rec4010, rec40A0, rec4100]

/-- Part 3 of the object tables. -/
def objTable3 : List ObjRec := [rec4101, rec4200, rec4201, rec4300, rec5000, rec5001, rec5010, rec5020, rec5030, rec5040, rec5050, rec5060, rec5100, rec5110, rec6000, rec7000]

/-- Part 4 of the object tables. -/
def objTable4 : List ObjRec := [rec7400, rec7420, rec7500, rec7520, rec7521, rec7522, rec7523, rec7524, rec8000, rec8010, rec8100, rec8110, rec9000, rec9001, rec9010, rec9020]

/-- Part 5 of the object tables. -/
def objTable5 : List ObjRec := [rec9021, rec9100, rec9101, recA000, recA010, recA011, recA020, recA040, recB000, recB010, recB020, recB030, recB040, recC000, recC010, recC020]

/-- Every record and array of the dictionary (R70). -/
def objTable : List ObjRec :=
  objTable1 ++ objTable2 ++ objTable3 ++ objTable4 ++ objTable5

/-- The record or array that an index belongs to. -/
def findRec (idx : Nat) : Option ObjRec :=
  objTable.find? (fun r => decide (r.base ≤ idx) && decide (idx < r.base + r.count))

/-- A subindex of a record. -/
def ObjRec.row (r : ObjRec) (sub : Nat) : Option ObjRow := r.rows.find? (fun o => o.sub == sub)

/-- The row of an object. -/
def findRow (idx sub : Nat) : Option ObjRow := (findRec idx).bind (fun r => r.row sub)

end Sys2Proof.Machine
end

