-- ==== Sys2Proof/Machine/Operands.lean ====
section
/-!
DEFINITION. Sys2Proof/Machine/Operands.lean: status codes, the FBP message format, the wire form of values, and the
range checks of dictionary writes.
-/
namespace Sys2Proof.Machine

/-! Status codes (R72). -/

abbrev Status.ok : Nat := 0x0000
abbrev Status.noObject : Nat := 0x0001
abbrev Status.noSub : Nat := 0x0002
abbrev Status.type : Nat := 0x0003
abbrev Status.denied : Nat := 0x0004
abbrev Status.range : Nat := 0x0005
abbrev Status.busy : Nat := 0x0006
abbrev Status.state : Nat := 0x0007
abbrev Status.deadline : Nat := 0x0008
abbrev Status.exhausted : Nat := 0x0009
abbrev Status.quiesce : Nat := 0x000A
abbrev Status.farTimeout : Nat := 0x000B
abbrev Status.farNak : Nat := 0x000C
abbrev Status.clamped : Nat := 0x000D
abbrev Status.locked : Nat := 0x000E
abbrev Status.conflict : Nat := 0x000F
abbrev Status.notHolder : Nat := 0x0010
abbrev Status.auth : Nat := 0x0011
abbrev Status.blobSeq : Nat := 0x0100
abbrev Status.blobDigest : Nat := 0x0101
abbrev Status.reqReuse : Nat := 0x0102

/-- An answered item has succeeded (R54: S_CLAMPED is a success). -/
def succeeded (st : Nat) : Bool := st == Status.ok || st == Status.clamped

/-- The codes that R72 lists; the others are never returned. -/
def Status.listed (st : Nat) : Bool := decide (st ≤ 0x0011) || (decide (0x0100 ≤ st) && decide (st ≤ 0x0102))

/-! FBP opcodes (03, "FBP opcodes"). -/

abbrev Opcode.read : Nat := 0x01
abbrev Opcode.write : Nat := 0x02
abbrev Opcode.describe : Nat := 0x03
abbrev Opcode.blobOpen : Nat := 0x10
abbrev Opcode.blobData : Nat := 0x11
abbrev Opcode.blobClose : Nat := 0x12
abbrev Opcode.blobAbort : Nat := 0x13
abbrev Opcode.notify : Nat := 0x20
abbrev Opcode.ping : Nat := 0x30

/-- Whether an opcode may stand in a request (R73, R411). -/
def knownOpcode (op : Nat) : Bool :=
  [Opcode.read, Opcode.write, Opcode.describe, Opcode.blobOpen, Opcode.blobData, Opcode.blobClose, Opcode.blobAbort,
    Opcode.ping].contains op

/-- A request that is framed as R73 asks. -/
structure FbpRequest where
  opcode : Nat
  staged : Bool
  rid : Nat
  items : List Item
  deriving DecidableEq, Repr

/-- What a received FBP message is. -/
inductive FbpMessage where
  /-- longer than 1,024 bytes or badly framed (R73), with the REQUEST_ID of the answer -/
  | malformed (rid : Nat)
  /-- a reserved version, kind or opcode (R73, R411) -/
  | reserved (rid : Nat)
  | request (r : FbpRequest)
  /-- kinds 0x1 and 0x2 (R411) -/
  | response
  | notifyAck (rid : Nat)
  deriving DecidableEq, Repr

/-- Bytes of a value with its padding (03, "FBP item"). -/
def padded (n : Nat) : Nat := (n + 3) / 4 * 4

/-- A slice of a byte list. -/
def slice (l : List Byte) (off n : Nat) : List Byte := (l.drop off).take n

/-- The items of a body, which they must fill exactly (R73). -/
def parseItems : Nat → List Byte → Option (List Item)
  | 0, [] => some []
  | 0, _ :: _ => none
  | n + 1, b =>
    let len := beNat (slice b 4 2)
    if b.length < 8 + padded len then none
    else
      let i : Item := { idx := beNat (slice b 0 2), sub := beNat (slice b 2 1), type := beNat (slice b 3 1), data := slice b 8 len }
      (parseItems n (b.drop (8 + padded len))).map (fun t => i :: t)

/-- A received message, read by R73 and R411. R73 and R411 are not ordered: bad framing is answered with S_TYPE and a reserved
version with S_RANGE before the kind is looked at (assumption log 104, DESIGN CHOICE). -/
def parseFbp (m : List Byte) : FbpMessage :=
  let rid := if m.length < 8 then 0 else beNat (slice m 4 4)
  if 1024 < m.length ∨ m.length < 16 ∨ beNat (slice m 12 2) ≠ m.length - 16 then .malformed rid
  else
    let version := beNat (slice m 0 1) / 16
    let kind := beNat (slice m 0 1) % 16
    let opcode := beNat (slice m 1 1)
    match parseItems (beNat (slice m 10 2)) (m.drop 16) with
    | none => .malformed rid
    | some items =>
      if version ≠ 1 ∨ 3 < kind then .reserved rid
      else if kind = 1 ∨ kind = 2 then .response
      else if kind = 3 then .notifyAck rid
      else if knownOpcode opcode then .request ⟨opcode, bitOf (beNat (slice m 2 2)) 0, rid, items⟩
      else .reserved rid

/-- The bytes of an item of a response or a notification. -/
def encodeItem (i : DoneItem) : List Byte :=
  beBytes 2 i.idx ++ beBytes 1 i.sub ++ beBytes 1 i.type ++ beBytes 2 i.data.length ++ beBytes 2 i.status ++
    padTo (padded i.data.length) i.data

/-- The bytes of an FBP message that the device sends: kind 0x1 response, 0x2 notification. -/
def encodeFbp (kind opcode rid status count : Nat) (body : List Byte) : List Byte :=
  beBytes 1 (16 + kind) ++ beBytes 1 opcode ++ beBytes 2 0 ++ beBytes 4 rid ++ beBytes 2 status ++ beBytes 2 count ++
    beBytes 2 body.length ++ beBytes 2 0 ++ body

/-- A response with its items. -/
def encodeResponse (opcode rid status : Nat) (items : List DoneItem) : List Byte :=
  encodeFbp 1 opcode rid status items.length (items.flatMap encodeItem)

/-- A one-item WRITE request as its bytes, for the rows of the table that are writes of one object. -/
def encodeWrite (rid idx sub type : Nat) (data : List Byte) : List Byte :=
  let body := encodeItem ⟨idx, sub, type, 0, data⟩
  beBytes 1 16 ++ beBytes 1 Opcode.write ++ beBytes 2 0 ++ beBytes 4 rid ++ beBytes 2 0 ++ beBytes 2 1 ++
    beBytes 2 body.length ++ beBytes 2 0 ++ body

/-! Values. -/

/-- The number of a value; 0 for bytes. -/
def Val.toNum : Val → Nat
  | .num n => n
  | .bytes _ => 0

/-- The bytes of a value; none for a number. -/
def Val.toBytes : Val → List Byte
  | .num _ => []
  | .bytes b => b

/-- A value as it stands on the wire (R45). -/
def encodeVal (ty : ObjType) (v : Val) : List Byte :=
  match v with
  | .num n => beBytes ty.width n
  | .bytes b => b

/-- A written value read from the wire: none where type or length do not match (R46). -/
def decodeVal (ty : ObjType) (data : List Byte) : Option Val :=
  match ty with
  | .str => if data.length ≤ 240 then some (.bytes data) else none
  | .blob => if data.length ≤ 960 then some (.bytes data) else none
  | t => if data.length = t.width then some (.num (beNat data)) else none

/-- The bits that a list of fields covers. -/
def fieldsMask (l : List (Nat × Nat × Nat × Nat)) : Nat := l.foldl (fun a f => a + (2 ^ f.2.1 - 1) * 2 ^ f.1) 0

/-- The value that a write of n stores and whether it was clamped; none where n is refused with S_RANGE (R7, R54). -/
def Range.accept (r : Range) (n : Nat) : Option (Nat × Bool) :=
  match r with
  | .any => some (n, false)
  | .bool => if n ≤ 1 then some (n, false) else none
  | .between lo hi => if lo ≤ n ∧ n ≤ hi then some (n, false) else none
  | .zeroOr lo hi => if n = 0 ∨ lo ≤ n ∧ n ≤ hi then some (n, false) else none
  | .orNone hi no => if n = no ∨ n ≤ hi then some (n, false) else none
  | .oneOf l => if l.contains n then some (n, false) else none
  | .masked m => some (n &&& m, false)
  | .fields l =>
    if l.all (fun f => decide (f.2.2.1 ≤ field n f.1 f.2.1) && decide (field n f.1 f.2.1 ≤ f.2.2.2)) then
      some (n &&& fieldsMask l, false) else none
  | .aligned k => if n % k = 0 then some (n, false) else none
  | .signed neg hi =>
    if -(neg : Int) ≤ toSigned 32 n ∧ toSigned 32 n ≤ (hi : Int) then some (n, false) else none
  | .clampHi lo hi => if n < lo then none else if hi < n then some (hi, true) else some (n, false)
  | .clampLo lo hi => if hi < n then none else if n < lo then some (lo, true) else some (n, false)
  | .custom _ => some (n, false)
  | .exactly _ => some (n, false)
  | .upTo _ => some (n, false)

/-- Whether a BLOB of that length is inside the range of its object. -/
def Range.admitLen (r : Range) (n : Nat) : Bool :=
  match r with
  | .exactly k => n == k
  | .upTo k => decide (n ≤ k)
  | _ => true

/-- What the write of an object comes to: answered, or waiting for a later command. -/
inductive WriteResult where
  | done (status : Nat)
  | wait (w : Wait)
  deriving DecidableEq, Repr

end Sys2Proof.Machine
end

