-- ==== Sys2Proof/Machine/Ops.lean ====
section
/-!
DEFINITION. Sys2Proof/Machine/Ops.lean: the named operations that every meaning is written with: keyed tables, the
object store, time, sessions and notifications, the error logs, and the free-value counter.
-/
namespace Sys2Proof.Machine

/-! Keyed tables. -/

/-- The entry of a key. -/
def tabFind {κ ν : Type} [DecidableEq κ] (l : List (κ × ν)) (k : κ) : Option ν :=
  match l with
  | [] => none
  | (k', v) :: t => if k' = k then some v else tabFind t k

/-- The entry of a key, or a default. -/
def tabGet {κ ν : Type} [DecidableEq κ] (l : List (κ × ν)) (k : κ) (d : ν) : ν := (tabFind l k).getD d

/-- The table with an entry set; a new entry goes before the first greater code. -/
def tabSet {κ ν : Type} [DecidableEq κ] (code : κ → Nat) (l : List (κ × ν)) (k : κ) (v : ν) : List (κ × ν) :=
  match l with
  | [] => [(k, v)]
  | (k', v') :: t =>
    if k' = k then (k, v) :: t
    else if code k < code k' then (k, v) :: (k', v') :: t
    else (k', v') :: tabSet code t k v

/-- The table without a key. -/
def tabDel {κ ν : Type} [DecidableEq κ] (l : List (κ × ν)) (k : κ) : List (κ × ν) := l.filter (fun e => decide (e.1 ≠ k))

/-- A number-keyed table with an entry changed. -/
def tabMod {ν : Type} (l : List (Nat × ν)) (k : Nat) (d : ν) (f : ν → ν) : List (Nat × ν) :=
  tabSet id l k (f (tabGet l k d))

/-- The order of dictionary keys. -/
def Key.code (k : Key) : Nat := (k.idx * 256 + k.sub) * 2 ^ 32 + k.ent

/-- One of two things by half. -/
def byHalf {α : Type} (h : Half) (w e : α) : α :=
  match h with
  | .west => w
  | .east => e

/-! Time, in units of 0.25 ns. -/

def ns (n : Nat) : Nat := 4 * n
def us (n : Nat) : Nat := 4000 * n
def ms (n : Nat) : Nat := 4000000 * n
def sec (n : Nat) : Nat := 4000000000 * n

/-- Whether a period has passed since an instant of the device's clock. -/
def Dev.elapsed (d : Dev) (since period : Nat) : Bool := decide (since + period ≤ d.clk)

/-- Fabric time of a half (R191). -/
def Dev.time (d : Dev) (h : Half) : Nat := byHalf h d.clocks.west d.clocks.east

/-- A fabric time counter moved by a signed number of units. -/
def moveTime (t : Nat) (n : Int) : Nat := ((t : Int) + n).toNat % 2 ^ 64

/-- The part of a slew that n whole microseconds take: at most one unit each (R217). -/
def slewStep (slew : Int) (n : Nat) : Int := max (-(n : Int)) (min (n : Int) slew)

/-- Time passes: n units, in which fabric time counts while its counters run. The East counter first takes the unit by
which it slews towards West (R191); both take up to one unit of the pair's slew per microsecond (R217). So no counter steps
backwards. -/
def Dev.pass (d : Dev) (n : Nat) : Dev :=
  if d.clocks.stopped || n == 0 then { d with clk := d.clk + n }
  else
    let s := slewStep d.pair.slew ((d.clk + n) / 4000 - d.clk / 4000)
    { d with clk := d.clk + n, pair := { d.pair with slew := d.pair.slew - s },
             clocks := { d.clocks with west := moveTime d.clocks.west (n + s), east := moveTime d.clocks.east (n + s + d.clocks.eastSlew), eastSlew := 0 } }

/-- One fabric time unit passes (R191, R364; assumption log 4). -/
def Dev.tick (d : Dev) : Dev := d.pass 1

/-- The device's clock is at least at an instant: a command that reports the end of a period implies that the period
has passed (assumption log 5). -/
def Dev.advanceTo (d : Dev) (t : Nat) : Dev := d.pass (t - d.clk)

/-! The object store. -/

/-- Junction sensor sites (0x9021:04). -/
def sensorSite (n : Nat) : Nat := if n < 13 then n else if n < 26 then n - 13 else 13

/-- The latched strap value (R33). -/
def strapOf (objs : List (Key × Val)) : Nat := (tabGet objs Obj.bootStrapValue (.num 0)).toNum

/-- The value that a never written object reads: the table's default, with the defaults that the tables give per
instance. -/
def defaultVal (objs : List (Key × Val)) (k : Key) : Val :=
  if 0x2000 ≤ k.idx ∧ k.idx < 0x2080 ∧ k.sub = 1 then .num (b2n ((k.idx - 0x2000) % 8 == 0))
  else if k.idx = 0x2000 ∧ k.sub = 2 then .num 1
  else if 0x2000 ≤ k.idx ∧ k.idx < 0x2080 ∧ k.sub = 0x0C then
    .num ((k.idx - 0x2000) / 4 * 8 + (k.idx - 0x2000) % 4)
  else if (k.idx = 0x3000 ∨ k.idx = 0x3110) ∧ k.sub = 1 then .num 1
  else if k.idx = 0x9021 ∧ k.sub = 4 then .num (sensorSite k.ent)
  else if k.idx = 0x1100 ∧ k.sub = 1 then .num (field (strapOf objs) 5 4)
  else if k.idx = 0x3380 ∧ k.sub = 4 then .num (field (strapOf objs) 1 1)
  else ((findRow k.idx k.sub).map (fun r => r.dflt)).getD (.num 0)

/-- The value in force of an object. -/
def Dev.val (d : Dev) (k : Key) : Val := (tabFind d.objs k).getD (defaultVal d.objs k)

/-- The number in force. -/
def Dev.num (d : Dev) (k : Key) : Nat := (d.val k).toNum

/-- The bytes in force. -/
def Dev.bytes (d : Dev) (k : Key) : List Byte := (d.val k).toBytes

/-- Whether a flag object is set. -/
def Dev.flag (d : Dev) (k : Key) : Bool := d.num k != 0

/-- An object given a value. -/
def Dev.wr (d : Dev) (k : Key) (v : Val) : Dev := { d with objs := tabSet Key.code d.objs k v }

/-- An object given a number. -/
def Dev.setNum (d : Dev) (k : Key) (n : Nat) : Dev := d.wr k (.num n)

/-- An object given bytes. -/
def Dev.setBytes (d : Dev) (k : Key) (b : List Byte) : Dev := d.wr k (.bytes b)

/-- A counter of 32 bits advanced. The manual gives these counters no saturation, so they wrap (assumption log 6). -/
def Dev.inc32 (d : Dev) (k : Key) (n : Nat := 1) : Dev := d.setNum k ((d.num k + n) % 2 ^ 32)

/-- A counter of 64 bits advanced. -/
def Dev.inc64 (d : Dev) (k : Key) (n : Nat := 1) : Dev := d.setNum k ((d.num k + n) % 2 ^ 64)

/-- Every object whose key meets a test, returned to its default. -/
def Dev.clearObjs (d : Dev) (p : Key → Bool) : Dev := { d with objs := d.objs.filter (fun e => !p e.1) }

/-- Numbers of the records from a base index whose object of a subindex differs from 0, in order. -/
def Dev.recordsWith (d : Dev) (base count sub : Nat) : List Nat :=
  (d.objs.filter (fun e => decide (base ≤ e.1.idx) && decide (e.1.idx < base + count) && e.1.sub == sub && e.2.toNum != 0)).map (fun e => e.1.idx - base)

/-- Entries of an array with a value other than a given one, in order: the used entries of a table. -/
def Dev.usedEntries (d : Dev) (idx sub unused : Nat) : List Nat :=
  (d.objs.filter (fun e => e.1.idx == idx && e.1.sub == sub && e.2.toNum != unused)).map (fun e => e.1.ent)

/-- A list of values written in order. -/
def Dev.wrAll (d : Dev) (l : List (Key × Val)) : Dev := l.foldl (fun d e => d.wr e.1 e.2) d

/-! Free values and outputs. -/

/-- The device after the use of a free value. -/
def Dev.bump (d : Dev) : Dev := { d with fresh := d.fresh + 1 }

/-- A free number (assumption log 1). -/
def Dev.free (d : Dev) : Nat := Config.freeValue d.fresh

/-- Something leaves the device. -/
def Dev.emit (d : Dev) (o : Output) : Dev := { d with out := o :: d.out }

/-! Tables of engine state. -/

def Dev.lane (d : Dev) (l : Nat) : Lane := tabGet d.lanes l {}
def Dev.modLane (d : Dev) (l : Nat) (f : Lane → Lane) : Dev := { d with lanes := tabMod d.lanes l {} f }
def Dev.port (d : Dev) (p : Nat) : Port := tabGet d.ports p {}
def Dev.modPort (d : Dev) (p : Nat) (f : Port → Port) : Dev := { d with ports := tabMod d.ports p {} f }
def Dev.node (d : Dev) (v : Nat) : Node := tabGet d.nodes v {}
def Dev.modNode (d : Dev) (v : Nat) (f : Node → Node) : Dev := { d with nodes := tabMod d.nodes v {} f }
def Dev.slot (d : Dev) (k : Nat) : Slot := tabGet d.slots k {}
def Dev.modSlot (d : Dev) (k : Nat) (f : Slot → Slot) : Dev := { d with slots := tabMod d.slots k {} f }
def Dev.sbus (d : Dev) (k : Nat) : Sb := tabGet d.sb k {}
def Dev.modSb (d : Dev) (k : Nat) (f : Sb → Sb) : Dev := { d with sb := tabMod d.sb k {} f }
def Dev.link (d : Dev) (i : Nat) : BflLink := tabGet d.bfl i {}
def Dev.modLink (d : Dev) (i : Nat) (f : BflLink → BflLink) : Dev := { d with bfl := tabMod d.bfl i {} f }
def Dev.mailbox (d : Dev) (v : Nat) : Mailbox := tabGet d.mailboxes v {}
def Dev.modMailbox (d : Dev) (v : Nat) (f : Mailbox → Mailbox) : Dev := { d with mailboxes := tabMod d.mailboxes v {} f }
def Dev.buf (d : Dev) (h : Half) : Buffer := byHalf h d.bufW d.bufE
def Dev.modBuf (d : Dev) (h : Half) (f : Buffer → Buffer) : Dev :=
  match h with
  | .west => { d with bufW := f d.bufW }
  | .east => { d with bufE := f d.bufE }
def Dev.track (d : Dev) (h : Half) : List Track := byHalf h d.trackW d.trackE
def Dev.setTrack (d : Dev) (h : Half) (l : List Track) : Dev :=
  match h with
  | .west => { d with trackW := l }
  | .east => { d with trackE := l }
def Dev.watchdog (d : Dev) (h : Half) : Watchdog := byHalf h d.pa.wdW d.pa.wdE
def Dev.modWatchdog (d : Dev) (h : Half) (f : Watchdog → Watchdog) : Dev :=
  match h with
  | .west => { d with pa := { d.pa with wdW := f d.pa.wdW } }
  | .east => { d with pa := { d.pa with wdE := f d.pa.wdE } }
def Dev.rakeView (d : Dev) (h : Half) : RakeView := byHalf h d.pa.viewW d.pa.viewE
def Dev.setRakeView (d : Dev) (h : Half) (v : RakeView) : Dev :=
  match h with
  | .west => { d with pa := { d.pa with viewW := v } }
  | .east => { d with pa := { d.pa with viewE := v } }
def Dev.store (d : Dev) (h : Half) : StoreCopy := byHalf h d.storeW d.storeE
def Dev.setStore (d : Dev) (h : Half) (c : StoreCopy) : Dev :=
  match h with
  | .west => { d with storeW := c }
  | .east => { d with storeE := c }

/-! The rake and the modes. -/

/-- The half that the PA die names as holder (0xB040:01). -/
def Dev.holder (d : Dev) : Option Half :=
  match d.num Obj.rakeHolder with
  | 0 => some .west
  | 1 => some .east
  | _ => none

/-- The half whose cluster acts for the device: the holder, or while unclaimed the preferred half (R15). -/
def Dev.holderHalf (d : Dev) : Half := d.holder.getD (Half.ofCode (field (d.num Obj.bootStrapValue) 0 1))

/-- The PA die's check of a write from a half (R104): the writer is the holder and its epoch is current. -/
def Dev.rakeOk (d : Dev) (h : Half) : Bool :=
  (d.holder == some h) && (d.rakeView h).holds && ((d.rakeView h).epoch == d.num Obj.rakeEpoch)

/-- Fabric mode is in force (R16). -/
def Dev.fabricMode (d : Dev) : Bool := d.num Obj.fabricModeActive == 1

/-- Crocus mode (R100). -/
def Dev.crocus (d : Dev) : Bool := d.flag Obj.bootCrocusActive

/-- The seam carries traffic (R191, R192). -/
def Dev.seamUp (d : Dev) : Bool := d.num Obj.coreSeamState == 2 || d.num Obj.coreSeamState == 3

/-- A half is halted (R318). -/
def Dev.halted (d : Dev) (h : Half) : Bool := byHalf h d.boot.haltW d.boot.haltE

/-- Frames cross the seam: it is up and neither half is halted (R192, R318). -/
def Dev.seamOpen (d : Dev) : Bool := d.seamUp && !d.halted .west && !d.halted .east

/-- A half answers the other half's management requests: the seam is up, the half is not halted and its cluster has
not just been restarted (R192, R317, R318). In Crocus mode its boot ROM answers (R100). -/
def Dev.farReachable (d : Dev) (h : Half) : Bool :=
  d.seamUp && !d.halted h &&
    (byHalf h d.boot.firmwareW d.boot.firmwareE || (d.crocus && byHalf h d.boot.romPassW d.boot.romPassE))

/-! Ports and nodes. -/

/-- This device's own pair node. -/
def Dev.ownNode (d : Dev) : Nat := d.num Obj.pairNode

/-- An enabled port of role 0 or 1 belongs to the node that `port.partition` names (R403); one whose partner is an MLD
belongs to none (R161). -/
def Dev.portOf (d : Dev) (p v : Nat) : Bool :=
  d.flag (Obj.portEnable p) && decide (d.num (Obj.portRole p) ≤ 1) && d.num (Obj.portPartition p) == v && !(d.port p).isMld

/-- Port numbers. -/
def allPorts : List Nat := List.range 128

/-- The ports of a node. -/
def Dev.portsOf (d : Dev) (v : Nat) : List Nat := allPorts.filter (fun p => d.portOf p v)

/-- The upstream port of a node, if any. -/
def Dev.upstreamOf (d : Dev) (v : Nat) : Option Nat :=
  (d.portsOf v).find? (fun p => d.num (Obj.portRole p) == 1)

/-- The upstream port of a node, or 0xFF (0x3000:02, 0x3110:02). -/
def Dev.upPort (d : Dev) (v : Nat) : Nat := (d.upstreamOf v).getD 0xFF

/-- The downstream ports of a node. -/
def Dev.downstreamOf (d : Dev) (v : Nat) : List Nat := (d.portsOf v).filter (fun p => d.num (Obj.portRole p) == 0)

/-- A field of a port's record as its link uses it: a commit to an enabled port acts when the link next enters Detect
(R142). -/
def Dev.linkField (d : Dev) (p : Nat) (k : Key) : Nat := tabGet (d.port p).kept k.sub (d.num k)

/-- The enabled downstream port that names a slot channel (R302, R330). -/
def Dev.portOfSlot (d : Dev) (k : Nat) : Option Nat :=
  allPorts.find? (fun p => d.flag (Obj.portEnable p) && d.num (Obj.portRole p) == 0 && d.linkField p (Obj.portSlotChannel p) == k)

/-- Widths of the eight port slots of a station, by split code (R11, R137). -/
def splitWidths (code : Nat) : List Nat :=
  match code with
  | 0 => [16, 0, 0, 0, 0, 0, 0, 0]
  | 1 => [8, 0, 0, 0, 8, 0, 0, 0]
  | 2 => [4, 0, 4, 0, 4, 0, 4, 0]
  | 3 => [2, 2, 2, 2, 2, 2, 2, 2]
  | 4 => [8, 0, 0, 0, 4, 0, 4, 0]
  | 5 => [4, 0, 4, 0, 8, 0, 0, 0]
  | 6 => [8, 0, 0, 0, 2, 2, 2, 2]
  | _ => [2, 2, 2, 2, 8, 0, 0, 0]

/-- Split width of a port, 0 where no configured port starts on its slot (R11). -/
def Dev.splitWidth (d : Dev) (p : Nat) : Nat := ((splitWidths (d.num (Obj.staSplitActive (p / 8)))).getD (p % 8) 0)

/-- First lane of a port (R11). -/
def firstLane (p : Nat) : Nat := 16 * (p / 8) + 2 * (p % 8)

/-- Lanes of a port by the split in force. -/
def Dev.lanesOf (d : Dev) (p : Nat) : List Nat := (List.range (d.splitWidth p)).map (fun i => firstLane p + i)

/-- The port that holds a lane, by the split in force. -/
def Dev.portOfLane (d : Dev) (l : Nat) : Option Nat :=
  (List.range 8).map (fun i => l / 16 * 8 + i) |>.find? (fun p => (d.lanesOf p).contains l)

/-- DL_Up: `pst.width` is not 0 (0x2100:02). -/
def Dev.dlUp (d : Dev) (p : Nat) : Bool := d.num (Obj.pstWidth p) != 0

/-! Sessions. -/

/-- The session of a number. -/
def Dev.ses (d : Dev) (sid : Nat) : Option Session := d.sessions.find? (fun s => s.sid == sid)

/-- A session changed. -/
def Dev.modSes (d : Dev) (sid : Nat) (f : Session → Session) : Dev :=
  { d with sessions := d.sessions.map (fun s => if s.sid = sid then f s else s) }

/-- A session-local value (R52): the session's own, or the default. -/
def Session.loc (s : Session) (k : Key) : Val := (tabFind s.locals k).getD (defaultVal [] k)

/-- A session-local value set. -/
def Session.setLoc (s : Session) (k : Key) (v : Val) : Session := { s with locals := tabSet Key.code s.locals k v }

/-- The entry that a session's window of an array selects (R47). -/
def Session.window (s : Session) (idx : Nat) : Nat := (s.loc ⟨idx, 1, 0⟩).toNum

/-- Sessions of the owner role that are policy firmware's (R405), and what firmware asks of the other half (R194). -/
def Session.isFirmware (s : Session) : Bool :=
  match s.transport with
  | .firmware _ | .seam _ => true
  | _ => false

/-- Policy firmware's sessions (R405). -/
def Session.isPolicy (s : Session) : Bool :=
  match s.transport with
  | .firmware _ => true
  | _ => false

/-- Field-network sessions. -/
def Session.isNet (s : Session) : Bool := s.transport == .net

/-- A secured session whose message count has been reached: neither direction goes on until its keys are updated (R81). -/
def Session.keysSpent (s : Session) : Bool := s.secured && (decide (2 ^ 24 ≤ s.msgs) || decide (2 ^ 24 ≤ s.sent))

/-- The MAC address that the device uses, 0x1100:03: a unicast, universally administered one. -/
def deviceMac : Nat := Config.macAddress % 2 ^ 40 + Config.macAddress / 2 ^ 42 % 2 ^ 6 * 2 ^ 42

/-- An FBP message as MCTP carries it: message type 0x7E, the PCI vendor ID of the endpoint and the Palzetex subtype (R84). -/
def mctpFbp (b : List Byte) : List Byte := beBytes 1 0x7E ++ beBytes 2 Config.vendorId ++ beBytes 1 0x01 ++ b

/-- A message handed to a session's transport: field network and MCTP frames leave the device; a mailbox takes a
response into MB_RSP and a notification into the next slot, and sends MSI-X vector 0 (R83). -/
def Dev.deliver (d : Dev) (s : Session) (isNotify : Bool) (seq : Nat) (b : List Byte) : Dev :=
  if (d.ses s.sid).any Session.keysSpent then d else
  match s.transport with
  | .mailbox v =>
    if isNotify then
      ((d.modMailbox v (fun m => { m with head := (m.head + 1) % 16, slots := tabSet id m.slots m.head (beBytes 4 seq ++ b) })).emit
        (.msix v 0)).emit (.fbp s.sid b)
    else
      ((d.modMailbox v (fun m => { m with rsp := b, busy := false, done := true })).emit (.msix v 0)).emit (.fbp s.sid b)
  | .net => (d.modSes s.sid (fun s => { s with sent := s.sent + 1 })).emit (.fbp s.sid b)
  | .mctp v eid => (d.modSes s.sid (fun s => { s with sent := s.sent + 1 })).emit (.mctp v eid (mctpFbp b))
  | _ => d.emit (.fbp s.sid b)

/-- The bytes of a NOTIFY message (R79): its value is the event class number, then the items. -/
def encodeNotify (seq cls : Nat) (items : List DoneItem) : List Byte :=
  encodeFbp 2 Opcode.notify seq Status.ok items.length (beBytes 2 cls ++ beBytes 2 0 ++ items.flatMap encodeItem)

/-- A notification to one session: at most 16 stay unacknowledged, and a 17th discards the oldest (R79). -/
def Dev.notifyOne (d : Dev) (s : Session) (cls : Nat) (items : List DoneItem) : Dev :=
  let n : Notice := ⟨s.nextNotice, cls, items⟩
  let drop := decide (16 ≤ s.notices.length)
  let d := d.modSes s.sid (fun s =>
    { (if drop then s.setLoc Obj.mgmtNotifyDropped (.num (((s.loc Obj.mgmtNotifyDropped).toNum + 1) % 2 ^ 32)) else s) with
      notices := (if drop then s.notices.drop 1 else s.notices) ++ [n], nextNotice := s.nextNotice + 1 })
  d.deliver s true n.seq (encodeNotify n.seq cls items)

/-- A notification of an event class to every session that its mask and its reach name (R79, R406). -/
def Dev.notify (d : Dev) (cls : Nat) (who : Session → Bool) (items : Session → List DoneItem) : Dev :=
  d.sessions.foldl (fun d s =>
    if bitOf (s.loc Obj.mgmtNotifyMask).toNum cls && who s then d.notifyOne s cls (items s) else d) d

/-- A notification item that carries a number. -/
def numItem (k : Key) (ty : ObjType) (n : Nat) : DoneItem := ⟨k.idx, k.sub, ty.code, Status.ok, beBytes ty.width n⟩

/-- Owner and observer sessions. -/
def Session.deviceWide (s : Session) : Bool := s.role == .owner || s.role == .observer

/-- Owner, observers and every administrator (classes [3], [5] and [7] of R406). -/
def Session.notTenant (s : Session) : Bool := s.role != .tenant

/-- Class [4], link state of a port (R406). -/
def Dev.notifyLink (d : Dev) (p : Nat) : Dev :=
  d.notify 4 (fun s => s.deviceWide || (s.role == .admin && d.portOf p s.scope))
    (fun _ => [numItem (Obj.pstLtssm p) .u8 (d.num (Obj.pstLtssm p))])

/-- An enabled port of a node names a slot channel (R403). -/
def Dev.slotOfNode (d : Dev) (k v : Nat) : Bool := (d.portsOf v).any (fun p => d.num (Obj.portSlotChannel p) == k)

/-- Class [2], a slot event (R406). -/
def Dev.notifySlot (d : Dev) (k : Nat) : Dev :=
  d.notify 2 (fun s => s.deviceWide || (s.role == .admin && d.slotOfNode k s.scope))
    (fun _ => [numItem (Obj.slotState k) .u8 (d.num (Obj.slotState k))])

/-! The error logs. -/

/-- Scope codes (R299). -/
abbrev Scope.lane : Nat := 0
abbrev Scope.port : Nat := 1
abbrev Scope.station : Nat := 2
abbrev Scope.node : Nat := 3
abbrev Scope.half : Nat := 4
abbrev Scope.device : Nat := 5
abbrev Scope.pair : Nat := 6
abbrev Scope.slot : Nat := 7
abbrev Scope.slice : Nat := 8

/-- Whether a session reaches a log record (R302). -/
def Dev.recReach (d : Dev) (s : Session) (r : LogRec) : Bool :=
  if s.deviceWide then true
  else if s.role == .tenant then false
  else
    match r.scope with
    | 0 => match d.portOfLane r.scopeId with
           | some p => d.portOf p s.scope
           | none => false
    | 1 => d.portOf r.scopeId s.scope
    | 2 => (List.range 8).any (fun i => d.portOf (8 * r.scopeId + i) s.scope)
    | 3 => r.scopeId == s.scope
    | 7 => d.slotOfNode r.scopeId s.scope
    | 8 => d.num (Obj.rmeSliceOwner r.scopeId) == s.scope
    | _ => true

/-- SEQ of a record: half in bit 31, count below (R301). -/
def LogRec.seqWord (r : LogRec) : Nat := r.half.code * 2 ^ 31 + r.seq % 2 ^ 31

/-- A record put into a list that runs from the newest TIME to the oldest. -/
def insertRec (r : LogRec) : List LogRec → List LogRec
  | [] => [r]
  | x :: t => if x.time ≤ r.time then r :: x :: t else x :: insertRec r t

/-- The rings that a session sees as one list, newest TIME first (R302): while the seam is LOST, only its own half's. -/
def Dev.logList (d : Dev) (s : Session) : List LogRec :=
  let rs := if d.num Obj.coreSeamState == 4 then byHalf s.half d.log.west d.log.east else
    d.log.west.foldr insertRec d.log.east
  rs.filter (d.recReach s)

/-- SEQ of the newest record within a session's reach, 0 if none (0xA000:02). -/
def Dev.logHead (d : Dev) (s : Session) : Nat := ((d.logList s).head?.map LogRec.seqWord).getD 0

/-- A ring with a merge (R301): the newest record of the event and scope number inside the window counts once more. -/
def mergeRec (ring : List LogRec) (ev id now window : Nat) : Option (List LogRec) :=
  match ring with
  | [] => none
  | r :: t =>
    if r.event = ev ∧ r.scopeId = id ∧ window ≠ 0 ∧ now ≤ r.time + window then
      some ({ r with count := min (r.count + 1) 65535 } :: t)
    else (mergeRec t ev id now window).map (fun t => r :: t)

/-- A detected event is recorded in a half's ring (R300, R301): it merges into a record inside the window, or becomes a
new record, which goes to the persistent log where its severity asks for it (or `always` says so, R388) and raises
notification class [1]. -/
def Dev.logEvent (d : Dev) (h : Half) (scope id sev ev : Nat) (detail : List Byte := []) (always : Bool := false) : Dev :=
  let ring := byHalf h d.log.west d.log.east
  let setRing := fun (l : Log) (r : List LogRec) => byHalf h { l with west := r } { l with east := r }
  match mergeRec ring ev id (d.time h) (us (d.num Obj.errCoalesce)) with
  | some ring' => { d with log := setRing d.log ring' }
  | none =>
    let n := byHalf h d.log.countW d.log.countE + 1
    let persist := decide (sev = 2) || (decide (sev = 1) && decide (scope = Scope.half ∨ scope = Scope.device ∨ scope = Scope.pair)) || always
    let r : LogRec := { time := d.time h, half := h, seq := n, scope := scope, scopeId := id, severity := sev, event := ev, count := 1, persisted := persist, detail := padTo 12 detail }
    let full := decide (4096 ≤ ring.length)
    let l := setRing d.log (r :: ring.take 4095)
    let l := byHalf h { l with countW := n } { l with countE := n }
    let l := if persist then { l with persistent := (r :: l.persistent).take 64 } else l
    let d := { d with log := l }
    let d := if full then d.inc32 Obj.errLogLost else d
    let d := if scope = Scope.node then d.setNum (Obj.errNodeLastSeq id) r.seqWord else d
    let d' := d
    d.notify 1 (fun s => d'.recReach s r && (s.half == h || d'.num Obj.coreSeamState != 4))
      (fun s => [numItem Obj.errLogHead .u32 (d'.logHead s)])

/-- The 32 bytes of a record (12, "Error log record"). -/
def LogRec.bytes (r : LogRec) : List Byte :=
  beBytes 8 r.time ++ beBytes 4 r.seqWord ++ beBytes 2 (r.scope * 4096 + r.severity * 1024 + b2n r.persisted * 512) ++
    beBytes 2 r.scopeId ++ beBytes 2 r.event ++ beBytes 2 r.count ++ padTo 12 r.detail

/-- ALERT_N (R303): a record of a masked severity is not acknowledged, or the device is in Crocus mode. -/
def Dev.alertAsserted (d : Dev) : Bool :=
  d.crocus ||
  d.log.west.any (fun r => bitOf (d.num Obj.errAlertMask) r.severity && decide (d.log.ackW < r.seq)) ||
  d.log.east.any (fun r => bitOf (d.num Obj.errAlertMask) r.severity && decide (d.log.ackE < r.seq))

/-- A session ends: its staging set, transfer and notifications go with it (R59, R78), and its commit that still waits is
dropped. A commit of it that is already in its prepare step goes on and applies: R59 does not say what becomes of it
(assumption log 97, DESIGN CHOICE). -/
def Dev.endSessions (d : Dev) (p : Session → Bool) : Dev :=
  { d with sessions := d.sessions.filter (fun s => !p s),
           commitQueue := d.commitQueue.filter (fun w => !(d.sessions.any (fun s => s.sid == w.sid && p s))) }

/-- A new session with a number of its own; a field-network session is an SPDM session (R81). -/
def Dev.openSession (d : Dev) (t : Transport) (role : Role) (scope : Nat) (h : Half) : Dev :=
  { d with sessions := d.sessions ++ [{ sid := d.nextSid, transport := t, role := role, scope := scope, half := h, lastMsg := d.clk, secured := t == .net }], nextSid := d.nextSid + 1 }

/-- Field-network sessions end (R86); owner sessions that stay are told of a rake change (R406). -/
def Dev.rakeChanged (d : Dev) : Dev :=
  let d := d.endSessions Session.isNet
  d.notify 6 (fun s => s.role == .owner) (fun _ => [numItem Obj.rakeHolder .u8 (d.num Obj.rakeHolder)])

end Sys2Proof.Machine
end

