-- ==== Sys2Proof/Machine/Reset.lean ====
section
/-!
DEFINITION. Sys2Proof/Machine/Reset.lean: what several chapters do together: slot channels turned off, the registers of
switch port functions, failed boot attempts, Crocus mode, warm reset and the falling edge of PORST_N.
-/
namespace Sys2Proof.Machine

/-! Registers of switch port functions, laid out as the PCI Express Base Specification (assumption log 8). -/

/-- A number for each register, in the order of the table. -/
def cfgRegCode : CfgReg → Nat
  | .command => 0 | .primaryBus => 1 | .secondaryBus => 2 | .subordinateBus => 3 | .memBase => 4 | .memLimit => 5
  | .prefBase => 6 | .prefLimit => 7 | .ioBase => 8 | .ioLimit => 9 | .bar => 10 | .bridgeControl => 11
  | .acsControl => 12 | .acsEgressVectorLo => 13 | .acsEgressVectorHi => 14 | .dpcControl => 15 | .dpcStatus => 16
  | .slotControl => 17 | .slotStatus => 18 | .aerUncorStatus => 19 | .aerCorStatus => 20 | .aerUncorMask => 21
  | .aerUncorSeverity => 22 | .aerCorMask => 23 | .ptmControl => 24 | .msiEnable => 25 | .deviceControl => 26 | .linkStatus => 27

/-- A number for each function. -/
def cfgFuncCode : CfgFunc → Nat
  | .upstream v => v
  | .mgmt v => 64 + v
  | .rme v => 128 + v
  | .downstream p => 192 + p
  | .synthetic v f => 320 + 256 * v + f
  | .hdm v i => 20000 + 16 * v + i

/-- The order of the registers in the table. -/
def cfgCode (k : CfgFunc × CfgReg) : Nat := cfgFuncCode k.1 * 64 + cfgRegCode k.2

/-- Reset values of the registers: those of the PCI Express Base Specification (assumption log 8). -/
def cfgDefault : CfgReg → Nat
  | .aerUncorSeverity => 0x00462030
  | .aerUncorMask => 0x00400000
  | .aerCorMask => 0x00002000
  | .deviceControl => 0x2810
  | _ => 0

/-- What a register of a switch port function holds; its reset value until something writes it. -/
def Dev.cfgReg (d : Dev) (f : CfgFunc) (r : CfgReg) : Nat := tabGet d.cfg (f, r) (cfgDefault r)

/-- A register of a switch port function given a value. -/
def Dev.setCfg (d : Dev) (f : CfgFunc) (r : CfgReg) (n : Nat) : Dev := { d with cfg := tabSet cfgCode d.cfg (f, r) n }

/-- Bits of a register set. -/
def Dev.orCfg (d : Dev) (f : CfgFunc) (r : CfgReg) (m : Nat) : Dev := d.setCfg f r (d.cfgReg f r ||| m)

/-- The function of a physical downstream port. -/
def dsp (p : Nat) : CfgFunc := .downstream (Fin.ofNat 128 p)

/-- The function of a node's upstream port. -/
def usp (v : Nat) : CfgFunc := .upstream (Fin.ofNat 64 v)

/-- Slot Status bits: Attention Button Pressed, Power Fault Detected, Presence Detect Changed, Presence Detect State,
Data Link Layer State Changed. -/
abbrev slotStAttention : Nat := 0x001
abbrev slotStPowerFault : Nat := 0x002
abbrev slotStPresenceChanged : Nat := 0x008
abbrev slotStPresence : Nat := 0x040
abbrev slotStLinkChanged : Nat := 0x100

/-- Slot Status bits set in the downstream port bound to a slot channel (R330, R340). -/
def Dev.slotStatusBits (d : Dev) (k m : Nat) : Dev :=
  match d.portOfSlot k with
  | some p => d.orCfg (dsp p) .slotStatus m
  | none => d

/-! Slot channels. -/

abbrev SlotSt.absent : Nat := 0
abbrev SlotSt.inserting : Nat := 1
abbrev SlotSt.ready : Nat := 2
abbrev SlotSt.ramp : Nat := 3
abbrev SlotSt.on : Nat := 4
abbrev SlotSt.cooldown : Nat := 5
abbrev SlotSt.locked : Nat := 6

/-- A channel's state changes: the PA die reports it to the holder as a posted event, and class [2] is raised (R330). -/
def Dev.slotTo (d : Dev) (k st : Nat) : Dev :=
  if d.num (Obj.slotState k) = st then d else ((d.setNum (Obj.slotState k) st).emit (.event k)).notifySlot k

/-- A pad group is held (R42, R359): bits 0 to 15 lanes of a station, 16 to 19 slot gates and AUX_EN, 20 sideband, 21 and 22 xSPI. -/
def Dev.padHeld (d : Dev) (g : Nat) : Bool := bitOf (d.num Obj.pwrPadHoldHeld) g

/-- The OR gates off too: the pads of every slot gate are off in Crocus mode, Deep sleep and Off (R40). -/
def Dev.orGatesOff (d : Dev) : Dev := { d with slots := d.slots.map (fun e => (e.1, { e.2 with gateA := false, gateB := false })) }

/-- The gate and AUX_EN_k go off and SB_PERST_N_k goes low (R330). -/
def slotDark (s : Slot) : Slot :=
  { s with gateH := false, aux := false, perstRel := false, pg := false, brake := false }

/-- One channel at a thermal trip, a Crocus entry, an entry into Deep sleep or Off, or a falling edge of PORST_N. -/
def Dev.slotShut (d : Dev) (k : Nat) : Dev :=
  let d := (d.modSlot k slotDark).setNum (Obj.slotEnable k) 0
  d.slotTo k (if (d.slot k).present then SlotSt.ready else SlotSt.absent)

/-- Every channel turned off, `slot.enable` at 0, fault counts unchanged (R330). -/
def Dev.allSlotsShut (d : Dev) : Dev := (List.range 32).foldl Dev.slotShut d

/-! Failed attempts and resets. -/

/-- PA-die cells that survive every loss of power (04, "Boot attempts and health"; R16, R62, R369). -/
def nonVolatileKeys : List Key :=
  [Obj.bootAttempts, Obj.bootAttemptThreshold, Obj.bootLastFail, Obj.bootCrocusHistory, Obj.fwBootSlot, Obj.fwLastBooted]

/-- Objects that a warm reset leaves: those held in the PA die, the settings of the PA die's slot channels, sideband
bridge and power logic, which it does not reset (R55, R68, R89). -/
def keepsWarm (k : Key) : Bool :=
  match findRow k.idx k.sub with
  | none => false
  | some r =>
    r.persist == .pa || r.persist == .otp ||
      (r.persist == .stored && ((decide (0x7400 ≤ k.idx) && decide (k.idx ≤ 0x75FF)) || (decide (0x9000 ≤ k.idx) && decide (k.idx ≤ 0x90FF))))

/-- A lane is in loopback or pattern test (R131). -/
def Dev.inTest (d : Dev) (l : Nat) : Bool :=
  d.flag (Obj.testLaneLoopback l) || d.flag (Obj.testLaneGen l) || d.flag (Obj.testLaneChk l)

/-- A port leaves Disabled for Detect unless its record, `port.cmd` or DPC holds it there. -/
def Dev.backToDetect (d : Dev) (p : Nat) : Dev :=
  if d.num (Obj.pstLtssm p) = 8 ∧ d.flag (Obj.portEnable p) ∧ !(d.port p).cmdDisabled ∧ !bitOf (d.cfgReg (dsp p) .dpcStatus) 0 ∧
      !(d.lanesOf p).any d.inTest then d.setNum (Obj.pstLtssm p) 0 else d

/-- A test unlock is in force, through the dictionary or JTAG (R387, R389). -/
def Dev.unlocked (d : Dev) : Bool := d.flag Obj.testUnlockLevel || d.test.jtagLevelW != 0 || d.test.jtagLevelE != 0

/-- The unlock level in force ends (R388): every perturbation disarms, and the test objects return to their defaults, so
that ports leave test (R131). -/
def Dev.unlockEnd (d : Dev) : Dev :=
  if !d.unlocked then d
  else
    let tested := ((List.range 256).filter d.inTest).filterMap d.portOfLane
    let d := d.logEvent d.holderHalf Scope.device 0 3 0x0606 [0] true
    let d := d.clearObjs (fun k => k == Obj.testUnlockLevel || k == Obj.testUnlockChallenge || k.idx == 0xC010 || k.idx == 0xC020)
    let d := { d with test := { d.test with challenge := none, armed := [], jtagLevelW := 0, jtagLevelE := 0 } }
    tested.foldl Dev.backToDetect d

/-- The power-on default of everything that both halves hold, with the PA die's part kept. -/
def Dev.halvesReset (d : Dev) : Dev :=
  { d with objs := d.objs.filter (fun e => keepsWarm e.1), boot := { warmPending := true },
           clocks := { d.clocks with west := 0, east := 0, stopped := true },
           pa := { d.pa with wdW := {}, wdE := {}, viewW := {}, viewE := {}, handoverPending := false },
           sessions := [], mailboxes := [], endpoints := [], commit := none, commitQueue := [], storeWrite := none,
           lanes := [], ports := [], nodes := [], cfg := [], msix := [], bufW := {}, bufE := {}, seam := {}, meters := [],
           shapers := [], nodeTags := [], classTags := [], classTime := [], fns := [], views := [], barsFound := [], gam := [], gamDead := [],
           trackW := [], trackE := [], trackRetired := [], pair := {}, bfl := [], homes := [], rme := {},
           log := { persistent := d.log.persistent }, stray := [], tele := {}, test := {},
           slots := d.slots.map (fun e => (e.1, { e.2 with perstRel := false, brake := false })) }

/-- A warm reset (R89): both halves reset entirely, the PA die kept; a commit between prepare and apply ends without
effect (R68), every hold is released, SB_PERST_N goes low on every slot (R41), and the test unlock ends (R388). -/
def Dev.warmReset (d : Dev) : Dev :=
  let d := d.unlockEnd.halvesReset
  let d := (d.setNum Obj.pwrPadHoldHeld 0).setNum Obj.pwrState 0
  let d := (d.setNum Obj.pwrIdleArmed 0).setNum Obj.rakeHolder 2
  { d with pwr := {} }

/-- An attempt has failed: the PA die records its reason and half (R98, R408). -/
def Dev.recordFail (d : Dev) (reason half : Nat) : Dev :=
  let d := (d.setNum Obj.bootLastFail reason).setNum Obj.bootCrocusHistory ((d.num Obj.bootCrocusHistory * 256 + reason) % 2 ^ 64)
  { d with pa := { d.pa with lastFailHalf := half } }

/-- An attempt has failed and the PA die requests a warm reset (R90, R98). -/
def Dev.failAttempt (d : Dev) (reason half : Nat) : Dev := (d.recordFail reason half).warmReset

/-- The configuration store copy that a boot loads: the valid copy with the higher generation, and of equal ones the
higher store sequence number (R56, R57). -/
def Dev.bestStore (d : Dev) : Option StoreCopy :=
  let newer (a b : StoreCopy) : Bool :=
    decide (b.generation < a.generation) || (a.generation == b.generation && decide (b.seq ≤ a.seq))
  match d.storeW.valid, d.storeE.valid with
  | true, true => some (if newer d.storeW d.storeE then d.storeW else d.storeE)
  | true, false => some d.storeW
  | false, true => some d.storeE
  | false, false => none

/-- In Crocus mode the boot ROMs answer for the field network, sessions and credentials with what the better store copy
holds, and give its generation (R100). -/
def Dev.loadCrocus (d : Dev) : Dev :=
  match d.bestStore with
  | none => d
  | some c =>
    let d := d.wrAll (c.content.filter (fun e => decide (0x1100 ≤ e.1.idx) && decide (e.1.idx < 0x1200)))
    (d.setNum Obj.cfgGeneration c.generation).setNum Obj.cfgStoreGeneration c.generation

/-- The device enters Crocus mode with its primary reason (R100): the ROMs serve, no firmware runs, every data port is
idle, every slot channel is off, the watchdogs are disarmed and the counter is unchanged. -/
def Dev.enterCrocus (d : Dev) (reason half : Nat) : Dev :=
  let d := { d with pa := { d.pa with wdW := {}, wdE := {} }, boot := { d.boot with firmwareW := false, firmwareE := false, slotChosen := false } }
  let d := (d.setNum Obj.bootCrocusActive 1).setNum Obj.bootCrocusReason reason
  let d := (d.setNum Obj.bootCrocusReasonHalf half).setNum Obj.bootPhase 3
  d.allSlotsShut.orGatesOff.loadCrocus

/-- A Crocus entry that ends the current attempt as a failed one (R408). -/
def Dev.crocusFailed (d : Dev) (reason half : Nat) : Dev := (d.recordFail reason half).enterCrocus reason half

/-- The copy that a boot falls back to (R99). -/
def Dev.otherStore (d : Dev) : Option StoreCopy :=
  match d.bestStore with
  | none => none
  | some b =>
    if d.storeW.valid && d.storeE.valid then some (if b = d.storeW then d.storeE else d.storeW) else none

/-- 0x1120:01 holds all zeros, in force or in the copy that a boot would load (R82, R96). -/
def Dev.unowned (d : Dev) : Bool :=
  (d.bytes Obj.mgmtOwnerCredential).all (fun b => b == 0) &&
  match d.bestStore with
  | none => true
  | some c => (tabGet c.content Obj.mgmtOwnerCredential (.bytes [])).toBytes.all (fun b => b == 0)

/-- A falling edge of PORST_N that lasts (R30, R44): every die returns to the state that PORST_N low defines. What
survives is what has no power to lose: the PA die's non-volatile cells, both flashes, and the outside world. -/
def Dev.porstReset (d : Dev) : Dev :=
  let unowned := d.unowned
  let log := d.unlockEnd.log.persistent
  let present := (d.slots.filter (fun e => e.2.present)).map (fun e => e.1)
  let r : Dev :=
    { clk := d.clk, fresh := d.fresh, out := d.out, nextSid := d.nextSid,
      objs := d.objs.filter (fun e => nonVolatileKeys.contains e.1),
      pins := { d.pins with porstN := false, thermtrip := false, wakePulseEnd := 0 },
      pa := { supervisor := d.pa.supervisor, forceFlag := d.pa.forceFlag, skipStore := d.pa.skipStore,
              lastMode := d.pa.lastMode, lastFailHalf := d.pa.lastFailHalf, baselineFlag := d.pa.baselineFlag },
      clocks := { aoRunning := d.clocks.aoRunning, aoBase := d.clocks.aoBase, aoSince := d.clocks.aoSince },
      storeW := d.storeW, storeE := d.storeE, flash := d.flash, log := { persistent := log },
      per := { baseline := d.per.baseline, origin := d.per.origin, ring := d.per.ring },
      slots := present.map (fun k => (k, { present := true })) }
  let r := present.foldl (fun r k => r.setNum (Obj.slotState k) SlotSt.ready) r
  if unowned then r.setNum Obj.bootAttempts 0 else r

end Sys2Proof.Machine
end

