-- ==== Sys2Proof/Machine/Sessions.lean ====
section
/-!
DEFINITION. Sys2Proof/Machine/Sessions.lean: answers of dictionary requests: the response is built, cached and
delivered (R74, R75), and requests that waited are ended with a status.
-/
namespace Sys2Proof.Machine

/-- A meaning whose effect is on the device alone. -/
def onDev (s : State) (d : Dev) : Host.Outcome State Fault Refusal := .next { s with dev := d }

/-- A response is delivered and kept among the last 8 (R75). -/
def Dev.respond (d : Dev) (sid rid : Nat) (raw rsp : List Byte) : Dev :=
  match d.ses sid with
  | none => d
  | some s =>
    let d := d.modSes sid (fun s => { s with exec := none, cache := (⟨rid, raw, rsp⟩ :: s.cache).take 8 })
    d.deliver s false rid rsp

/-- The answer of a half's management request leaves the other half, and its place in the response buffer is free again (R194). -/
def Dev.seamAnswer (d : Dev) (sid : Nat) (h : Half) (status : Nat) (e : Exec) : Dev :=
  ({ d with sessions := d.sessions.filter (fun s => s.sid != sid) }).emit (.mgmtResponse h status (beNat ((e.done.getLast?.map DoneItem.data).getD [])))

/-- The executing request of a session ends: its response holds every processed item, the failing one last, and its
header STATUS is that item's (R74). -/
def Dev.finish (d : Dev) (sid : Nat) (e : Exec) (status : Nat) : Dev :=
  match (d.ses sid).map Session.transport with
  | some (.seam h) => d.seamAnswer sid h status e
  | _ => d.respond sid e.rid e.raw (encodeResponse e.opcode e.rid status e.done)

/-- An item answered. -/
def answerItem (i : Item) (status : Nat) (data : List Byte := []) (type : Nat := i.type) : DoneItem :=
  ⟨i.idx, i.sub, type, status, data⟩

/-- The item that a session's executing request waits on fails with a status: the request ends with it. -/
def Dev.failWaiting (d : Dev) (sid status : Nat) : Dev :=
  match (d.ses sid).bind (fun s => s.exec) with
  | some e =>
    match e.wait, e.todo with
    | .none, _ => d
    | _, [] => d
    | _, i :: _ => d.finish sid { e with done := e.done ++ [answerItem i status] } status
  | none => d

/-- `cfg.commit_result` and the two detail objects of a session (R63, R67). -/
def Dev.setCommitResult (d : Dev) (sid status detail entry : Nat) : Dev :=
  d.modSes sid (fun s =>
    ((s.setLoc Obj.cfgCommitResult (.num status)).setLoc Obj.cfgCommitDetail (.num detail)).setLoc Obj.cfgCommitDetailEntry (.num entry))

/-- No offending object: the value of `cfg.commit_detail_entry` then. -/
abbrev noEntry : Nat := 0xFFFFFFFF

/-- The running commit ends with a failure: its set stays, and its session is answered (R63, R66). -/
def Dev.commitFails (d : Dev) (status detail entry : Nat) : Dev :=
  match d.commit with
  | none => d
  | some c =>
    let d := { d with commit := none, pair := { d.pair with ownPrepare := false } }
    (d.setCommitResult c.sid status detail entry).failWaiting c.sid status

/-- A commit that waits ends without having run: answered with S_BUSY it leaves `cfg.commit_result` at its earlier value, with
any other status that object reads the status too (R66, R67). -/
def Dev.commitNotRun (d : Dev) (sid status : Nat) : Dev :=
  let d := { d with commitQueue := d.commitQueue.filter (fun w => w.sid != sid) }
  (if status = Status.busy then d else d.setCommitResult sid status 0 noEntry).failWaiting sid status

end Sys2Proof.Machine
end

