-- ==== Sys2Proof/Machine/Telemetry.lean ====
section
/-!
DEFINITION. Sys2Proof/Machine/Telemetry.lean: virtual counters and their scopes (R375 to R379), the test unlock (R387 to
R389) and perturbation entries (R390).
-/
namespace Sys2Proof.Machine

/-! Virtual counters. A counter of scope c is entry 256 × c + v of 0x8010: scope 0 is the device, 1 + n is node n, and
65 + n is slice n. -/

/-- The counter scope of a session (R375). -/
def Session.pmuScope (s : Session) : Nat :=
  match s.role with
  | .owner => 0
  | .observer => 0
  | .admin => 1 + s.scope
  | .tenant => 65 + s.scope

/-- The number of virtual counters of a scope (R375). -/
def Dev.pmuQuota (d : Dev) (c : Nat) : Nat :=
  if c = 0 then 256 else if c < 65 then d.num Obj.pmuNodeQuota else d.num Obj.pmuSliceQuota

/-- What the qualifier of an event names (R379). -/
inductive QualKind where
  | half
  | port
  | node
  | slice
  deriving DecidableEq, Repr

/-- A row of the event table: number, qualifier, open to administrators, open to tenants, counted per core cycle. -/
structure EventRow where
  ev : Nat
  qual : QualKind
  admin : Bool
  tenant : Bool
  deriving DecidableEq, Repr

abbrev Ev.cycles : Nat := 0x0001
abbrev Ev.slotTotal : Nat := 0x0010
abbrev Ev.slotCarried : Nat := 0x0011
abbrev Ev.slotLink : Nat := 0x0012
abbrev Ev.slotGate : Nat := 0x0013
abbrev Ev.slotEmpty : Nat := 0x0014
abbrev Ev.slotLinkCredit : Nat := 0x0015
abbrev Ev.slotLinkReplay : Nat := 0x0016
abbrev Ev.slotGateHold : Nat := 0x0017
abbrev Ev.rxFrames : Nat := 0x0020
abbrev Ev.rxBytes : Nat := 0x0021
abbrev Ev.txFrames : Nat := 0x0022
abbrev Ev.txBytes : Nat := 0x0023
abbrev Ev.coreCut : Nat := 0x0024
abbrev Ev.coreBuffered : Nat := 0x0025
abbrev Ev.coreCancel : Nat := 0x0026
abbrev Ev.meterGreen : Nat := 0x0030
abbrev Ev.coreSkimmed : Nat := 0x0033
abbrev Ev.coreCeMarked : Nat := 0x0034
abbrev Ev.queueCells : Nat := 0x0035
abbrev Ev.seamFrames : Nat := 0x0040
abbrev Ev.poolCells : Nat := 0x0041
abbrev Ev.nodeBlocked : Nat := 0x0050
abbrev Ev.nodeSynthCpl : Nat := 0x0051
abbrev Ev.rmeTxPackets : Nat := 0x0060
abbrev Ev.rmeTxBytes : Nat := 0x0061
abbrev Ev.rmeRetx : Nat := 0x0062
abbrev Ev.rmeSnakRx : Nat := 0x0063
abbrev Ev.rmeEchoRx : Nat := 0x0064
abbrev Ev.stagingCells : Nat := 0x0065
abbrev Ev.rmeCqe : Nat := 0x0066

/-- The event table (R379). -/
def eventTable : List EventRow :=
  [⟨0x0001, .half, true, true⟩] ++
  ((List.range 8).map (fun i => ⟨0x0010 + i, .port, true, false⟩)) ++
  ((List.range 6).map (fun i => ⟨0x0020 + i, .port, true, false⟩)) ++
  [⟨0x0026, .port, false, false⟩, ⟨0x0030, .port, true, false⟩, ⟨0x0031, .port, true, false⟩, ⟨0x0032, .port, true, false⟩,
   ⟨0x0033, .port, false, false⟩, ⟨0x0034, .port, false, false⟩, ⟨0x0035, .port, true, false⟩,
   ⟨0x0040, .half, false, false⟩, ⟨0x0041, .half, false, false⟩, ⟨0x0050, .node, true, false⟩, ⟨0x0051, .node, true, false⟩] ++
  ((List.range 7).map (fun i => ⟨0x0060 + i, .slice, true, true⟩))

/-- The row of an event number. -/
def eventRow (ev : Nat) : Option EventRow := eventTable.find? (fun r => r.ev == ev)

/-- A number may stand in `pmu.ctr.event`: 0 or a listed event. -/
def eventOk (ev : Nat) : Bool := ev == 0 || (eventRow ev).isSome

/-- The halves in which a counter holds a slot: those that its qualifier reaches (R376). -/
def ctrHalves (ev qual : Nat) : List Half :=
  match eventRow ev with
  | none => []
  | some r =>
    let q := field qual 0 16
    if q = 0xFFFF then [.west, .east]
    else
      match r.qual with
      | .half => [Half.ofCode q]
      | .port => [Half.ofPort q]
      | .node => [.west, .east]
      | .slice => [Half.ofSlice q]

/-- Counters that a list of object values gives an event: entry and event. -/
def usedCounters (objs : List (Key × Val)) : List (Nat × Nat) :=
  (objs.filter (fun e => e.1.idx == 0x8010 && e.1.sub == 3 && e.2.toNum != 0)).map (fun e => (e.1.ent, e.2.toNum))

/-- Hardware slots that the counters of a list of object values hold in a half (R376). -/
def ctrSlotsIn (objs : List (Key × Val)) (h : Half) : Nat :=
  ((usedCounters objs).filter (fun c =>
    (ctrHalves c.2 ((tabFind objs (Obj.pmuCtrQual c.1)).getD (.num 0xFFFF)).toNum).contains h)).length

/-- A virtual counter draws on the slots of a half (R376). -/
def Dev.ctrDraws (d : Dev) (h : Half) (e : Nat) : Bool := (ctrHalves (d.num (Obj.pmuCtrEvent e)) (d.num (Obj.pmuCtrQual e))).contains h

/-- The free slot objects brought up to date. -/
def Dev.refreshSlots (d : Dev) : Dev :=
  (d.setNum Obj.pmuSlotsFreeW (2048 - ctrSlotsIn d.objs .west)).setNum Obj.pmuSlotsFreeE (2048 - ctrSlotsIn d.objs .east)

/-- A counter advanced by n: 48 bits that wrap, bit 63 set at the first wrap (R377). -/
def ctrAdd (v n : Nat) : Nat :=
  let c := field v 0 48 + n
  c % 2 ^ 48 + field v 48 15 * 2 ^ 48 + (if 2 ^ 48 ≤ c then 1 else field v 63 1) * 2 ^ 63

/-- A counter of a scope counts an event at a qualifier: within its scope (R376), named by its qualifier, and of a
class of its mask. -/
def Dev.ctrCounts (d : Dev) (c : Nat) (kind : QualKind) (q : Nat) (cls node : Option Nat) (qual : Nat) : Bool :=
  let inScope :=
    if c = 0 then true
    else if c < 65 then
      match kind with
      | .half => true
      | .port => d.portOf q (c - 1) || node == some (c - 1)
      | .node => q == c - 1
      | .slice => d.num (Obj.rmeSliceOwner q) == c - 1
    else
      match kind with
      | .half => true
      | .slice => q == c - 65
      | _ => false
  let mask := field qual 16 8
  inScope && (field qual 0 16 == 0xFFFF || field qual 0 16 == q) &&
    match cls with
    | some k => mask == 0 || bitOf mask k
    | none => true

/-- An event counts in every enabled counter of it (R376, R377). -/
def Dev.count (d : Dev) (ev q : Nat) (cls node : Option Nat := none) (n : Nat := 1) : Dev :=
  match eventRow ev with
  | none => d
  | some r =>
    ((usedCounters d.objs).filter (fun c => c.2 == ev)).foldl (fun d c =>
      if d.flag (Obj.pmuCtrEnable c.1) && d.ctrCounts (c.1 / 256) r.qual q cls node (d.num (Obj.pmuCtrQual c.1)) then
        d.setNum (Obj.pmuCtrValue c.1) (ctrAdd (d.num (Obj.pmuCtrValue c.1)) n)
      else d) d

/-- A write of 1 to `pmu.ctr.cmd` (R377). -/
def Dev.ctrClear (d : Dev) (e : Nat) : Dev := d.setNum (Obj.pmuCtrValue e) 0

/-- The snapshot of a scope (R378). -/
def Dev.latchSnap (d : Dev) (c : Nat) (t : Nat) : Dev :=
  let d := (List.range 256).foldl (fun d v =>
    let e := 256 * c + v
    if d.num (Obj.pmuCtrValue e) = d.num (Obj.pmuCtrSnapValue e) then d
    else d.setNum (Obj.pmuCtrSnapValue e) (d.num (Obj.pmuCtrValue e))) d
  d.setNum { Obj.pmuSnapTime with ent := c } t

/-! Perturbation. -/

/-- The entry of an armed perturbation with a remaining count, by kind, sub-kind and target (R390). -/
def Dev.armed (d : Dev) (kind sub target : Nat) : Option (Nat × Pert) :=
  d.test.armed.find? (fun e => e.2.kind == kind && e.2.left != 0 && e.2.target == target && (kind != 4 || field e.2.p2 0 8 == sub))

/-- An injection or a perturbed slot is counted, and a limited entry counts down (R390). -/
def Dev.fired (d : Dev) (e : Nat) : Dev :=
  let d := d.inc64 (Obj.testPertFired e)
  { d with test := { d.test with armed := d.test.armed.map (fun x =>
      if x.1 = e ∧ x.2.kind = 4 ∧ x.2.left ≠ 0xFFFFFFFF then (x.1, { x.2 with left := x.2.left - 1 }) else x) } }

/-- A forced error of a sub-kind at a target: whether one is injected now, and the device after it (R391). -/
def Dev.inject (d : Dev) (sub target : Nat) : Bool × Dev :=
  match d.armed 4 sub target with
  | some e => (true, d.fired e.1)
  | none => (false, d)

/-- A port is the target of an armed entry of kind 1, 2 or 3 (R392). -/
def Dev.portPerturbed (d : Dev) (p : Nat) : Bool :=
  d.test.armed.any (fun e => decide (1 ≤ e.2.kind ∧ e.2.kind ≤ 3) && e.2.target == p)

/-- A write of `test.pert.arm` (R390): 1 takes the entry's fields as they stand and is logged, 0 stops the entry. Kinds 1 to 3
ignore the count. -/
def Dev.writePertArm (d : Dev) (e v : Nat) : Dev :=
  let rest := d.test.armed.filter (fun x => x.1 != e)
  if v = 1 then
    let p : Pert := ⟨d.num (Obj.testPertKind e), d.num (Obj.testPertTarget e), d.num (Obj.testPertClassMask e),
      d.num (Obj.testPertP1 e), d.num (Obj.testPertP2 e), if d.num (Obj.testPertKind e) = 4 then d.num (Obj.testPertRepeat e) else 1⟩
    let d := (d.setNum (Obj.testPertArm e) 1).setNum (Obj.testPertFired e) 0
    ({ d with test := { d.test with armed := rest ++ [(e, p)] } }).logEvent d.holderHalf Scope.device 0 3 0x0607
      (beBytes 1 e ++ beBytes 1 p.kind ++ beBytes 1 (field p.p2 0 8))
  else { (d.setNum (Obj.testPertArm e) 0) with test := { d.test with armed := rest } }

/-! The test unlock. -/

/-- Context string of the unlock signature: "AF256-TEST". -/
def testContext : List Byte := [0x41, 0x46, 0x32, 0x35, 0x36, 0x2D, 0x54, 0x45, 0x53, 0x54]

/-- SHAKE256-256 of the device's identity key (0xB020:02). -/
def identityHash : List Byte := Config.shake256 Config.identityKey 32

/-- The message that an unlock signature covers (R387). -/
def unlockMessage (challenge : List Byte) (level : Nat) : List Byte := challenge ++ beBytes 1 level ++ identityHash

/-- A write of `test.unlock.req` (R387, R388). -/
def Dev.writeUnlockReq (d : Dev) (locked : Bool) (v : Nat) : Dev × Nat :=
  if v = 0 then (d.unlockEnd, Status.ok)
  else if v = 2 ∧ locked then (d, Status.locked)
  else
    let c := padTo 32 (Config.freeBytes d.fresh 32)
    ({ (d.bump.setBytes Obj.testUnlockChallenge c) with test := { d.test with challenge := some (c, v, d.clk + sec 60) } }, Status.ok)

/-- No challenge stands: it has been used or has expired. -/
def Dev.dropChallenge (d : Dev) : Dev :=
  { (d.clearObjs (fun k => k == Obj.testUnlockChallenge)) with test := { d.test with challenge := none } }

/-- A level is granted; a higher level in force stays (R387, R388; assumption log 20). -/
def Dev.grantUnlock (d : Dev) (level : Nat) : Dev :=
  let d := d.setNum Obj.testUnlockLevel (max level (d.num Obj.testUnlockLevel))
  ({ d with test := { d.test with grantedAt := d.clk } }).logEvent d.holderHalf Scope.device 0 3 0x0606 (beBytes 1 level) true

/-- The close of `test.unlock.response` (R387): the challenge is used once, and the level is granted only to the owner's
key with a good signature. -/
def Dev.unlockResponse (d : Dev) (locked : Bool) (key signature : List Byte) : Dev × Nat :=
  let owner := d.bytes Obj.mgmtOwnerCredential
  match d.test.challenge with
  | none => (d, Status.auth)
  | some (c, level, expiry) =>
    let d := d.dropChallenge
    if expiry ≤ d.clk then (d, Status.auth)
    else if level = 2 ∧ locked then (d, Status.locked)
    else if !owner.all (fun b => b == 0) && Config.shake256 key 32 == owner &&
        Config.mlDsaVerify key (unlockMessage c level) testContext signature then
      (d.grantUnlock level, Status.ok)
    else (d, Status.auth)

/-- TEST_CHALLENGE_EXPIRY (R387): an unused challenge expires after 60 s. -/
def execTestChallengeExpiry (s : State) : Host.Outcome State Fault Refusal :=
  match s.dev.test.challenge with
  | none => .next s
  | some (_, _, expiry) => onDev s (s.dev.advanceTo expiry).dropChallenge

/-- TEST_UNLOCK_TIMEOUT (R388): `test.unlock.timeout` has elapsed since the last grant. -/
def execTestUnlockTimeout (s : State) : Host.Outcome State Fault Refusal :=
  let d := s.dev
  if !d.unlocked then .next s
  else onDev s (d.advanceTo (d.test.grantedAt + sec (d.num Obj.testUnlockTimeout))).unlockEnd

/-- JTAG_CHALLENGE (R389): a boot ROM publishes a challenge to the test equipment. -/
def execJtagChallenge (h : Half) (s : State) : Host.Outcome State Fault Refusal :=
  let d := s.dev
  let c := padTo 32 (Config.freeBytes d.fresh 32)
  onDev s (({ d.bump with test := byHalf h { d.test with jtagChallengeW := some c } { d.test with jtagChallengeE := some c } }).emit (.jtag h c))

/-- JTAG_UNLOCK (R389): the boot ROM verifies key and signature against the owner credential in its own configuration
store or, on an unowned device, against any unrevoked OTP key slot. -/
def execJtagUnlock (h : Half) (level : Nat) (key signature : List Byte) (s : State) : Host.Outcome State Fault Refusal :=
  let d := s.dev
  match byHalf h d.test.jtagChallengeW d.test.jtagChallengeE with
  | none => .next s
  | some c =>
    let d := { d with test := byHalf h { d.test with jtagChallengeW := none } { d.test with jtagChallengeE := none } }
    let owner := (tabGet (d.store h).content Obj.mgmtOwnerCredential (.bytes [])).toBytes
    let unowned := owner.all (fun b => b == 0)
    let hash := Config.shake256 key 32
    let known := if unowned then (List.range 4).any (fun i => !bitOf s.otp.revoked i && Config.otpKeyHash i == hash)
      else owner == hash
    if (level = 1 ∨ level = 2 ∧ s.commitLock = false) ∧ known ∧ Config.mlDsaVerify key (unlockMessage c level) testContext signature then
      let d := { d with test := byHalf h { d.test with grantedAt := d.clk, jtagLevelW := max level d.test.jtagLevelW }
                                         { d.test with grantedAt := d.clk, jtagLevelE := max level d.test.jtagLevelE } }
      onDev s (d.logEvent h Scope.device 0 3 0x0606 (beBytes 1 level) true)
    else onDev s d

end Sys2Proof.Machine
end

