-- ==== Sys2Proof/Machine/Frames.lean ====
section
/-!
DEFINITION. Sys2Proof/Machine/Frames.lean: lengths, kinds and ordering of frames (R171, R281), cells and buffer accounts
(R176 to R180), and the lists of frames that a half holds.
-/
namespace Sys2Proof

/-! Frames. -/

/-- Ordering types of a TLP (R171). -/
inductive Ord where
  | posted
  | nonPosted
  | completion
  deriving DecidableEq, Repr

/-- The ordering type of a TLP. CXL.mem messages wait for a response, so they count as non-posted (assumption log 10). -/
def TlpType.ord : TlpType → Ord
  | .memWrite => .posted
  | .cxlBackInvalidate => .posted
  | .message => .posted
  | .broadcastMessage => .posted
  | .completion => .completion
  | _ => .nonPosted

/-- Memory requests, which an address routes. -/
def TlpType.isMemory : TlpType → Bool
  | .memRead | .memWrite | .atomic | .deferrableWrite | .cxlMemRead | .cxlMemWrite => true
  | _ => false

/-- I/O requests. -/
def TlpType.isIo : TlpType → Bool
  | .ioRead | .ioWrite => true
  | _ => false

/-- CXL.mem messages. -/
def TlpType.isCxl : TlpType → Bool
  | .cxlMemRead | .cxlMemWrite | .cxlBackInvalidate => true
  | _ => false

/-- Credits less a need. -/
def Credits.less (a n : Credits) : Credits := ⟨a.ph - n.ph, a.pd - n.pd, a.nh - n.nh, a.nd - n.nd, a.ch - n.ch, a.cd - n.cd⟩

/-- Credits and a return. -/
def Credits.plus (a n : Credits) : Credits := ⟨a.ph + n.ph, a.pd + n.pd, a.nh + n.nh, a.nd + n.nd, a.ch + n.ch, a.cd + n.cd⟩

/-- The TLP of a frame. -/
def Frame.tlp? (f : Frame) : Option Tlp :=
  match f.body with
  | .tlp t => some t
  | _ => none

/-- The RME packet of a frame. -/
def Frame.rme? (f : Frame) : Option RmePacket :=
  match f.body with
  | .rme p => some p
  | _ => none

/-- RME data packets: every opcode that travels in the slice's class (10, "Packet opcodes and REF"). -/
def RmeOp.isData : RmeOp → Bool
  | .atomicResp => false
  | .ack => false
  | .skimNotice => false
  | _ => true

/-- RME data frames (R22). -/
def Frame.isRmeData (f : Frame) : Bool :=
  match f.body with
  | .rme p => p.op.isData
  | _ => false

/-- Frame bytes (R281). -/
def Frame.bytes (f : Frame) : Nat :=
  match f.body with
  | .tlp t => t.headerBytes + t.data.length
  | .rme p => 32 + p.payload.length
  | .linkControl _ _ _ _ => 16
  | .mgmt b => b.length

/-- LENGTH of a frame on BFL: the frame and its fabric prefix (R224, R225). -/
def Frame.bflLength (f : Frame) : Nat := f.bytes + (if f.fprefix.isSome then 16 else 0)

/-- Cells of a frame (R176): an RME header, link control and management content are payload to the core. -/
def Frame.cells (f : Frame) : Nat :=
  let payload := match f.body with
    | .tlp t => t.data.length
    | .rme p => 32 + p.payload.length
    | .linkControl _ _ _ _ => 16
    | .mgmt b => b.length
  max 1 ((payload + 255) / 256)

/-- KIND of the sample and harvest records (R383). -/
def Frame.kind (f : Frame) : Nat :=
  match f.body with
  | .tlp _ => 1
  | .rme _ => 2
  | .linkControl _ _ _ _ => 3
  | .mgmt _ => 4

/-- Header bytes of a TLP as PCI Express or CXL lays them out (assumption log 11). -/
def Tlp.header (t : Tlp) : List Byte := Machine.padTo t.headerBytes (Config.tlpHeader t)

/-- The 3 header dwords as received that DETAIL of a TLP's event holds (R301; assumption log 11). -/
def Tlp.detail (t : Tlp) : List Byte := Machine.padTo 12 (Config.tlpHeader t)

/-- REF of the RME header, by opcode (10, "Packet opcodes and REF"). -/
def RmePacket.ref (p : RmePacket) : Nat :=
  match p.op with
  | .writeImm | .sendImm => p.imm % 2 ^ 32 * 2 ^ 28
  | .readReq => p.attempt % 16 * 2 ^ 56 + (p.readLen + 2 ^ 30 - 1) % 2 ^ 30 * 2 ^ 26
  | .readResp => p.attempt % 16 * 2 ^ 56
  | .ack => p.syndrome % 16 * 2 ^ 56 + p.nakPsn % 2 ^ 24 * 2 ^ 32
  | _ => 0

/-- POS of the RME header. -/
def Pos.code : Pos → Nat
  | .middle => 0
  | .first => 1
  | .last => 2
  | .only => 3

/-- The 32-byte header of an RME packet (10, "RME header"). -/
def RmePacket.header (p : RmePacket) : List Byte :=
  Machine.beBytes 1 (16 + p.op.code) ++
    Machine.beBytes 1 (p.pos.code * 64 + Machine.b2n p.ackReq * 32 + Machine.b2n p.ce * 16 + Machine.b2n p.ceEcho * 8 +
      Machine.b2n p.retx * 4 + p.dnode % 2 * 2 + p.snode % 2) ++
    Machine.beBytes 1 p.echoCount ++ Machine.beBytes 3 p.destQpn ++ Machine.beBytes 3 p.srcQpn ++ Machine.beBytes 3 p.psn ++
    Machine.beBytes 2 p.msn ++
    Machine.beBytes 18 (p.path % 16 * 2 ^ 140 + p.offset % 2 ^ 30 * 2 ^ 108 + p.len % 2 ^ 16 * 2 ^ 92 + p.key % 2 ^ 32 * 2 ^ 60 + p.ref)

/-- The 16 bytes of a link control frame (09, "Evacuate"). -/
def linkControlBytes (op link lastSeq inc : Nat) : List Byte :=
  Machine.beBytes 16 (op % 256 * 2 ^ 120 + link % 16 * 2 ^ 116 + lastSeq % 4096 * 2 ^ 104 + inc % 65536 * 2 ^ 88)

/-- The bytes of a frame. -/
def Frame.wire (f : Frame) : List Byte :=
  match f.body with
  | .tlp t => t.header ++ t.data
  | .rme p => p.header ++ p.payload
  | .linkControl op link lastSeq inc => linkControlBytes op link lastSeq inc
  | .mgmt b => b

/-- Flow-control credits of a TLP: one header, and its data in units of 16 bytes. -/
def Tlp.credits (t : Tlp) : Credits :=
  let n := (t.data.length + 15) / 16
  match t.type.ord with
  | .posted => { ph := 1, pd := n }
  | .nonPosted => { nh := 1, nd := n }
  | .completion => { ch := 1, cd := n }

/-- Flow-control credits of a frame. -/
def Frame.credits (f : Frame) : Credits :=
  match f.body with
  | .tlp t => t.credits
  | _ => {}

end Sys2Proof

namespace Sys2Proof.Machine

/-- B of a frame at a port (R281): its bytes and the port's overhead, at least 1. A BFL port counts the frame word. -/
def Dev.charge (d : Dev) (p : Nat) (f : Frame) : Nat :=
  let n := if d.num (Obj.portRole p) = 2 then 4 + f.bflLength else f.bytes
  max 1 ((n : Int) + toSigned 32 (d.num (Obj.schedPortOverhead p))).toNat

/-! Ordering (R171 to R173). -/

/-- Whether a later TLP of a stream must not pass an earlier one (R171). -/
def mustNotPass (relaxed : Bool) (later earlier : Tlp) : Bool :=
  match later.type.ord, earlier.type.ord with
  | .posted, .posted => !(relaxed && (later.ro || (later.ido && later.requester != earlier.requester)))
  | .nonPosted, .posted => true
  | .completion, .posted => !(relaxed && later.ro)
  | .completion, .completion => later.requester == earlier.requester && later.tag == earlier.tag
  | _, _ => false

/-- Two frames are TLPs of one stream: one ingress port or RME, one egress target and one traffic class (R171, R174). -/
def sameStream (a : QFrame) (inPort : Nat) (inHalf : Half) (outPort : Nat) (tc : Nat) : Bool :=
  a.inPort == inPort && a.inHalf == inHalf && a.outPort == outPort &&
    match a.frame.body with
    | .tlp t => t.tc == tc
    | _ => false

/-- Frames of a half's seam queues, but for those discarded on a module. -/
def Buffer.crossing (b : Buffer) : List QFrame := (b.seamQueue.filter (fun f => !f.gone)).map (fun f => f.q)

/-- Every frame that waits in a buffer or a seam queue. -/
def Dev.waiting (d : Dev) : List QFrame := d.bufW.frames ++ d.bufE.frames ++ d.bufW.crossing ++ d.bufE.crossing

/-- The barrier of a frame that arrives: the waiting frames of its stream that it must not pass (R172, R173). -/
def Dev.barrierOf (d : Dev) (inPort : Nat) (inHalf : Half) (outPort : Nat) (f : Frame) : List Nat :=
  match f.body with
  | .tlp t =>
    (d.waiting.filter (fun q => sameStream q inPort inHalf outPort t.tc &&
      match q.frame.body with
      | .tlp e => mustNotPass (d.flag Obj.coreOrderRelaxed) t e
      | _ => false)).map (fun q => q.id)
  | _ => []

/-- No frame that a barrier names waits any more (R173). -/
def Dev.barrierClear (d : Dev) (q : QFrame) : Bool := q.barrier.all (fun i => !d.waiting.any (fun w => w.id == i))

/-! Buffer accounts (R176). -/

/-- Cells of a half's buffer. -/
abbrev bufferCells : Nat := 131072

/-- Ports of a half. -/
def portsOfHalf (h : Half) : List Nat := (List.range 64).map (fun i => 64 * h.code + i)

/-- Credit reserve of a port: 81 cells per lane of its split width. -/
def Dev.portReserve (d : Dev) (p : Nat) : Nat := if d.flag (Obj.portEnable p) then 81 * d.splitWidth p else 0

/-- Credit reserve of a half. -/
def Dev.creditReserve (d : Dev) (h : Half) : Nat := ((portsOfHalf h).map d.portReserve).sum

/-- Shared pool size: what the reserves leave. -/
def Dev.poolSize (d : Dev) (h : Half) : Nat :=
  bufferCells - d.creditReserve h - d.num Obj.coreThreshIc7Reserve - d.num Obj.coreThreshIc6Reserve

/-- Cells of a list of frames that are charged to an account. -/
def cellsIn (l : List QFrame) (p : Account → Bool) : Nat := ((l.filter (fun q => p q.account)).map (fun q => q.cells)).sum

/-- Cells that staged packets of a half's QPs hold (R267). -/
def Dev.stagingUsed (d : Dev) (h : Half) : Nat :=
  ((d.rme.qps.filter (fun e => e.1 / 65536 == h.code)).map (fun e => (e.2.staged.map (fun s => s.2)).sum)).sum

/-- Frames that are charged in a half: in its buffer, unsent in its seam queues, and those sent to it and admitted
there. -/
def Dev.chargedIn (d : Dev) (h : Half) : List QFrame :=
  (d.buf h).frames ++ ((d.buf h).seamQueue.filter (fun f => f.sent.isNone)).map (fun f => f.q) ++
    ((d.buf h.other).seamQueue.filter (fun f => f.sent.isSome)).map (fun f => { f.q with account := f.admitted })

/-- Cells without an owner: orphans found once, those that the running scan judges, and those lost since it started. -/
def Buffer.strays (b : Buffer) : Nat := b.orphans + b.judged + b.lostCells

/-- Cells in use in a half, orphans and lost cells among them. -/
def Dev.cellsUsed (d : Dev) (h : Half) : Nat :=
  cellsIn (d.chargedIn h) (fun _ => true) + d.stagingUsed h + (d.buf h).strays

/-- Free cells in every account. -/
def Dev.cellsFree (d : Dev) (h : Half) : Nat := bufferCells - d.cellsUsed h

/-- Cells that an account keeps from the pool: its size, or what frames still occupy of it after a commit that lowered
it, whose free cells alone return (R180). -/
def Dev.accountCells (d : Dev) (h : Half) (size : Nat) (a : Account) : Nat := max size (cellsIn (d.chargedIn h) (fun x => x == a))

/-- Cells that the pool may use now. -/
def Dev.poolNow (d : Dev) (h : Half) : Nat :=
  bufferCells - ((portsOfHalf h).map (fun p => d.accountCells h (d.portReserve p) (.credit p))).sum -
    d.accountCells h (d.num Obj.coreThreshIc7Reserve) .ic7 - d.accountCells h (d.num Obj.coreThreshIc6Reserve) .ic6

/-- Cells in use in the pool. -/
def Dev.poolUsed (d : Dev) (h : Half) : Nat := cellsIn (d.chargedIn h) (fun a => a == .pool) + d.stagingUsed h + (d.buf h).strays

/-- Free cells of the shared pool; the shortfall of a reserve that has grown counts as used (R180). -/
def Dev.poolFree (d : Dev) (h : Half) : Nat := d.poolNow h - d.poolUsed h

/-- Cells that reserves raised by a commit have still to take from the pool as they become free (R180). -/
def Dev.shortfall (d : Dev) (h : Half) : Nat := d.poolUsed h - d.poolNow h

/-- The share of the IC6 and of the IC7 reserve in the shortfall: the credit reserve fills first, IC6 last (assumption
log 90, DESIGN CHOICE). -/
def Dev.short6 (d : Dev) (h : Half) : Nat := min (d.buf h).short6 (d.shortfall h)
def Dev.short7 (d : Dev) (h : Half) : Nat := min (d.buf h).short7 (d.shortfall h - d.short6 h)

/-- A commit changes the IC7 and IC6 reserves of a half: `n7` and `n6` are their sizes before it. -/
def Dev.noteReserves (d : Dev) (h : Half) (n7 n6 : Nat) : Dev :=
  let s7 := d.short7 h + (d.num Obj.coreThreshIc7Reserve - n7)
  let s6 := d.short6 h + (d.num Obj.coreThreshIc6Reserve - n6)
  d.modBuf h (fun b => { b with short7 := s7, short6 := s6 })

/-- Pool cells of the egress queue of a port and class in a half. -/
def Dev.queueUsed (d : Dev) (h : Half) (outPort qcls : Nat) : Nat :=
  cellsIn ((d.chargedIn h).filter (fun q => q.outPort == outPort && q.qcls == qcls)) (fun a => a == .pool)

/-- The dynamic threshold (R179): used(q) + n ≤ 2^(k − 4) × free. -/
def Dev.poolAdmits (d : Dev) (h : Half) (outPort qcls n : Nat) : Bool :=
  let k := field (d.num Obj.coreThreshAlpha) (4 * qcls) 4
  decide (16 * (d.queueUsed h outPort qcls + n) ≤ 2 ^ k * d.poolFree h) && decide (n ≤ d.poolFree h)

/-- Whether the reserve of a class has n free cells (R178, R180): IC7 and IC6 only. -/
def Dev.reserveAccount (d : Dev) (h : Half) (qcls n : Nat) : Option Account :=
  if qcls = 7 ∧ cellsIn (d.chargedIn h) (fun a => a == .ic7) + n + d.short7 h ≤ d.num Obj.coreThreshIc7Reserve then some .ic7
  else if qcls = 6 ∧ cellsIn (d.chargedIn h) (fun a => a == .ic6) + n + d.short6 h ≤ d.num Obj.coreThreshIc6Reserve then some .ic6
  else none

/-- The account of a frame that arrives under link credits at a port (R178, R284): the pool where it admits the frame,
otherwise the port's credit reserve, where a red TLP stays in any case. -/
def Dev.creditedAccount (d : Dev) (h : Half) (port outPort qcls n : Nat) (red : Bool) : Account :=
  if red then .credit port
  else
    match d.reserveAccount h qcls n with
    | some a => a
    | none => if d.poolAdmits h outPort qcls n then .pool else .credit port

/-- The account of a frame from a local RME or management cluster, or from the seam (R178, R189); none holds it back. -/
def Dev.uncreditedAccount (d : Dev) (h : Half) (outPort qcls n : Nat) : Option Account :=
  match d.reserveAccount h qcls n with
  | some a => some a
  | none => if d.poolAdmits h outPort qcls n then some .pool else none

/-- `core.buf.pool_low` follows the free pool. -/
def Dev.notePool (d : Dev) (h : Half) : Dev :=
  let low := ((tabFind d.objs (Obj.coreBufPoolLow h)).map Val.toNum).getD bufferCells
  if d.poolFree h < low then d.setNum (Obj.coreBufPoolLow h) (d.poolFree h) else d

/-! Frame lists. -/

/-- Frames queued at a port. -/
def Dev.queueAt (d : Dev) (p : Nat) : List QFrame := (d.buf (Half.ofPort p)).frames.filter (fun q => q.outPort == p)

/-- A frame put at the end of a half's buffer. -/
def Dev.pushFrame (d : Dev) (h : Half) (q : QFrame) : Dev :=
  (d.modBuf h (fun b => { b with frames := b.frames ++ [q] })).notePool h

/-- The link record that names a port (R221). -/
def Dev.linkOfPort (d : Dev) (p : Nat) : Option Nat := (List.range 16).find? (fun i => d.num (Obj.bflPort i) == p)

/-- Cells returned to a pool of a BFL link's partner (R228). -/
def giveCells (l : List (Nat × Nat)) (pool n : Nat) : List (Nat × Nat) :=
  if n = 0 then l else tabMod l pool 0 (fun x => (x + n) % 65536)

/-- The credits of a frame that arrived at a port return to its link, once (R178, R228). -/
def Dev.giveCredits (d : Dev) (p : Nat) (q : QFrame) : Dev :=
  if 128 ≤ p || !q.credited then d
  else if d.num (Obj.portRole p) = 2 then
    match d.linkOfPort p with
    | some i =>
      let ded := min q.ded q.cells
      let pools := (if ded = 0 then [] else [q.cls]) ++ (if q.cells = ded then [] else [8])
      d.modLink i (fun l => { l with given := giveCells (giveCells l.given q.cls ded) 8 (q.cells - ded),
                                     changed := l.changed ++ pools.filter (fun k => !l.changed.contains k) })
    | none => d
  else d.emit (.creditReturn p q.frame.credits)

/-- A frame leaves the account it is charged to: a credit reserve's credits return. -/
def Dev.leaveAccount (d : Dev) (q : QFrame) : Dev :=
  match q.account with
  | .credit p => d.giveCredits p q
  | _ => d

/-- The egress queue of a frame: its port, node and class. -/
def queueKey (q : QFrame) : Nat := (q.outPort * 65 + q.node.getD 64) * 8 + q.qcls

/-- A frame taken out of a half's buffer; where it was the head of its egress queue, the head advances (R187). -/
def Dev.dropFrame (d : Dev) (h : Half) (id : Nat) : Dev :=
  match (d.buf h).frames.find? (fun q => q.id == id) with
  | some q =>
    let head := ((d.buf h).frames.find? (fun x => queueKey x == queueKey q)).any (fun x => x.id == id)
    (d.modBuf h (fun b => { b with frames := b.frames.filter (fun q => q.id != id),
                                   headAge := if head then tabDel b.headAge (queueKey q) else b.headAge })).leaveAccount q
  | none => d

/-- A seam queue without the frames that meet a test: one that is on a module keeps its place there, for its crossing number
is still to be accepted (R190). -/
def takeSeam (p : QFrame → Bool) (l : List SeamFrame) : List SeamFrame :=
  (l.filter (fun f => !p f.q || f.sent.isSome)).map (fun f => if p f.q then { f with gone := true } else f)

/-- A frame taken out of a half's seam queues. -/
def Dev.dropSeam (d : Dev) (h : Half) (id : Nat) : Dev :=
  match (d.buf h).crossing.find? (fun q => q.id == id) with
  | some q => (d.modBuf h (fun b => { b with seamQueue := takeSeam (fun q => q.id == id) b.seamQueue })).leaveAccount q
  | none => d

end Sys2Proof.Machine
end

