-- ==== Sys2Proof/Machine/BflWire.lean ====
section
/-!
DEFINITION. Sys2Proof/Machine/BflWire.lean: the bytes of BFL (09, R5): flits with their link header and CRC (R223), frames
with their frame word and fabric prefix (R224, R225), and bypass messages (R229), as they are sent and as they are read.
-/
namespace Sys2Proof

/-! RME packets as they are read (10, "RME header"). -/

/-- The opcode of a code. -/
def RmeOp.ofCode : Nat → Option RmeOp
  | 0 => some .write
  | 1 => some .writeImm
  | 2 => some .send
  | 3 => some .sendImm
  | 4 => some .readReq
  | 5 => some .readResp
  | 6 => some .fetchAdd
  | 7 => some .compSwap
  | 8 => some .atomicResp
  | 9 => some .ack
  | 10 => some .skimNotice
  | _ => none

/-- The POS of a code. -/
def Pos.ofCode : Nat → Pos
  | 0 => .middle
  | 1 => .first
  | 2 => .last
  | _ => .only

/-- An RME packet read from its bytes; a packet whose VERSION or OPCODE is not listed is malformed. -/
def RmePacket.read (b : List Byte) : RmePacket :=
  let n := Machine.beNat (Machine.padTo 32 b)
  let f := Machine.field n
  let op := (RmeOp.ofCode (f 248 4)).getD .write
  { op := op, wellFormed := f 252 4 == 1 && (RmeOp.ofCode (f 248 4)).isSome, pos := Pos.ofCode (f 246 2),
    ackReq := Machine.bitOf n 245, ce := Machine.bitOf n 244, ceEcho := Machine.bitOf n 243, retx := Machine.bitOf n 242,
    dnode := f 241 1, snode := f 240 1, echoCount := f 232 8, destQpn := f 208 24, srcQpn := f 184 24, psn := f 160 24, msn := f 144 16,
    path := f 140 4, offset := f 108 30, len := f 92 16, key := f 60 32,
    imm := if op = .writeImm ∨ op = .sendImm then f 28 32 else 0,
    attempt := if op = .readReq ∨ op = .readResp then f 56 4 else 0,
    readLen := if op = .readReq then f 26 30 + 1 else 0,
    syndrome := if op = .ack then f 56 4 else 0,
    nakPsn := if op = .ack then f 32 24 else 0,
    payload := b.drop 32 }

/-- The 16 bytes of a fabric prefix (R225). -/
def FabricPrefix.bytes (x : FabricPrefix) : List Byte :=
  Machine.beBytes 16 (x.pkind % 256 * 2 ^ 120 + x.srcNode % 2 * 2 ^ 119 + x.grant % 4096 * 2 ^ 100 + x.offset % 2 ^ 64)

/-- A fabric prefix read from its bytes. -/
def FabricPrefix.read (b : List Byte) : FabricPrefix :=
  let n := Machine.beNat b
  { pkind := Machine.field n 120 8, srcNode := Machine.field n 119 1, grant := Machine.field n 100 12, offset := Machine.field n 0 64 }

/-- KIND of a frame on BFL (R224). -/
def Frame.bflKind (f : Frame) : Nat :=
  match f.body with
  | .tlp _ => if f.fprefix.isSome then 2 else 1
  | .rme _ => 3
  | .linkControl _ _ _ _ => 4
  | .mgmt _ => 5

/-- The bytes of a frame after its frame word: its fabric prefix and the frame. -/
def Frame.bflBody (f : Frame) : List Byte :=
  (match f.fprefix with
    | some x => x.bytes
    | none => []) ++ f.wire

/-- The frame that a KIND and its bytes spell. How PCI Express lays out a TLP the manual does not repeat (assumption
log 11). -/
def Frame.readBfl (kind : Nat) (b : List Byte) : Frame :=
  match kind with
  | 1 => { body := .tlp (Config.tlpRead b) }
  | 2 => { body := .tlp (Config.tlpRead (b.drop 16)), fprefix := some (FabricPrefix.read (b.take 16)) }
  | 3 => { body := .rme (RmePacket.read b) }
  | 4 =>
    let n := Machine.beNat (Machine.padTo 16 b)
    { body := .linkControl (Machine.field n 120 8) (Machine.field n 116 4) (Machine.field n 104 12) (Machine.field n 88 16) }
  | _ => { body := .mgmt b }

end Sys2Proof

namespace Sys2Proof.Machine

/-! Flits (R223). -/

/-- One bit of the CRC-32 of polynomial 0x04C1_1DB7, the most significant bit first. -/
def crcBit (c : Nat) : Nat := if c < 2 ^ 31 then 2 * c else Nat.xor (2 * c % 2 ^ 32) 0x04C11DB7

/-- One byte of it. The manual does not name the order of the bits in a byte; they are taken most significant first, as
R5 orders bytes (assumption log 91, DESIGN CHOICE). -/
def crcByte (c : Nat) (b : Byte) : Nat := (List.range 8).foldl (fun c _ => crcBit c) (Nat.xor c (b.toNat * 2 ^ 24))

/-- The CRC-32 of R223: initial value all ones, complemented result. -/
def crc32 (l : List Byte) : Nat := Nat.xor (l.foldl crcByte 0xFFFFFFFF) 0xFFFFFFFF

/-- The 10 bytes of a link header. -/
def headerBytes (h : BflHeader) : List Byte :=
  beBytes 10 (h.seq % 4096 * 2 ^ 68 + h.vc % 16 * 2 ^ 64 + h.crPool % 16 * 2 ^ 60 + h.crTotal % 65536 * 2 ^ 44 + h.first % 64 * 2 ^ 38 +
    b2n h.cont * 2 ^ 37 + h.inc % 65536 * 2 ^ 16)

/-- The link header of a flit. -/
def readHeader (flit : List Byte) : BflHeader :=
  let n := beNat (flit.take 10)
  { seq := field n 68 12, vc := field n 64 4, crPool := field n 60 4, crTotal := field n 44 16, first := field n 38 6, cont := bitOf n 37, inc := field n 16 16 }

/-- The 256 bytes of a flit: header, payload, CRC over bytes 0 to 245, and the 6 ECC bytes of the base specification
(assumption log 2). -/
def flitBytes (h : BflHeader) (payload : List Byte) : List Byte :=
  let b := headerBytes h ++ padTo 236 payload
  b ++ beBytes 4 (crc32 b) ++ padTo 6 (Config.flitEcc b)

/-- The CRC of a received flit passes. -/
def flitCrcOk (b : List Byte) : Bool := b.length == 256 && beNat (slice b 246 4) == crc32 (b.take 246)

/-- The payload of a flit. -/
def flitPayload (b : List Byte) : List Byte := slice b 10 236

/-! Frames in flits (R224). -/

/-- A frame word. -/
def frameWord (kind length ded : Nat) : List Byte := beBytes 4 (kind % 16 * 2 ^ 28 + length % 8192 * 2 ^ 13 + ded % 32 * 2 ^ 8)

/-- A frame as it stands in a channel's flits: its word and its bytes, padded to a dword. -/
def frameStream (f : Frame) (ded : Nat) : List Byte :=
  let b := f.bflBody
  frameWord f.bflKind b.length ded ++ padTo (padded b.length) b

/-- The payloads that carry a stream of bytes, 236 to a flit, each with FIRST and CONT: the first starts with the frame
word; where the last has room, a word of KIND 0 pads it. -/
def streamFlits : Nat → Bool → List Byte → List (Nat × Bool × List Byte)
  | 0, _, _ => []
  | n + 1, cont, l =>
    if l.isEmpty then []
    else (if !cont then 0 else if l.length < 236 then l.length / 4 else 63, cont, padTo 236 l) :: streamFlits n true (l.drop 236)

/-- The flits of one frame. -/
def frameFlits (f : Frame) (ded : Nat) : List (Nat × Bool × List Byte) := streamFlits 20 false (frameStream f ded)

/-- A frame received in part: KIND, LENGTH, DED and the bytes so far. -/
abbrev PartFrame := Nat × Nat × Nat × List Byte

/-- The frames that the words of a payload start: those that end in it (KIND, DED and bytes), and one that goes on. None:
a KIND is reserved, or a LENGTH is 0 with a KIND other than 0. -/
def readWords : Nat → List Byte → Option (List (Nat × Nat × List Byte) × Option PartFrame)
  | 0, _ => some ([], none)
  | n + 1, l =>
    if l.length < 4 then some ([], none)
    else
      let w := beNat (l.take 4)
      let kind := field w 28 4
      let len := field w 13 13
      let rest := l.drop 4
      if kind = 0 then some ([], none)
      else if 6 ≤ kind ∨ len = 0 then none
      else if rest.length < padded len then some ([], some (kind, len, field w 8 5, rest))
      else
        match readWords n (rest.drop (padded len)) with
        | none => none
        | some (fs, part) => some ((kind, field w 8 5, rest.take len) :: fs, part)

/-- What a data flit's payload carries after a frame that may have begun before it (R224). None: it is malformed, also
where its CONT and the frame in progress disagree (assumption log 92, DESIGN CHOICE). -/
def readPayload (part : Option PartFrame) (cont : Bool) (l : List Byte) : Option (List (Nat × Nat × List Byte) × Option PartFrame) :=
  match part, cont with
  | none, false => readWords 60 l
  | some (kind, len, ded, b), true =>
    let need := padded len - b.length
    if l.length < need then some ([], some (kind, len, ded, b ++ l))
    else
      match readWords 60 (l.drop need) with
      | none => none
      | some (fs, part) => some ((kind, ded, (b ++ l).take len) :: fs, part)
  | _, _ => none

/-! Bypass messages (R229). -/

/-- The bypass messages. -/
inductive BypassMsg where
  | ack (seq : Nat)
  | nak (seq cause : Nat)
  | credit (first : Nat) (totals : List Nat)
  | heartbeat (link st hb ack : Nat)
  | time (tseq tx delay echo : Nat)
  | pairSync (node st gen : Nat) (digest : List Byte)
  | reset (isAck : Bool) (r : BflReset)
  deriving DecidableEq, Repr

/-- The 16 bytes of a message: its TYPE and bits [119:0]. -/
def BypassMsg.bytes (m : BypassMsg) : List Byte :=
  match m with
  | .ack seq => beBytes 1 0x01 ++ beBytes 15 (seq % 4096 * 2 ^ 108)
  | .nak seq cause => beBytes 1 0x02 ++ beBytes 15 (seq % 4096 * 2 ^ 108 + cause % 16 * 2 ^ 104)
  | .credit first totals => beBytes 1 0x03 ++ beBytes 1 (first % 16 * 16) ++ padTo 14 (totals.flatMap (beBytes 2))
  | .heartbeat link st hb seq =>
    beBytes 1 0x04 ++ beBytes 15 (link % 16 * 2 ^ 116 + st % 16 * 2 ^ 112 + hb % 65536 * 2 ^ 96 + seq % 4096 * 2 ^ 84)
  | .time tseq tx delay echo => beBytes 1 0x05 ++ beBytes 1 tseq ++ beBytes 8 tx ++ beBytes 3 delay ++ beBytes 1 echo ++ beBytes 2 0
  | .pairSync node st gen digest =>
    beBytes 1 0x06 ++ beBytes 3 (node % 2 * 2 ^ 23 + st % 8 * 2 ^ 20) ++ beBytes 4 gen ++ padTo 8 digest
  | .reset isAck r =>
    beBytes 1 (if isAck then 0x08 else 0x07) ++
      beBytes 15 (r.node % 2 * 2 ^ 119 + r.link % 16 * 2 ^ 115 + r.reason % 8 * 2 ^ 112 + r.width % 16 * 2 ^ 108 + r.rate % 16 * 2 ^ 104 +
        r.nextExpected % 4096 * 2 ^ 92 + r.inc % 65536 * 2 ^ 76 + beNat (padTo 8 r.tag) * 2 ^ 12)

/-- A message read from its 16 bytes; none for a reserved TYPE. An empty message is read before. -/
def BypassMsg.read (b : List Byte) : Option BypassMsg :=
  let n := beNat (slice b 1 15)
  let f := field n
  match (b.headD 0).toNat with
  | 0x01 => some (.ack (f 108 12))
  | 0x02 => some (.nak (f 108 12) (f 104 4))
  | 0x03 => some (.credit (f 116 4) ((List.range 7).map (fun k => f (96 - 16 * k) 16)))
  | 0x04 => some (.heartbeat (f 116 4) (f 112 4) (f 96 16) (f 84 12))
  | 0x05 => some (.time (f 112 8) (f 48 64) (f 24 24) (f 16 8))
  | 0x06 => some (.pairSync (f 119 1) (f 116 3) (f 64 32) (beBytes 8 (f 0 64)))
  | 0x07 | 0x08 =>
    some (.reset ((b.headD 0).toNat == 8)
      { node := f 119 1, link := f 115 4, reason := f 112 3, width := f 108 4, rate := f 104 4, nextExpected := f 92 12, inc := f 76 16, tag := beBytes 8 (f 12 64) })
  | _ => none

/-- The payload of a bypass flit: up to 14 messages, the others empty, and 12 reserved bytes. -/
def bypassPayload (l : List BypassMsg) : List Byte := padTo 236 ((l.take 14).flatMap BypassMsg.bytes)

/-- The messages of a bypass flit that are not empty, at payload offsets 16k. -/
def bypassMessages (payload : List Byte) : List (List Byte) :=
  ((List.range 14).map (fun k => slice payload (16 * k) 16)).filter (fun b => b.headD 0 != 0)

end Sys2Proof.Machine
end

