-- ==== Sys2Proof/Machine/Sched.lean ====
section
/-!
DEFINITION. Sys2Proof/Machine/Sched.lean: port capacity, meters, shapers, the IC7 limiter, trellis contracts and the tags
of weighted fair queueing (R282 to R298).
-/
namespace Sys2Proof.Machine

/-! Port capacity (R295). -/

/-- Mb/s of payload per lane at a rate code: 0.8 of the rate at 2.5 and 5 GT/s, 236 ÷ 256 at every other. -/
def laneCapacity (rate : Nat) : Nat :=
  match rate with
  | 1 => 2000
  | 2 => 4000
  | 3 => 7375
  | 4 => 14750
  | 5 => 29500
  | 6 => 59000
  | 7 => 118000
  | _ => 0

/-- W of R295: the smaller of split width and `port.max_width`. -/
def Dev.portW (d : Dev) (p : Nat) : Nat := min (d.splitWidth p) (d.num (Obj.portMaxWidth p))

/-- C_p, Mb/s (R295). -/
def Dev.capacity (d : Dev) (p : Nat) : Nat := d.portW p * laneCapacity (d.num (Obj.portMaxRate p))

/-- Capacity at the active width and the rate in force, for the slot ledger (R380). -/
def Dev.activeCapacity (d : Dev) (p : Nat) : Nat := d.num (Obj.pstL0pWidth p) * laneCapacity (d.num (Obj.pstRate p))

/-! Meters (R282 to R284). -/

/-- The number of a meter among both halves. -/
def meterId (h : Half) (m : Nat) : Nat := 16384 * h.code + m

/-- A full meter. -/
def Dev.fullMeter (d : Dev) (h : Half) (m : Nat) : Meter :=
  ⟨1024 * d.num (Obj.meterCbs h m), 1024 * d.num (Obj.meterPbs h m), d.time h⟩

/-- The buckets after their refill (R283); the refill is rounded down to 1/1,024 byte (assumption log 12). -/
def Dev.refillMeter (d : Dev) (h : Half) (m : Nat) : Meter :=
  match tabFind d.meters (meterId h m) with
  | none => d.fullMeter h m
  | some x =>
    let dt := d.time h - x.last
    ⟨min (1024 * d.num (Obj.meterCbs h m)) (x.tc + d.num (Obj.meterCir h m) * dt / 31250),
      min (1024 * d.num (Obj.meterPbs h m)) (x.tp + d.num (Obj.meterPir h m) * dt / 31250), d.time h⟩

/-- The marking of R283: colour and buckets, for b in 1/1,024 byte. -/
def markFrame (mode pre b : Nat) (x : Meter) : Colour × Meter :=
  if (mode = 2 ∧ pre = 2) ∨ x.tp < b then (.red, x)
  else if (mode = 2 ∧ pre = 1) ∨ x.tc < b then (.yellow, { x with tp := x.tp - b })
  else (.green, { x with tc := x.tc - b, tp := x.tp - b })

/-- The counter object of a colour. -/
def meterCount (h : Half) (m : Nat) : Colour → Key
  | .green => Obj.meterGreen h m
  | .yellow => Obj.meterYellow h m
  | .red => Obj.meterRed h m

/-- A frame of class c and b bytes metered at its ingress port (R282): its colour, and the device after it. -/
def Dev.meterFrame (d : Dev) (p c b : Nat) : Colour × Dev :=
  let base := d.num (Obj.schedPortMeterBase p)
  if base = 0xFFFF ∨ c = 7 ∨ !bitOf (d.num (Obj.schedPortMeterMask p)) c then (.green, d)
  else
    let h := Half.ofPort p
    let m := base + c
    let mode := d.num (Obj.meterMode h m)
    let r := if mode = 0 then (Colour.green, d)
      else
        let x := markFrame mode (field (d.num (Obj.schedPortPrecolour p)) (2 * c) 2) (1024 * b) (d.refillMeter h m)
        (x.1, { d with meters := tabSet id d.meters (meterId h m) x.2 })
    (r.1, r.2.inc64 (meterCount h m r.1))

/-! Shapers (R286 to R288). -/

/-- Units of a shaper's level in one byte. -/
abbrev levelUnit : Int := 32000000

/-- The number of a shaper among both halves. -/
def shaperId (h : Half) (i : Nat) : Nat := 8192 * h.code + i

/-- A level after its refill: rate in kb/s gains exactly `rate` units in 0.25 ns; rate 0 means no limit (R287). -/
def refillLevel (level : Int) (rate burst dt : Nat) : Int :=
  if rate = 0 then burst * levelUnit else min (burst * levelUnit) (level + rate * dt)

/-- Used trellis contracts (R294). -/
def Dev.contracts (d : Dev) : List Nat := d.usedEntries 0x4300 3 0xFF

/-- Contracts that name a shaper of a half (R286). -/
def Dev.contractShaperUsers (d : Dev) (h : Half) (i : Nat) : List Nat :=
  d.contracts.filter (fun e => d.num (Obj.trellisShaper e) == i && Half.ofPort (d.num (Obj.trellisPort e)) == h)

/-- The shaper of a suspended contract keeps its level (R298). -/
def Dev.shaperHeld (d : Dev) (h : Half) (i : Nat) : Bool := (d.contractShaperUsers h i).any (fun e => d.num (Obj.trellisState e) == 3)

/-- Level of a shaper now (R287); a shaper not yet charged is full. -/
def Dev.shaperNow (d : Dev) (h : Half) (i : Nat) : Int :=
  let burst := d.num (Obj.shaperBurst h i)
  match tabFind d.shapers (shaperId h i) with
  | none => burst * levelUnit
  | some x => if d.shaperHeld h i then x.level else refillLevel x.level (d.num (Obj.shaperRate h i)) burst (d.time h - x.last)

/-- A shaper's level set, as of now. -/
def Dev.setShaper (d : Dev) (h : Half) (i : Nat) (level : Int) : Dev :=
  { d with shapers := tabSet id d.shapers (shaperId h i) ⟨level, d.time h⟩ }

/-- B deducted from a shaper (R287). -/
def Dev.chargeShaper (d : Dev) (h : Half) (i b : Nat) : Dev := d.setShaper h i (d.shaperNow h i - b * levelUnit)

/-- A shaper number that stands for none. -/
abbrev noShaper : Nat := 0xFFFF

/-- Whether a shaper number lets a frame pass: none, or L ≥ 0. -/
def Dev.shaperOpen (d : Dev) (h : Half) (i : Nat) : Bool := i == noShaper || decide (0 ≤ d.shaperNow h i)

/-- B deducted from a shaper, if there is one. -/
def Dev.chargeIf (d : Dev) (h : Half) (i b : Nat) : Dev := if i = noShaper then d else d.chargeShaper h i b

/-- Used contracts of a port. -/
def Dev.contractsAt (d : Dev) (p : Nat) : List Nat := d.contracts.filter (fun e => d.num (Obj.trellisPort e) == p)

/-- The contract of a node at a port. -/
def Dev.contractOf (d : Dev) (p v : Nat) : Option Nat := (d.contractsAt p).find? (fun e => d.num (Obj.trellisNode e) == v)

/-- The RME pacing pool holds a shaper (R275). -/
def Dev.inPool (d : Dev) (i : Nat) : Bool :=
  decide (d.num Obj.rmeCcShaperFirst ≤ i) && decide (i < d.num Obj.rmeCcShaperFirst + d.num Obj.rmeCcShaperCount)

/-- Ports and node entries that name a shaper of a half (R286). -/
def Dev.portShaperUsers (d : Dev) (h : Half) (i : Nat) : List Nat :=
  (portsOfHalf h).filter (fun p => d.num (Obj.schedPortShaper p) == i)
def Dev.nodeShaperUsers (d : Dev) (h : Half) (i : Nat) : List Nat :=
  (d.usedEntries 0x40A0 4 noShaper).filter (fun e => d.num (Obj.schedNodeShaper e) == i && Half.ofPort (e / 64) == h)

/-- `shaper.user` (R286). -/
def Dev.shaperUser (d : Dev) (h : Half) (i : Nat) : Nat :=
  if !(d.portShaperUsers h i).isEmpty then 1
  else if !(d.nodeShaperUsers h i).isEmpty then 2
  else if !(d.contractShaperUsers h i).isEmpty then 3
  else if d.inPool i then 4
  else 0

/-- Number of attachments of a shaper (R286). -/
def Dev.shaperUses (d : Dev) (h : Half) (i : Nat) : Nat :=
  (d.portShaperUsers h i).length + (d.nodeShaperUsers h i).length + (d.contractShaperUsers h i).length + b2n (d.inPool i)

/-- The level that a change of rate or burst leaves (R288): a contract's shaper is always CARRY. -/
def Dev.reshape (d : Dev) (h : Half) (i rate burst : Nat) : Dev :=
  let level := d.shaperNow h i
  let refill := d.num (Obj.shaperMode h i) == 1 && d.shaperUser h i != 3
  let d := (d.setNum (Obj.shaperRate h i) rate).setNum (Obj.shaperBurst h i) burst
  d.setShaper h i (if refill then burst * levelUnit else min level (burst * levelUnit))

/-- A live write of `shaper.rate` or `shaper.burst` (R288, R297). -/
def Dev.writeShaper (d : Dev) (h : Half) (i rate burst : Nat) : Dev × Nat :=
  if d.shaperUser h i = 3 then
    if d.commit.isSome then (d, Status.busy)
    else
      match (d.contractShaperUsers h i).head? with
      | some e => if rate = d.num (Obj.trellisRate e) ∧ burst = d.num (Obj.trellisBurst e) then (d.reshape h i rate burst, Status.ok) else (d, Status.deadline)
      | none => (d, Status.deadline)
  else (d.reshape h i rate burst, Status.ok)

/-! The IC7 limiter (R291). -/

/-- Level of a port's IC7 limiter now. -/
def Dev.ic7Now (d : Dev) (p : Nat) : Int :=
  let burst := d.num Obj.schedIc7Burst
  match (d.port p).ic7 with
  | none => burst * levelUnit
  | some (l, last) => min (burst * levelUnit) (l + 10 * d.capacity p * d.num Obj.schedIc7RatePct * (d.time (Half.ofPort p) - last))

/-- B deducted from a port's IC7 limiter. -/
def Dev.chargeIc7 (d : Dev) (p b : Nat) : Dev :=
  let l := d.ic7Now p - b * levelUnit
  let t := d.time (Half.ofPort p)
  d.modPort p (fun x => { x with ic7 := some (l, t) })

/-! Trellis contracts (R295, R298). -/

/-- bound_i in whole picoseconds, rounded up (R295): 23 core cycles, the seam where it is crossed, and Q_p. -/
def boundPs (sum cap pct : Nat) (cross : Bool) : Nat :=
  let k := cap * (100 - pct)
  let num := 115000 * k + 11 * (if cross then 6500 else 0) * k + 11 * sum * 800000000
  (num + 11 * k - 1) / (11 * k)

/-- The state that a contract has by its port (R298, R392). -/
def Dev.contractState (d : Dev) (e : Nat) : Nat :=
  let p := d.num (Obj.trellisPort e)
  if !d.dlUp p then 3
  else if d.portPerturbed p then 2
  else if d.num (Obj.pstWidth p) < d.portW p ∨ d.num (Obj.pstL0pWidth p) < d.portW p ∨ d.num (Obj.pstRate p) < d.num (Obj.portMaxRate p) then 2
  else 1

/-- A contract takes a state (R298): its shaper has the level of that instant, from which it goes on. -/
def Dev.contractTo (d : Dev) (e st : Nat) : Dev :=
  let h := Half.ofPort (d.num (Obj.trellisPort e))
  let i := d.num (Obj.trellisShaper e)
  let level := d.shaperNow h i
  (d.setNum (Obj.trellisState e) st).setShaper h i level

/-- The contracts of a port take the states of their port; an entry into Degraded is recorded (R298). -/
def Dev.contractsFollow (d : Dev) (p : Nat) : Dev :=
  (d.contractsAt p).foldl (fun d e =>
    let st := d.contractState e
    if st = d.num (Obj.trellisState e) then d
    else
      let d := d.contractTo e st
      if st = 2 then d.logEvent (Half.ofPort p) Scope.port p 3 0x020B else d) d

/-! Weighted fair queueing (R293). -/

/-- The key of a node at a port. -/
def nodeKey (p v : Nat) : Nat := 64 * p + v

/-- The key of a class of a node at a port. -/
def classKey (p v c : Nat) : Nat := 8 * nodeKey p v + c

def Dev.nodeTag (d : Dev) (p v : Nat) : Tags := tabGet d.nodeTags (nodeKey p v) {}
def Dev.classTag (d : Dev) (p v c : Nat) : Tags := tabGet d.classTags (classKey p v c) {}
def Dev.classV (d : Dev) (p v : Nat) : Nat := tabGet d.classTime (nodeKey p v) 0

/-- A class's weight at a port. -/
def Dev.classWeight (d : Dev) (p c : Nat) : Nat := field (d.num (Obj.schedPortClassWeight p)) (10 * c) 10

/-- A node's weight at a port. -/
def Dev.nodeWeight (d : Dev) (p v : Nat) : Nat := d.num (Obj.schedNodeWeight (nodeKey p v))

/-- Service of b bytes at weight w. -/
def service (b w : Nat) : Nat := (b * 65536 + w - 1) / w

/-- A child that was not backlogged becomes so (R293). -/
def wake (queued : Bool) (t : Tags) (v : Nat) : Tags := if queued then t else { t with s := max v t.f }

/-- Tags of a child that has been served. -/
def served (t : Tags) (b w : Nat) (still : Bool) : Tags :=
  let f := t.s + service b w
  { s := if still then f else t.s, f := f }

/-- A data-tier frame of a node and a class is about to be queued at a port. -/
def Dev.wakeTags (d : Dev) (p v c : Nat) : Dev :=
  let l := (d.queueAt p).filter (fun q => decide (q.qcls ≤ 5) && q.node.getD 0 == v)
  { d with nodeTags := tabSet id d.nodeTags (nodeKey p v) (wake (!l.isEmpty) (d.nodeTag p v) (d.num (Obj.schedPortVtime p))),
           classTags := tabSet id d.classTags (classKey p v c) (wake (l.any (fun q => q.qcls == c)) (d.classTag p v c) (d.classV p v)) }

/-- Its node and class wake for a frame of the data tier (R293). -/
def Dev.wakeFor (d : Dev) (q : QFrame) : Dev :=
  match q.node with
  | some v => if q.outPort < 128 ∧ q.qcls ≤ 5 then d.wakeTags q.outPort v q.qcls else d
  | none => d

/-- A frame of b bytes of a node and a class has been sent: virtual times and tags (R293). `nodeMore` and `classMore` say
whether node and class stay backlogged. -/
def Dev.serveTags (d : Dev) (p v c b : Nat) (nodeMore classMore : Bool) : Dev :=
  let nt := d.nodeTag p v
  let ct := d.classTag p v c
  let d := d.setNum (Obj.schedPortVtime p) (max (d.num (Obj.schedPortVtime p)) nt.s)
  let nt' := served nt b (d.nodeWeight p v) nodeMore
  { (d.setNum (Obj.schedNodeFinish (nodeKey p v)) nt'.f) with
      nodeTags := tabSet id d.nodeTags (nodeKey p v) nt',
      classTime := tabSet id d.classTime (nodeKey p v) (max (d.classV p v) ct.s),
      classTags := tabSet id d.classTags (classKey p v c) (served ct b (d.classWeight p c) classMore) }

end Sys2Proof.Machine
end

