-- ==== Sys2Proof/Machine/Queue.lean ====
section
/-!
DEFINITION. Sys2Proof/Machine/Queue.lean: frames put into egress and seam queues (R178, R189, R271, R280, R292), completions
that the device synthesises (R304 to R307, R413), and frames discarded by containment (R407).
-/
namespace Sys2Proof.Machine

/-- Ingress and egress numbers of local targets: an RME, a management endpoint or cluster, the device itself. -/
abbrev localRme : Nat := 0xFE
abbrev localMgmt : Nat := 0xFD
abbrev noPort : Nat := 0xFF

/-- A node's state: of a partition in hierarchy mode, of a host in fabric mode (R153, R200). -/
def Dev.nodeState (d : Dev) (v : Nat) : Nat := if d.fabricMode then d.num (Obj.fhostState v) else d.num (Obj.vsState v)

/-- A node is enabled in force. -/
def Dev.nodeEnabled (d : Dev) (v : Nat) : Bool := if d.fabricMode then d.flag (Obj.fhostEnable v) else d.flag (Obj.vsEnable v)

/-- The class that a frame is queued as at a port (R280): IC6 becomes IC5 without a contract that covers it. A used contract counts as
admitted, also while it is degraded or suspended (assumption log 113, DEDUCED). -/
def Dev.queueClass (d : Dev) (p cls : Nat) (node : Option Nat) (f : Frame) : Nat :=
  if cls ≠ 6 ∨ 128 ≤ p then cls
  else
    match node.bind (d.contractOf p) with
    | some e => if f.bytes ≤ d.num (Obj.trellisFrameMax e) then 6 else 5
    | none => 5

/-- CE set on an RME data frame that meets a deep queue or a low pool at enqueue (R271). -/
def Dev.markCe (d : Dev) (h : Half) (used : Nat) (f : Frame) : Bool × Frame :=
  match f.body with
  | .rme p =>
    if p.op.isData ∧ !p.ce ∧ (d.num Obj.rmeCcMarkCells < used ∨ d.poolFree h < d.num Obj.coreSkimFloor) then
      (true, { f with body := .rme { p with ce := true } })
    else (false, f)
  | _ => (false, f)

/-- CE set on an RME data frame (R284). -/
def setCe (f : Frame) : Frame :=
  match f.body with
  | .rme p => { f with body := .rme { p with ce := true } }
  | _ => f

/-- A forced error in the next cells that a half writes (R390, sub-kinds 0x02 to 0x04). -/
def Dev.injectCells (d : Dev) (h : Half) : CellEcc × Dev :=
  let a := d.inject 0x02 h.code
  if a.1 then (.corrected, a.2)
  else
    let b := d.inject 0x03 h.code
    if b.1 then (.payload, b.2)
    else
      let c := d.inject 0x04 h.code
      if c.1 then (.descriptor, c.2) else (.clean, d)

/-! Tracking entries (R211, R214). -/

/-- The next entry number whose tag fits a width. -/
def nextTag (bits e : Nat) : Nat := if (e + 1) % 16384 < 2 ^ bits then e + 1 else (e / 16384 + 1) * 16384

/-- The lowest free entry whose tag fits a width, from an entry on. -/
def freeTrack (used : List Nat) (bits : Nat) : Nat → Nat → Option Nat
  | 0, _ => none
  | n + 1, e => if 262144 ≤ e then none else if used.contains e then freeTrack used bits n (nextTag bits e) else some e

/-- The entry that a request to a target takes in a half (R211). -/
def Dev.allocTrack (d : Dev) (h : Half) (bits : Nat) : Option Nat :=
  let used := (d.track h).map (fun t => t.entry) ++ ((d.trackRetired.filter (fun r => r.1 == h.code)).map (fun r => r.2))
  freeTrack used (min 14 bits) (used.length + 1) 0

/-- Requester ID of a proxy entry (R196, R211). -/
def proxyRid (h : Half) (entry : Nat) : Nat := 0x0080 + 16 * h.code + entry / 16384

/-- A requester ID of the proxies (R196): the request is tracked, and its tracking entry ends it. -/
def isProxy (rid : Nat) : Bool := decide (0x0080 ≤ rid) && decide (rid ≤ 0x009F)

/-- A frame with the proxy's RID and tag. -/
def proxied (f : Frame) (h : Half) (entry : Nat) : Frame :=
  match f.body with
  | .tlp t => { f with body := .tlp { t with requester := proxyRid h entry, tag := entry % 16384 }, fprefix := none }
  | _ => f

/-- A request is given an entry: the translated frame and the device with the entry in use; none where it must wait. -/
def Dev.takeTrack (d : Dev) (h : Half) (f : Frame) (t : Track) : Option (Frame × Dev) :=
  match d.allocTrack h (d.num (Obj.bindTagBits t.binding)) with
  | none => none
  | some e => some (proxied f h e, d.setTrack h (d.track h ++ [{ t with entry := e, issued := d.clk }]))

/-- A frame reaches its egress queue: a request that still needs a tracking entry takes one, or waits there, which is
counted once (R211, R214). -/
def Dev.tracked (d : Dev) (h : Half) (q : QFrame) : QFrame × Dev :=
  match q.track with
  | none => (q, d)
  | some t =>
    match d.takeTrack h q.frame t with
    | some (f, d) => ({ q with frame := f, track := none }, d)
    | none => (q, d.inc64 Obj.fabricCtlTrackWaits)

/-- Frames of its class that an evacuation has moved to a frame's link and that still wait: it does not go before them (R243). -/
def Dev.movedAhead (d : Dev) (q : QFrame) : List Nat :=
  if q.moved then [] else (d.waiting.filter (fun w => w.moved && w.outPort == q.outPort && w.qcls == q.qcls)).map (fun w => w.id)

/-- A frame enqueued in the half of its egress port (R167, R178, R211, R271, R280, R292): its class there, its marks, its
tracking entry and its barrier are settled, and its node and class become backlogged (R293). -/
def Dev.enqueueAt (d : Dev) (h : Half) (q : QFrame) : Dev :=
  let qcls := d.queueClass q.outPort q.cls q.node q.frame
  let d := if qcls ≠ q.cls then d.inc64 (Obj.schedPortIc6Demoted q.outPort) else d
  let m := d.markCe h (d.queueUsed h q.outPort qcls) q.frame
  let d := if m.1 then d.count Ev.coreCeMarked q.outPort (some q.cls) q.node else d
  let e := d.injectCells h
  let d := e.2
  let d := d.wakeFor { q with qcls := qcls }
  let q := { q with qcls := qcls, frame := m.2, enq := d.time h, ecc := e.1, barrier := q.barrier ++ d.movedAhead { q with qcls := qcls } }
  let r := d.tracked h q
  r.2.pushFrame h r.1

/-- The data channel of the seam that a frame takes (R189). -/
def seamChannel (f : Frame) (cls : Nat) : Nat :=
  if cls = 7 then 4
  else
    match f.body with
    | .tlp t =>
      match t.type.ord with
      | .posted => 0
      | .nonPosted => 1
      | .completion => 2
    | .rme _ => 3
    | _ => 4

/-- The station whose seam queue and crossing sequence a frame takes (R188): its ingress port's, or for frames of a half's
RME or management cluster the one of that half with the egress port's number modulo 8. -/
def seamStation (inPort : Nat) (inHalf : Half) (outPort : Nat) : Nat :=
  if inPort < 128 then inPort / 8
  else 8 * inHalf.code + (if outPort < 128 then outPort / 8 % 8 else 0)

/-- A frame put into a seam queue of the half that holds it (R189): its ingress half, but for one that an evacuation sends
back across (R243), which takes the station of the half's own sources. -/
def Dev.enqueueSeam (d : Dev) (h : Half) (q : QFrame) : Dev :=
  let st := if q.inHalf = h then seamStation q.inPort h q.outPort else seamStation localMgmt h q.outPort
  let used := cellsIn (((d.buf h).seamQueue.filter (fun f => f.station == st)).map (fun f => f.q)) (fun a => a == .pool)
  let m := d.markCe h used q.frame
  let d := if m.1 then d.count Ev.coreCeMarked q.outPort (some q.cls) q.node else d
  (d.modBuf h (fun b => { b with seamQueue := b.seamQueue ++ [{ station := st, channel := seamChannel q.frame q.cls, q := { q with frame := m.2 }, sent := none }] })).notePool h

/-- A new queue entry of a frame, with its barrier (R172, R173). -/
def Dev.newFrame (d : Dev) (inPort : Nat) (inHalf : Half) (outPort : Nat) (outHalf : Half) (cls : Nat) (node : Option Nat) (f : Frame) (a : Account) : QFrame :=
  { id := d.nextFrame, frame := f, inPort := inPort, inHalf := inHalf, outPort := outPort, outHalf := outHalf, cls := cls, qcls := cls, colour := .green,
    cells := f.cells, account := a, node := node, enq := d.time inHalf, c1 := d.time inHalf,
    barrier := d.barrierOf inPort inHalf outPort f, stallHeld := false, crossed := false }

/-- A charged frame goes into its queue: at its egress port, or in a seam queue where that port lies in the other half
(R189). -/
def Dev.place (d : Dev) (q : QFrame) : Dev := if q.outHalf = q.inHalf then d.enqueueAt q.inHalf q else d.enqueueSeam q.inHalf q

/-- The buffered path (R178, R184, R189): a frame is charged in its ingress half and queued. None: the source, a local RME
or management cluster, is held back. -/
def Dev.bufferFrame (d : Dev) (q : QFrame) (red : Bool) : Option Dev :=
  let qcls := d.queueClass q.outPort q.cls q.node q.frame
  let a := if q.inPort < 128 then
      some (if q.credited then d.creditedAccount q.inHalf q.inPort q.outPort qcls q.cells red
        else (d.uncreditedAccount q.inHalf q.outPort qcls q.cells).getD .pool)
    else d.uncreditedAccount q.inHalf q.outPort qcls q.cells
  match a with
  | none => none
  | some a =>
    let q := { q with account := a, qcls := qcls }
    let d := { d with nextFrame := d.nextFrame + 1 }
    let d := if a = .credit q.inPort then d else d.giveCredits q.inPort q
    some (d.place q)

/-- Frames of a half's own sources that wait for cells are queued as an account admits them, each source's oldest first
(R178). -/
def Dev.admitHeld (d : Dev) (h : Half) : Dev :=
  (d.buf h).held.foldl (fun d q =>
    if ((d.buf h).held.find? (fun x => x.inPort == q.inPort)).any (fun x => x.id == q.id) then
      match d.uncreditedAccount h q.outPort q.qcls q.cells with
      | some a => (d.modBuf h (fun b => { b with held := b.held.filter (fun x => x.id != q.id) })).place { q with account := a }
      | none => d
    else d) d

/-! Synthesised completions. -/

/-- Why a request is ended without its target (R304). -/
inductive EndCause where
  /-- ACS violation, unclaimed request, failed check, link down other than by DPC -/
  | unsupported
  /-- the target port has DPC triggered -/
  | dpc (f : CfgFunc)
  /-- seam lost, halted half, tracking end, twin lost, incarnation mismatch -/
  | policy
  deriving DecidableEq, Repr

/-- The status of a synthesised completion, and whether it carries all ones (R304, R413). -/
def Dev.endStatus (d : Dev) (node : Option Nat) (t : Tlp) : EndCause → CplStatus × Bool
  | .unsupported => (.ur, false)
  | .dpc f => (if bitOf (d.cfgReg f .dpcControl) 2 then .ur else .ca, false)
  | .policy =>
    match node with
    | none => (.ur, false)
    | some v =>
      match d.num (Obj.errNodeCplPolicy v) with
      | 0 => (.ca, false)
      | 1 => (.ur, false)
      | _ =>
        match t.type with
        | .memRead | .cfgRead | .atomic => (.sc, true)
        | _ => (.ca, false)

/-- The completion of a request (R305). -/
def completionOf (t : Tlp) (completer : Nat) (st : CplStatus) (allOnes : Bool) : Tlp :=
  { type := .completion, requester := t.requester, tag := t.tag, completer := completer, status := st, tc := t.tc,
    len := t.len, byteCount := t.len, data := if allOnes then List.replicate t.len 0xFF else [], headerBytes := 12 }

/-- A frame handed to a local target of a half. -/
def Dev.handLocal (d : Dev) (h : Half) (outPort : Nat) (node : Option Nat) (f : Frame) : Dev :=
  if outPort = localRme then d.emit (.toRme h f) else d.emit (.toMgmt (node.getD 0) f)

/-- A frame of a half's own sources waits until an account admits it (R178). -/
def Dev.sendHeld (d : Dev) (h : Half) (q : QFrame) : Dev :=
  ({ d with nextFrame := d.nextFrame + 1 }.modBuf h (fun b => { b with held := b.held ++ [q] })).admitHeld h

/-- A frame that the device itself sends from a half towards a port or a local target (R12, R178, R192): it waits until an
account admits it, crosses the seam where its target lies in the other half, and is lost where that half or the port's
link cannot be reached. -/
def Dev.sendOwn (d : Dev) (inPort : Nat) (inHalf : Half) (outPort : Nat) (outHalf : Half) (cls : Nat) (node : Option Nat) (f : Frame) : Dev :=
  if outHalf ≠ inHalf ∧ !d.seamOpen then d
  else if outPort < 128 then
    if d.num (Obj.portRole outPort) ≠ 2 ∧ !d.dlUp outPort then d
    else
      let q := d.newFrame inPort inHalf outPort outHalf cls node f .pool
      d.sendHeld inHalf { q with qcls := d.queueClass outPort cls node f, credited := false }
  else if outPort = noPort then d
  else if outHalf = inHalf then d.handLocal inHalf outPort node f
  else
    d.sendHeld inHalf { d.newFrame inPort inHalf outPort outHalf cls node f .pool with credited := false }

/-- The fabric prefix of a completion for a request that came over BFL (R210, R225). -/
def Dev.replyPrefix (d : Dev) (inPort : Nat) (f : Frame) : Option FabricPrefix :=
  match f.fprefix with
  | some x => if inPort < 128 ∧ d.num (Obj.portRole inPort) = 2 then some { pkind := 2, srcNode := d.ownNode, grant := x.grant, offset := 0 } else none
  | none => none

/-- A non-posted request is answered with a completion that a half of the device synthesises (R304 to R306): in the class
of the request, towards the port or local target it came from, and with a fabric prefix where the twin sent it. A node in
reset receives none. -/
def Dev.synthesise (d : Dev) (from' : Half) (inPort : Nat) (inHalf : Half) (cls : Nat) (node : Option Nat) (f : Frame) (t : Tlp) (cause : EndCause) (completer : Nat) : Dev :=
  if node.any (fun v => d.nodeState v == 3) then d
  else
    let st := d.endStatus node t cause
    let d := match node with
      | some v => (d.inc64 (Obj.errNodeSynthCpl v)).count Ev.nodeSynthCpl v none (some v)
      | none => d
    let x := d.replyPrefix inPort f
    let completer := if x.isSome then 0x00C0 + d.ownNode else completer
    d.sendOwn noPort from' inPort inHalf cls node { body := .tlp (completionOf t completer st.1 st.2), fprefix := x }

/-- The bus, device and function number of the switch function nearest a target behind a port, in a node's view (R305):
the downstream port on the internal bus. -/
def Dev.portRid (d : Dev) (p : Nat) : Nat :=
  256 * d.cfgReg (usp (d.num (Obj.portPartition p))) .secondaryBus + d.num (Obj.portVsDevfn p)

/-- A posted request discarded by containment is counted for its node (R407). -/
def Dev.countPosted (d : Dev) (node : Option Nat) : Dev :=
  match node with
  | some v => d.inc64 (Obj.errNodePostedDiscarded v)
  | none => d

/-- What becomes of a frame that is discarded in a half (R192, R219, R310, R407): a non-posted request is answered, a posted one is
counted, a CXL.mem request gets its own response (R307), and every other frame is lost. -/
def Dev.endFrame (d : Dev) (from' : Half) (inPort : Nat) (inHalf : Half) (cls : Nat) (node : Option Nat) (f : Frame) (cause : EndCause) (completer : Nat) : Dev :=
  match f.body with
  | .tlp t =>
    if t.type.isCxl then d.emit (.cxlResponse (node.getD 0) (t.type == .cxlMemRead))
    else
      match t.type.ord with
      | .posted => d.countPosted node
      | .completion => d
      | .nonPosted => if d.fabricMode && isProxy t.requester then d else d.synthesise from' inPort inHalf cls node f t cause completer
  | _ => d

/-- The half that holds a queued frame: its egress half once it has crossed. -/
def QFrame.half (q : QFrame) : Half := if q.crossed then q.outHalf else q.inHalf

/-- A discarded queue entry. -/
def Dev.endQueued (d : Dev) (q : QFrame) (cause : EndCause) (completer : Nat) : Dev :=
  (d.leaveAccount q).endFrame q.half q.inPort q.inHalf q.cls q.node q.frame cause completer

/-- Every queued frame that meets a test, in the buffers and the seam queues, is taken out and ended. -/
def Dev.discardWhere (d : Dev) (p : QFrame → Bool) (cause : EndCause) (completer : QFrame → Nat) : Dev :=
  let gone := d.waiting.filter p ++ (d.bufW.held ++ d.bufE.held).filter p
  let strip := fun (b : Buffer) => { b with frames := b.frames.filter (fun q => !p q), held := b.held.filter (fun q => !p q),
                                            seamQueue := takeSeam p b.seamQueue }
  let d := { d with bufW := strip d.bufW, bufE := strip d.bufE }
  gone.foldl (fun d q => d.endQueued q cause (completer q)) d

/-- Every frame queued for a port is discarded (R310, R407). -/
def Dev.discardPort (d : Dev) (p : Nat) (cause : EndCause) : Dev := d.discardWhere (fun q => q.outPort == p) cause (fun _ => d.portRid p)

end Sys2Proof.Machine
end

