-- ==== Sys2Proof/Machine/RmeBase.lean ====
section
/-!
DEFINITION. Sys2Proof/Machine/RmeBase.lean: slices, queue pairs and completion queues as the other chapters reach them:
host memory TLPs (R251), CQEs (R252, R253), errors (R276), lost hosts (R249) and lost paths (R270).
-/
namespace Sys2Proof.Machine

/-! Slices. -/

abbrev SliceSt.free : Nat := 0
abbrev SliceSt.active : Nat := 1
abbrev SliceSt.quiescing : Nat := 2
abbrev SliceSt.quiesced : Nat := 3
abbrev SliceSt.released : Nat := 4

def Dev.slice (d : Dev) (n : Nat) : Slice := tabGet d.rme.slices n {}
def Dev.modSlice (d : Dev) (n : Nat) (f : Slice → Slice) : Dev := { d with rme := { d.rme with slices := tabMod d.rme.slices n {} f } }

/-- Slices in a state other than FREE. -/
def Dev.knownSlices (d : Dev) : List Nat := d.recordsWith 0x6000 4096 0x0B

/-- A slice changes its state: its tenant session opens when it becomes ACTIVE and ends when it leaves it (R85, R248). -/
def Dev.sliceTo (d : Dev) (n st : Nat) : Dev :=
  let d := d.setNum (Obj.rmeSliceState n) st
  let mine := fun (s : Session) => s.transport == .tenant n
  if st = SliceSt.active then
    if d.sessions.any mine then d else d.openSession (.tenant n) .tenant n (Half.ofSlice n)
  else d.endSessions mine

/-- The TLP of a slice, with what R251 fixes: requester, traffic class, AT and PASID. -/
def Dev.sliceTlp (d : Dev) (n : Nat) (t : Tlp) : Tlp :=
  let v := d.num (Obj.rmeSliceOwner n)
  let pasid := d.num (Obj.rmeSlicePasid n)
  { t with requester := 256 * (d.node v).bus + 2, tc := 0, at' := 0, pasid := if pasid = 0xFFFFFFFF then none else some pasid }

/-- Bus Master Enable of the RME endpoint of a node (R251). -/
def Dev.rmeBme (d : Dev) (v : Nat) : Bool := bitOf (d.cfgReg (.rme (Fin.ofNat 64 v)) .command) 2

/-- Work towards a slice's host (R249, R251): none once its host is lost, and waiting while Bus Master Enable is 0. -/
def Dev.hostOp (d : Dev) (n : Nat) (o : HostOp) : Dev :=
  if d.flag (Obj.rmeSliceLostHost n) then d
  else if d.rmeBme (d.num (Obj.rmeSliceOwner n)) then d.emit (.rmeHost (Half.ofSlice n) n o)
  else d.modSlice n (fun x => { x with waiting := x.waiting ++ [o] })

/-- A TLP towards a slice's host. -/
def Dev.hostTlp (d : Dev) (n : Nat) (t : Tlp) : Dev := d.hostOp n (.tlp (d.sliceTlp n t))

/-- A posted write to host memory. -/
def Dev.hostWrite (d : Dev) (n addr : Nat) (data : List Byte) (ro : Bool := false) : Dev :=
  d.hostTlp n { type := .memWrite, addr := addr, len := data.length, data := data, ro := ro }

/-- A read of host memory. -/
def Dev.hostRead (d : Dev) (n addr len : Nat) : Dev := d.hostTlp n { type := .memRead, addr := addr, len := len }

/-- Work that waited for Bus Master Enable of a node's RME endpoint goes out (R251). -/
def Dev.resumeHostWork (d : Dev) (v : Nat) : Dev :=
  if d.rmeBme v then
    d.rme.slices.foldl (fun d e =>
      if d.num (Obj.rmeSliceOwner e.1) = v then
        (e.2.waiting.foldl (fun d o => d.hostOp e.1 o) (d.modSlice e.1 (fun x => { x with waiting := [] })))
      else d) d
  else d

/-! What the RME reads of its host, least significant byte first (R5). -/

/-- A little-endian field of a record: offset and bytes. -/
def leField (l : List Byte) (off n : Nat) : Nat := leNat (slice l off n)

/-- The WQE or command that 64 bytes spell (10, "WQE, 64 bytes"). -/
def Wqe.ofBytes (l : List Byte) : Wqe :=
  { opcode := leField l 0 1, signalled := bitOf (leField l 1 1) 0, fence := bitOf (leField l 1 1) 1, solicited := bitOf (leField l 1 1) 2,
    imm := leField l 0x04 4, wrId := leField l 0x08 8, localAddr := leField l 0x10 8, len := leField l 0x18 4, localKey := leField l 0x1C 4,
    remoteKey := leField l 0x20 4, remoteOffset := field (leField l 0x24 4) 0 30, operand0 := leField l 0x28 8, operand1 := leField l 0x30 8 }

/-- The parameter block that 64 bytes spell (10, "QP parameter block, 64 bytes"). -/
def QpBlock.ofBytes (l : List Byte) : QpBlock :=
  { mask := leField l 0x00 4, state := leField l 0x04 1, mtu := leField l 0x05 1, sqLog := leField l 0x06 1, rqLog := leField l 0x07 1,
    sqBase := leField l 0x08 8, rqBase := leField l 0x10 8, sendCq := leField l 0x18 2, recvCq := leField l 0x1A 2, remote := leField l 0x1C 4,
    sendPsn := leField l 0x20 4, recvPsn := leField l 0x24 4, rights := leField l 0x28 1 }

/-- A field of a doorbell record: two bytes, least significant first (R5; 10, "Doorbell page"). -/
def dbField (b : List Byte) : Nat := leNat (b.take 2)

/-! Completion queues. -/

/-- The fields of a CQE (10, "CQE, 32 bytes"). -/
structure Cqe where
  wrId : Nat := 0
  byteLen : Nat := 0
  imm : Nat := 0
  qpn : Nat := 0
  opcode : Nat := 0
  detail : Nat := 0
  status : Nat := 0
  immValid : Bool := false
  receive : Bool := false
  solicited : Bool := false
  src : Nat := 0
  index : Nat := 0
  deriving DecidableEq, Repr

/-- The 32 bytes of a CQE, least significant byte first, with its phase bit. -/
def Cqe.bytes (c : Cqe) (phase : Bool) : List Byte :=
  leBytes 8 c.wrId ++ leBytes 4 c.byteLen ++ leBytes 4 c.imm ++ leBytes 4 (c.qpn % 2 ^ 24 + c.opcode * 2 ^ 24) ++ leBytes 2 c.detail ++
    leBytes 1 c.status ++ leBytes 1 (packBits [phase, c.immValid, c.receive, c.solicited]) ++ leBytes 4 c.src ++ leBytes 2 c.index ++ leBytes 2 0

abbrev CqeSt.ok : Nat := 0
abbrev CqeSt.localLength : Nat := 1
abbrev CqeSt.localProtection : Nat := 2
abbrev CqeSt.remoteAccess : Nat := 3
abbrev CqeSt.remoteInvalid : Nat := 4
abbrev CqeSt.retryExceeded : Nat := 5
abbrev CqeSt.flushed : Nat := 6
abbrev CqeSt.transportFatal : Nat := 7
abbrev CqeSt.keyGeneration : Nat := 8
abbrev CqeSt.rnrExceeded : Nat := 9

/-- The key of an index in a half. -/
def halfKey (h : Half) (i : Nat) : Nat := 65536 * h.code + i

/-- The half of such a key. -/
def keyHalf (k : Nat) : Half := Half.ofCode (k / 65536)

def Dev.modCq (d : Dev) (k : Nat) (f : Cq → Cq) : Dev :=
  { d with rme := { d.rme with cqs := d.rme.cqs.map (fun e => if e.1 = k then (k, f e.2) else e) } }
def Dev.modQp (d : Dev) (k : Nat) (f : Qp → Qp) : Dev :=
  { d with rme := { d.rme with qps := d.rme.qps.map (fun e => if e.1 = k then (k, f e.2) else e) } }
def Dev.qp (d : Dev) (k : Nat) : Option Qp := tabFind d.rme.qps k

/-- The QP number of a QP (10, "QP number"). -/
def qpnOf (k : Nat) (q : Qp) : Nat := (keyHalf k).code * 2 ^ 23 + q.incarnation * 2 ^ 16 + k % 65536

/-- The key that a QP number names. -/
def qpnKey (n : Nat) : Nat := halfKey (Half.ofCode (field n 23 1)) (field n 0 16)

/-- The QP that a QP number names: an allocated index with equal incarnation (R262 step 1), its context not lost (R314). -/
def Dev.qpByNumber (d : Dev) (n : Nat) : Option Qp :=
  match d.qp (qpnKey n) with
  | some q => if q.incarnation = field n 16 7 ∧ !q.lost then some q else none
  | none => none

/-- Shapers of the RME pool in use in a half: shaper number and QP. -/
def Dev.poolUse (d : Dev) (h : Half) : List (Nat × Nat) := byHalf h d.rme.shapersW d.rme.shapersE
def Dev.setPoolUse (d : Dev) (h : Half) (l : List (Nat × Nat)) : Dev :=
  { d with rme := byHalf h { d.rme with shapersW := l } { d.rme with shapersE := l } }

/-- A QP's pacing shaper returns to the pool (R275). -/
def Dev.dropPacing (d : Dev) (k : Nat) : Dev :=
  let h := keyHalf k
  (d.setPoolUse h ((d.poolUse h).filter (fun e => e.2 != k))).modQp k (fun q => { q with shaper := none, gapEnd := none })

/-- A QP enters ERROR (R276): it sends nothing more, its staging is freed, its timers stop. Its WQEs are flushed at
QP_FLUSHED. -/
def Dev.qpToError (d : Dev) (k : Nat) : Dev :=
  (d.modQp k (fun q => { q with st := .error, timerOn := false, rnrWait := none, unacked := [], snaks := [], staged := [], window := [], busy := none, replies := [] })).dropPacing k

/-- Every QP that uses a completion queue. -/
def Dev.qpsOfCq (d : Dev) (k : Nat) : List Nat :=
  (d.rme.qps.filter (fun e => halfKey (keyHalf e.1) e.2.sendCq == k || halfKey (keyHalf e.1) e.2.recvCq == k)).map (fun e => e.1)

/-- A completion queue enters overflow (R253): every QP that uses it goes to ERROR and its vector is raised. -/
def Dev.cqOverflow (d : Dev) (k : Nat) : Dev :=
  match tabFind d.rme.cqs k with
  | none => d
  | some c =>
    let d := d.modCq k (fun c => { c with overflow := true })
    ((d.qpsOfCq k).foldl (fun d q => d.qpToError q) d).hostOp c.slice (.vector c.vector)

/-- A CQE written to a completion queue (R252, R253). -/
def Dev.writeCqe (d : Dev) (k : Nat) (e : Cqe) : Dev :=
  match tabFind d.rme.cqs k with
  | none => d
  | some c =>
    if c.overflow then d
    else if c.cons + c.size ≤ c.prod then d.cqOverflow k
    else
      let d := d.hostWrite c.slice (c.base + 32 * (c.prod % c.size)) (e.bytes (c.prod / c.size % 2 == 0))
      let d := d.count Ev.rmeCqe c.slice
      let d := if c.armed then d.hostOp c.slice (.vector c.vector) else d
      d.modCq k (fun c => { c with prod := c.prod + 1, armed := false })

/-- Bytes that a completed send WQE reports. -/
def wqeMoved (w : Wqe) : Nat := if w.opcode = 6 ∨ w.opcode = 7 then 8 else if w.opcode = 8 then 0 else w.len

/-- A send-queue WQE completes with a status: a CQE is written where it is signalled or failed (R252). -/
def Dev.completeSend (d : Dev) (k : Nat) (w : LiveWqe) (status : Nat) : Dev :=
  match d.qp k with
  | none => d
  | some q =>
    let d := d.modQp k (fun q => { q with sq := q.sq.filter (fun x => x.index != w.index) })
    if w.wqe.signalled ∨ status ≠ CqeSt.ok then
      d.writeCqe (halfKey (keyHalf k) q.sendCq)
        { wrId := w.wqe.wrId, byteLen := if status = CqeSt.ok then wqeMoved w.wqe else 0, qpn := qpnOf k q, opcode := w.wqe.opcode, status := status, solicited := w.wqe.solicited, index := w.index % 65536 }
    else d

/-- A receive-queue WQE completes: a CQE is always written (R252). -/
def Dev.completeRecv (d : Dev) (k : Nat) (w : LiveWqe) (e : Cqe) : Dev :=
  match d.qp k with
  | none => d
  | some q =>
    (d.modQp k (fun q => { q with rq := q.rq.filter (fun x => x.index != w.index) })).writeCqe (halfKey (keyHalf k) q.recvCq)
      { e with wrId := w.wqe.wrId, qpn := qpnOf k q, opcode := w.wqe.opcode, receive := true, index := w.index % 65536 }

/-- A QP's send WQE fails: it completes with its status and the QP goes to ERROR (R276). -/
def Dev.qpFails (d : Dev) (k : Nat) (w : Option LiveWqe) (status : Nat) : Dev :=
  let d := d.qpToError k
  match w with
  | some w => d.completeSend k w status
  | none => d

/-- The oldest send WQE of a QP. -/
def Dev.oldestSend (d : Dev) (k : Nat) : Option LiveWqe := (d.qp k).bind (fun q => q.sq.head?)

/-- A QP that reaches FLUSHED is counted (R276). -/
def Dev.countQpError (d : Dev) (n : Nat) : Dev := (d.inc32 (Obj.rmeSliceQpErrors n)).inc64 Obj.rmeStatQpErrors

/-- QPs of a slice. -/
def Dev.qpsOfSlice (d : Dev) (n : Nat) : List Nat := (d.rme.qps.filter (fun e => e.2.slice == n)).map (fun e => e.1)

/-- A QP is flushed without a CQE (R249). -/
def Dev.silentFlush (d : Dev) (k : Nat) : Dev :=
  match d.qp k with
  | none => d
  | some q =>
    if q.st = .flushed then d.modQp k (fun q => { q with sq := [], rq := [], st := .flushed })
    else
      ((d.qpToError k).modQp k (fun q => { q with st := .flushed, sq := [], rq := [], sqAsked := q.sqProd, rqAsked := q.rqProd, sqFetched := q.sqProd, rqFetched := q.rqProd, recv := none })).countQpError q.slice

/-- A slice loses its host (R249): QUIESCED at once, its QPs flushed in silence, `lost_host` 1, event 0x0901. -/
def Dev.loseHost (d : Dev) (n : Nat) : Dev :=
  let st := d.num (Obj.rmeSliceState n)
  if st = SliceSt.active ∨ st = SliceSt.quiescing then
    let d := (d.setNum (Obj.rmeSliceLostHost n) 1).sliceTo n SliceSt.quiesced
    let d := (d.qpsOfSlice n).foldl (fun d k => d.silentFlush k) d
    (d.modSlice n (fun x => { x with waiting := [], cmd := none, dictOpen := false })).logEvent (Half.ofSlice n) Scope.slice n 1 0x0901
  else d

/-- The slices of a node lose their host. -/
def Dev.loseHostOf (d : Dev) (v : Nat) : Dev :=
  (d.knownSlices.filter (fun n => d.num (Obj.rmeSliceOwner n) == v)).foldl (fun d n => d.loseHost n) d

/-- QPs whose path is lost go to ERROR, their oldest outstanding WQE completing with TRANSPORT_FATAL (R270). -/
def Dev.losePaths (d : Dev) (p : Nat → Qp → Bool) : Dev :=
  ((d.rme.qps.filter (fun e => p e.1 e.2 && e.2.st == .ready)).map (fun e => e.1)).foldl
    (fun d k => d.qpFails k (d.oldestSend k) CqeSt.transportFatal) d

/-- The node bit of a peer: REMOTE [24]. -/
def Qp.remoteNode (q : Qp) : Nat := field q.remote 24 1

/-- A QP's peer is on the twin: the pair is enabled and REMOTE names the other node (R169). -/
def Dev.remoteTwin (d : Dev) (q : Qp) : Bool := d.flag Obj.pairEnable && q.remoteNode != d.ownNode

end Sys2Proof.Machine
end

