-- ==== Sys2Proof/Machine/Fabric.lean ====
section
/-!
DEFINITION. Sys2Proof/Machine/Fabric.lean: fabric mode: bindings, the host's view of a bound function, the global address
map, peer grants and completion tracking (08; R196 to R214).
-/
namespace Sys2Proof.Machine

/-! Bindings (R197 to R205). -/

/-- Used binding entries. -/
def Dev.bindings (d : Dev) : List Nat := d.usedEntries 0x3180 3 0

/-- The used entry of a fabric RID. -/
def Dev.bindOfRid (d : Dev) (rid : Nat) : Option Nat := d.bindings.find? (fun b => d.num (Obj.bindRid b) == rid)

/-- A bus lies in the range of a fabric port (R197). -/
def Dev.inBusRange (d : Dev) (p bus : Nat) : Bool :=
  decide (d.num (Obj.fportBusBase p) ≤ bus) && decide (bus < d.num (Obj.fportBusBase p) + d.num (Obj.fportBusCount p)) && d.num (Obj.fportBusBase p) != 0

/-- The enabled port whose fabric bus range holds a bus (R197). -/
def Dev.portOfBus (d : Dev) (bus : Nat) : Option Nat :=
  (d.usedEntries 0x3181 3 0).find? (fun p => d.flag (Obj.portEnable p) && d.inBusRange p bus)

/-- The port behind which a binding's function lies. -/
def Dev.portOfBinding (d : Dev) (b : Nat) : Option Nat := d.portOfBus (d.num (Obj.bindRid b) / 256)

/-- Bindings whose RID lies in a port's range. -/
def Dev.bindingsBehind (d : Dev) (p : Nat) : List Nat := d.bindings.filter (fun b => d.inBusRange p (d.num (Obj.bindRid b) / 256))

/-- A binding is bound to a host in force. -/
def Dev.isBound (d : Dev) (b : Nat) : Bool := d.num (Obj.bindHost b) != 0xFF

/-- Bound entries of a host. -/
def Dev.boundTo (d : Dev) (h : Nat) : List Nat := d.bindings.filter (fun b => d.num (Obj.bindHost b) == h)

/-- The synthetic downstream port of a binding. -/
def Dev.synthOf (d : Dev) (b : Nat) : CfgFunc := .synthetic (Fin.ofNat 64 (d.num (Obj.bindHost b))) (Fin.ofNat 256 (d.num (Obj.bindVdsp b)))

/-- The host-view RID of a bound function (R205): none while the secondary bus is 0 or the binding is not in state 2. -/
def Dev.hostRid (d : Dev) (b : Nat) : Option Nat :=
  let s := d.cfgReg (d.synthOf b) .secondaryBus
  if s = 0 ∨ d.num (Obj.bindState b) ≠ 2 then none else some (256 * s + d.num (Obj.bindVfn b))

/-- The binding of a host-view RID (R205). -/
def Dev.bindOfHostRid (d : Dev) (h rid : Nat) : Option Nat := (d.boundTo h).find? (fun b => d.hostRid b == some rid)

/-- What the device has read of a function (R198, R201). -/
def noFn : FnInfo := { kind := 0, tagBits := 0, vfIndex := 0, bars := [], flr := false, vfValid := false, answered := false }
def Dev.fnInfo (d : Dev) (b : Nat) : FnInfo := tabGet d.fns b noFn

/-- A real BAR of a binding. -/
def Dev.realBar (d : Dev) (b n : Nat) : Option RealBar := (d.fnInfo b).bars.find? (fun r => r.num == n)

/-- The fabric base of a BAR (R206): for a VF, the PF's VF BAR plus (index − 1) times its size. -/
def Dev.fabricBase (d : Dev) (b : Nat) (r : RealBar) : Nat :=
  if d.num (Obj.bindKind b) = 3 then r.base + (d.num (Obj.bindVfIndex b) - 1) * r.size else r.base

def Dev.view (d : Dev) (b : Nat) : HostView := tabGet d.views b { bars := [] }
def Dev.modView (d : Dev) (b : Nat) (f : HostView → HostView) : Dev := { d with views := tabMod d.views b { bars := [] } f }

/-- The host-view address of a BAR: what the host wrote, under the size mask of the real BAR (R204). -/
def Dev.viewBase (d : Dev) (b : Nat) (r : RealBar) : Nat :=
  let v := tabGet (d.view b).bars r.num 0
  v - v % max 1 r.size

/-! Peer grants (R208). -/

/-- Used grants. -/
def Dev.grants (d : Dev) : List Nat := d.usedEntries 0x3300 4 0xFFFF

/-- A grant crosses nodes. -/
def Dev.crossGrant (d : Dev) (g : Nat) : Bool := d.num (Obj.grantSrcNode g) != d.num (Obj.grantDstNode g)

/-- The conditions of an active grant (R208), as far as this device holds them: bindings on its own node in state 2, and
FORMED where the grant crosses nodes. -/
def Dev.grantMayAct (d : Dev) (g : Nat) : Bool :=
  (d.num (Obj.grantSrcNode g) != d.ownNode || d.num (Obj.bindState (d.num (Obj.grantSrcBinding g))) == 2) &&
  (d.num (Obj.grantDstNode g) != d.ownNode || d.num (Obj.bindState (d.num (Obj.grantDstBinding g))) == 2) &&
  (!d.crossGrant g || d.num Obj.pairState == 2)

/-- ACTIVE links of the pair. -/
def Dev.activeLinks (d : Dev) : List Nat := bitsSet 16 (d.num Obj.pairLinksActive)

/-- The home link that a grant takes when it becomes active (R242): the ACTIVE link with the fewest grants. -/
def Dev.bestHome (d : Dev) : Option Nat :=
  let homed := fun i => (d.homes.filter (fun e => e.2 == i)).length
  d.activeLinks.foldl (fun best i =>
    match best with
    | none => some i
    | some j => if homed i < homed j then some i else some j) none

/-- A grant that is no longer used is in state 0 and has no home link; a pending revocation stays (R216). -/
def Dev.freeGrants (d : Dev) : Dev :=
  ((d.usedEntries 0x3300 12 0).filter (fun g => d.num (Obj.grantSrcBinding g) == 0xFFFF && d.num (Obj.grantState g) != 3)).foldl (fun d g =>
    { (d.setNum (Obj.grantState g) 0) with homes := tabDel d.homes g }) d

/-- Every grant takes its state, and cross-node grants their home links (R208, R242). -/
def Dev.refreshGrants (d : Dev) : Dev :=
  d.grants.foldl (fun d g =>
    if d.grantMayAct g then
      let d := if d.num (Obj.grantState g) ≠ 1 ∧ d.crossGrant g ∧ d.num (Obj.grantSrcNode g) = d.ownNode then
          match d.bestHome with
          | some i => { d with homes := tabSet id d.homes g i }
          | none => d
        else d
      d.setNum (Obj.grantState g) 1
    else { (d.setNum (Obj.grantState g) 2) with homes := tabDel d.homes g }) d.freeGrants

/-! The global address map (R206, R207). -/

/-- An entry with what its binding, BAR or grant now gives it. -/
def Dev.gamNow (d : Dev) (e : GamEntry) : GamEntry :=
  if e.kind = 1 then
    match d.realBar e.binding e.bar with
    | none => { e with valid := false }
    | some r =>
      let base := d.viewBase e.binding r
      { e with host := d.num (Obj.bindHost e.binding), base := base, limit := base + r.size - 1, fabricBase := d.fabricBase e.binding r,
               valid := d.num (Obj.bindState e.binding) == 2 && base != 0 && (d.view e.binding).mse &&
                 (d.portOfBinding e.binding).any (fun p => d.flag (Obj.fportReady p)) }
  else
    let g := e.grant
    let base := d.num (Obj.grantBase g)
    let b := d.num (Obj.grantDstBinding g)
    { e with host := d.num (Obj.bindHost (d.num (Obj.grantSrcBinding g))), base := base, limit := base + d.num (Obj.grantLength g) - 1,
             binding := b, bar := d.num (Obj.grantDstBar g), source := d.num (Obj.grantSrcBinding g), rights := d.num (Obj.grantRights g),
             fabricBase := if d.crossGrant g then 0 else
               match d.realBar b (d.num (Obj.grantDstBar g)) with
               | some r => d.fabricBase b r + d.num (Obj.grantDstOffset g)
               | none => 0,
             valid := d.num (Obj.grantState g) == 1 }

/-- Every entry of the map brought up to date, in both halves at once (R206). -/
def Dev.refreshGam (d : Dev) : Dev := { d with gam := d.gam.map d.gamNow }

/-- Grants, then the map. -/
def Dev.refreshMap (d : Dev) : Dev := d.refreshGrants.refreshGam

/-- The entries that bindings and grants ask for: kind, binding, BAR and grant (08, "Global address map"). -/
def Dev.gamWanted (d : Dev) : List (Nat × Nat × Nat × Nat) :=
  (d.bindings.filter d.isBound).flatMap (fun b => (d.fnInfo b).bars.map (fun r => (1, b, r.num, 0xFFFF))) ++
    (d.grants.filter (fun g => d.num (Obj.grantSrcNode g) == d.ownNode)).map (fun g => (2, 0, 0, g))

/-- An entry is the one asked for. -/
def gamIs (e : GamEntry) (w : Nat × Nat × Nat × Nat) : Bool :=
  e.kind == w.1 && e.grant == w.2.2.2 && (e.kind == 2 || (e.binding == w.2.1 && e.bar == w.2.2.1))

/-- The lowest number that a list does not hold. -/
def lowestFree (l : List Nat) : Nat := ((List.range (l.length + 1)).find? (fun i => !l.contains i)).getD l.length

/-- The map after a commit: entries no longer asked for are freed, and new ones take the lowest free numbers. -/
def Dev.syncGam (d : Dev) : Dev :=
  let want := d.gamWanted
  let kept := d.gam.filter (fun e => want.any (gamIs e))
  let gam := want.foldl (fun l w =>
    if l.any (fun e => gamIs e w) then l
    else l ++ [{ slot := lowestFree (l.map (fun e => e.slot)), kind := w.1, host := 0xFF, base := 0, limit := 0, binding := w.2.1, bar := w.2.2.1,
                 fabricBase := 0, source := 0xFFFF, grant := w.2.2.2, rights := 7, valid := false }]) kept
  ({ d with gam := gam }).refreshMap

/-- The valid entries that contain a range and meet a test, lowest number first; overlaps are logged (R207). -/
def Dev.gamMatch (d : Dev) (h : Half) (addr len : Nat) (p : GamEntry → Bool) : List GamEntry :=
  let m := d.gam.filter (fun e => e.valid && !d.gamDead.contains (h.code, e.slot) && p e && decide (e.base ≤ addr) && decide (addr + max 1 len ≤ e.limit + 1))
  m.foldr (fun e l => if l.any (fun x => x.slot < e.slot) then l.takeWhile (fun x => x.slot < e.slot) ++ e :: l.dropWhile (fun x => x.slot < e.slot) else e :: l) []

/-- The map view of an entry number. -/
def Dev.gamAt (d : Dev) (n : Nat) : Option GamEntry := d.gam.find? (fun e => e.slot == n)

/-! Completion tracking (R211 to R213). -/

/-- Where the completion of a tracked request goes, and what it carries there (R205, R210, R212, R225): the upstream port of
the host, or over BFL to the twin with a fabric prefix. -/
def Dev.trackTarget (d : Dev) (t : Track) (c : Tlp) : Nat × Option Nat × Frame :=
  let c := { c with requester := t.requester, tag := t.tag, tc := t.tc, ro := t.ro, ido := t.ido }
  match t.host with
  | some h => (d.upPort h, some h, { body := .tlp c })
  | none =>
    (d.num (Obj.bflPort t.link), some (d.num (Obj.bindHost t.binding)),
      { body := .tlp { c with completer := 0x00C0 + d.ownNode }, fprefix := some { pkind := 2, srcNode := d.ownNode, grant := t.grant, offset := 0 } })

/-- A completion that a half synthesises for a tracked request. -/
def Dev.returnCompletion (d : Dev) (h : Half) (t : Track) (c : Tlp) : Dev :=
  let x := d.trackTarget t c
  d.sendOwn noPort h x.1 (Half.ofPort x.1) t.cls x.2.1 x.2.2

/-- The switch function nearest a binding's function in its host's view (R305): its synthetic downstream port. -/
def Dev.trackCompleter (d : Dev) (b : Nat) : Nat :=
  256 * d.cfgReg (usp (d.num (Obj.bindHost b))) .secondaryBus + d.num (Obj.bindVdsp b)

/-- A PF of which some VF is bound; `other` asks for a VF bound to another host than the PF's. -/
def Dev.pfShared (d : Dev) (b : Nat) (other : Bool) : Bool :=
  d.bindings.any (fun x => d.num (Obj.bindPf x) == b && d.isBound x && (!other || d.num (Obj.bindHost x) != d.num (Obj.bindHost b)))

/-- A capability that a host does not see (R204): SR-IOV of a PF with a bound VF, Resizable BAR and VF Resizable BAR. -/
def Dev.capHidden (d : Dev) (b : Nat) (c : FnCap) : Bool := c.kind == 2 || (c.kind == 1 && d.pfShared b false)

/-- The Next Capability pointer that a host reads: the hidden capabilities that follow are skipped. -/
def Dev.nextSeen (d : Dev) (b : Nat) (caps : List FnCap) : Nat → Nat → Nat
  | 0, o => o
  | n + 1, o =>
    match caps.find? (fun c => c.offset == o) with
    | some c => if d.capHidden b c then d.nextSeen b caps n c.next else o
    | none => o

/-- The data of a configuration completion as the host reads it (R204): the host view's Command [1:0], Header Type [7], and
the Next Capability pointer in bits [31:20] of an extended capability's header (assumption log 95, PRESUMED). -/
def Dev.patchCfg (d : Dev) (x : Track) (l : List Byte) : List Byte :=
  match x.reg, l with
  | some (.command, none), b :: l => BitVec.ofNat 8 (setField b.toNat 0 2 (2 * b2n (d.view x.binding).mse)) :: l
  | some (.headerType, none), b :: l =>
    let multi := d.num (Obj.bindVfn x.binding) == 0 &&
      (d.boundTo (d.num (Obj.bindHost x.binding))).any (fun y => y != x.binding && d.num (Obj.bindVdsp y) == d.num (Obj.bindVdsp x.binding))
    BitVec.ofNat 8 (setBit b.toNat 7 multi) :: l
  | some (.other o, none), l =>
    let caps := (d.fnInfo x.binding).caps
    match caps.find? (fun c => c.offset == o) with
    | some c => if l.length = 4 then leBytes 4 (setField (leNat l) 20 12 (d.nextSeen x.binding caps caps.length c.next)) else l
    | none => l
  | _, l => l

/-- The completion of a host's Command write is returned: Memory Space Enable of its view takes the value, and the map
follows (R204, R206). -/
def Dev.cfgReturned (d : Dev) (x : Track) : Dev :=
  match x.reg with
  | some (.command, some n) => (d.modView x.binding (fun v => { v with mse := bitOf n 1 })).refreshMap
  | _ => d

/-- An entry is ended by the device (R213): its requester gets one synthesised completion, unless its host is in reset or
the twin is gone. -/
def Dev.endTrack (d : Dev) (h : Half) (t : Track) (silent : Bool) : Dev :=
  let d := (d.setTrack h ((d.track h).filter (fun x => x.entry != t.entry))).inc64 Obj.fabricCtlTrackTimeouts
  let inReset := t.host.any (fun v => d.num (Obj.fhostState v) == 3)
  if silent || inReset then d
  else
    let req : Tlp := { type := t.type, requester := t.requester, tag := t.tag, tc := t.tc, len := t.due }
    let st := d.endStatus t.host req .policy
    let d := match t.host with
      | some v => (d.inc64 (Obj.errNodeSynthCpl v)).count Ev.nodeSynthCpl v none (some v)
      | none => d
    let completer := match t.host with
      | some _ => d.trackCompleter t.binding
      | none => 0
    (d.returnCompletion h t (completionOf req completer st.1 st.2)).cfgReturned t

/-- Every entry that meets a test is ended (R213), and so is every request that still waits for one. -/
def Dev.endTracks (d : Dev) (p : Track → Bool) (silent : Bool) : Dev :=
  let d := (d.trackW.filter p).foldl (fun d t => d.endTrack .west t silent) d
  let d := (d.trackE.filter p).foldl (fun d t => d.endTrack .east t silent) d
  let late := d.waiting.filter (fun q => q.track.any p)
  late.foldl (fun d q =>
    let d := (((d.dropFrame .west q.id).dropFrame .east q.id).dropSeam .west q.id).dropSeam .east q.id
    if silent then d else d.endFrame q.half q.inPort q.inHalf q.cls q.node q.frame .policy (d.trackCompleter (q.bind.getD 0))) d

/-- What an accepted completion leaves of its entry, and the completion as its host sees it (R204, R212): the entry is
freed by the completion that ends the request, which one without data does (PRESUMED, log 117). None: it belongs to no
entry or comes from another function, and is counted late. -/
def Dev.proxyTake (d : Dev) (t : Tlp) : Dev × Option (Track × Tlp) :=
  let h := Half.ofCode (field t.requester 4 1)
  let entry := 16384 * field t.requester 0 4 + t.tag
  match (d.track h).find? (fun x => x.entry == entry) with
  | none => (d.inc64 Obj.fabricCtlLate, none)
  | some x =>
    if t.completer ≠ d.num (Obj.bindRid x.binding) then (d.inc64 Obj.fabricCtlLate, none)
    else
      let last := (t.len == 0 || decide (t.byteCount ≤ t.len)) || t.status != .sc
      let rest := (d.track h).filter (fun y => y.entry != entry)
      let d := d.setTrack h (if last then rest else rest ++ [{ x with due := x.due - t.len }])
      (if last then d.cfgReturned x else d, some (x, { t with data := d.patchCfg x t.data }))

/-! The host's side of a binding. -/

/-- Data Link Layer Link Active, the width and the rate that a synthetic port's Link Status gives: those of the physical
port behind it, or 0 while its link is down (08, "Synthetic hierarchy"; assumption log 8). -/
def Dev.synthLinkStatus (d : Dev) (b : Nat) (up : Bool) : Nat :=
  match d.portOfBinding b with
  | some p => if up then 2 ^ 13 + 16 * d.num (Obj.pstWidth p) + d.num (Obj.pstRate p) else 0
  | none => 0

/-- A synthetic port's link goes up or down for its host, and its Presence Detect State where that changes with it (R198,
R202). -/
def Dev.synthLink (d : Dev) (b : Nat) (up presence : Bool) : Dev :=
  let f := d.synthOf b
  let st := d.cfgReg f .slotStatus ||| slotStLinkChanged
  (d.setCfg f .slotStatus (if presence then setField (st ||| slotStPresenceChanged) 6 1 (b2n up) else st)).setCfg f .linkStatus (d.synthLinkStatus b up)

/-- A binding takes a state. -/
def Dev.bindTo (d : Dev) (b st : Nat) : Dev := d.setNum (Obj.bindState b) st

/-- A host powers a synthetic slot on or off by Power Controller Control (R203): off, and each binding below it reads state
3. -/
def Dev.synthPower (d : Dev) (v devfn : Nat) (on : Bool) : Dev :=
  let f : CfgFunc := .synthetic (Fin.ofNat 64 v) (Fin.ofNat 256 devfn)
  let d := d.setCfg f .slotControl (setBit (d.cfgReg f .slotControl) 10 (!on))
  let bs := (d.boundTo v).filter (fun b => d.num (Obj.bindVdsp b) == devfn && d.num (Obj.bindState b) == (if on then 3 else 2))
  match bs with
  | [] => d
  | b0 :: _ =>
    let d := (bs.foldl (fun d b => d.bindTo b (if on then 2 else 3)) d).refreshMap
    if on then d
    else d.notify 2 (fun s => s.deviceWide || (s.role == .admin && s.scope == v)) (fun _ => [numItem (Obj.bindState b0) .u8 3])

/-- SYNTH_SLOT_POWER_OFF. -/
def execSynthSlotPowerOff (node : Fin 64) (devfn : Fin 256) (s : State) : Host.Outcome State Fault Refusal :=
  onDev s (s.dev.synthPower node devfn false)

/-- SYNTH_SLOT_POWER_ON (R203). -/
def execSynthSlotPowerOn (node : Fin 64) (devfn : Fin 256) (s : State) : Host.Outcome State Fault Refusal :=
  onDev s (s.dev.synthPower node devfn true)

/-- Bases of a function's BARs that the read of R198 gives and the command does not name: free values (assumption log 1). -/
def Dev.freeBars (d : Dev) (l : List RealBar) : List RealBar × Dev :=
  l.foldl (fun r x => (r.1 ++ [{ x with base := r.2.free % 2 ^ 64 / max 1 x.size * x.size }], r.2.bump)) ([], d)

/-- A write of `fport.ready` (R198): the real BARs of every binding behind the port are read, and bindings that the port
had lost return to state 2. -/
def Dev.fportReadyWrite (d : Dev) (p : Nat) (bars : List (Nat × List RealBar)) : Dev :=
  let d := d.setNum (Obj.fportReady p) 1
  let d := (d.bindingsBehind p).foldl (fun d b =>
    let r := match tabFind bars b with
      | some l => (l, d)
      | none => d.freeBars (d.fnInfo b).bars
    let d : Dev := { r.2 with fns := tabSet id r.2.fns b { d.fnInfo b with bars := r.1 } }
    if d.num (Obj.bindState b) = 4 then (d.bindTo b 2).synthLink b true false else d) d
  d.syncGam

/-- A fabric port leaves DL_Up (R198, R213): not ready, its bindings lost, its tracked requests ended. -/
def Dev.fportLost (d : Dev) (p : Nat) : Dev :=
  let bs := (d.bindingsBehind p).filter (fun b => d.isBound b)
  let d := d.setNum (Obj.fportReady p) 0
  let d := bs.foldl (fun d b => if d.num (Obj.bindState b) = 4 then d else (d.bindTo b 4).synthLink b false false) d
  (d.endTracks (fun t => bs.contains t.binding) false).refreshMap

/-- A host enters reset (R200, R213): its host views return to 0, its functions are reset, and its tracked requests are
freed without completion. -/
def Dev.hostFunctionsReset (d : Dev) (v : Nat) : Dev :=
  let bs := d.boundTo v
  let d := bs.foldl (fun d b =>
    (d.modView b (fun x => { x with bars := [], mse := false })).emit (if (d.fnInfo b).flr then .flr b else .clearBme b)) d
  (d.endTracks (fun t => t.host == some v) true).refreshMap

/-- The class of a host's own requests at its upstream port: field TC0 of `sched.port.tc_map` (R278). -/
def Dev.hostClass (d : Dev) (v : Nat) : Nat :=
  let p := d.upPort v
  if p < 128 then field (d.num (Obj.schedPortTcMap p)) 0 3 else 1

end Sys2Proof.Machine
end

