-- ==== Sys2Proof/Machine/Slots.lean ====
section
/-!
DEFINITION. Sys2Proof/Machine/Slots.lean: slot power channels (13; R323 to R336) and the loss of VPA (R397).
-/
namespace Sys2Proof.Machine

/-- Feeds that the mode lets conduct, apart from their goodness (R324). -/
def feedPermitted (mode : Nat) (f : Feed) : Bool :=
  match f with
  | .a => mode != 2
  | .b => mode != 1

/-- Whether a feed is good. -/
def feedGood (s : Slot) (f : Feed) : Bool :=
  match f with
  | .a => s.goodA
  | .b => s.goodB

/-- A feed's goodness set. -/
def setGood (s : Slot) (f : Feed) (b : Bool) : Slot :=
  match f with
  | .a => { s with goodA := b }
  | .b => { s with goodB := b }

/-- An OR gate set. -/
def setGate (s : Slot) (f : Feed) (b : Bool) : Slot :=
  match f with
  | .a => { s with gateA := b }
  | .b => { s with gateB := b }

/-- A reverse turn-off of a feed's OR gate, or its end. -/
def setReverse (s : Slot) (f : Feed) (b : Bool) : Slot :=
  match f with
  | .a => { s with reverseA := b }
  | .b => { s with reverseB := b }

/-- A reverse turn-off holds a feed's OR gate off (R325). -/
def reverseOff (s : Slot) (f : Feed) : Bool :=
  match f with
  | .a => s.reverseA
  | .b => s.reverseB

/-- Whether a feed's OR gate may conduct: good, permitted, not turned off by a reverse current, and in mode 3 the B gate only
while feed A is not good (R324, R325). -/
def mayConduct (mode : Nat) (s : Slot) (f : Feed) : Bool :=
  feedGood s f && feedPermitted mode f && !reverseOff s f && !(f == .b && mode == 3 && s.goodA)

/-- The OR gates by R324: a gate that may not conduct goes off, and one that may goes on where the pads allow it. -/
def orGates (allowed : Bool) (mode : Nat) (s : Slot) : Slot :=
  { s with gateA := mayConduct mode s .a && (allowed || s.gateA), gateB := mayConduct mode s .b && (allowed || s.gateB) }

/-- A gate pad of a channel may go on: its group is not held (R43), VPA is there (R397), and the device is not in Crocus mode,
Deep sleep or Off, where the slot gates are off (R40). -/
def Dev.gatesMayRise (d : Dev) (k : Nat) : Bool :=
  d.pins.vpa && !d.padHeld (16 + k / 8) && !d.crocus && d.num Obj.pwrState != 3 && d.num Obj.pwrState != 4

/-- The OR gates of a channel follow its feeds and its mode. -/
def Dev.followFeeds (d : Dev) (k : Nat) : Dev := d.modSlot k (orGates (d.gatesMayRise k) (d.num (Obj.slotFeedMode k)))

/-- The OR gates of every channel, when the device has left a state that kept them off. -/
def Dev.followAllFeeds (d : Dev) : Dev := (d.slots.map (fun e => e.1)).foldl Dev.followFeeds d

/-- A channel has usable power while a feed that its mode permits is good (R326). -/
def usablePower (mode : Nat) (s : Slot) : Bool := (s.goodA && feedPermitted mode .a) || (s.goodB && feedPermitted mode .b)

/-- The channel delivers power. -/
def Dev.slotLive (d : Dev) (k : Nat) : Bool :=
  d.num (Obj.slotState k) == SlotSt.ramp || d.num (Obj.slotState k) == SlotSt.on

/-- The measured voltage of a feed. -/
def vinKey (k : Nat) (f : Feed) : Key :=
  match f with
  | .a => Obj.slotMeasVinA k
  | .b => Obj.slotMeasVinB k

/-- FEED_GOOD (R323, R324): a feed that has stayed inside its window becomes good, and its gate may conduct. -/
def execFeedGood (k : Fin 32) (f : Feed) (mv : Nat) (s : State) : Host.Outcome State Fault Refusal :=
  let d := s.dev
  if d.num (Obj.slotUv k) ≤ mv ∧ mv ≤ d.num (Obj.slotOv k) then
    onDev s (((d.modSlot k (fun c => setGood c f true)).followFeeds k).setNum (vinKey k f) mv)
  else .next s

/-- A channel leaves RAMP or ON for READY: GATE_H off and SB_PERST_N_k low, AUX_EN_k off unless `slot.aux_keep` holds
it (R326, R330, R333). -/
def Dev.slotToReady (d : Dev) (k : Nat) : Dev :=
  let keep := d.flag (Obj.slotAuxKeep k)
  let d := d.modSlot k (fun c => { slotDark c with aux := c.aux && keep, readyAt := d.clk })
  d.slotTo k SlotSt.ready

/-- FEED_BAD (R323, R326): a good feed that leaves its window by 200 mV stops being good, is logged as 0x0703, and a
channel that loses usable power returns to READY without a fault count. -/
def execFeedBad (k : Fin 32) (f : Feed) (mv : Nat) (s : State) : Host.Outcome State Fault Refusal :=
  let d := s.dev
  if feedGood (d.slot k) f && (decide (mv + 200 < d.num (Obj.slotUv k)) || decide (d.num (Obj.slotOv k) + 200 < mv)) then
    let mode := d.num (Obj.slotFeedMode k)
    let d := ((d.modSlot k (fun c => setGood c f false)).followFeeds k).setNum (vinKey k f) mv
    let d := d.logEvent d.holderHalf Scope.slot k 1 0x0703
    onDev s (if d.slotLive k && !usablePower mode (d.slot k) then d.slotToReady k else d)
  else .next s

/-- REVERSE_TURN_OFF (R325): the feed's OR gate goes off, whatever the channel state or a latched hold. -/
def execReverseTurnOff (k : Fin 32) (f : Feed) (s : State) : Host.Outcome State Fault Refusal :=
  let d := s.dev.modSlot k (fun c => { setReverse (setGate c f false) f true with reverse := true })
  onDev s (d.logEvent d.holderHalf Scope.slot k 0 0x0704)

/-- OR_GATE_RESUME (R325): the feed exceeds the common node; while it is good its gate conducts again, where its mode permits it and
its pad may go on. -/
def execOrGateResume (k : Fin 32) (f : Feed) (s : State) : Host.Outcome State Fault Refusal :=
  if feedGood (s.dev.slot k) f then onDev s ((s.dev.modSlot k (fun c => setReverse c f false)).followFeeds k) else .next s

/-- A fault of R327 or R328: GATE_H off, SB_PERST_N_k low, the count advances, the cooldown starts, and Power Fault
Detected is set in the bound port. -/
def Dev.slotFault (d : Dev) (k cause : Nat) : Dev :=
  let d := d.modSlot k (fun c => { slotDark c with cooldownEnd := some (d.clk + ms (d.num (Obj.slotCooldown k))) })
  let d := (d.setNum (Obj.slotFaultCount k) (min 255 (d.num (Obj.slotFaultCount k) + 1))).setNum (Obj.slotLastFault k) cause
  let d := d.logEvent d.holderHalf Scope.slot k 2 (if cause = 1 then 0x0701 else 0x0702)
  (d.slotStatusBits k slotStPowerFault).slotTo k SlotSt.cooldown

/-- FAST_TRIP (R327): cause 1, whatever the ramp, the limit loop or a latched hold. -/
def execFastTrip (k : Fin 32) (s : State) : Host.Outcome State Fault Refusal :=
  if s.dev.slotLive k then onDev s (s.dev.slotFault k 1) else .next s

/-- LIMIT_TIMER_EXPIRY (R327): cause 2, in RAMP and in ON alike. -/
def execLimitTimerExpiry (k : Fin 32) (s : State) : Host.Outcome State Fault Refusal :=
  if s.dev.slotLive k then onDev s (s.dev.slotFault k 2) else .next s

/-- The slot's bus is down: the transaction ends, delivering nothing, and a far access of it can only time out
(R338, R339, R349). -/
def Dev.busDown (d : Dev) (k : Nat) : Dev :=
  let d := (d.sbus k).deferred.foldl (fun d e => d.wr e.1 e.2) d
  d.modSb k (fun b => { b with busUp := false, txn := none, due := [], alertDue := false, changed := [], deferred := [] })

/-- POWER_GOOD (R328): a ramping channel enters ON and AUX_EN_k goes on, unless its pad is held; a brake of its group acts on it
too (R334). -/
def execPowerGood (k : Fin 32) (s : State) : Host.Outcome State Fault Refusal :=
  let d := s.dev
  if d.num (Obj.slotState k) = SlotSt.ramp then
    let d := if (d.slot k).aux then d else d.busDown k
    let braked := (List.range 8).any (fun i => d.num (Obj.slotState (8 * (k.val / 8) + i)) == SlotSt.on && (d.slot (8 * (k.val / 8) + i)).brake)
    onDev s ((d.modSlot k (fun c => { c with brake := braked && !d.padHeld 20, pg := true, aux := c.aux || !d.padHeld (16 + k / 8), onSince := d.clk })).slotTo k SlotSt.on)
  else .next s

/-- RAMP_TIMEOUT (R328): Power Good not reached within `slot.ramp_timeout`: cause 3. -/
def execRampTimeout (k : Fin 32) (s : State) : Host.Outcome State Fault Refusal :=
  let d := s.dev
  if d.num (Obj.slotState k) = SlotSt.ramp then
    onDev s ((d.advanceTo ((d.slot k).rampSince + ms (d.num (Obj.slotRampTimeout k)))).slotFault k 3)
  else .next s

/-- PRESENCE_ASSERT (R330, R332, R340): the insertion delay starts from its full value. -/
def execPresenceAssert (k : Fin 32) (s : State) : Host.Outcome State Fault Refusal :=
  let d := s.dev
  if (d.slot k).present then .next s
  else
    let d := d.modSlot k (fun c => { c with present := true, insertSince := d.clk })
    let d := d.slotStatusBits k (slotStPresenceChanged ||| slotStPresence)
    onDev s (d.slotTo k SlotSt.inserting)

/-- PRESENCE_LOSS (R330, R339, R340): gates, AUX_EN_k and SB_PERST_N_k go off at once; a cooldown keeps running. -/
def execPresenceLoss (k : Fin 32) (s : State) : Host.Outcome State Fault Refusal :=
  let d := s.dev
  if (d.slot k).present then
    let d := d.modSlot k (fun c => { slotDark c with present := false, absentSince := d.clk })
    let d := d.slotStatusBits k slotStPresenceChanged
    let d := match d.portOfSlot k with
      | some p => d.setCfg (dsp p) .slotStatus (setBit (d.cfgReg (dsp p) .slotStatus) 6 false)
      | none => d
    onDev s ((d.slotTo k SlotSt.absent).busDown k)
  else .next s

/-- INSERT_DELAY_EXPIRY (R330): INSERTING to READY after `slot.insert_delay`. -/
def execInsertDelayExpiry (k : Fin 32) (s : State) : Host.Outcome State Fault Refusal :=
  let d := s.dev
  if d.num (Obj.slotState k) = SlotSt.inserting then
    let d := d.advanceTo ((d.slot k).insertSince + ms (d.num (Obj.slotInsertDelay k)))
    onDev s ((d.modSlot k (fun c => { c with readyAt := d.clk })).slotTo k SlotSt.ready)
  else .next s

/-- A channel is wanted (R330): `slot.enable` 1, or 2 with the bound port's Power Controller Control on; a value of 2 in
fabric mode acts as 1. Slot Control [10] reads 1 for off (assumption log 8). -/
def Dev.slotWanted (d : Dev) (k : Nat) : Bool :=
  match d.num (Obj.slotEnable k) with
  | 1 => true
  | 2 => d.fabricMode ||
    match d.portOfSlot k with
    | some p => !bitOf (d.cfgReg (dsp p) .slotControl) 10
    | none => false
  | _ => false

/-- Channels of a group in RAMP. -/
def Dev.ramping (d : Dev) (g : Nat) : Nat :=
  (List.range 8).countP (fun i => d.num (Obj.slotState (8 * g + i)) == SlotSt.ramp)

/-- The start check but for the ramp slot (R330, R332, R361). -/
def Dev.mayStart (d : Dev) (k : Nat) : Bool :=
  d.num (Obj.slotState k) == SlotSt.ready && d.slotWanted k && usablePower (d.num (Obj.slotFeedMode k)) (d.slot k) &&
    (d.slot k).cooldownEnd.isNone && decide (d.num (Obj.slotFaultCount k) < d.num (Obj.slotFaultLimit k)) &&
    !d.padHeld (16 + k / 8)

/-- Waiting channels take ramp slots in the order in which they became ready, ties to the lower number (R330). -/
def Dev.firstToStart (d : Dev) (k : Nat) : Bool :=
  (List.range 8).all (fun i =>
    let j := 8 * (k / 8) + i
    j == k || !d.mayStart j || decide ((d.slot k).readyAt < (d.slot j).readyAt) ||
      ((d.slot k).readyAt == (d.slot j).readyAt && decide (k < j)))

/-- CHANNEL_START (R330): a wanted READY channel with usable power and a free ramp slot enters RAMP. -/
def execChannelStart (k : Fin 32) (s : State) : Host.Outcome State Fault Refusal :=
  let d := s.dev
  if d.mayStart k && d.firstToStart k && decide (d.ramping (k.val / 8) < d.num (Obj.sgrpRampMax (k.val / 8))) then
    onDev s ((d.modSlot k (fun c => { c with gateH := true, metered := true, pg := false, rampSince := d.clk })).slotTo k SlotSt.ramp)
  else .next s

/-- COOLDOWN_EXPIRY (R330 to R332): READY below the fault limit, else LOCKED; an absent channel only loses the
cooldown. -/
def execCooldownExpiry (k : Fin 32) (s : State) : Host.Outcome State Fault Refusal :=
  match (s.dev.slot k).cooldownEnd with
  | none => .next s
  | some t =>
    let d := s.dev.advanceTo t
    let d := d.modSlot k (fun c => { c with cooldownEnd := none, readyAt := d.clk })
    onDev s (if d.num (Obj.slotState k) = SlotSt.cooldown then
        d.slotTo k (if d.num (Obj.slotFaultCount k) < d.num (Obj.slotFaultLimit k) then SlotSt.ready else SlotSt.locked)
      else d)

/-- ABSENCE_COUNT_CLEAR (R330, R332): absent without a break for longer than `slot.cooldown`. -/
def execAbsenceCountClear (k : Fin 32) (s : State) : Host.Outcome State Fault Refusal :=
  let d := s.dev
  if d.num (Obj.slotState k) = SlotSt.absent then
    onDev s ((d.advanceTo ((d.slot k).absentSince + ms (d.num (Obj.slotCooldown k)) + 1)).setNum (Obj.slotFaultCount k) 0)
  else .next s

/-- The partition of the port bound to a slot is in reset (R333; hierarchy mode only). -/
def Dev.slotNodeInReset (d : Dev) (k : Nat) : Bool :=
  !d.fabricMode &&
  match d.portOfSlot k with
  | some p => d.num (Obj.vsState (d.num (Obj.portPartition p))) == 3
  | none => false

/-- PERST_RELEASE (R333): `slot.perst_delay` in ON, `slot.perst` 1, and no reset of the bound partition. -/
def execPerstRelease (k : Fin 32) (s : State) : Host.Outcome State Fault Refusal :=
  let d := s.dev
  if d.num (Obj.slotState k) = SlotSt.on ∧ d.num (Obj.slotPerst k) = 1 ∧ d.slotNodeInReset k = false ∧ d.padHeld 20 = false then
    let d := d.advanceTo ((d.slot k).onSince + ms (d.num (Obj.slotPerstDelay k)))
    onDev s (d.modSlot k (fun c => { c with perstRel := true }))
  else .next s

/-- SB_PWRBRK_N of the ON channels of a group; a held pad keeps its level (R40). -/
def Dev.setBrake (d : Dev) (g : Nat) (b : Bool) : Dev :=
  if d.padHeld 20 then d else
  (List.range 8).foldl (fun d i =>
    if d.num (Obj.slotState (8 * g + i)) = SlotSt.on ∨ b = false then d.modSlot (8 * g + i) (fun c => { c with brake := b }) else d) d

/-- BRAKE_ASSERT (R334): with a threshold set, SB_PWRBRK_N goes low on every ON channel of the group. -/
def execBrakeAssert (g : Fin 4) (s : State) : Host.Outcome State Fault Refusal :=
  if s.dev.num (Obj.sgrpBrakeMw g) = 0 then .next s else onDev s (s.dev.setBrake g true)

/-- BRAKE_RELEASE (R334). -/
def execBrakeRelease (g : Fin 4) (s : State) : Host.Outcome State Fault Refusal := onDev s (s.dev.setBrake g false)

/-- VPA_LOW (R397): every gate output is held off. -/
def execVpaLow (s : State) : Host.Outcome State Fault Refusal :=
  onDev s { s.dev with pins := { s.dev.pins with vpa := false },
                       slots := s.dev.slots.map (fun e => (e.1, { slotDark e.2 with gateA := false, gateB := false })) }

/-- VPA_RECOVER (R397): each channel returns to ABSENT or READY by presence, with `slot.enable` 0, and its OR
gates follow its feeds again (R324). -/
def execVpaRecover (s : State) : Host.Outcome State Fault Refusal :=
  if s.dev.pins.vpa then .next s
  else onDev s ({ s.dev with pins := { s.dev.pins with vpa := true } }).allSlotsShut.followAllFeeds

/-! Writes of channel objects. -/

/-- A channel that is no longer wanted leaves RAMP or ON (R330). -/
def Dev.slotRecheck (d : Dev) (k : Nat) : Dev := if d.slotLive k && !d.slotWanted k then d.slotToReady k else d

/-- A write of `slot.enable` (R330): 2 is refused in fabric mode and while no enabled port names the channel. -/
def Dev.writeSlotEnable (d : Dev) (k v : Nat) : Dev × Nat :=
  if v = 2 ∧ (d.fabricMode ∨ (d.portOfSlot k).isNone) then (d, Status.state)
  else ((d.setNum (Obj.slotEnable k) v).slotRecheck k, Status.ok)

/-- A write of `slot.cmd` (R331, R336): 1 clears the count and ends LOCKED, never a running cooldown; 2 clears energy
and peak. -/
def Dev.writeSlotCmd (d : Dev) (k v : Nat) : Dev × Nat :=
  if v = 1 then
    let d := d.setNum (Obj.slotFaultCount k) 0
    (if d.num (Obj.slotState k) = SlotSt.locked then
        (d.modSlot k (fun c => { c with readyAt := d.clk })).slotTo k SlotSt.ready else d, Status.ok)
  else (((d.modSlot k (fun c => { c with metered := c.gateH })).setNum (Obj.slotMeasEnergy k) 0).setNum (Obj.slotMeasPeak k) 0, Status.ok)

/-- A write of `slot.perst` (R333): 0 drives SB_PERST_N_k low. -/
def Dev.writeSlotPerst (d : Dev) (k v : Nat) : Dev × Nat :=
  let d := d.setNum (Obj.slotPerst k) v
  (if v = 0 then d.modSlot k (fun c => { c with perstRel := false }) else d, Status.ok)

/-- `slot.status` (13, "slot.status layout"); whether the limit regulates at the moment is the sense current's. -/
def slotStatusWord (c : Slot) (inLimit : Bool) : Nat :=
  packBits [c.gateH, c.gateA || c.gateB, c.aux, c.pg, inLimit, c.goodA, c.goodB, c.reverse, c.present, c.perstRel, c.brake]

/-- `slot.cooldown_left`, ms rounded up (0x7400:11). -/
def Dev.cooldownLeft (d : Dev) (k : Nat) : Nat :=
  match (d.slot k).cooldownEnd with
  | none => 0
  | some t => (t - d.clk + ms 1 - 1) / ms 1

/-- Hardware limits of `slot.ilimit` and `slot.ifast` in mA: sense voltage in nV over the sense resistor in uOhm
(R329). -/
def ilimitBounds (rsense : Nat) : Nat × Nat := ((5000000 + rsense - 1) / rsense, 50000000 / rsense)

/-- `slot.ifast`: 10 mV to 100 mV, and at least 1.5 times the current limit (R329). -/
def ifastBounds (rsense ilimit : Nat) : Nat × Nat :=
  (max ((10000000 + rsense - 1) / rsense) ((3 * ilimit + 1) / 2), 100000000 / rsense)

/-- A value clamped to its limits, and whether it was (R14, R54). -/
def clampTo (b : Nat × Nat) (n : Nat) : Nat × Bool :=
  if n < b.1 then (min b.1 b.2, true) else if b.2 < n then (b.2, true) else (n, false)

end Sys2Proof.Machine
end

