-- ==== Sys2Proof/Machine/LaneBase.lean ====
section
/-!
DEFINITION. Sys2Proof/Machine/LaneBase.lean: what links and lanes share: `lane.status`, sleep levels (R118, R119), the
queueing of background passes (R124), equalisation (R120, R121) and the options that a link advertises (R143).
-/
namespace Sys2Proof.Machine

/-! `lane.status` (05, "lane.status layout"). -/

abbrev LaneBit.los : Nat := 0
abbrev LaneBit.lol : Nat := 1
abbrev LaneBit.bgcal : Nat := 6
abbrev LaneBit.sampler : Nat := 7
abbrev LaneBit.failed : Nat := 8
abbrev LaneBit.degraded : Nat := 9
abbrev LaneBit.inTest : Nat := 10
abbrev LaneBit.margining : Nat := 11

abbrev Cal.idle : Nat := 0
abbrev Cal.pending : Nat := 1
abbrev Cal.running : Nat := 2
abbrev Cal.passed : Nat := 3
abbrev Cal.failed : Nat := 4
abbrev Cal.degraded : Nat := 5

/-- A bit of `lane.status`. -/
def Dev.laneBit (d : Dev) (l k : Nat) : Bool := bitOf (d.num (Obj.laneStatus l)) k
def Dev.setLaneBit (d : Dev) (l k : Nat) (b : Bool) : Dev := d.setNum (Obj.laneStatus l) (setBit (d.num (Obj.laneStatus l)) k b)

/-! Sleep levels (R118, R119). -/

/-- The offset of a direction's level field, and its bit of `lane.sleep_allow`. -/
def levelOff : LaneDir → Nat
  | .tx => 2
  | .rx => 4
def allowBit : LaneDir → Nat
  | .tx => 0
  | .rx => 1

/-- A lane is Off ("Lane sleep levels"): no configured port holds it, or its station's PMA domain is off (R359). -/
def Dev.laneOff (d : Dev) (l : Nat) : Bool :=
  !(d.portOfLane l).any (fun p => d.flag (Obj.portEnable p)) || (decide (2 ≤ d.num Obj.pwrState) && decide (d.num Obj.pwrState ≤ 4))

/-- The level that a direction's port calls for. -/
def Dev.askedLevel (d : Dev) (l : Nat) (x : LaneDir) : Nat := field (d.num (Obj.laneStatus l)) (levelOff x) 2

/-- The sleep level of a direction: Active in test, and Light where `lane.sleep_allow` keeps it from Deep (R119). -/
def Dev.laneLevel (d : Dev) (l : Nat) (x : LaneDir) : Nat :=
  if d.inTest l then 0
  else if d.laneOff l then 3
  else if d.askedLevel l x = 2 ∧ bitOf (d.num (Obj.laneSleepAllow l)) (allowBit x) = false then 1
  else d.askedLevel l x

/-- The receiver is Active: not asleep, and not held in electrical idle as failed (R127). -/
def Dev.rxActive (d : Dev) (l : Nat) : Bool := d.laneLevel l .rx == 0 && !d.laneBit l LaneBit.failed

/-- `lane.status` as it reads: the levels in force, and IN_TEST by the test objects. -/
def Dev.laneStatusWord (d : Dev) (l : Nat) : Nat :=
  setBit (setField (setField (d.num (Obj.laneStatus l)) 2 2 (d.laneLevel l .tx)) 4 2 (d.laneLevel l .rx)) LaneBit.inTest (d.inTest l)

/-- A pass comes due (R124): it is queued at once on an Active receiver, and else when the receiver returns. -/
def Dev.passDue (d : Dev) (l : Nat) : Dev :=
  let d := d.modLane l (fun x => { x with passDue := true })
  let st := d.num (Obj.laneCalStatus l)
  if d.rxActive l && st != Cal.pending && st != Cal.running then d.setNum (Obj.laneCalStatus l) Cal.pending else d

/-- What a receiver's level does to background passes (R124): an overdue pass is queued once it is Active, and a pass that
runs when it leaves Active waits again. -/
def Dev.followReceiver (d : Dev) (l : Nat) : Dev :=
  if d.rxActive l then (if (d.lane l).passDue then d.passDue l else d)
  else if (d.lane l).run = 1 then
    (d.setLaneBit l LaneBit.bgcal false).setNum (Obj.laneCalStatus l) Cal.pending |>.modLane l (fun y => { y with run := 0, passDue := true, samplerUser := 0 })
  else d

/-- A direction called to a level. -/
def Dev.setLevel (d : Dev) (l : Nat) (x : LaneDir) (level : Nat) : Dev :=
  let d := d.setNum (Obj.laneStatus l) (setField (d.num (Obj.laneStatus l)) (levelOff x) 2 level)
  match x with
  | .tx => d
  | .rx => d.followReceiver l

/-- Both directions called to a level. -/
def Dev.setLevels (d : Dev) (l level : Nat) : Dev := (d.setLevel l .tx level).setLevel l .rx level

/-- Every receiver follows a change of its ports or its domain. -/
def Dev.receiversFollow (d : Dev) (lanes : List Nat) : Dev := lanes.foldl Dev.followReceiver d

/-- `pst.ltssm` of a link in L0 or a link power state, by what its lanes are called to (R118): L2 with every direction Off, L1
with every direction asleep, else L0 (assumption log 108). -/
def Dev.followSleep (d : Dev) (p : Nat) : Dev :=
  let levels := (d.port p).lanes.flatMap (fun l => [d.askedLevel l .tx, d.askedLevel l .rx])
  if [3, 5, 6].contains (d.num (Obj.pstLtssm p)) && !levels.isEmpty then
    d.setNum (Obj.pstLtssm p) (if levels.all (fun v => v == 3) then 6 else if levels.all (fun v => v != 0) then 5 else 3)
  else d

/-- A port is in L1.2: in L1 with every direction called to Deep, where `port.lpm` allows L1.2 (R143, R354). -/
def Dev.inL12 (d : Dev) (p : Nat) : Bool :=
  d.num (Obj.pstLtssm p) == 5 && bitOf (d.linkField p (Obj.portLpm p)) 2 &&
    (d.port p).lanes.all (fun l => d.askedLevel l .tx == 2 && d.askedLevel l .rx == 2)

/-- Lanes that L0p idles are Light, and the others of the link Active (R118); the one width of the record stands for both
directions (assumption log 108). -/
def Dev.l0pLanes (d : Dev) (p width : Nat) : Dev :=
  (((d.port p).lanes.drop width).foldl (fun d l => d.setLevels l 1) (((d.port p).lanes.take width).foldl (fun d l => d.setLevels l 0) d))

/-! Equalisation (R120, R121). -/

/-- Rates that a link is equalised at on its way to a rate: from 8 GT/s on, from 32 GT/s on with Equalization bypass, or none
with No Equalization Needed, each as both ends take it (0x2000:09). -/
def Dev.eqRates (d : Dev) (p rate : Nat) (bypass noEq : Bool) : List Nat :=
  let o := d.linkField p (Obj.portEqOptions p)
  if noEq && bitOf o 1 then []
  else (List.range (rate + 1)).filter (fun r => decide ((if bypass && bitOf o 0 && decide (5 ≤ rate) then 5 else 3) ≤ r))

/-- Receiver taps by rate ("Lane signalling by rate"). -/
def dfeTaps (rate : Nat) : Nat := if 6 ≤ rate then 12 else if 3 ≤ rate then 5 else 0

/-- The receiver adapts (R120; 0x2200:08): peaking and gain are what it finds, a free value. -/
def Dev.adapt (d : Dev) (l rate : Nat) : Dev :=
  d.bump.setNum (Obj.laneRxEq l) (d.free % 32 * 2 ^ 24 + d.free / 32 % 256 * 2 ^ 16 + dfeTaps rate * 2 ^ 8)

/-- A lane is equalised at a rate (R120, R121): it starts with its preset, or where that is 0xF with one that the AF256 takes
from its calibration tables, a free value; a downstream port advertises the preset. The coefficients found are free. -/
def Dev.equalise (d : Dev) (p l rate : Nat) : Dev :=
  let v := field (d.num (Obj.laneEqPreset l)) (4 * (rate - 3)) 4
  let preset := if v = 15 then d.free % 11 else v
  let d := d.bump
  let d := (d.emit (.equalise l rate preset (d.lane l).presetMoves (d.num (Obj.portRole p) == 0))).setNum (Obj.laneTxCoeff l) (d.free % 2 ^ 32)
  d.bump.modLane l (fun x => { x with eqDone := rate :: x.eqDone })

/-- A lane runs at a rate, equalised at those of the given rates at which it has not been since its link came up. -/
def Dev.laneAt (d : Dev) (p rate : Nat) (rates : List Nat) (l : Nat) : Dev :=
  let d := (rates.filter (fun r => !(d.lane l).eqDone.contains r)).foldl (fun d r => d.equalise p l r) d
  (d.setNum (Obj.laneRate l) rate).adapt l rate

/-- Lanes of a port stop running at a rate: their next training starts Active and anew. -/
def Dev.lanesIdle (d : Dev) (p : Nat) : Dev :=
  (d.lanesOf p).foldl (fun d l => ((d.setNum (Obj.laneRate l) 0).modLane l (fun x => { x with eqDone := [] })).setLevels l 0) d

/-! The physical layer. -/

/-- The physical layer of a port leaves DL_Up (R149): its status record, its lanes and its link facts; one that is down already
only changes its LTSSM state. -/
def Dev.physLow (d : Dev) (p ltssm cause : Nat) : Dev :=
  if d.dlUp p then
    let d := ((d.setNum (Obj.pstLtssm p) ltssm).setNum (Obj.pstWidth p) 0).setNum (Obj.pstRate p) 0
    let d := ((d.setNum (Obj.pstFlit p) 0).setNum (Obj.pstL0pWidth p) 0).setNum (Obj.pstDownCause p) cause
    let d := (d.inc32 (Obj.pstLinkdownCount p)).lanesIdle p
    let d := d.modPort p (fun x => { x with credits := {}, afterRecovery := 0, l0pRetry := none, downSince := d.clk, kept := [], lanes := [], cxlMem := false, replay := [] })
    (d.notifyLink p).contractsFollow p
  else if d.num (Obj.pstLtssm p) = 8 then d
  else (d.setNum (Obj.pstLtssm p) ltssm).modPort p (fun x => { x with kept := [] })

/-! Link options (R118, R119, R143, R157). -/

/-- Exit times of a direction in ns, by its level ("Lane sleep levels"): Light and Deep. -/
def exitNs (x : LaneDir) (deep : Bool) : Nat :=
  match x, deep with
  | .tx, false => 250
  | .rx, false => 1000
  | .tx, true => 10000
  | .rx, true => 20000

/-- A direction of a port's lanes may go Deep: `port.lpm` allows a substate, and `lane.sleep_allow` of every lane. -/
def Dev.mayDeepen (d : Dev) (p : Nat) (x : LaneDir) : Bool :=
  field (d.linkField p (Obj.portLpm p)) 1 2 != 0 && (d.lanesOf p).all (fun l => bitOf (d.num (Obj.laneSleepAllow l)) (allowBit x))

/-- The exit time in ns that a port advertises for a direction: the Light one where a direction stays at Light (R119). -/
def Dev.exitAdvertised (d : Dev) (p : Nat) (x : LaneDir) : Nat := exitNs x (d.mayDeepen p x)

/-- The L1 Exit Latency that a port advertises, as the code of Link Capabilities [17:15]: 2 (2 us to 4 us) with Light lane exits, 6
(32 us to 64 us) with Deep ones (R143). -/
def Dev.l1ExitCode (d : Dev) (p : Nat) : Nat := if d.mayDeepen p .tx || d.mayDeepen p .rx then 6 else 2

/-- The options of a port, as `port.lpm` permits: bit 0 L0p, bits 1 and 2 the substates of L1, bit 3 ASPM L1. -/
def Dev.linkCaps (d : Dev) (p : Nat) : LinkCaps :=
  let lpm := d.linkField p (Obj.portLpm p)
  { l0p := bitOf lpm 0, aspmL1 := bitOf lpm 3, l1Substates := field lpm 1 2, l1Exit := d.l1ExitCode p }

end Sys2Proof.Machine
end

