-- ==== Sys2Proof/Machine/BflBase.lean ====
section
/-!
DEFINITION. Sys2Proof/Machine/BflBase.lean: states of the pair and of BFL links as the other chapters reach them: path
weights (R220), links that enter and leave ACTIVE (R215, R234, R235), and the frames that a link holds (R242).
-/
namespace Sys2Proof.Machine

abbrev LinkSt.down : Nat := 0
abbrev LinkSt.training : Nat := 1
abbrev LinkSt.active : Nat := 2
abbrev LinkSt.retrain : Nat := 3
abbrev LinkSt.held : Nat := 4

abbrev PairSt.solo : Nat := 0
abbrev PairSt.joining : Nat := 1
abbrev PairSt.formed : Nat := 2
abbrev PairSt.resync : Nat := 3
abbrev PairSt.twinLost : Nat := 4
abbrev PairSt.refused : Nat := 5

/-- The state of a link. -/
def Dev.linkSt (d : Dev) (i : Nat) : Nat := d.num (Obj.bflState i)

/-! Path weights (R220). -/

/-- Uniform weights over links, lowest number first; they sum to 65,536. -/
def uniformWeights (links : List Nat) : List (Nat × Nat) :=
  let n := links.length
  (List.range n).zip links |>.map (fun e => (e.2, 65536 / n + (if e.1 < 65536 % n then 1 else 0)))

/-- Every QP bound for the twin takes uniform weights. -/
def Dev.uniformPaths (d : Dev) : Dev :=
  let w := uniformWeights d.activeLinks
  { d with rme := { d.rme with qps := d.rme.qps.map (fun e => if d.remoteTwin e.2 then (e.1, { e.2 with weights := w, wcredit := [] }) else e) } }

/-! The pair. -/

/-- Notification class [7] (R406). -/
def Dev.notifyPair (d : Dev) : Dev := d.notify 7 Session.notTenant (fun _ => [numItem Obj.pairState .u8 (d.num Obj.pairState)])

/-- What `fhost.twin_state` reads in a state of the pair; what a formed pair's twin reports of a host is the twin's
(assumption log 1). -/
def Dev.noteTwinStates (d : Dev) (st : Nat) : Dev :=
  (List.range 64).foldl (fun d v =>
    if st = PairSt.solo then d.setNum (Obj.fhostTwinState v) 0
    else if st = PairSt.twinLost then d.setNum (Obj.fhostTwinState v) 3
    else if st = PairSt.formed ∧ d.flag (Obj.fhostEnable v) then d.bump.setNum (Obj.fhostTwinState v) (1 + d.free % 2)
    else d) d

/-- The pair takes a state: grants that cross nodes follow it (R208), a formed pair starts from uniform path weights
(R215, R220), and pending revocations go to the twin first in a resync (R216). -/
def Dev.pairTo (d : Dev) (st : Nat) : Dev :=
  let d := ((d.setNum Obj.pairState st).noteTwinStates st).refreshMap
  let d := { d with pair := { d.pair with
    joinSince := if st = PairSt.joining ∧ d.activeLinks ≠ [] then some d.clk else none,
    refusedAt := d.clk, resyncSince := d.clk, genDiffSince := none, digestDiffSince := none, lastSync := d.clk } }
  if st = PairSt.formed then d.uniformPaths
  else if st = PairSt.resync then
    let d := d.logEvent d.holderHalf Scope.pair d.ownNode 3 0x0803
    if d.pair.pendingRevoke = [] then d else d.emit (.pairRevoke d.pair.pendingRevoke)
  else d

/-- A link enters or leaves ACTIVE (R215, R219, R220): `pair.links_active` follows, and so do the path weights of a formed
pair and a pair that waits for a link. -/
def Dev.setActive (d : Dev) (i : Nat) (b : Bool) : Dev :=
  let old := d.num Obj.pairLinksActive
  let d := d.setNum Obj.pairLinksActive (setBit old i b)
  let d := { d with pair := { d.pair with linksLostAt := if d.num Obj.pairLinksActive = 0 then (if old = 0 then d.pair.linksLostAt else some d.clk) else none } }
  let st := d.num Obj.pairState
  let d := if st = PairSt.formed ∧ bitOf old i ≠ b then d.uniformPaths else d
  if !b then d
  else if st = PairSt.joining then { d with pair := { d.pair with joinSince := some (d.pair.joinSince.getD d.clk) } }
  else if (st = PairSt.twinLost ∨ st = PairSt.refused) ∧ d.flag Obj.pairEnable then d.pairTo PairSt.joining
  else d

/-! Flits that a link sends. -/

/-- The credit fields of the next flit: the total of a pool that has changed, in rotation (R228). -/
def Dev.nextCredit (d : Dev) (i : Nat) : (Nat × Nat) × Dev :=
  match (d.link i).changed with
  | [] => ((15, 0), d)
  | k :: t => ((k, tabGet (d.link i).given k 0), d.modLink i (fun x => { x with changed := t }))

/-- A flit whose CRC is corrupted on its way (R390). -/
def corruptFlit (b : List Byte) : List Byte := b.take 246 ++ [b.getD 246 0 ^^^ 0xFF] ++ b.drop 247

/-- A data flit goes out, for the first time or again: its number and content, with the credit total of the moment. -/
def Dev.flitOut (d : Dev) (i : Nat) (f : SentFlit) (bad : Bool := false) : Dev :=
  let c := d.nextCredit i
  c.2.emit (.bflFlit i ((if bad then corruptFlit else id) <| flitBytes { seq := f.seq, vc := f.vc, crPool := c.1.1, crTotal := c.1.2, first := f.first, cont := f.cont, inc := d.num (Obj.bflIncarnation i) } f.payload))

/-- A bypass flit goes out (R229). -/
def Dev.bypass (d : Dev) (i : Nat) (l : List BypassMsg) : Dev :=
  let c := d.nextCredit i
  c.2.emit (.bflFlit i (flitBytes { seq := 0, vc := 15, crPool := c.1.1, crTotal := c.1.2, inc := d.num (Obj.bflIncarnation i) } (bypassPayload l)))

/-! Links. -/

/-- A new incarnation of a link (R237). -/
def Dev.newIncarnation (d : Dev) (i : Nat) : Dev := d.setNum (Obj.bflIncarnation i) ((d.num (Obj.bflIncarnation i) + 1) % 65536)

/-- A link leaves the states in which it is up: width and rate read 0. -/
def Dev.linkUnlit (d : Dev) (i : Nat) : Dev := (d.setNum (Obj.bflWidth i) 0).setNum (Obj.bflRate i) 0

/-- A link enters HELD (R235): its traffic stays, the entry is counted, recorded and notified, and the physical layer goes to Detect
and trains anew; of a cause of link down for it the manual lists none, so `pst.down_cause` reads 5 (assumption log 112). -/
def Dev.linkHeld (d : Dev) (i : Nat) : Dev :=
  let p := d.num (Obj.bflPort i)
  let d := (((d.setNum (Obj.bflState i) LinkSt.held).linkUnlit i).setActive i false).inc32 (Obj.bflDowns i)
  let d := d.modLink i (fun x => { x with resetReq := none, selfAcked := false, partnerAcked := false, timerOn := false })
  let d := if d.dlUp p then d.physLow p 0 5 else d.notifyLink p
  d.logEvent (Half.ofPort p) Scope.port p 1 0x020D

/-- A link enters RETRAIN (R234, R235): its physical layer goes through Recovery. -/
def Dev.linkRetrain (d : Dev) (i : Nat) : Dev :=
  let p := d.num (Obj.bflPort i)
  let d := if d.num (Obj.pstLtssm p) = 3 then (d.setNum (Obj.pstLtssm p) 4).inc32 (Obj.pstRetrains p) else d
  let d := (d.setNum (Obj.bflState i) LinkSt.retrain).setActive i false
  d.modLink i (fun x => { x with retrainSpent := true, retrainSince := d.clk, resetReq := none, timerOn := false })

/-- An event of R234 on an ACTIVE link, or on one whose reset exchange it ends (R241): RETRAIN, or HELD while a retrain is
spent. -/
def Dev.bflEvent (d : Dev) (i : Nat) : Dev :=
  if d.linkSt i = LinkSt.active then
    if (d.link i).retrainSpent && !d.elapsed (d.link i).activeSince (ms 100) then d.linkHeld i else d.linkRetrain i
  else d

/-- An event of R234 at a port. -/
def Dev.bflPortEvent (d : Dev) (p : Nat) : Dev :=
  if d.num (Obj.portRole p) = 2 then
    match d.linkOfPort p with
    | some i => d.bflEvent i
    | none => d
  else d

/-- Frames queued for a link in the buffer of its half or in a seam queue. -/
def Dev.queuedFor (d : Dev) (p : Nat) : List QFrame := d.waiting.filter (fun q => q.outPort == p)

/-- Frames that a link's replay buffer holds. -/
def BflLink.sentFrames (l : BflLink) : List QFrame := l.replay.flatMap (fun s => s.frames)

/-- `bfl.held_frames` (R242): nothing is held on a link that is ACTIVE or DOWN. -/
def Dev.heldFrames (d : Dev) (i : Nat) : Nat :=
  if d.linkSt i = LinkSt.active ∨ d.linkSt i = LinkSt.down then 0
  else (d.queuedFor (d.num (Obj.bflPort i))).length + (d.link i).sentFrames.length

/-- The traffic of a link's replay buffer is discarded (R219, R238): requests among it are answered or counted. -/
def Dev.dropReplay (d : Dev) (i : Nat) : Dev :=
  let fs := (d.link i).sentFrames
  let h := Half.ofPort (d.num (Obj.bflPort i))
  let d := d.modLink i (fun x => { x with replay := [], timerOn := false })
  fs.foldl (fun d q => d.endFrame h q.inPort q.inHalf q.cls q.node q.frame .policy 0) d

/-- Everything held for a link is discarded (R219, and "Link state machine" at a disable). -/
def Dev.dropHeld (d : Dev) (i : Nat) : Dev := (d.dropReplay i).discardPort (d.num (Obj.bflPort i)) .policy

/-- A link leaves service (R221, "Link state machine": the port is disabled, or the mode is not fabric): DOWN, its traffic
discarded as at twin loss. -/
def Dev.linkDown (d : Dev) (i p : Nat) : Dev :=
  if d.linkSt i = LinkSt.down then d
  else
    let d := (d.dropReplay i).discardPort p .policy
    let d := (((d.setNum (Obj.bflState i) LinkSt.down).linkUnlit i).setNum (Obj.bflTrainCause i) 0).setActive i false
    d.modLink i (fun x => { partnerInc := x.partnerInc, ownInc := x.ownInc })

/-- A link comes into service ("Link state machine"): TRAINING under a new incarnation. -/
def Dev.linkStart (d : Dev) (i : Nat) : Dev :=
  if d.linkSt i = LinkSt.down then (d.newIncarnation i).setNum (Obj.bflState i) LinkSt.training else d

end Sys2Proof.Machine
end

