-- ==== Sys2Proof/Machine/Ports.lean ====
section
/-!
DEFINITION. Sys2Proof/Machine/Ports.lean: links that go up and down, AER and DPC, resets of partitions and hosts, switch
port registers, PTM, station clocks and multi-logical devices (06; R137 to R162, R304 to R310, R407).
-/
namespace Sys2Proof.Machine

/-! LTSSM codes (0x2100:01) and causes of link down (0x2100:0C). -/

abbrev Ltssm.detect : Nat := 0
abbrev Ltssm.l0 : Nat := 3
abbrev Ltssm.recovery : Nat := 4
abbrev Ltssm.hotReset : Nat := 7
abbrev Ltssm.disabled : Nat := 8
abbrev DownCause.perst : Nat := 1
abbrev DownCause.hotReset : Nat := 2
abbrev DownCause.config : Nat := 3
abbrev DownCause.test : Nat := 4
abbrev DownCause.surprise : Nat := 5
abbrev DownCause.dpc : Nat := 6

/-! The link of a port goes down. -/

/-- The BFL link of a port whose physical layer has left L0 for Detect (R235, R242): its traffic is held. -/
def Dev.bflPortLost (d : Dev) (p : Nat) : Dev :=
  match d.linkOfPort p with
  | some i =>
    if d.linkSt i = LinkSt.active ∨ d.linkSt i = LinkSt.retrain then (d.modLink i (fun x => { x with retrainSpent := true })).linkHeld i else d
  | none => d

/-- The clocking of a port that its station's reference does not serve (R141). -/
def Dev.clockHeld (d : Dev) (p : Nat) : Bool :=
  d.linkField p (Obj.portClocking p) == 0 && field (strapOf d.objs) 3 2 == 2 && d.num (Obj.staRefclk (p / 8)) == 1

/-- An enabled port that its clocking holds in Detect.Quiet records it once (R141). -/
def Dev.noteClockHeld (d : Dev) (p : Nat) : Dev :=
  if d.flag (Obj.portEnable p) && d.clockHeld p && !(d.port p).clockHeldLogged then
    (d.modPort p (fun x => { x with clockHeldLogged := true })).logEvent (Half.ofPort p) Scope.port p 1 0x0211
  else d

/-- A port leaves DL_Up (R149, R198, R298, R310, R407), with what every cause has in common; a port that is down already
only changes its LTSSM state. -/
def Dev.portLow (d : Dev) (p ltssm cause : Nat) (why : EndCause) : Dev :=
  if d.dlUp p then
    let d := d.physLow p ltssm cause
    if d.num (Obj.portRole p) = 2 then d.bflPortLost p
    else
      let d := (d.discardPort p why).noteClockHeld p
      if d.num (Obj.portRole p) = 0 then
        let d := d.orCfg (dsp p) .slotStatus slotStLinkChanged
        if d.fabricMode then d.fportLost p else d
      else d
  else d.physLow p ltssm cause

/-! Partition and host resets (R153, R200). -/

/-- A node's state set. -/
def Dev.setNodeState (d : Dev) (v st : Nat) : Dev := if d.fabricMode then d.setNum (Obj.fhostState v) st else d.setNum (Obj.vsState v) st

/-- A node's PTM offset becomes valid or invalid (0x3000:07, 0x3110:06). -/
def Dev.setPtmValid (d : Dev) (v n : Nat) : Dev := if d.fabricMode then d.setNum (Obj.fhostPtmValid v) n else d.setNum (Obj.vsPtmValid v) n

/-- A function belongs to a node's configuration space. -/
def Dev.funcOf (d : Dev) (v : Nat) : CfgFunc → Bool
  | .upstream n | .mgmt n | .rme n | .synthetic n _ | .hdm n _ => n.val == v
  | .downstream p => !d.fabricMode && d.portOf p v

/-- A node's configuration space returns to its reset values; Presence Detect State goes on showing the slot, or the binding
of a synthetic port, whose link stays as it is (R153, R200). -/
def Dev.clearNodeCfg (d : Dev) (v : Nat) : Dev :=
  let d := { d with cfg := d.cfg.filter (fun e => !d.funcOf v e.1.1), msix := d.msix.filter (fun e => !d.funcOf v e.1.1) }
  if d.fabricMode then
    (d.boundTo v).foldl (fun d b =>
      let f := d.synthOf b
      let d := if d.num (Obj.bindState b) = 2 ∨ d.num (Obj.bindState b) = 4 then d.orCfg f .slotStatus slotStPresence else d
      if d.num (Obj.bindState b) = 2 then d.setCfg f .linkStatus (d.synthLinkStatus b true) else d) d
  else (d.downstreamOf v).foldl (fun d p =>
    let k := d.linkField p (Obj.portSlotChannel p)
    if k < 32 ∧ (d.slot k).present then d.orCfg (dsp p) .slotStatus slotStPresence else d) d

/-- A session that a node's reset ends (R84 to R86). -/
def Session.ofNodeEndpoint (v : Nat) (s : Session) : Bool :=
  match s.transport with
  | .mailbox n => n == v
  | .mctp n _ => n == v
  | _ => false

/-- SB_PERST_N of the slot behind a port goes low. -/
def Dev.slotPerstLow (d : Dev) (p : Nat) : Dev :=
  let k := d.linkField p (Obj.portSlotChannel p)
  if k < 32 then d.modSlot k (fun c => { c with perstRel := false }) else d

/-- A downstream port as its partition's reset leaves it: sent a hot reset where it is up and no PERSTIN_N holds it, else
in Detect.Quiet with SB_PERST_N low. -/
def Dev.resetPort (d : Dev) (p : Nat) (hot : Bool) : Dev :=
  let d := if hot && d.dlUp p then (d.emit (.hotReset p)).portLow p Ltssm.hotReset DownCause.hotReset .unsupported
    else (d.portLow p Ltssm.detect DownCause.perst .unsupported).slotPerstLow p
  d.modPort p (fun x => { x with resetHeld := true })

/-- PERSTIN_N acts on a port: high, or ignored (R153). -/
def Dev.perstHigh (d : Dev) (p : Nat) : Bool := d.linkField p (Obj.portPerstSource p) == 1 || bitOf d.pins.perstN (p / 8)

/-- No PERSTIN_N holds a node in reset: that of its upstream port is high or ignored, or it has no upstream port (R141,
R153). -/
def Dev.perstFree (d : Dev) (v : Nat) : Bool := (d.upstreamOf v).all d.perstHigh

/-- A node leaves "in reset" for "upstream link down" (R153): its upstream port enters Detect. -/
def Dev.nodeLeaveReset (d : Dev) (v : Nat) : Dev :=
  let d := (d.modNode v (fun n => { n with resetBy := 0, hotResets := [] })).setNodeState v 1
  (d.portsOf v).foldl (fun d p =>
    let d := if d.num (Obj.pstLtssm p) = Ltssm.hotReset then (d.setNum (Obj.pstLtssm p) Ltssm.detect).modPort p (fun x => { x with kept := [] }) else d
    if (d.port p).resetHeld then d.modPort p (fun x => { x with resetHeld := false }) else d) d

/-- A node enters reset: by PERSTIN_N (1), a received hot reset (2) or DL_Down (3) (R153, R200, R249). -/
def Dev.nodeEnterReset (d : Dev) (v by' : Nat) : Dev :=
  let up := d.upPort v
  let downs := if d.fabricMode then [] else d.downstreamOf v
  let hot := if by' = 1 then [] else downs.filter (fun p => d.dlUp p)
  let d := (d.setNodeState v 3).modNode v (fun n => { n with resetBy := by', hotResets := hot, bus := 0 })
  let d := downs.foldl (fun d p => d.resetPort p (by' != 1)) d
  let cause := if by' = 1 then DownCause.perst else if by' = 2 then DownCause.hotReset else DownCause.surprise
  let d := if up < 128 then (d.portLow up Ltssm.detect cause .unsupported).modPort up (fun x => { x with resetHeld := true }) else d
  let d := downs.foldl Dev.backToDetect ((d.clearNodeCfg v).setPtmValid v 0)
  let d := (d.endSessions (Session.ofNodeEndpoint v))
  let d := { d with mailboxes := tabDel d.mailboxes v, endpoints := tabDel d.endpoints v }
  let d := d.loseHostOf v
  let d := if d.fabricMode then d.hostFunctionsReset v else d
  if by' == 3 && hot.isEmpty && d.perstFree v then d.nodeLeaveReset v else d

/-- A port goes down; with an upstream port its node goes into reset (R153). -/
def Dev.portDown (d : Dev) (p ltssm cause : Nat) (why : EndCause := .unsupported) : Dev :=
  let wasUp := d.dlUp p
  let d := d.portLow p ltssm cause why
  let v := d.num (Obj.portPartition p)
  if wasUp && d.num (Obj.portRole p) == 1 && d.nodeState v == 2 then d.nodeEnterReset v 3 else d

/-- Every node whose upstream port lies in a station and heeds its PERSTIN_N. -/
def Dev.perstNodes (d : Dev) (st : Nat) : List Nat :=
  ((List.range 8).map (fun i => 8 * st + i)).filterMap (fun p =>
    if d.flag (Obj.portEnable p) ∧ d.num (Obj.portRole p) = 1 ∧ d.linkField p (Obj.portPerstSource p) = 0 then some (d.num (Obj.portPartition p)) else none)

/-- PERSTIN_FALL (R153, R30). -/
def execPerstinFall (st : Fin 16) (s : State) : Host.Outcome State Fault Refusal :=
  let d := { s.dev with pins := { s.dev.pins with perstN := setBit s.dev.pins.perstN st false } }
  onDev s ((d.perstNodes st).foldl (fun d v => if d.nodeState v = 0 then d else d.nodeEnterReset v 1) d)

/-- PERSTIN_RISE (R153): nodes that PERSTIN_N put into reset leave it. -/
def execPerstinRise (st : Fin 16) (s : State) : Host.Outcome State Fault Refusal :=
  let d := { s.dev with pins := { s.dev.pins with perstN := setBit s.dev.pins.perstN st true } }
  onDev s ((d.perstNodes st).foldl (fun d v => if d.nodeState v = 3 ∧ (d.node v).resetBy = 1 then d.nodeLeaveReset v else d) d)

/-- HOT_RESET_RECEIVED (R153): a hot reset, or DL_Down on the upstream port, of an active node. -/
def execHotResetReceived (node : Fin 64) (hot : Bool) (s : State) : Host.Outcome State Fault Refusal :=
  if s.dev.nodeState node = 2 then onDev s (s.dev.nodeEnterReset node (if hot then 2 else 3)) else .next s

/-- HOT_RESET_END (R153): the received hot reset, or every hot reset sent downstream, has ended. -/
def execHotResetEnd (node : Fin 64) (s : State) : Host.Outcome State Fault Refusal :=
  let d := s.dev
  let by' := (d.node node).resetBy
  if d.nodeState node = 3 ∧ (by' = 2 ∨ (by' = 3 ∧ d.perstFree node)) then onDev s (d.nodeLeaveReset node) else .next s

/-! AER and DPC (R308 to R310). -/

/-- The switch port function of a physical port. -/
def Dev.portFn (d : Dev) (p : Nat) : CfgFunc := if d.num (Obj.portRole p) = 1 then usp (d.num (Obj.portPartition p)) else dsp p

/-- A port has a switch function that a host sees: every port but those of the fabric side, of BFL, and of
MLDs, which carry no partition of their own (R161). -/
def Dev.hasFn (d : Dev) (p : Nat) : Bool := d.num (Obj.portRole p) == 1 || (d.num (Obj.portRole p) == 0 && !d.fabricMode && !(d.port p).isMld)

/-- DPC Trigger Status of a function. -/
def Dev.dpcSet (d : Dev) (f : CfgFunc) : Bool := bitOf (d.cfgReg f .dpcStatus) 0

/-- The DPC Trigger Enable field lets an error of a severity trigger. -/
def dpcEnabled (control : Nat) (fatal : Bool) : Bool := field control 0 2 == 2 || (field control 0 2 == 1 && fatal)

/-- Trigger reasons that DETAIL of event 0x0204 holds (assumption log 8): 0 uncorrectable error, 3 software trigger, 4
poisoned TLP. -/
abbrev DpcReason.uncorrectable : Nat := 0
abbrev DpcReason.software : Nat := 3
abbrev DpcReason.poisoned : Nat := 4

/-- DPC triggers on a physical downstream port (R310). -/
def Dev.dpcTrigger (d : Dev) (p reason : Nat) : Dev :=
  if d.dpcSet (dsp p) then d
  else
    let d := (d.orCfg (dsp p) .dpcStatus (1 + 2 * min 3 reason)).logEvent (Half.ofPort p) Scope.port p 2 0x0204 (beBytes 1 reason)
    let d := d.portDown p Ltssm.disabled DownCause.dpc (.dpc (dsp p))
    (d.setNum (Obj.pstDownCause p) DownCause.dpc).setNum (Obj.pstLtssm p) Ltssm.disabled

/-- An uncorrectable error of a port's switch function (R308): the status bit, the message by mask and severity, and DPC
where the host has enabled it. -/
def Dev.aerUncor (d : Dev) (p bit : Nat) : Dev :=
  if d.hasFn p then
    let f := d.portFn p
    let d := d.orCfg f .aerUncorStatus (2 ^ bit)
    if bitOf (d.cfgReg f .aerUncorMask) bit then d
    else
      let fatal := bitOf (d.cfgReg f .aerUncorSeverity) bit
      let d := d.emit (.aer (d.num (Obj.portPartition p)) p (if fatal then 2 else 1))
      if d.num (Obj.portRole p) = 0 ∧ dpcEnabled (d.cfgReg f .dpcControl) fatal then d.dpcTrigger p DpcReason.uncorrectable else d
  else d

/-- A correctable error of a port's switch function (R308). -/
def Dev.aerCor (d : Dev) (p bit : Nat) : Dev :=
  if d.hasFn p then
    let f := d.portFn p
    let d := d.orCfg f .aerCorStatus (2 ^ bit)
    if bitOf (d.cfgReg f .aerCorMask) bit then d else d.emit (.aer (d.num (Obj.portPartition p)) p 0)
  else d

/-- AER bits of the base specification (assumption log 8). -/
abbrev Aer.surpriseDown : Nat := 5
abbrev Aer.poisoned : Nat := 12
abbrev Aer.malformed : Nat := 18
abbrev Aer.unsupported : Nat := 20
abbrev Aer.acs : Nat := 21
abbrev Aer.internal : Nat := 22
abbrev Aer.poisonedEgress : Nat := 26
abbrev AerCor.rollover : Nat := 8

/-- A surprise link down (event 0x0203; R308, R407). -/
def Dev.surpriseDown (d : Dev) (p : Nat) : Dev :=
  let d := d.portDown p Ltssm.detect DownCause.surprise
  (d.logEvent (Half.ofPort p) Scope.port p 2 0x0203).aerUncor p Aer.surpriseDown

/-- Frames waiting for a synthetic port's functions: those whose tracked request, address or target names one of its
bindings. -/
def Dev.frameOfBindings (d : Dev) (bs : List Nat) (q : QFrame) : Bool :=
  match q.frame.body with
  | .tlp t =>
    if isProxy t.requester then
      ((d.track q.outHalf).find? (fun x => proxyRid q.outHalf x.entry == t.requester && x.entry % 16384 == t.tag)).any (fun x => bs.contains x.binding)
    else
      bs.any (fun b =>
        (t.type.isMemory && (d.fnInfo b).bars.any (fun r => decide (d.fabricBase b r ≤ t.addr) && decide (t.addr < d.fabricBase b r + r.size))) ||
        (!t.type.isMemory && t.target == d.num (Obj.bindRid b)))
  | _ => false

/-- A frame towards a synthetic port's functions that DPC discards: a tracked request ends its entry, which answers it (R304,
R310). -/
def Dev.endSynthetic (d : Dev) (v devfn : Nat) (q : QFrame) : Dev :=
  let f : CfgFunc := .synthetic (Fin.ofNat 64 v) (Fin.ofNat 256 devfn)
  let rid := 256 * d.cfgReg (usp v) .secondaryBus + devfn
  match q.frame.body with
  | .tlp t =>
    match (d.track q.outHalf).find? (fun x => isProxy t.requester && proxyRid q.outHalf x.entry == t.requester && x.entry % 16384 == t.tag) with
    | some x =>
      let d := d.setTrack q.outHalf ((d.track q.outHalf).filter (fun y => y.entry != x.entry))
      let st := d.endStatus x.host t (.dpc f)
      d.returnCompletion q.outHalf x (completionOf { t with requester := x.requester, tag := x.tag, tc := x.tc } rid st.1 st.2)
    | none => d.endFrame q.half q.inPort q.inHalf q.cls q.node q.frame (.dpc f) rid
  | _ => d

/-- DPC triggers on a synthetic port (R310): forwarding to and from its functions stops, and their queued frames are
discarded; the physical link stays up. -/
def Dev.dpcSynthetic (d : Dev) (v devfn reason : Nat) : Dev :=
  let f : CfgFunc := .synthetic (Fin.ofNat 64 v) (Fin.ofNat 256 devfn)
  if d.dpcSet f then d
  else
    let bs := (d.boundTo v).filter (fun b => d.num (Obj.bindVdsp b) == devfn)
    let p := (bs.head?.bind d.portOfBinding).getD (d.upPort v)
    let d := (d.orCfg f .dpcStatus (1 + 2 * min 3 reason)).logEvent (Half.ofPort p) Scope.port p 2 0x0204 (beBytes 1 reason)
    let gone := d.waiting.filter (d.frameOfBindings bs)
    gone.foldl (fun d q => ((((d.dropFrame .west q.id).dropFrame .east q.id).dropSeam .west q.id).dropSeam .east q.id).endSynthetic v devfn q) d

/-! Training. -/

/-- A lane is in test, or runs a full calibration or BIST: its port does not train (R128, R131). -/
def Dev.laneBusy (d : Dev) (l : Nat) : Bool := d.inTest l || decide (2 ≤ (d.lane l).run)

/-- A port may train: enabled on a slot of its split, not held, its station's pads released (R361), its station clocked, its lanes calibrated (R127), and in a
partition that is active unless it is the upstream port (R153). -/
def Dev.mayTrain (d : Dev) (p : Nat) : Bool :=
  let x := d.port p
  let v := d.num (Obj.portPartition p)
  let role := d.num (Obj.portRole p)
  d.flag (Obj.portEnable p) && d.splitWidth p != 0 && !x.cmdDisabled && !x.resetHeld && !x.pllLost && !(d.lanesOf p).any d.laneBusy &&
    d.num (Obj.staRefclk (p / 8)) != 2 && !d.clockHeld p && d.boot.laneCalDone && !d.dlUp p &&
    !(byHalf (Half.ofPort p) d.boot.haltW d.boot.haltE) && !d.padHeld (p / 8) &&
    (role != 0 || d.fabricMode || x.isMld || (!d.dpcSet (dsp p) && d.nodeState v == 2)) &&
    (role != 1 || (d.nodeState v == 1 && d.perstHigh p))

/-- The largest rate that a port trains at (R140, R159). -/
def Dev.rateLimit (d : Dev) (p protocol : Nat) : Nat := if protocol = 1 then min 6 (d.linkField p (Obj.portMaxRate p)) else d.linkField p (Obj.portMaxRate p)

/-- The smallest rate that a port trains at: 32 GT/s as CXL (R159), 64 GT/s as BFL (R222). -/
def rateFloor (protocol : Nat) : Nat := if protocol = 1 then 5 else if protocol = 2 then 6 else 1

/-- A link may run at a rate in its mode (R112, R143; 0x2000:07): 64 and 128 GT/s only in flit mode, lower rates in flit mode
only where `port.flit` is 0. A CXL link has flits of its own at 32 GT/s (R159). -/
def Dev.linkRateFits (d : Dev) (p protocol rate : Nat) (flit : Bool) : Bool :=
  decide (rateFloor protocol ≤ rate) && decide (rate ≤ d.rateLimit p protocol) &&
    (if 6 ≤ rate then flit else !flit || d.linkField p (Obj.portFlit p) == 0 || protocol == 1)

/-- Lanes that a link trains on, in logical order (R139): from offset 0, or from the top offset with lane reversal. -/
def Dev.linkLanes (d : Dev) (p width : Nat) (reversed : Bool) : List Nat :=
  if reversed then (d.lanesOf p).reverse.take width else (d.lanesOf p).take width

/-- Width codes of R229: 1 x4, 2 x8, 3 x16. -/
def widthCode (w : Nat) : Nat := if w = 16 then 3 else if w = 8 then 2 else 1

/-- What a port can train to (R127, R139, R143, R159, R222): working lanes, and a rate that fits; a BFL link after a full reset
no more than what was agreed (R240). -/
def Dev.linkFits (d : Dev) (p : Nat) (f : LinkFacts) : Bool :=
  d.linkRateFits p f.protocol f.rate f.flit &&
  [1, 2, 4, 8, 16].contains f.width && decide (f.width ≤ d.portW p) && (d.linkLanes p f.width f.reversed).all (fun l => !d.laneBit l LaneBit.failed) &&
    (if d.num (Obj.portRole p) = 2 then decide (4 ≤ f.width) && decide (6 ≤ f.rate) && f.flit &&
       (((d.linkOfPort p).bind (fun i => (d.link i).cap)).all (fun c => decide (widthCode f.width ≤ c.1 ∧ f.rate ≤ c.2)))
     else f.protocol == 0 || (f.protocol == 1 && d.flag (Obj.portCxl p) && decide (2 ≤ f.width)))

/-- Lanes of a port that are marked failed, by offset (0x2100:07). -/
def Dev.lanesFailed (d : Dev) (p : Nat) : Nat := packBits ((d.lanesOf p).map (fun l => bitOf (d.num (Obj.laneStatus l)) 8))

/-- The credits that a port advertises at a trained width, in all (R144). -/
def advertised (width : Nat) : Credits :=
  let h := max 16 (256 * width / 16)
  { ph := h, pd := 4096 * width / 16, nh := h, nd := 256 * width / 16, ch := h, cd := 4096 * width / 16 }

/-- The dedicated credits of them (R144): all, or in flit mode 4 headers and 16 data credits of each type. -/
def dedicatedCredits (width : Nat) (flit : Bool) : Credits :=
  let c := advertised width
  if flit then { ph := min 4 c.ph, pd := min 16 c.pd, nh := min 4 c.nh, nd := min 16 c.nd, ch := min 4 c.ch, cd := min 16 c.cd } else c

/-- The shared pool: what is left of the totals (R144). -/
def sharedCredits (width : Nat) (flit : Bool) : Credits := (advertised width).less (dedicatedCredits width flit)

/-- The lanes of a trained link: their levels, rate and equalisation (R112, R118, R120). -/
def Dev.lanesTrained (d : Dev) (p : Nat) (f : LinkFacts) : Dev :=
  let lanes := d.linkLanes p f.width f.reversed
  let rates := d.eqRates p f.rate f.bypass f.noEq
  lanes.foldl (fun d l => (d.laneAt p f.rate rates l).setLevels l 0) (d.modPort p (fun x => { x with lanes := lanes }))

/-- A RESET_REQ or RESET_ACK of a link (R229, R236). -/
def Dev.resetMsg (d : Dev) (i reason width rate : Nat) : BflReset :=
  { node := d.ownNode, link := i, reason := reason, width := width, rate := rate, nextExpected := (d.link i).rxSeq, inc := d.num (Obj.bflIncarnation i), tag := (identityHash).take 8 }

/-- An attempt to initialise a link fails (R236): the physical layer trains again after 100 ms. -/
def Dev.initFails (d : Dev) (i cause : Nat) : Dev :=
  let p := d.num (Obj.bflPort i)
  let d := (d.setNum (Obj.bflTrainCause i) cause).modLink i (fun x => { x with needFullTrain := true, resetReq := none, selfAcked := false, partnerAcked := false, peer := none })
  d.logEvent (Half.ofPort p) Scope.port p 1 0x020C (beBytes 1 cause)

/-- A BFL link's physical layer has reached L0 from Detect: initialisation starts (R236). A partner that did not negotiate
BFL leaves it in TRAINING (R222). -/
def Dev.bflInit (d : Dev) (i : Nat) (f : LinkFacts) : Dev :=
  if d.linkSt i = LinkSt.training ∨ d.linkSt i = LinkSt.held then
    if f.protocol ≠ 2 then d.initFails i 1
    else
      let d := d.modLink i (fun x => { x with selfAcked := false, partnerAcked := false, peer := none, needFullTrain := false, initSince := d.clk, resetReq := some (0, widthCode f.width, f.rate) })
      d.bypass i [.reset false (d.resetMsg i 0 (widthCode f.width) f.rate)]
  else d

/-- A node's upstream port has reached DL_Up (R153): the node is active. -/
def Dev.nodeUp (d : Dev) (v : Nat) : Dev := if d.nodeState v = 1 then d.setNodeState v 2 else d

/-- A port reaches DL_Up (R139, R144, R149, R153, R236, R298). -/
def Dev.portUp (d : Dev) (p : Nat) (f : LinkFacts) : Dev :=
  let role := d.num (Obj.portRole p)
  let d := ((d.setNum (Obj.pstLtssm p) Ltssm.l0).setNum (Obj.pstWidth p) f.width).setNum (Obj.pstRate p) f.rate
  let d := ((d.setNum (Obj.pstFlit p) (b2n f.flit)).setNum (Obj.pstL0pWidth p) f.width).setNum (Obj.pstProtocol p) f.protocol
  let d := (d.setNum (Obj.pstClocking p) (d.num (Obj.portClocking p))).setNum (Obj.pstLanesFailed p) (d.lanesFailed p)
  let d := d.lanesTrained p f
  let d := d.modPort p (fun x => { x with credits := {}, isMld := f.mld, flitMode := f.flit, stallLogged := false, replay := [],
                                          cxlMem := f.protocol == 1 && !f.ioOnly && !d.fabricMode })
  let d := (d.emit (.linkTrain p f.rate)).emit (.credits p (dedicatedCredits f.width f.flit) (sharedCredits f.width f.flit))
  let d := d.emit (.options p (d.linkCaps p))
  let d := if f.width < d.splitWidth p then d.logEvent (Half.ofPort p) Scope.port p 3 0x020F else d
  let d := if role = 0 then d.orCfg (dsp p) .slotStatus slotStLinkChanged else d
  let d := if role = 1 then d.nodeUp (d.num (Obj.portPartition p)) else d
  let d := if role = 2 then
      match d.linkOfPort p with
      | some i => d.bflInit i f
      | none => d
    else d
  (d.notifyLink p).contractsFollow p

/-- A BFL port whose partner offers fewer than 4 lanes: the attempt fails with cause 6 (R222). -/
def Dev.bflNarrow (d : Dev) (p width : Nat) : Dev :=
  match d.linkOfPort p with
  | some i => if width < 4 ∧ (d.linkSt i = LinkSt.training ∨ d.linkSt i = LinkSt.held) then d.initFails i 6 else d
  | none => d

/-- A link after a hot reset passes through Detect before it trains, where held fields take effect (R142). -/
def Dev.throughDetect (d : Dev) (p : Nat) : Dev :=
  if d.num (Obj.pstLtssm p) = Ltssm.hotReset then (d.setNum (Obj.pstLtssm p) Ltssm.detect).modPort p (fun x => { x with kept := [] }) else d

/-- LINK_UP (R153, R139, R222). -/
def execLinkUp (p : Fin 128) (f : LinkFacts) (s : State) : Host.Outcome State Fault Refusal :=
  let d := s.dev.throughDetect p
  if d.mayTrain p && d.linkFits p f then onDev s (d.portUp p f)
  else if d.mayTrain p && d.num (Obj.portRole p) == 2 then onDev s (d.bflNarrow p f.width)
  else .next s

/-- LINK_DOWN (R407): a port leaves DL_Up other than by DPC. -/
def execLinkDown (p : Fin 128) (surprise : Bool) (s : State) : Host.Outcome State Fault Refusal :=
  if s.dev.dlUp p then onDev s (if surprise then s.dev.surpriseDown p else s.dev.portDown p Ltssm.detect 0) else .next s

/-! Replay (R145). -/

/-- Bytes that a port's replay buffer holds: 1.5 µs at its split width and 128 GT/s, 24,000 bytes a lane. -/
def Dev.replayRoom (d : Dev) (p : Nat) : Nat := 24000 * d.splitWidth p

/-- The newest entries of a replay buffer that fit. -/
def fitReplay (room : Nat) : List (Nat × Nat) → List (Nat × Nat)
  | [] => []
  | x :: t => if ((x :: t).map (fun e => e.2)).sum ≤ room then x :: t else fitReplay room t

/-- Frames of a port that its partner has not acknowledged: those of the last 1.5 µs, the time that the buffer covers
(assumption log 111, DEDUCED). -/
def Dev.unacked (d : Dev) (p : Nat) : List (Nat × Nat) := (d.port p).replay.filter (fun e => decide (d.clk < e.1 + us 3 / 2))

/-- A frame that leaves is kept for replay. -/
def Dev.keepReplay (d : Dev) (p bytes : Nat) : Dev :=
  d.modPort p (fun x => { x with replay := fitReplay (d.replayRoom p) (d.unacked p ++ [(d.clk, bytes)]) })

/-- A port's link replays what it sent (0x2100:09); a BFL link counts its own replays (R232). -/
def Dev.linkReplay (d : Dev) (p : Nat) : Dev := if d.num (Obj.portRole p) = 2 then d else d.inc32 (Obj.pstReplays p)

/-- Slots that a number of bytes takes at a port's active width (R380). -/
def Dev.slotsFor (d : Dev) (p bytes : Nat) : Nat := (bytes + 8 * d.num (Obj.pstL0pWidth p) - 1) / max 1 (8 * d.num (Obj.pstL0pWidth p))

/-- After Recovery a PCI Express link sends its unacknowledged frames again. -/
def Dev.replayUnacked (d : Dev) (p : Nat) : Dev :=
  let l := d.unacked p
  if l.isEmpty ∨ d.num (Obj.portRole p) = 2 then d
  else
    let n := (l.map (fun e => d.slotsFor p e.2)).sum
    (d.modPort p (fun x => { x with replay := l.map (fun e => (d.clk, e.2)), replaying := x.replaying + n })).linkReplay p

/-! Recovery. -/

/-- The link of a port enters Recovery from L0 (0x2100:08, R234). -/
def Dev.enterRecovery (d : Dev) (p : Nat) : Dev :=
  ((d.setNum (Obj.pstLtssm p) Ltssm.recovery).inc32 (Obj.pstRetrains p)).bflPortEvent p

/-- LINK_RECOVERY_ENTRY (R234). -/
def execLinkRecoveryEntry (p : Fin 128) (s : State) : Host.Outcome State Fault Refusal :=
  if s.dev.num (Obj.pstLtssm p) = Ltssm.l0 then onDev s (s.dev.enterRecovery p) else .next s

/-- REPLAY_NUM_ROLLOVER (R145): logged, reported as a correctable error, and the link goes into Recovery. -/
def execReplayNumRollover (p : Fin 128) (s : State) : Host.Outcome State Fault Refusal :=
  if s.dev.num (Obj.pstLtssm p) = Ltssm.l0 then
    onDev s (((s.dev.logEvent (Half.ofPort p) Scope.port p 0 0x0202).aerCor p AerCor.rollover).enterRecovery p)
  else .next s

/-- A hot reset on a downstream link (R140, R153). -/
def Dev.hotResetPort (d : Dev) (p : Nat) : Dev :=
  if d.dlUp p then (d.emit (.hotReset p)).portDown p Ltssm.hotReset DownCause.hotReset else d

/-- A link disabled by `port.cmd` (R140). -/
def Dev.disablePort (d : Dev) (p : Nat) : Dev :=
  let d := (d.portDown p Ltssm.disabled DownCause.config).modPort p (fun x => { x with cmdDisabled := true })
  d.setNum (Obj.pstLtssm p) Ltssm.disabled

/-- A link in non-flit mode takes another width in Recovery, up to the one it trained at (R143, Upconfigure). -/
def Dev.upconfigure (d : Dev) (p w : Nat) : Dev :=
  let lanes := (d.port p).lanes
  if !d.flag (Obj.pstFlit p) && [1, 2, 4, 8, 16].contains w && decide (w ≤ lanes.length) then
    let d := (lanes.drop w).foldl (fun d l => d.setNum (Obj.laneRate l) 0) ((lanes.take w).foldl (fun d l => d.setNum (Obj.laneRate l) (d.num (Obj.pstRate p))) d)
    (d.setNum (Obj.pstWidth p) w).setNum (Obj.pstL0pWidth p) w
  else d

/-- LINK_RECOVERY_END (R145, R148, R298): Recovery ends, at another width where Upconfigure lets it, or times out, and what was
requested during it takes effect. -/
def execLinkRecoveryEnd (p : Fin 128) (r : RecoveryEnd) (s : State) : Host.Outcome State Fault Refusal :=
  let d := s.dev
  if d.num (Obj.pstLtssm p) = Ltssm.recovery then
    let act := (d.port p).afterRecovery
    let d := d.modPort p (fun x => { x with afterRecovery := 0 })
    if act = 2 then onDev s (d.hotResetPort p)
    else if act = 3 then onDev s (d.disablePort p)
    else
      match r with
      | .l0 width =>
        let d := d.setNum (Obj.pstLtssm p) Ltssm.l0
        onDev s (((width.elim d (d.upconfigure p)).replayUnacked p).contractsFollow p)
      | .linkLost => onDev s (d.surpriseDown p)
  else .next s

/-- The end of a hold by `port.cmd` 3. -/
def Dev.endDisable (d : Dev) (p : Nat) : Dev :=
  if (d.port p).cmdDisabled then (d.modPort p (fun x => { x with cmdDisabled := false })).backToDetect p else d

/-- A write of `port.cmd` (R140, R148). -/
def Dev.writePortCmd (d : Dev) (p v : Nat) : Dev × Nat :=
  let st := d.num (Obj.pstLtssm p)
  if d.flag (Obj.portEnable p) = false then (d, Status.state)
  else if v = 1 then
    (if st = Ltssm.l0 then d.enterRecovery p else d.endDisable p, Status.ok)
  else if v = 2 then
    if d.num (Obj.portRole p) ≠ 0 then (d, Status.state)
    else if st = Ltssm.recovery then (d.modPort p (fun x => { x with afterRecovery := 2 }), Status.ok)
    else ((d.endDisable p).hotResetPort p, Status.ok)
  else
    (if st = Ltssm.recovery then d.modPort p (fun x => { x with afterRecovery := 3 }) else d.disablePort p, Status.ok)

/-- A port is at a rate and the lanes of its link with it (R112, R113), equalised at it where they have not been (R120). -/
def Dev.setRate (d : Dev) (p rate : Nat) : Dev :=
  let lanes := ((d.port p).lanes).filter (fun l => d.num (Obj.laneRate l) != 0)
  ((lanes.foldl (fun d l => d.laneAt p rate (if 3 ≤ rate then [rate] else []) l) d).setNum (Obj.pstRate p) rate).contractsFollow p

/-- A link that is up may move to a rate. -/
def Dev.mayRun (d : Dev) (p rate : Nat) : Bool := d.dlUp p && d.linkRateFits p (d.num (Obj.pstProtocol p)) rate (d.flag (Obj.pstFlit p))

/-- LANE_RATE_CHANGE (R112, R113): every lane of the port moves to the new rate; no other lane changes. -/
def execLaneRateChange (p : Fin 128) (rate : Fin 8) (s : State) : Host.Outcome State Fault Refusal :=
  if s.dev.mayRun p rate then onDev s (s.dev.setRate p rate) else .next s

/-- SPEED_CHANGE (R146): a downstream port directs a change from L0; an upstream port never does. -/
def execSpeedChange (p : Fin 128) (rate : Fin 8) (s : State) : Host.Outcome State Fault Refusal :=
  let d := s.dev
  if d.num (Obj.portRole p) = 0 ∧ d.num (Obj.pstLtssm p) = Ltssm.l0 ∧ d.mayRun p rate then
    onDev s ((d.enterRecovery p).emit (.linkTrain p rate))
  else .next s

/-- L0P_WIDTH_REQUEST (R143, R147): the downstream port's request holds; as upstream port the device takes its partner's
and may ask again 10 us later. -/
def execL0pWidthRequest (p : Fin 128) (own partner : Option Nat) (s : State) : Host.Outcome State Fault Refusal :=
  let d := s.dev
  let fits := fun (w : Nat) => [1, 2, 4, 8, 16].contains w && decide (w ≤ d.num (Obj.pstWidth p))
  let own := own.filter (fun w => fits w && !((d.port p).l0pRetry.any (fun r => decide (d.clk < r.2))))
  let partner := partner.filter fits
  if d.num (Obj.pstLtssm p) = Ltssm.l0 && d.dlUp p && d.flag (Obj.pstFlit p) && bitOf (d.linkField p (Obj.portLpm p)) 0 && d.num (Obj.portRole p) != 2 then
    let take := fun (d : Dev) (w : Nat) => ((d.setNum (Obj.pstL0pWidth p) w).l0pLanes p w).contractsFollow p
    match own, partner with
    | none, none => .next s
    | some w, none => onDev s (take (d.modPort p (fun x => { x with l0pRetry := none })) w)
    | none, some w => onDev s (take d w)
    | some w, some u =>
      if d.num (Obj.portRole p) = 0 then onDev s (take d w)
      else onDev s (take (d.modPort p (fun x => { x with l0pRetry := some (w, d.clk + us 10) })) u)
  else .next s

/-! Host configuration writes (R168). -/

/-- A bound LD entry at a virtual downstream port (R154, R161). -/
def Dev.ldAt (d : Dev) (v devfn : Nat) : Option Nat :=
  (d.usedEntries 0x2301 5 0xFF).find? (fun e => d.num (Obj.cxlLdPartition e) == v && d.num (Obj.cxlLdVppb e) == devfn)

/-- A function that a host can reach by a configuration request: it exists, and its node is not in reset. -/
def Dev.funcExists (d : Dev) (f : CfgFunc) : Bool :=
  let live := fun (v : Nat) => d.nodeEnabled v && d.nodeState v != 3
  match f with
  | .upstream v | .mgmt v | .rme v => live v
  | .hdm v _ => live v && !d.fabricMode
  | .downstream p => !d.fabricMode && d.portOf p (d.num (Obj.portPartition p)) && d.num (Obj.portRole p) == 0 && live (d.num (Obj.portPartition p))
  | .synthetic v x =>
    live v && (if d.fabricMode then (d.boundTo v).any (fun b => d.num (Obj.bindVdsp b) == x.val) else (d.ldAt v x).isSome)

/-- Secondary Bus Reset (R153, R204): a hot reset on one downstream link, on every one below an upstream port, or an FLR to
each function below a synthetic port. -/
def Dev.secondaryBusReset (d : Dev) (f : CfgFunc) : Dev :=
  match f with
  | .downstream p => d.hotResetPort p
  | .upstream v => if d.fabricMode then d else (d.downstreamOf v).foldl (fun d p => d.hotResetPort p) d
  | .synthetic v x =>
    ((d.boundTo v).filter (fun b => d.num (Obj.bindVdsp b) == x.val)).foldl (fun d b =>
      if (d.fnInfo b).flr then d.emit (.flr b)
      else d.logEvent ((d.portOfBinding b).map Half.ofPort |>.getD .west) Scope.node v 3 0x0402) d
  | _ => d

/-- A software trigger of DPC (R310). -/
def Dev.dpcSoftware (d : Dev) (f : CfgFunc) : Dev :=
  match f with
  | .downstream p => d.dpcTrigger p DpcReason.software
  | .synthetic v x => d.dpcSynthetic v x DpcReason.software
  | _ => d

/-- The size of a memory BAR of a function on a host's bus or an internal bus, a power of two (R82, R251, R409); its low bits read as
fixed values and keep no write. -/
def barSize (f : CfgFunc) (r : CfgReg) : Option Nat :=
  match f, r with
  | .upstream _, .bar | .downstream _, .bar | .synthetic _ _, .bar => some 0x2000
  | .mgmt _, .bar => some 0x10000
  | .rme _, .bar => some 0x1000000
  | .rme _, .prefBase => some 0x10000
  | _, _ => none

/-- An HDM decoder holds interleave ways and a granularity that R160 lists (log 8: ways in `primaryBus`, the power of two of the
granularity in `secondaryBus`). -/
def Dev.hdmLegal (d : Dev) (f : CfgFunc) : Bool :=
  [1, 2, 3, 4, 6, 8, 12, 16].contains (d.cfgReg f .primaryBus) && decide (8 ≤ d.cfgReg f .secondaryBus) && decide (d.cfgReg f .secondaryBus ≤ 14)

/-- A register write takes effect (R168; layouts by assumption log 8): status bits clear where a 1 is written, and the
controls act. -/
def Dev.configWrite (d : Dev) (f : CfgFunc) (r : CfgReg) (value : Nat) : Dev :=
  let old := d.cfgReg f r
  match r with
  | .slotStatus => d.setCfg f r (old - (old &&& value &&& 0x11F))
  | .aerUncorStatus | .aerCorStatus => d.setCfg f r (old - (old &&& value))
  | .dpcStatus =>
    let d := d.setCfg f r (if bitOf value 0 then old - (old &&& 0x6F) else old - (old &&& value &&& 8))
    match f with
    | .downstream p => if bitOf old 0 && bitOf value 0 then d.backToDetect p else d
    | _ => d
  | .dpcControl =>
    let d := d.setCfg f r (setBit value 6 false)
    if bitOf value 6 && field value 0 2 != 0 then d.dpcSoftware f else d
  | .bridgeControl =>
    let d := d.setCfg f r value
    if bitOf value 6 && !bitOf old 6 then d.secondaryBusReset f else d
  | .slotControl =>
    let d := d.setCfg f r value
    match f with
    | .downstream p => if d.linkField p (Obj.portSlotChannel p) < 32 then d.slotRecheck (d.linkField p (Obj.portSlotChannel p)) else d
    | .synthetic v x => if bitOf value 10 = bitOf old 10 then d else d.synthPower v x (!bitOf value 10)
    | _ => d
  | .command =>
    match f with
    | .rme v => (d.setCfg f r value).resumeHostWork v
    | .hdm _ _ => d.setCfg f r (setBit value 0 (bitOf value 0 && d.hdmLegal f))
    | _ => d.setCfg f r value
  | .bar | .prefBase =>
    match barSize f r with
    | some n => d.setCfg f r (value % 2 ^ 64 / n * n)
    | none => d.setCfg f r value
  | .primaryBus =>
    let d := d.setCfg f r (value % 256)
    match f with
    | .upstream v => d.modNode v (fun n => { n with bus := value % 256 })
    | _ => d
  | .secondaryBus | .subordinateBus => d.setCfg f r (value % 256)
  | _ => d.setCfg f r value

/-- CONFIG_WRITE (R168). -/
def execConfigWrite (f : CfgFunc) (r : CfgReg) (value : Nat) (s : State) : Host.Outcome State Fault Refusal :=
  if s.dev.funcExists f then onDev s (s.dev.configWrite f r value) else .next s

/-! PTM (R157). -/

/-- PTM is enabled for a node: by the PTM Enable bit of its upstream port, whose capability rules the whole switch (assumption
log 8). -/
def Dev.ptmOn (d : Dev) (v : Nat) : Bool := bitOf (d.cfgReg (usp v) .ptmControl) 0

/-- A node's PTM offset is valid. -/
def Dev.ptmValid (d : Dev) (v : Nat) : Bool := if d.fabricMode then d.flag (Obj.fhostPtmValid v) else d.flag (Obj.vsPtmValid v)

/-- PTM_REQUEST: a downstream port of a node answers once the node's offset is valid. -/
def execPtmRequest (p : Fin 128) (s : State) : Host.Outcome State Fault Refusal :=
  let d := s.dev
  let v := d.num (Obj.portPartition p)
  if d.dlUp p && d.num (Obj.portRole p) == 0 && d.portOf p v && d.ptmOn v && d.ptmValid v then
    onDev s (d.emit (.ptm p ((d.time (Half.ofPort p) + (d.node v).ptmOffset) % 2 ^ 64)))
  else .next s

/-- PTM_OFFSET_REFRESH. -/
def execPtmOffsetRefresh (node : Fin 64) (offset : Nat) (s : State) : Host.Outcome State Fault Refusal :=
  if s.dev.nodeEnabled node && s.dev.nodeState node == 2 && s.dev.ptmOn node then
    onDev s ((s.dev.modNode node (fun n => { n with ptmOffset := offset % 2 ^ 64 })).setPtmValid node 1)
  else .next s

/-! Station clocks (R36, R141). -/

/-- Ports of a station. -/
def portsOfStation (st : Nat) : List Nat := (List.range 8).map (fun i => 8 * st + i)

/-- Every port of a station goes down (R299, station scope): each affected port reports by AER. -/
def Dev.stationDown (d : Dev) (st : Nat) : Dev :=
  (portsOfStation st).foldl (fun d p => if d.dlUp p then (d.portDown p Ltssm.detect DownCause.surprise).aerUncor p Aer.surpriseDown else d) d

/-- STATION_REFCLK_SELECT (R36, R33): the reference by REFCLK_MODE; under 0b01 a pair that does not toggle leaves the
station down, and under 0b10 a common-clock port of a station on its own pair is held (R141). -/
def execStationRefclkSelect (st : Fin 16) (toggles : Bool) (s : State) : Host.Outcome State Fault Refusal :=
  let d := s.dev
  let h := Half.ofStation st
  let mode := field (strapOf d.objs) 3 2
  let ref := if mode = 1 then (if toggles then 1 else 2) else if mode = 2 then b2n toggles else 0
  let d := d.setNum (Obj.staRefclk st) ref
  if ref = 2 then onDev s ((d.logEvent h Scope.station st 2 0x0301).stationDown st)
  else
    onDev s ((portsOfStation st).foldl Dev.noteClockHeld d)

/-- STATION_PLL_LOCK_LOSS: events 0x0301 and 0x0302; the station stays down until the recovery of R322. -/
def execStationPllLockLoss (st : Fin 16) (clockAbsent : Bool) (s : State) : Host.Outcome State Fault Refusal :=
  let d := s.dev.logEvent (Half.ofStation st) Scope.station st 2 (if clockAbsent then 0x0301 else 0x0302)
  let d := d.stationDown st
  onDev s (if clockAbsent then d.setNum (Obj.staRefclk st) 2
    else (portsOfStation st).foldl (fun d p => d.modPort p (fun x => { x with pllLost := true })) d)

/-! Multi-logical devices (R161, R162). -/

/-- Used LD entries. -/
def Dev.ldUsed (d : Dev) : List Nat := d.usedEntries 0x2301 3 0xFF

/-- `cxl.ld_bound` brought up to date. -/
def Dev.countLds (d : Dev) : Dev := d.setNum Obj.cxlLdBound (d.usedEntries 0x2301 5 0xFF).length

/-- MLD_TRAINED (R161): the lowest free entries in LD-ID order; an MLD that would exceed 256 trains as CXL.io only. -/
def execMldTrained (p : Fin 128) (lds : Nat) (s : State) : Host.Outcome State Fault Refusal :=
  let d := s.dev
  if d.dlUp p && (d.port p).isMld && decide (lds ≤ 16) && !d.fabricMode then
    let mine := d.ldUsed.filter (fun e => d.num (Obj.cxlLdPort e) == p.val)
    if !mine.isEmpty then .next s
    else if 256 < d.ldUsed.length + lds then onDev s ((d.modPort p (fun x => { x with cxlMem := false })).logEvent (Half.ofPort p) Scope.port p 3 0x020E)
    else
      let freeEntries := ((List.range 256).filter (fun e => !d.ldUsed.contains e)).take lds
      let d := ((List.range lds).zip freeEntries).foldl (fun d e =>
        ((d.setNum (Obj.cxlLdPort e.2) p).setNum (Obj.cxlLdLdId e.2) e.1).setNum (Obj.cxlLdState e.2) 1) d
      onDev s (d.modPort p (fun x => { x with lds := freeEntries }))
  else .next s

/-- The virtual downstream port of an LD reports a surprise link down to its partition (R162). -/
def Dev.ldUnbound (d : Dev) (e : Nat) : Dev :=
  let v := d.num (Obj.cxlLdPartition e)
  let f : CfgFunc := .synthetic (Fin.ofNat 64 v) (Fin.ofNat 256 (d.num (Obj.cxlLdVppb e)))
  let d := (d.orCfg f .slotStatus slotStLinkChanged).orCfg f .aerUncorStatus (2 ^ Aer.surpriseDown)
  if bitOf (d.cfgReg f .aerUncorMask) Aer.surpriseDown then d
  else d.emit (.aer v (d.num (Obj.cxlLdPort e)) (if bitOf (d.cfgReg f .aerUncorSeverity) Aer.surpriseDown then 2 else 1))

/-- MLD_RELEASE_TIMEOUT (R161): after 1 s down, the port's entries are released and their LDs unbound. -/
def execMldReleaseTimeout (p : Fin 128) (s : State) : Host.Outcome State Fault Refusal :=
  let d := s.dev
  if (d.port p).isMld && !d.dlUp p then
    let d := d.advanceTo ((d.port p).downSince + sec 1)
    let d := (d.port p).lds.foldl (fun d e =>
      let bound := d.num (Obj.cxlLdPartition e) != 0xFF
      let d := if bound then d.ldUnbound e else d
      (((d.setNum (Obj.cxlLdPort e) 0xFF).setNum (Obj.cxlLdLdId e) 0).setNum (Obj.cxlLdPartition e) 0xFF).setNum (Obj.cxlLdState e) (if bound then 3 else 0)) d
    onDev s (d.modPort p (fun x => { x with lds := [], isMld := false })).countLds
  else .next s

/-- CXL_MEM_UNCLAIMED (R307): a read gets poisoned data of all ones, a write Cmp, both logged. -/
def execCxlMemUnclaimed (node : Fin 64) (isWrite : Bool) (_len : Nat) (s : State) : Host.Outcome State Fault Refusal :=
  let d := s.dev
  let p := d.upPort node
  if p < 128 then onDev s ((d.logEvent (Half.ofPort p) Scope.port p 1 0x0210).emit (.cxlResponse node (!isWrite))) else .next s

end Sys2Proof.Machine
end

