-- ==== Sys2Proof/Machine/Boot.lean ====
section
/-!
DEFINITION. Sys2Proof/Machine/Boot.lean: supplies, PORST_N, straps, boot ROMs, the rake, image verification, watchdogs
and the thermal trip (02 and 04; R30 to R44, R87 to R108, R320, R397).
-/
namespace Sys2Proof.Machine

/-! Supplies and PORST_N. -/

/-- VAO18_RAMP (R87): VAO18 is inside its window and the PA-die supervisor runs on its RC clock. -/
def execVao18Ramp (s : State) : Host.Outcome State Fault Refusal :=
  onDev s { s.dev with pins := { s.dev.pins with vao18 := true }, pa := { s.dev.pa with supervisor := true } }

/-- AO ticks since VAO18 (R88, R363, R364): 122,070.3125 fabric time units each; from the RC the count has an error of
at most 1%, which the manual leaves open (assumption log 1). -/
def Dev.aoCount (d : Dev) : Nat :=
  if d.clocks.aoRunning then
    let t := (d.clk - d.clocks.aoSince) * 16 / 1953125
    if d.num Obj.pwrAoSource = 1 then d.clocks.aoBase + t - t / 100 + Config.freeValue t % (t / 50 + 1)
    else d.clocks.aoBase + t
  else d.clocks.aoBase

/-- AO_CRYSTAL_START (R88): the AO counter begins to count. -/
def execAoCrystalStart (s : State) : Host.Outcome State Fault Refusal :=
  if s.dev.pins.vao18 && !s.dev.clocks.aoRunning then
    onDev s { s.dev with clocks := { s.dev.clocks with aoRunning := true, aoSince := s.dev.clk } }
  else .next s

/-- PORST_N_FALL (R30, R44): a low pulse shorter than 1 us is ignored, one of 1 us to 10 us has an undefined effect, and
one of at least 10 us resets every die, releases every hold and clears the commit lock (R62). -/
def execPorstNFall (lowNs : Nat) (s : State) : Host.Outcome State Fault Refusal :=
  if lowNs < 1000 then .next s
  else if lowNs < 10000 then .fault .undefinedPorstPulse
  else .next { s with commitLock := false, dev := s.dev.porstReset }

/-- PORST_N_RISE (R30): PORST_N rises and the cold boot sequence starts. -/
def execPorstNRise (s : State) : Host.Outcome State Fault Refusal :=
  if s.dev.pins.porstN then .next s
  else onDev s { s.dev with pins := { s.dev.pins with porstN := true }, boot := { s.dev.boot with riseClk := s.dev.clk } }

/-- The bitwise majority of three samples. -/
def majority (a b c : Nat) : Nat := (a &&& b) ||| (a &&& c) ||| (b &&& c)

/-- The strap value of three samples of the nine strap balls, with STRAP_FAULT (R33, R34). -/
def strapValue (a b c : Nat) : Nat :=
  let m := majority a b c % 512
  m + if field m 3 2 = 3 then 0x8000 else 0

/-- STRAP_SAMPLE (R33): once per rise of PORST_N the PA die latches the majority of three samples. -/
def execStrapSample (s1 s2 s3 : Nat) (s : State) : Host.Outcome State Fault Refusal :=
  if s.dev.pins.porstN && !s.dev.pa.strapped then
    let d := s.dev.advanceTo (s.dev.boot.riseClk + us 66)
    onDev s { (d.setNum Obj.bootStrapValue (strapValue s1 s2 s3)) with pa := { d.pa with strapped := true } }
  else .next s

/-- VAO18_LOSS (R31, R33): THERMTRIP_N is released, the latched strap value is lost and the AO counter stops; the PA
die's non-volatile cells survive. -/
def execVao18Loss (s : State) : Host.Outcome State Fault Refusal :=
  let d := s.dev.clearObjs (fun k => k == Obj.bootStrapValue)
  onDev s { d with pins := { d.pins with vao18 := false, thermtrip := false },
                   pa := { d.pa with supervisor := false, strapped := false },
                   clocks := { d.clocks with aoRunning := false, aoBase := 0 } }

/-! Release of the halves. -/

/-- HALVES_RELEASE (R96, R89): the PA die tests for Crocus mode, else counts the attempt, arms both watchdogs with 10 s
and releases the halves; the rake becomes unclaimed with its epoch kept. -/
def Dev.release (d : Dev) : Dev :=
  let d := { d with boot := { released := true, riseClk := d.boot.riseClk, releaseClk := d.clk },
                    clocks := { d.clocks with stopped := false },
                    pa := { d.pa with viewW := {}, viewE := {} } }
  let d := ((d.setNum Obj.rakeHolder 2).setNum Obj.bootHealthyState 0).setNum Obj.bootReleaseTime (d.time .west)
  let d := allPorts.foldl (fun d p => d.setNum (Obj.pstLtssm p) 8) d
  if d.pa.forceFlag then d.enterCrocus 0x0B 2
  else if d.num Obj.bootAttemptThreshold ≤ d.num Obj.bootAttempts then
    d.enterCrocus (d.num Obj.bootLastFail) d.pa.lastFailHalf
  else
    let w : Watchdog := { running := true, period := 10000, lastKick := d.clk }
    { (d.setNum Obj.bootAttempts (min 7 (d.num Obj.bootAttempts + 1))) with pa := { d.pa with wdW := w, wdE := w } }

/-- HALVES_RELEASE (R96): 250 us after the rise, once the straps are latched, or after a warm reset. -/
def execHalvesRelease (s : State) : Host.Outcome State Fault Refusal :=
  if s.dev.pins.porstN && s.dev.pa.strapped && !s.dev.boot.released then
    onDev s (s.dev.advanceTo (if s.dev.boot.warmPending then s.dev.clk else s.dev.boot.riseClk + us 250)).release.followAllFeeds
  else .next s

/-- A ROM's self-check has passed. -/
def Dev.romPasses (d : Dev) (h : Half) : Dev :=
  { d with boot := byHalf h { d.boot with romPassW := true } { d.boot with romPassE := true } }

/-- Whether a ROM has passed. -/
def Dev.romPassed (d : Dev) (h : Half) : Bool := byHalf h d.boot.romPassW d.boot.romPassE

/-- Whether a ROM has stopped. -/
def Dev.romStopped (d : Dev) (h : Half) : Bool := byHalf h d.boot.romStopW d.boot.romStopE

/-- ROM_PASS (R90, R109): the self-check of a released half passes. -/
def execRomPass (h : Half) (s : State) : Host.Outcome State Fault Refusal :=
  if s.dev.boot.released && !s.dev.romStopped h then onDev s (s.dev.romPasses h) else .next s

/-- ROM_SELFCHECK_RETRY (R90): the one retry passes, or the half stops. -/
def execRomSelfcheckRetry (h : Half) (passed : Bool) (s : State) : Host.Outcome State Fault Refusal :=
  if s.dev.boot.released && !s.dev.romPassed h && !s.dev.romStopped h then
    onDev s (if passed then s.dev.romPasses h
      else { s.dev with boot := byHalf h { s.dev.boot with romStopW := true } { s.dev.boot with romStopE := true } })
  else .next s

/-! The rake. -/

/-- The rake passes to a half: epoch and claim time change with it (R103, R106, R107), and the first claim after release
starts the training of the seam (R90). -/
def Dev.giveRake (d : Dev) (h : Half) : Dev :=
  let e := (d.num Obj.rakeEpoch + 1) % 2 ^ 32
  let d := ((d.setNum Obj.rakeHolder h.code).setNum Obj.rakeEpoch e).setNum Obj.rakeClaimTime (d.time h)
  let d := if d.num Obj.coreSeamState = 0 then d.setNum Obj.coreSeamState 1 else d
  { (d.setRakeView h ⟨true, e⟩) with boot := { d.boot with claimClk := d.clk } }

/-- A claim at the PA die: the first that finds the rake unclaimed is granted, every other refused with S_NOT_HOLDER,
the answer naming holder and epoch (R103, R104). -/
def Dev.claim (d : Dev) (h : Half) : Dev :=
  match d.holder with
  | none => (d.giveRake h).rakeChanged
  | some w => (d.setRakeView h ⟨w == h, d.num Obj.rakeEpoch⟩).emit (.paRefused h w.code (d.num Obj.rakeEpoch))

/-- A half that reaches the PA die records there that the other half cannot, once it has been told (R101, R408). -/
def Dev.recordLost (d : Dev) (h : Half) : Dev :=
  if byHalf h.other d.boot.paLostW d.boot.paLostE && !byHalf h d.boot.paLostW d.boot.paLostE then d.recordFail 0x07 h.other.code else d

/-- RAKE_CLAIM (R103). -/
def execRakeClaim (h : Half) (s : State) : Host.Outcome State Fault Refusal :=
  if s.dev.boot.released && s.dev.romPassed h && !byHalf h s.dev.boot.paLostW s.dev.boot.paLostE then
    onDev s (if s.dev.holder.isNone then (s.dev.recordLost h).claim h else s.dev.claim h)
  else .next s

/-- The half that the RAKE_PREF strap names (R34). -/
def Dev.preferred (d : Dev) : Half := Half.ofCode (field (d.num Obj.bootStrapValue) 0 1)

/-- RAKE_PREF_DELAY_EXPIRY (R103): the non-preferred half, whose ROM has passed, claims a rake that is still unclaimed. -/
def execRakePrefDelayExpiry (s : State) : Host.Outcome State Fault Refusal :=
  let h := s.dev.preferred.other
  if s.dev.boot.released && s.dev.romPassed h && s.dev.holder.isNone && !byHalf h s.dev.boot.paLostW s.dev.boot.paLostE then
    onDev s ((s.dev.recordLost h).claim h)
  else .next s

/-- RAKE_CLAIM_TIMEOUT (R100, R408): the rake is unclaimed 500 ms after release. -/
def execRakeClaimTimeout (s : State) : Host.Outcome State Fault Refusal :=
  if s.dev.boot.released && s.dev.holder.isNone && !s.dev.crocus then
    onDev s ((s.dev.advanceTo (s.dev.boot.releaseClk + ms 500)).crocusFailed 0x08 2)
  else .next s

/-- PA_DIE_UNREACHABLE (R101, R408): a half enters Crocus mode with reason 0x07. The other half, once its claim shows that it
reaches the PA die, records it there; where neither half does, nothing is recorded. -/
def execPaDieUnreachable (h : Half) (s : State) : Host.Outcome State Fault Refusal :=
  if s.dev.boot.released && s.dev.holder != some h then
    let d := s.dev.advanceTo (s.dev.boot.releaseClk + ms 100)
    let d := { d with boot := byHalf h { d.boot with paLostW := true } { d.boot with paLostE := true } }
    let d := if d.holder.isSome then d.recordLost h.other else d
    onDev s (d.enterCrocus 0x07 (if d.boot.paLostW && d.boot.paLostE then 2 else h.code))
  else .next s

/-- HOLDER_DEMOTE (R104, R105): a half that believed it held the rake demotes itself; the commit it ran fails, and
commits that wait are failed with S_FAR_TIMEOUT while the seam is down and stay queued for the holder otherwise. -/
def execHolderDemote (h : Half) (s : State) : Host.Outcome State Fault Refusal :=
  let d := s.dev
  if (d.rakeView h).holds && d.holder != some h then
    let d := d.setRakeView h ⟨false, d.num Obj.rakeEpoch⟩
    let d := if (d.commit.map (fun c => c.half)) = some h then d.commitFails Status.notHolder 0 noEntry else d
    onDev s (if d.seamUp then d else d.commitQueue.foldl (fun d w => d.commitNotRun w.sid Status.farTimeout) d)
  else .next s

/-- The rake moves to the other half (R106): the epoch changes, and field-network sessions end. -/
def Dev.handOver (d : Dev) : Dev :=
  match d.holder with
  | some h =>
    let d := { (d.setRakeView h {}) with pa := { (d.setRakeView h {}).pa with handoverPending := false } }
    ((d.giveRake h.other).logEvent h.other Scope.device 0 3 0x0603).rakeChanged
  | none => d

/-- What a write has asked for and its answer had to precede (R58): a warm reset (R89), or a handover once no commit runs
(R66, R106). -/
def Dev.settle (d : Dev) : Dev :=
  if d.boot.warmAsked then d.warmReset
  else if d.pa.handoverPending && d.commit.isNone then d.handOver
  else d

/-! Boot stages. -/

/-- QDR_TRAINED (R90). -/
def execQdrTrained (stack : Fin 4) (s : State) : Host.Outcome State Fault Refusal :=
  if s.dev.boot.released then
    onDev s { s.dev with boot := { s.dev.boot with qdrTrained := if s.dev.boot.qdrTrained.contains stack.val then s.dev.boot.qdrTrained else stack.val :: s.dev.boot.qdrTrained } }
  else .next s

/-- QDR_TRAIN_TIMEOUT (R90, R98): an untrained stack fails the attempt with reason 0x06 of its half (R13: two stacks a
half). -/
def execQdrTrainTimeout (stack : Fin 4) (s : State) : Host.Outcome State Fault Refusal :=
  if s.dev.boot.released && !s.dev.crocus && !s.dev.boot.qdrTrained.contains stack.val && !s.dev.boot.slotChosen then
    onDev s (s.dev.failAttempt 0x06 (stack.val / 2))
  else .next s

/-- BOOT_STAGE_TIMEOUT (R90, R98, R100): a stage that misses its maximum time. A ROM that fails its self-check claims
nothing and is failed by the other half's stages; seam, QDR and boot commit fail with their own reasons; a verification
that does not end is ended by the 10 s ROM-stage watchdog, reason 0x04. -/
def execBootStageTimeout (st : BootStage) (h : Half) (s : State) : Host.Outcome State Fault Refusal :=
  let d := s.dev
  if d.boot.released && !d.crocus then
    match st with
    | .rom =>
      if d.romPassed h then .next s
      else onDev s { d with boot := byHalf h { d.boot with romFailW := true } { d.boot with romFailE := true } }
    | .seam => if d.seamUp || d.boot.slotChosen then .next s else onDev s (d.failAttempt 0x05 h.code)
    | .qdr =>
      if d.boot.slotChosen || d.boot.qdrTrained.countP (fun k => k / 2 == h.code) = 2 then .next s
      else onDev s (d.failAttempt 0x06 h.code)
    | .verify => if d.boot.slotChosen then .next s else onDev s (d.failAttempt 0x04 h.code)
    | .bootCommit => if d.boot.slotChosen && !d.boot.bootCommitDone then onDev s (d.failAttempt 0x09 2) else .next s
  else .next s

/-! Images. -/

/-- A segment table entry of an image: type, halves, offset, length and digest (02, "Segment table entry"). -/
structure Segment where
  ty : Nat
  halves : Nat
  off : Nat
  len : Nat
  digest : List Byte
  deriving DecidableEq, Repr

/-- Segment table entry n. -/
def segmentAt (img : List Byte) (n : Nat) : Segment :=
  let e := slice img (0x100 + 96 * n) 96
  ⟨beNat (slice e 0 1), beNat (slice e 1 1), beNat (slice e 4 4), beNat (slice e 8 4), slice e 0x18 64⟩

/-- Segments that overlap none of those before them. -/
def apart : List Segment → Bool
  | [] => true
  | x :: t => t.all (fun y => decide (x.off + x.len ≤ y.off) || decide (y.off + y.len ≤ x.off)) && apart t

/-- Largest slot and image: 32 MiB. -/
abbrev slotBytes : Nat := 33554432

/-- What a boot ROM finds in an image (R91; 04, "Image header"). The byte order of its numbers is not stated: the most significant
byte comes first (assumption log 99, DESIGN CHOICE). -/
def imageFacts (img : List Byte) : ImageFacts :=
  let n := beNat (slice img 0x0F 1)
  let segs := (List.range (min n 32)).map (segmentAt img)
  let total := beNat (slice img 0x10 4)
  let first := img.take 4096
  let segOk := fun (g : Segment) =>
    decide (1 ≤ g.ty) && decide (g.ty ≤ 3) && field g.halves 0 2 == 3 && decide (0x2800 ≤ g.off) && g.off % 4096 == 0 && decide (g.off + g.len ≤ slotBytes)
  { empty := first.all (fun b => b == 0xFF) || first.all (fun b => b == 0)
    layoutOk := beNat (slice img 0 4) == 0x50584631 && beNat (slice img 4 2) == 1 && decide (1 ≤ n) && decide (n ≤ 32) &&
      segs.all segOk && apart segs && total == maxOf (segs.map (fun g => g.off + g.len)) && decide (total ≤ img.length) && decide (img.length ≤ slotBytes)
    keySlot := beNat (slice img 0x0E 1)
    publicKey := slice img 4096 1952
    header := slice img 0 4096
    signature := slice img (4096 + 1952) 3309
    svn := beNat (slice img 0x0C 2)
    digestsOk := segs.all (fun g => Config.shake256 (slice img g.off g.len) 64 == g.digest)
    debug := bitOf (beNat (slice img 6 2)) 0
    version := beNat (slice img 8 4) }

/-- The verification result of an image in a slot (R91). -/
def verifyImage (o : Otp) (lock : Bool) (img : ImageFacts) : Nat :=
  if img.empty then 0x06
  else if img.readError then 0x08
  else if !img.layoutOk then 0x01
  else if 3 < img.keySlot ∨ Config.shake256 img.publicKey 32 ≠ Config.otpKeyHash img.keySlot ∨ bitOf o.revoked img.keySlot then 0x02
  else if !Config.mlDsaVerify img.publicKey img.header [] img.signature then 0x03
  else if img.svn < o.counter then 0x05
  else if !img.digestsOk then 0x04
  else if img.debug && lock then 0x03
  else 0x00

/-- The Crocus reason of a verification result (04, "Verification result codes"). -/
def crocusReason (result : Nat) : Nat :=
  match result with
  | 0x01 | 0x02 | 0x03 => 0x01
  | 0x04 | 0x07 | 0x08 => 0x02
  | 0x05 => 0x03
  | 0x06 => 0x0C
  | _ => 0x00

/-- The report of a half on a slot. -/
def Dev.check (d : Dev) (h : Half) (sl : FwSlot) : Option SlotCheck :=
  d.boot.checks.find? (fun c => c.half == h && c.slot == sl)

/-- What both halves' reports make of a slot: none while one is missing; else the first failing result with the half it
came from, 0x07 where the header digests differ, or 0x00 (R92). -/
def Dev.slotResult (d : Dev) (sl : FwSlot) : Option (Nat × Nat) :=
  match d.check .west sl, d.check .east sl with
  | some w, some e =>
    some (if w.result ≠ 0 then (w.result, 0) else if e.result ≠ 0 then (e.result, 1)
      else if w.digest ≠ e.digest then (0x07, 2) else (0, 2))
  | _, _ => none

/-- The slot that the ROMs try first (R92). -/
def Dev.firstSlot (d : Dev) : FwSlot :=
  if 2 ≤ d.num Obj.bootAttempts ∧ (d.num Obj.bootLastFail = 0x04 ∨ d.num Obj.bootLastFail = 0x09) then
    (FwSlot.ofCode (d.num Obj.fwLastBooted)).other
  else FwSlot.ofCode (d.num Obj.fwBootSlot)

/-- A slot is chosen to boot (R92). -/
def Dev.chooseSlot (d : Dev) (sl : FwSlot) : Dev :=
  { (d.setNum Obj.fwLastBooted sl.code) with boot := { d.boot with slotChosen := true } }

/-- BOOT_SLOT_CHOICE (R92, R93): the first usable slot boots; with neither usable the device enters Crocus mode with
the reason of the first slot's first failed check. -/
def Dev.slotChoice (d : Dev) : Dev :=
  let first := d.firstSlot
  match d.slotResult first with
  | none => d
  | some (r, h) =>
    if r = 0 then d.chooseSlot first
    else
      match d.slotResult first.other with
      | none => d
      | some (r', _) => if r' = 0 then d.chooseSlot first.other else d.crocusFailed (crocusReason r) h

/-- Slot state and version objects. -/
def slotStateKey (sl : FwSlot) : Key := match sl with | .a => Obj.fwSlotAState | .b => Obj.fwSlotBState
def slotVersionKey (sl : FwSlot) : Key := match sl with | .a => Obj.fwSlotAVersion | .b => Obj.fwSlotBVersion

/-- A slot's state as the reports have it: EMPTY, VALID or INVALID. -/
def Dev.noteSlot (d : Dev) (sl : FwSlot) (result version : Nat) : Dev :=
  let d := d.setNum Obj.fwVerifyResult result
  if result = 0x06 then (d.setNum (slotStateKey sl) 0).setNum (slotVersionKey sl) 0
  else if result ≠ 0 ∨ d.num (slotStateKey sl) = 2 then (d.setNum (slotStateKey sl) 2).setNum (slotVersionKey sl) 0
  else (d.setNum (slotStateKey sl) 1).setNum (slotVersionKey sl) version

/-- A slot whose two valid copies have different header digests: code 0x07 (R92; 04, "Verification result codes"). -/
def Dev.noteDiffer (d : Dev) (sl : FwSlot) : Dev :=
  match d.slotResult sl with
  | some (0x07, _) => d.noteSlot sl 0x07 0
  | _ => d

/-- What a ROM finds in a slot: the image that this device wrote there (R94), or what the flash came with. -/
def Dev.romFinds (d : Dev) (h : Half) (sl : FwSlot) (img : ImageFacts) : ImageFacts :=
  match tabFind d.flash (h, sl) with
  | some b => { imageFacts b with readError := img.readError }
  | none => img

/-- IMAGE_VERIFIED (R91 to R93): a ROM reports on a slot of its own flash, and the ROMs choose when they can. -/
def execImageVerified (h : Half) (slot : FwSlot) (img : ImageFacts) (s : State) : Host.Outcome State Fault Refusal :=
  let d := s.dev
  if d.boot.released && d.romPassed h && d.holder.isSome && !d.crocus && !d.boot.slotChosen then
    let img := d.romFinds h slot img
    let r := verifyImage s.otp s.commitLock img
    let c : SlotCheck := ⟨h, slot, r, Config.shake256 img.header 64, img.version, img.svn, img.keySlot⟩
    let d := { d with boot := { d.boot with checks := c :: d.boot.checks.filter (fun x => !(x.half == h && x.slot == slot)) } }
    onDev s ((d.noteSlot slot r img.version).noteDiffer slot).slotChoice
  else .next s

/-! Watchdogs. -/

/-- WATCHDOG_KICK (R98): every half may kick, rake or not. -/
def execWatchdogKick (h : Half) (s : State) : Host.Outcome State Fault Refusal :=
  if (s.dev.watchdog h).running && !(byHalf h s.dev.boot.haltW s.dev.boot.haltE) then
    onDev s (s.dev.modWatchdog h (fun w => { w with lastKick := s.dev.clk }))
  else .next s

/-- The watchdog of a half has been kicked within its period (R107). Its arming counts as a kick, which R107 does not say
(assumption log 98, DESIGN CHOICE). -/
def Dev.kicked (d : Dev) (h : Half) : Bool :=
  (d.watchdog h).running && !(d.watchdog h).suspended && decide (d.clk < (d.watchdog h).lastKick + ms (d.watchdog h).period)

/-- RAKE_MOVE_ON_EXPIRY (R66, R107): the rake leaves a holder whose watchdog expired; a commit before its apply instant
takes no effect, and one whose instant has come stays in force in full. -/
def Dev.rakeLeaves (d : Dev) (h : Half) : Dev :=
  let d := if d.commit.any (fun c => c.applyAt.any (fun t => decide (t ≤ d.clk))) then d else d.commitFails Status.farTimeout 0 noEntry
  let d := { d with pa := { d.pa with handoverPending := false } }
  let d := if d.kicked h.other then d.giveRake h.other
    else ((d.setNum Obj.rakeHolder 2).inc32 Obj.rakeEpoch).setNum Obj.rakeClaimTime (d.time h)
  (d.logEvent h.other Scope.device 0 3 0x0603).rakeChanged

/-- WATCHDOG_EXPIRY (R98, R107, R317): before health the attempt fails with reason 0x04 of that half; after health only
that half's cluster restarts, its sessions end, and a rake that it held moves on. -/
def execWatchdogExpiry (h : Half) (s : State) : Host.Outcome State Fault Refusal :=
  let w := s.dev.watchdog h
  if w.running && !w.suspended then
    let d := (s.dev.advanceTo (w.lastKick + ms w.period)).inc32 Obj.rakeWdExpiries
    if d.flag Obj.bootHealthyState then
      let d := d.modWatchdog h (fun w => { w with running := false })
      let d := d.logEvent h Scope.half h.code 1 0x050C
      let d := { d with boot := byHalf h { d.boot with firmwareW := false } { d.boot with firmwareE := false } }
      let d := d.endSessions (fun x => x.half == h)
      let d := d.setRakeView h {}
      onDev s (if d.holder = some h then d.rakeLeaves h else d)
    else onDev s (d.failAttempt 0x04 h.code)
  else .next s

/-- The tenant sessions of the ACTIVE slices of a half open again with its cluster, which serves them (R85, R86). -/
def Dev.reopenTenants (d : Dev) (h : Half) : Dev :=
  ((d.recordsWith 0x6000 4096 0x0B).filter (fun n => Half.ofSlice n == h && d.num (Obj.rmeSliceState n) == 1)).foldl (fun d n => d.openSession (.tenant n) .tenant n h) d

/-- CLUSTER_REJOIN (R317): the restarted cluster rejoins as non-holder, and its firmware session opens again (R405). -/
def execClusterRejoin (h : Half) (s : State) : Host.Outcome State Fault Refusal :=
  let d := s.dev
  if d.boot.bootCommitDone && !(byHalf h d.boot.firmwareW d.boot.firmwareE) && !(byHalf h d.boot.haltW d.boot.haltE) then
    let d := { d with boot := byHalf h { d.boot with firmwareW := true } { d.boot with firmwareE := true } }
    let d := d.modWatchdog h (fun w => { w with running := true, period := d.num Obj.rakeWdPeriod, lastKick := d.clk })
    onDev s ((d.openSession (.firmware h) .owner 0xFFFF h).reopenTenants h)
  else .next s

/-! Thermal trip and VPA. -/

/-- THERMAL_TRIP (R31, R98, R320): a reading of 115 degrees or more asserts THERMTRIP_N, is logged persistently and
turns every slot channel off; before health the reason 0x0A is recorded at the trip, with no warm reset. -/
def execThermalTrip (sensor : Fin 28) (celsius : Nat) (s : State) : Host.Outcome State Fault Refusal :=
  if celsius < 115 then .next s
  else
    let half := if sensor.val < 13 then 0 else if sensor.val < 26 then 1 else 2
    let d := { s.dev with pins := { s.dev.pins with thermtrip := true } }
    let d := (d.logEvent d.holderHalf Scope.device 0 2 0x0601 (beBytes 2 sensor.val)).allSlotsShut
    let d := { d with slots := d.slots.map (fun e => (e.1, { e.2 with perstRel := false })) }
    onDev s (if d.boot.released && !d.flag Obj.bootHealthyState && !d.crocus then d.recordFail 0x0A half else d)

end Sys2Proof.Machine
end

