-- ==== Sys2Proof/Machine/Sideband.lean ====
section
/-!
DEFINITION. Sys2Proof/Machine/Sideband.lean: the sideband bridge (14; R337 to R352), apart from the answers of far
writes and direct accesses, which stand with the dictionary.
-/
namespace Sys2Proof.Machine

/-- A slot bus may be up (R338). -/
def Dev.busMayRun (d : Dev) (k : Nat) : Bool :=
  (d.slot k).present && (d.slot k).aux && d.num (Obj.sbMode k) != 4 && !d.padHeld 20

/-- A slot bus is up. -/
def Dev.busUp (d : Dev) (k : Nat) : Bool := (d.sbus k).busUp && d.busMayRun k

/-- A mapping entry (0x7520). -/
structure MapEntry where
  slot : Nat
  addr : Nat
  reg : Nat
  isWrite : Bool
  flagged : Bool
  reg16 : Bool
  msb : Bool
  srcSigned : Bool
  demand : Bool
  dstSigned : Bool
  len : Nat
  srcOff : Nat
  srcWidth : Nat
  scale : Int
  offset : Int
  word : Nat
  dstOff : Nat
  dstWidth : Nat
  deriving DecidableEq, Repr

/-- The fields of a mapping entry, from a reader of its objects. -/
def mapEntry (rd : Key → Nat) (e : Nat) : MapEntry :=
  let fl := rd (Obj.sbmapFlags e)
  let src := rd (Obj.sbmapSrc e)
  let dst := rd (Obj.sbmapDst e)
  { slot := rd (Obj.sbmapSlot e), addr := rd (Obj.sbmapAddr e), reg := rd (Obj.sbmapReg e), isWrite := bitOf fl 0,
    flagged := bitOf fl 1, reg16 := bitOf fl 2, msb := bitOf fl 3, srcSigned := bitOf fl 4, demand := bitOf fl 5,
    dstSigned := bitOf fl 6, len := rd (Obj.sbmapLen e), srcOff := field src 8 8, srcWidth := field src 0 8,
    scale := toSigned 32 (rd (Obj.sbmapScale e)), offset := toSigned 32 (rd (Obj.sbmapOffset e)),
    word := field dst 16 16, dstOff := field dst 8 8, dstWidth := field dst 0 8 }

/-- A mapping entry in force. -/
def Dev.mapE (d : Dev) (e : Nat) : MapEntry := mapEntry d.num e

/-- Used mapping entries. -/
def Dev.mapEntries (d : Dev) : List Nat := d.usedEntries 0x7520 3 0xFF

/-- Entries of a slot. -/
def Dev.entriesOf (d : Dev) (k : Nat) : List Nat := d.mapEntries.filter (fun e => d.num (Obj.sbmapSlot e) == k)

/-- SB_BUS_INIT (R337, R338, R345): 10 ms after its conditions hold the bus initialises and is up, and every read entry
of the slot is due. Initialisation is this one command, so bit [2] of `sb.status` reads 0 before and after it. -/
def execSbBusInit (k : Fin 32) (s : State) : Host.Outcome State Fault Refusal :=
  let d := s.dev
  if d.busMayRun k && !(d.sbus k).busUp then
    let due := (d.entriesOf k).filter (fun e => !(d.mapE e).isWrite)
    let d := d.modSb k (fun b => { b with busUp := true, due := due })
    onDev s (if d.num (Obj.sbMode k) ≤ 2 then d.emit (.sbRecovery k) else d.emit (.sbI3cInit k))
  else .next s

/-- ATTENTION_PRESS (R340): counted, notified, and in hierarchy mode shown in the bound port; ignored on an absent
slot. -/
def execAttentionPress (k : Fin 32) (s : State) : Host.Outcome State Fault Refusal :=
  let d := s.dev
  if (d.slot k).present then
    let d := (d.inc32 (Obj.sbAttnCount k)).notifySlot k
    onDev s (if d.fabricMode then d else d.slotStatusBits k slotStAttention)
  else .next s

/-- SB_ENTRY_DUE (R345): a read entry's period has elapsed; with demand polling its word must have been read since its
last update. An entry that is due already stays due once (R346). -/
def execSbEntryDue (e : Fin 512) (s : State) : Host.Outcome State Fault Refusal :=
  let d := s.dev
  let m := d.mapE e
  if m.slot < 32 ∧ m.isWrite = false ∧ d.busUp m.slot ∧ (m.demand = false ∨ d.wordsRead.contains m.word) then
    onDev s (d.modSb m.slot (fun b => { b with due := if b.due.contains e.val then b.due else b.due ++ [e.val] }))
  else .next s

/-- SB_ALERT_POLL (R346). -/
def execSbAlertPoll (k : Fin 32) (s : State) : Host.Outcome State Fault Refusal :=
  let d := s.dev
  if d.busUp k ∧ d.num (Obj.sbAlertPoll k) ≠ 0 then onDev s (d.modSb k (fun b => { b with alertDue := true })) else .next s

/-- Whether an unflagged entry of the slot, address and register width names a register byte. -/
def Dev.byteNamed (d : Dev) (es : List Nat) (addr : Nat) (r16 : Bool) (flagged : Bool) (a : Nat) : Bool :=
  es.any (fun e =>
    let m := d.mapE e
    m.addr == addr && m.reg16 == r16 && m.flagged == flagged && decide (m.reg ≤ a) && decide (a < m.reg + m.len))

/-- The block from `lo` to `hi` may be read in one transaction: at most 32 bytes, every byte named by an unflagged entry
and none by a flagged one (R347). -/
def Dev.spanOk (d : Dev) (es : List Nat) (addr : Nat) (r16 : Bool) (lo hi : Nat) : Bool :=
  decide (hi - lo ≤ 32) &&
  (List.range (hi - lo)).all (fun i => d.byteNamed es addr r16 false (lo + i) && !d.byteNamed es addr r16 true (lo + i))

/-- The block grown over the due entries one after another (R347). -/
def Dev.growSpan (d : Dev) (es : List Nat) (addr : Nat) (r16 : Bool) : List Nat → Nat × Nat → Nat × Nat
  | [], b => b
  | e :: t, (lo, hi) =>
    let m := d.mapE e
    let lo' := min lo m.reg
    let hi' := max hi (m.reg + m.len)
    d.growSpan es addr r16 t (if d.spanOk es addr r16 lo' hi' then (lo', hi') else (lo, hi))

/-- Insertion by register address. -/
def insertByReg (reg : Nat → Nat) (e : Nat) : List Nat → List Nat
  | [] => [e]
  | x :: t => if reg e ≤ reg x then e :: x :: t else x :: insertByReg reg e t

/-- The read that serves the oldest due entry: alone where it is flagged or merging is off, else in one block with the
due entries that can join it (R347). -/
def Dev.readTxn (d : Dev) (k e : Nat) (due : List Nat) : SbTxn :=
  let m := d.mapE e
  if m.flagged || !d.flag (Obj.sbMerge k) then .read m.addr m.reg m.len [e] []
  else
    let es := d.entriesOf k
    let mates := due.filter (fun x => (d.mapE x).addr == m.addr && (d.mapE x).reg16 == m.reg16 && !(d.mapE x).flagged)
    let sorted := mates.foldr (insertByReg (fun x => (d.mapE x).reg)) []
    let up := d.growSpan es m.addr m.reg16 (sorted.filter (fun x => decide (m.reg ≤ (d.mapE x).reg))) (m.reg, m.reg + m.len)
    let both := d.growSpan es m.addr m.reg16 ((sorted.filter (fun x => decide ((d.mapE x).reg < m.reg))).reverse) up
    let inside := fun x => decide (both.1 ≤ (d.mapE x).reg) && decide ((d.mapE x).reg + (d.mapE x).len ≤ both.2)
    let ds := mates.filter inside
    let sp := es.filter (fun x => (d.mapE x).addr == m.addr && (d.mapE x).reg16 == m.reg16 && !(d.mapE x).isWrite && inside x && !ds.contains x)
    .read m.addr both.1 (both.2 - both.1) ds sp

/-- A transaction starts on a bus. -/
def Dev.startTxn (d : Dev) (k : Nat) (t : SbTxn) : Dev :=
  (d.modSb k (fun b => { b with txn := some t, changed := [] })).emit (.sbStart k t)

/-- SB_TRANSACTION_START (R346): far writes first, oldest first, then the alert poll, then due read entries. -/
def execSbTransactionStart (k : Fin 32) (s : State) : Host.Outcome State Fault Refusal :=
  let d := s.dev
  let b := d.sbus k
  if d.busUp k && b.txn.isNone then
    match b.queue, b.alertDue, b.due with
    | f :: q, _, _ => onDev s ((d.modSb k (fun b => { b with queue := q })).startTxn k (.far f))
    | [], true, _ => onDev s ((d.modSb k (fun b => { b with alertDue := false })).startTxn k .alert)
    | [], false, e :: _ =>
      let t := d.readTxn k e b.due
      let taken := match t with
        | .read _ _ _ ds _ => ds
        | _ => []
      onDev s ((d.modSb k (fun b => { b with due := b.due.filter (fun x => !taken.contains x) })).startTxn k t)
    | [], false, [] => .next s
  else .next s

/-! Values. -/

/-- Division rounded to the nearest, halves away from zero (R342, R343). -/
def roundDiv (n : Int) (m : Int) : Int :=
  let neg := decide (n < 0) != decide (m < 0)
  let q : Nat := (2 * n.natAbs + m.natAbs) / (2 * m.natAbs)
  if neg then -(q : Int) else q

/-- An integer saturated to a field, and whether it was (R342 step 4). -/
def saturate (signed : Bool) (w : Nat) (y : Int) : Int × Bool :=
  let lo : Int := if signed then -((2 ^ (w - 1) : Nat) : Int) else 0
  let hi : Int := if signed then ((2 ^ (w - 1) : Nat) : Int) - 1 else ((2 ^ w : Nat) : Int) - 1
  if y < lo then (lo, true) else if hi < y then (hi, true) else (y, false)

/-- The register's integer from its bytes (R342 step 1). -/
def regInt (m : MapEntry) (data : List Byte) : Nat := if m.msb then beNat data else leNat data

/-- The source field x (R342 step 2). -/
def srcField (m : MapEntry) (data : List Byte) : Int :=
  let x := field (regInt m data) m.srcOff m.srcWidth
  if m.srcSigned then toSigned m.srcWidth x else (x : Int)

/-- y := round(x * scale + offset), exact in 16 fraction bits (R342 step 3). -/
def scaleField (m : MapEntry) (x : Int) : Int := roundDiv (x * m.scale + m.offset) 65536

/-- The value word with the destination field replaced (R342 steps 4 and 5), and whether it saturated. -/
def deliverWord (m : MapEntry) (word : Nat) (data : List Byte) : Nat × Bool :=
  let y := saturate m.dstSigned m.dstWidth (scaleField m (srcField m data))
  (setField word m.dstOff m.dstWidth (ofSigned m.dstWidth y.1), y.2)

/-- raw := round((field - offset) / scale), saturated to the source width (R343). -/
def writeRaw (m : MapEntry) (word : Nat) : Nat :=
  let f := field word m.dstOff m.dstWidth
  let y : Int := if m.dstSigned then toSigned m.dstWidth f else (f : Int)
  ofSigned m.srcWidth (saturate m.srcSigned m.srcWidth (roundDiv (y * 65536 - m.offset) m.scale)).1

/-- A value word updated: its content, `sbval.seq` and `sbval.time`. -/
def Dev.updateWord (d : Dev) (w v : Nat) : Dev :=
  let d := ((d.setNum (Obj.sbvalWord w) v).inc32 (Obj.sbvalSeq w)).setNum (Obj.sbvalTime w) (d.time d.holderHalf)
  { d with wordsRead := d.wordsRead.filter (fun x => x != w) }

/-- A read entry's value delivered (R342). -/
def Dev.deliverEntry (d : Dev) (e : Nat) (data : List Byte) : Dev :=
  let m := d.mapE e
  let r := deliverWord m (d.num (Obj.sbvalWord m.word)) data
  let d := d.updateWord m.word r.1
  let d := (d.setNum (Obj.sbmapState e) 1).setNum (Obj.sbmapRaw e) (ofSigned 32 (srcField m data))
  let d := d.setNum (Obj.sbmapTime e) (d.time d.holderHalf)
  if r.2 then d.inc32 (Obj.sbmapSaturations e) else d

/-- Discarded bytes recorded in the stray-read log, under the address, register and length that were read (R348, R351). -/
def Dev.strayRead (d : Dev) (k e cause : Nat) (x : Nat × Nat × Nat) (data : List Byte) : Dev :=
  let now := d.time d.holderHalf
  let old := d.stray.find? (fun r => r.entry == e && r.cause == cause)
  let r : Stray := ⟨now, k, x.1, x.2.1, x.2.2, cause, e, ((old.map (fun o => o.count)).getD 0 + 1) % 2 ^ 32, data⟩
  ({ d with stray := (r :: d.stray.filter (fun x => !(x.entry == e && x.cause == cause))).take 64 }).inc64 Obj.sbgStrayTotal

/-- The bytes of a stray-read record (R351). -/
def Stray.bytes (r : Stray) : List Byte :=
  beBytes 8 r.time ++ beBytes 1 r.slot ++ beBytes 1 r.addr ++ beBytes 2 r.reg ++ beBytes 1 r.len ++ beBytes 1 r.cause ++
    beBytes 2 r.entry ++ beBytes 4 r.count ++ zeros 12 ++ padTo 32 r.data

/-- The bytes of a register inside a block that starts at another. -/
def spanBytes (base reg len : Nat) (data : List Byte) : List Byte := slice data (reg - base) len

/-- Address, register and length of an entry that a running read covers: as the read started. -/
def Dev.readOf (d : Dev) (k e : Nat) : Nat × Nat × Nat :=
  let m := d.mapE e
  (tabFind (d.sbus k).changed e).getD (m.addr, m.reg, m.len)

/-- A block read that succeeded: due entries are delivered, spanned ones and ones that a commit changed become stray
reads; a flagged entry always delivers (R347, R348). -/
def Dev.endRead (d : Dev) (k base : Nat) (due spanned : List Nat) (data : List Byte) : Dev :=
  let ch := (d.sbus k).changed
  let stray := fun (d : Dev) (e cause : Nat) => let x := d.readOf k e; d.strayRead k e cause x (spanBytes base x.2.1 x.2.2 data)
  let d := due.foldl (fun d e =>
    match tabFind ch e with
    | some _ => stray d e 2
    | none => d.deliverEntry e (spanBytes base (d.mapE e).reg (d.mapE e).len data)) d
  spanned.foldl (fun d e => stray d e (if (tabFind ch e).isSome then 2 else 1)) d

/-- A block read whose PEC failed: every entry's bytes are discarded, and recorded where the register is unflagged. -/
def Dev.endReadPec (d : Dev) (k base : Nat) (due spanned : List Nat) (data : List Byte) : Dev :=
  let d := due.foldl (fun d e => d.setNum (Obj.sbmapState e) 5) d
  (due ++ spanned).foldl (fun d e =>
    if (d.mapE e).flagged then d
    else
      let x := d.readOf k e
      d.strayRead k e 3 x (spanBytes base x.2.1 x.2.2 data)) d

/-- PEC is in use on a slot bus: in the SMBus modes alone (R337). -/
def Dev.pecUsed (d : Dev) (k : Nat) : Bool := d.flag (Obj.sbPec k) && decide (d.num (Obj.sbMode k) ≤ 2)

/-- How a transaction ended; without PEC its bytes are taken as they are (R337, R349). -/
def Dev.sbJudged (d : Dev) (k : Nat) (r : SbResult) : SbResult :=
  match r with
  | .pecFail data => if d.pecUsed k then .pecFail data else .ok data
  | r => r

/-- Alerts found by a poll (R346). -/
def Dev.endAlert (d : Dev) (k : Nat) (addrs : List Byte) : Dev :=
  addrs.foldl (fun d a => (((d.setNum (Obj.sbAlertLast k) a.toNat).inc32 (Obj.sbAlertCount k)).notifySlot k)) d

/-- The bus is free again; what a commit gave a flagged entry takes effect now (R348). -/
def Dev.busFree (d : Dev) (k : Nat) : Dev :=
  let d := (d.sbus k).deferred.foldl (fun d e => d.wr e.1 e.2) d
  d.modSb k (fun b => { b with txn := none, changed := [], deferred := [] })

/-- The state of a mapping entry as it reads: 4 while its bus is not up (R338). -/
def Dev.entryState (d : Dev) (e : Nat) : Nat :=
  let k := d.num (Obj.sbmapSlot e)
  if k < 32 ∧ d.busUp k = false then 4 else d.num (Obj.sbmapState e)

/-! Far requests. -/

/-- The write entry of a value word, if any (R343, R344: at most one). -/
def Dev.writeEntry (d : Dev) (w : Nat) : Option Nat :=
  d.mapEntries.find? (fun e => let m := d.mapE e; decide (m.slot < 32) && m.isWrite && m.word == w)

/-- The request that a write of a value word turns into (R343): the register is written whole where the source field
covers it, else read first. -/
def Dev.farOfWord (d : Dev) (sid e value : Nat) : FarReq :=
  let m := d.mapE e
  let raw := writeRaw m value
  let word := some (m.word, m.dstOff, m.dstWidth, field value m.dstOff m.dstWidth)
  if m.srcOff = 0 ∧ m.srcWidth = 8 * m.len then
    { sid := sid, isWrite := true, addr := m.addr, reg := m.reg, reg16 := m.reg16, len := m.len,
      data := if m.msb then beBytes m.len raw else leBytes m.len raw, word := word, rmw := none, since := d.clk }
  else
    { sid := sid, isWrite := false, addr := m.addr, reg := m.reg, reg16 := m.reg16, len := m.len, data := [],
      word := word, rmw := some (m.srcOff, m.srcWidth, raw, m.msb), since := d.clk }

/-- A far request queued: four at most, S_STATE where the bus is not up (R349, R350). -/
def Dev.queueFar (d : Dev) (k : Nat) (f : FarReq) : Dev × WriteResult :=
  if d.busUp k = false then (d, .done Status.state)
  else if 4 ≤ (d.sbus k).queue.length then (d, .done Status.busy)
  else (d.modSb k (fun b => { b with queue := b.queue ++ [f] }), .wait .farWrite)

/-- A write of `sbval.word` (R343, R349). -/
def Dev.writeValueWord (d : Dev) (sid w value : Nat) : Dev × WriteResult :=
  match d.writeEntry w with
  | none => (d, .done Status.state)
  | some e => d.queueFar (d.mapE e).slot (d.farOfWord sid e value)

/-- A write of `sbfar.cmd` (R350), with the session's own address objects. -/
def Dev.writeFarCmd (d : Dev) (s : Session) (v : Nat) : Dev × WriteResult :=
  let n := fun k => (s.loc k).toNum
  d.queueFar (n Obj.sbfarSlot)
    { sid := s.sid, isWrite := v == 2, addr := n Obj.sbfarAddr, reg := n Obj.sbfarReg, reg16 := bitOf (n Obj.sbfarFlags) 0,
      len := n Obj.sbfarLen, data := if v = 2 then padTo (n Obj.sbfarLen) (s.loc Obj.sbfarData).toBytes else [],
      word := none, rmw := none, since := d.clk }

/-- `sbg.stray_clear` (R351). -/
def Dev.clearStray (d : Dev) : Dev := { d with stray := [] }

/-- SB_BUS_TIMEOUT (R339): SCL held low: the transaction ends with a bus recovery; read entries read state 3, and a far
access ends with S_FAR_TIMEOUT. -/
def execSbBusTimeout (k : Fin 32) (s : State) : Host.Outcome State Fault Refusal :=
  match (s.dev.sbus k).txn with
  | none => .next s
  | some t =>
    let d := ((s.dev.inc32 (Obj.sbTimeoutCount k)).inc32 (Obj.sbRecoveries k)).emit (.sbRecovery k)
    let d := match t with
      | .read _ _ _ due _ => due.foldl (fun (x : Dev) e => x.setNum (Obj.sbmapState e) 3) d
      | .alert => d
      | .far f => d.failWaiting f.sid Status.farTimeout
    onDev s (d.busFree k)

/-- A transaction on the bus whose access has been answered ends without effect on the word or the session (R349). -/
def SbTxn.orphan (t : SbTxn) (sid : Nat) : SbTxn :=
  match t with
  | .far f => if f.sid = sid then .far { f with sid := 0, word := none } else .far f
  | t => t

/-- SB_FAR_TIMEOUT (R349): the write has not ended after `sbg.far_timeout`; one that has not started is never issued. -/
def execSbFarTimeout (sid : Nat) (s : State) : Host.Outcome State Fault Refusal :=
  match (s.dev.ses sid).bind (fun (x : Session) => x.exec) with
  | some e =>
    if e.wait = .farWrite then
      let sb := s.dev.sb.map (fun (b : Nat × Sb) => (b.1, { b.2 with
        queue := b.2.queue.filter (fun f => f.sid != sid),
        txn := b.2.txn.map (fun t => t.orphan sid) }))
      onDev s (({ s.dev with sb := sb }).failWaiting sid Status.farTimeout)
    else .next s
  | none => .next s

/-- LED0 and LED1 of a slot as its objects ask for them, codes 0 off, 1 on, 2 blink (R341): a bound port's indicators in hierarchy mode
with `sb.led_source` 0 (Slot Control [9:8] power, [7:6] attention: 1 on, 2 blink, 3 off; assumption log 8), else
`sb.led`. -/
def Dev.ledsAsked (d : Dev) (k : Nat) : Nat × Nat :=
  let own := (field (d.num (Obj.sbLed k)) 0 2, field (d.num (Obj.sbLed k)) 2 2)
  match d.portOfSlot k with
  | some p =>
    if d.num (Obj.sbLedSource k) = 0 ∧ d.fabricMode = false then
      let c := d.cfgReg (dsp p) .slotControl
      (field c 8 2 % 3, field c 6 2 % 3)
    else own
  | none => own

/-- LED0 and LED1 of a slot as driven (R40): latched with group SBR, off in Crocus mode, in a warm reset, in Deep sleep and in
Off, else as asked for. -/
def Dev.leds (d : Dev) (k : Nat) : Nat × Nat :=
  if d.padHeld 20 then tabGet d.pwr.leds k (0, 0)
  else if d.crocus || !d.boot.released || d.num Obj.pwrState == 3 || d.num Obj.pwrState == 4 then (0, 0)
  else d.ledsAsked k

end Sys2Proof.Machine
end

