-- ==== Sys2Proof/Machine/Power.lean ====
section
/-!
DEFINITION. Sys2Proof/Machine/Power.lean: power states, the AO counter, thermal sensing and Perennial (15; R353 to
R374), and held pads (R42).
-/
namespace Sys2Proof.Machine

abbrev PwrSt.run : Nat := 0
abbrev PwrSt.idle : Nat := 1
abbrev PwrSt.sleep : Nat := 2
abbrev PwrSt.deep : Nat := 3
abbrev PwrSt.off : Nat := 4
abbrev PwrSt.entering : Nat := 5
abbrev PwrSt.exiting : Nat := 6

/-- Harvest is capturing (R386): enabled, with a filter in mode 1 or 2. -/
def Dev.harvesting (d : Dev) : Bool :=
  d.flag Obj.harvEnable && (List.range 64).any (fun f => d.num (Obj.harvFilterMode f) != 0)

/-- The conditions of R354. -/
def Dev.quiet (d : Dev) : Bool :=
  allPorts.all (fun p => !d.flag (Obj.portEnable p) || d.num (Obj.portRole p) == 2 || !d.dlUp p || d.inL12 p) &&
  (List.range 16).all (fun i => d.num (Obj.bflState i) != 2) &&
  d.bufW.frames.isEmpty && d.bufE.frames.isEmpty &&
  d.rme.qps.all (fun q => q.2.unacked.isEmpty && q.2.sqProd == q.2.sqFetched) &&
  !d.harvesting && d.commit.isNone

/-- IDLE_ENTER (R354): Idle is armed and its conditions have held for 10 us. -/
def execIdleEnter (s : State) : Host.Outcome State Fault Refusal :=
  if s.dev.num Obj.pwrState = PwrSt.run ∧ s.dev.flag Obj.pwrIdleArmed ∧ s.dev.quiet then
    onDev s (s.dev.setNum Obj.pwrState PwrSt.idle)
  else .next s

/-- IDLE_EXIT (R354): the clocks are ungated; Idle stays armed. -/
def execIdleExit (s : State) : Host.Outcome State Fault Refusal :=
  if s.dev.num Obj.pwrState = PwrSt.idle then onDev s (s.dev.setNum Obj.pwrState PwrSt.run) else .next s

/-- The status of a request for Sleep, Deep sleep or Off (R355, in its order). -/
def Dev.sleepCheck (d : Dev) (v : Nat) : Nat :=
  if d.commit.isSome then Status.busy
  else if allPorts.any (fun p => d.flag (Obj.portEnable p) && d.num (Obj.portRole p) != 2 && d.dlUp p && d.num (Obj.pstLtssm p) != 6) then
    Status.state
  else if d.num Obj.pairState = 1 ∨ d.num Obj.pairState = 2 ∨ d.num Obj.pairState = 3 then Status.state
  else if 3 ≤ v ∧ (List.range 32).any (fun k => d.slotLive k) then Status.state
  else if 3 ≤ v ∧ (d.recordsWith 0x6000 4096 0x0B).any (fun n => decide (d.num (Obj.rmeSliceState n) ≤ 3)) then Status.quiesce
  else Status.ok

/-- Pad groups latched at an entry (R359): all for Sleep, lane and xSPI groups for Deep sleep, none for Off. -/
def latchedGroups (v : Nat) : Nat :=
  match v with
  | 2 => 0x7FFFFF
  | 3 => 0x60FFFF
  | _ => 0

/-- A write of `pwr.state_req` (R354, R355, "Device state machine"). -/
def Dev.writeStateReq (d : Dev) (v : Nat) : Dev × Nat :=
  let st := d.num Obj.pwrState
  match v with
  | 0 =>
    if st = PwrSt.run ∨ st = PwrSt.idle then ((d.setNum Obj.pwrIdleArmed 0).setNum Obj.pwrState PwrSt.run, Status.ok)
    else if st = PwrSt.sleep then
      ({ (d.setNum Obj.pwrState PwrSt.exiting) with pwr := { d.pwr with wakeAt := d.clk, exitFrom := st, byWakeN := false } }, Status.ok)
    else (d, Status.state)
  | 1 => if st = PwrSt.run ∨ st = PwrSt.idle then (d.setNum Obj.pwrIdleArmed 1, Status.ok) else (d, Status.state)
  | _ =>
    if st = PwrSt.run ∨ st = PwrSt.idle ∨ st = PwrSt.sleep then
      let c := d.sleepCheck v
      if c = Status.ok then
        let leds := (List.range 32).map (fun k => (k, d.leds k))
        let d := (d.setNum Obj.pwrState PwrSt.entering).setNum Obj.pwrPadHoldHeld (d.num Obj.pwrPadHoldHeld ||| latchedGroups v)
        let d := if v = 2 then { d with pwr := { d.pwr with leds := leds } } else d
        let d := if v = 2 then (List.range 32).foldl (fun d k => d.busDown k) d else d
        ({ d with pwr := { d.pwr with target := v } }, Status.ok)
      else (d, c)
    else (d, Status.state)

/-- Watchdogs of halves whose management domain is off are suspended (R356). -/
def Dev.suspendWatchdogs (d : Dev) (keep : Option Half) : Dev :=
  let f := fun (d : Dev) (h : Half) => if keep = some h then d else d.modWatchdog h (fun w => { w with suspended := true })
  f (f d .west) .east

/-- Fabric time stops, where it has not stopped already (R364). -/
def Dev.stopTime (d : Dev) : Dev :=
  if d.clocks.stopped then d else { d with clocks := { d.clocks with stopped := true, aoAtStop := d.aoCount } }

/-- What the PA die's wake logic keeps in Off: the alarm (R360). -/
def Dev.keepAlarm (d old : Dev) : Dev := d.setNum Obj.pwrAlarm (old.num Obj.pwrAlarm)

/-- PWR_ENTRY_DONE (R356, R359, R388): the last entry step ends in Sleep, Deep sleep or Off. -/
def execPwrEntryDone (s : State) : Host.Outcome State Fault Refusal :=
  let d := s.dev
  if d.num Obj.pwrState = PwrSt.entering then
    let t := d.pwr.target
    let d := d.stopTime
    if t = 2 then
      let d := (d.unlockEnd.endSessions (fun x => !x.isNet && !x.isPolicy)).suspendWatchdogs d.holder
      onDev s ((d.setNum Obj.pwrState PwrSt.sleep).receiversFollow (List.range 256))
    else if t = 3 then
      let d := ((d.unlockEnd.endSessions (fun x => !x.isPolicy)).suspendWatchdogs none).allSlotsShut.orGatesOff
      let d := { d with rme := {}, seam := {}, boot := { d.boot with qdrTrained := [], laneCalDone := false } }
      onDev s (((d.setNum Obj.coreSeamState 1).setNum Obj.pwrState PwrSt.deep).receiversFollow (List.range 256))
    else
      let d := (d.unlockEnd.halvesReset.allSlotsShut.orGatesOff).keepAlarm d
      onDev s { (d.setNum Obj.pwrState PwrSt.off) with boot := {}, pwr := { d.pwr with off := true } }
  else .next s

/-- The states in which a wake event acts (15, "Wake mask bits"). -/
def wakeActs (w : WakeSource) (st : Nat) : Bool :=
  match w with
  | .wakeN | .alarm => st == 2 || st == 3 || st == 4
  | .perstin | .presence => st == 2 || st == 3
  | .attention | .slotFault | .fbpRequest | .thermal => st == 2

/-- A wake event is enabled (R360): by its mask bit, WAKE_N always, the alarm while it is set; WAKE_N is ignored while
the device itself drives it. -/
def Dev.wakeEnabled (d : Dev) (w : WakeSource) : Bool :=
  match w with
  | .wakeN => decide (d.pins.wakePulseEnd ≤ d.clk)
  | .alarm => d.num Obj.pwrAlarm != 0 && bitOf (d.num Obj.pwrWakeMask) 5
  | w => bitOf (d.num Obj.pwrWakeMask) w.bit

/-- WAKE_EVENT (R355, R358, R360): an entry is abandoned, a sleep is left, and in Off the device waits for its rails. -/
def execWakeEvent (w : WakeSource) (s : State) : Host.Outcome State Fault Refusal :=
  let d := s.dev
  let st := d.num Obj.pwrState
  let acting := if st = PwrSt.entering then d.pwr.target else st
  if wakeActs w acting && d.wakeEnabled w then
    let d := d.setNum Obj.pwrWakeCause (2 ^ w.bit)
    let p := { d.pwr with wakeAt := d.clk, exitFrom := st, byWakeN := w == .wakeN }
    if st = PwrSt.off then onDev s { d with pwr := p }
    else
      let d := if st = PwrSt.entering then d.inc32 Obj.pwrAborted else d
      onDev s { (d.setNum Obj.pwrState PwrSt.exiting) with pwr := p }
  else .next s

/-- Every PTM offset becomes invalid (R364). -/
def Dev.ptmInvalid (d : Dev) : Dev :=
  (List.range 64).foldl (fun d v => (d.setNum (Obj.vsPtmValid v) 0).setNum (Obj.fhostPtmValid v) 0) d

/-- Fabric time steps forward by whole AO ticks of 122,070.3125 units, rounded down (R364). -/
def Dev.stepTime (d : Dev) : Dev :=
  if d.clocks.stopped then
    let units := (d.aoCount - d.clocks.aoAtStop) * 1953125 / 16
    { d with clocks := { d.clocks with stopped := false, west := (d.clocks.west + units) % 2 ^ 64, east := (d.clocks.east + units) % 2 ^ 64 } }
  else d

/-- Policy firmware's session of a half, opened where it has none (R405). -/
def Dev.openFirmware (d : Dev) (h : Half) : Dev :=
  if d.sessions.any (fun s => s.transport == .firmware h) then d else d.openSession (.firmware h) .owner 0xFFFF h

/-- PWR_EXIT_DONE (R353, R356, R357, R360, R364): Run is reached, fabric time has stepped, watchdogs are armed again, and
WAKE_N is pulsed unless it caused the exit. Holds stay. -/
def execPwrExitDone (s : State) : Host.Outcome State Fault Refusal :=
  let d := s.dev
  if d.num Obj.pwrState = PwrSt.exiting then
    let wasStopped := d.clocks.stopped
    let d := d.stepTime
    let d := if wasStopped then d.ptmInvalid else d
    let re := fun (w : Watchdog) => if w.suspended then { w with suspended := false, lastKick := d.clk } else w
    let d := { d with pa := { d.pa with wdW := re d.pa.wdW, wdE := re d.pa.wdE } }
    let d := if d.boot.firmwareW then d.openFirmware .west else d
    let d := if d.boot.firmwareE then d.openFirmware .east else d
    let d := if wasStopped then (List.range 256).foldl (fun d l => d.modLane l (fun x => { x with passDue := true })) d else d
    let d := if wasStopped then (d.setNum Obj.pwrState PwrSt.run).receiversFollow (List.range 256) else d
    let d := ((d.setNum Obj.pwrState PwrSt.run).followAllFeeds.setNum Obj.pwrIdleArmed 0).setNum Obj.pwrExitTime ((d.clk - d.pwr.wakeAt) / us 1 % 2 ^ 32)
    let pulse := !d.pwr.byWakeN && d.flag Obj.pwrWakePulse
    onDev s { d with pwr := { d.pwr with target := 0, exitFrom := 0 },
                     pins := { d.pins with wakePulseEnd := if pulse then d.clk + ms 10 else d.pins.wakePulseEnd } }
  else .next s

/-- OFF_WAKE_RAILS_GOOD (R358): the halves are released as at a warm reset, which counts as a boot attempt. -/
def execOffWakeRailsGood (s : State) : Host.Outcome State Fault Refusal :=
  let d := s.dev
  if d.pwr.off && d.pwr.exitFrom == 4 then
    onDev s (({ (d.setNum Obj.pwrState PwrSt.run) with pwr := {} } : Dev).release).followAllFeeds
  else .next s

/-- OFF_WAKE_TIMEOUT (R358): the rails are not good within 1 s; the device stays in Off and counts it. -/
def execOffWakeTimeout (s : State) : Host.Outcome State Fault Refusal :=
  let d := s.dev
  if d.pwr.off && d.pwr.exitFrom == 4 then
    let d := (d.advanceTo (d.pwr.wakeAt + sec 1)).inc32 Obj.pwrAborted
    onDev s { d with pwr := { d.pwr with exitFrom := 0 } }
  else .next s

/-! Held pads. -/

/-- The power domain of a pad group is on (R359): every one in Run and Idle; in Sleep, and while it is entered or left, those of the
slot groups and of the rake holder's management cluster, which drives its xSPI pads (assumption log 107, DEDUCED). -/
def Dev.groupAwake (d : Dev) (g : Nat) : Bool :=
  let st := d.num Obj.pwrState
  let asleep := st == PwrSt.sleep || (st == PwrSt.entering && d.pwr.target == 2) || (st == PwrSt.exiting && (d.pwr.exitFrom == 2 || d.pwr.exitFrom == PwrSt.entering && d.pwr.target == 2))
  st == PwrSt.run || st == PwrSt.idle || (asleep && ((decide (16 ≤ g) && decide (g ≤ 19)) || (g == 21 && d.holderHalf == .west) || (g == 22 && d.holderHalf == .east)))

/-- A write of `pwr.pad_hold.release` (R42): a group whose domain has not completed its wake refuses the whole write with
S_BUSY; a group that is not held is left alone. -/
def Dev.writePadRelease (d : Dev) (v : Nat) : Dev × Nat :=
  let held := d.num Obj.pwrPadHoldHeld
  if (bitsSet 23 (held &&& v)).any (fun g => !d.groupAwake g) then (d, Status.busy)
  else (d.setNum Obj.pwrPadHoldHeld (held - (held &&& v)), Status.ok)

/-! The AO counter. -/

/-- AO_CRYSTAL_STOP (R363): the counter goes on from the RC, and event 0x0605 is logged. -/
def execAoCrystalStop (s : State) : Host.Outcome State Fault Refusal :=
  let d := s.dev
  if d.clocks.aoRunning ∧ d.num Obj.pwrAoSource = 0 then
    let d := { d with clocks := { d.clocks with aoBase := d.aoCount, aoSince := d.clk } }
    onDev s ((d.setNum Obj.pwrAoSource 1).logEvent d.holderHalf Scope.device 0 1 0x0605)
  else .next s

/-- AO_CRYSTAL_RESUME (R363): the crystal takes over again. -/
def execAoCrystalResume (s : State) : Host.Outcome State Fault Refusal :=
  let d := s.dev
  if d.num Obj.pwrAoSource = 1 then
    let d := { d with clocks := { d.clocks with aoBase := d.aoCount, aoSince := d.clk } }
    onDev s (d.setNum Obj.pwrAoSource 0)
  else .next s

/-! Thermal sensing. -/

/-- The hottest sensor of a half, FX32 degrees. -/
def Dev.hottest (d : Dev) (h : Half) : Nat :=
  maxOf ((List.range 13).map (fun i => d.num (Obj.pwrSensorTemp (13 * h.code + i))))

/-- A half's warning: at most once a minute it is logged and raises class [3] (R365). -/
def Dev.thermalWarn (d : Dev) (h : Half) : Dev :=
  let last := byHalf h d.pwr.warnW d.pwr.warnE
  let due : Bool := match last with
    | none => true
    | some t => d.elapsed t (sec 60)
  if d.num Obj.pwrThermWarn * 65536 ≤ d.hottest h ∧ due = true then
    let d := { d with pwr := byHalf h { d.pwr with warnW := some d.clk } { d.pwr with warnE := some d.clk } }
    let d := d.logEvent h Scope.device 0 3 0x0604
    d.notify 3 Session.notTenant (fun _ => [numItem Obj.pwrThermMax .fx32 (d.num Obj.pwrThermMax)])
  else d

/-- THERMAL_SAMPLE (R365): the 28 sensors are read, in degrees. -/
def execThermalSample (temps : List Nat) (s : State) : Host.Outcome State Fault Refusal :=
  let d := s.dev
  let d := (List.range 28).foldl (fun d i =>
    match temps[i]? with
    | some t => d.setNum (Obj.pwrSensorTemp i) (t * 65536 % 2 ^ 32)
    | none => d) d
  let hot := maxOf ((List.range 28).map (fun i => d.num (Obj.pwrSensorTemp i)))
  let d := (d.setNum Obj.pwrThermMax hot).setNum Obj.pwrThermMaxSeen (max hot (d.num Obj.pwrThermMaxSeen))
  onDev s ((d.thermalWarn .west).thermalWarn .east)

/-- The object that shows a half's throttle fraction. -/
def throttleKey (h : Half) : Key := byHalf h Obj.pwrThermThrottlePctW Obj.pwrThermThrottlePctE

/-- A half's throttle fraction set, in eighths. -/
def Dev.setThrottle (d : Dev) (h : Half) (f : Nat) : Dev :=
  ({ d with pwr := byHalf h { d.pwr with throttleW := f } { d.pwr with throttleE := f } }).setNum (throttleKey h) (f * 100 / 8)

/-- THROTTLE_STEP (R366): f rises by 12.5% every 1 ms up to 50% at or above the threshold, and falls by 12.5% every 10 ms
below the threshold less 3 degrees. -/
def execThrottleStep (h : Half) (s : State) : Host.Outcome State Fault Refusal :=
  let d := s.dev
  let f := byHalf h d.pwr.throttleW d.pwr.throttleE
  let t := d.num Obj.pwrThermThrottle * 65536
  if t ≤ d.hottest h then
    let d := if 0 < f then d.inc64 Obj.pwrThermThrottleTime 1000 else d
    onDev s (d.setThrottle h (min 4 (f + 1)))
  else if d.hottest h < t - 3 * 65536 then
    let d := if 0 < f then d.inc64 Obj.pwrThermThrottleTime 10000 else d
    onDev s (d.setThrottle h (f - 1))
  else .next s

/-! Perennial. -/

/-- `per.status`: bit 0 tells whether a baseline record stands (R369). -/
def Dev.perStatusWord (d : Dev) : Nat := setBit (d.num Obj.perStatus) 0 d.per.baseline.isSome

/-- Class [5] to owner, observers and administrators. -/
def Dev.notifyPerennial (d : Dev) : Dev :=
  d.notify 5 Session.notTenant (fun _ => [numItem Obj.perStatus .u16 d.perStatusWord])

/-- A bit of `per.status`. -/
def Dev.perBit (d : Dev) (k : Nat) (b : Bool) : Dev := d.setNum Obj.perStatus (setBit (d.num Obj.perStatus) k b)

/-- The Perennial objects of a half. -/
def ageingKey (h : Half) : Key := byHalf h Obj.perAgeingW Obj.perAgeingE
def slackKey (h : Half) : Key := byHalf h Obj.perSlackW Obj.perSlackE
def requestKey (h : Half) : Key := byHalf h Obj.perVddRequestW Obj.perVddRequestE
def measuredKey (h : Half) : Key := byHalf h Obj.perVddMeasuredW Obj.perVddMeasuredE

/-- PERENNIAL_MEASURE (R368): only in Run and while `per.enable` is 1. -/
def execPerennialMeasure (h : Half) (ageing slack : Nat) (qdrOk seamOk : Bool) (s : State) : Host.Outcome State Fault Refusal :=
  let d := s.dev
  if d.flag Obj.perEnable ∧ d.num Obj.pwrState = PwrSt.run then
    let d := (d.setNum (ageingKey h) (ageing % 2 ^ 32)).setNum (slackKey h) (slack % 2 ^ 32)
    onDev s (((d.perBit 1 false).perBit 5 (!qdrOk)).perBit 6 (!seamOk))
  else .next s

/-- The lanes of a half. -/
def lanesOfHalf (h : Half) : List Nat := (List.range 128).map (fun i => 128 * h.code + i)

/-- The bytes that a summary's successor digests (R370). -/
def Summary.bytes (r : Summary) : List Byte :=
  beBytes 1 r.half.code ++ beBytes 4 r.hours ++ beBytes 4 r.ageing ++ beBytes 4 r.slack ++ beBytes 2 r.rail ++ beBytes 2 r.eye ++ r.chain

/-- The powered hour of a half's last summary; 0 at the baseline. -/
def Dev.lastHours (d : Dev) (h : Half) : Nat := ((d.per.ring.find? (fun r => r.half == h)).map (fun r => r.hours)).getD 0

/-- `per.run_hours`: powered hours since the baseline, as the summaries count them (R368, R371). -/
def Dev.runHours (d : Dev) : Nat := max (d.lastHours .west) (d.lastHours .east)

/-- The (hour, ageing) points of a half's summaries (R371). -/
def Dev.ageingPoints (d : Dev) (h : Half) : List (Nat × Nat) :=
  (d.per.ring.filter (fun r => r.half == h)).map (fun r => (r.hours, r.ageing))

/-- The highest rate, downwards from a code, whose projected eye meets the floor; 0 for none (R373). -/
def adviseRate (eyes : List (Nat × Nat)) (life floor : Nat) : Nat → Nat
  | 0 => 0
  | r + 1 => if floor ≤ Config.eyeProjectionAt (r + 1) eyes life then r + 1 else adviseRate eyes life floor r

/-- A lane's eye trend at a summary (R373): a projection below the floor moves the starting preset at most three times,
and after that logs event 0x0105 and advises a rate. -/
def Dev.projectLane (d : Dev) (hours l : Nat) : Dev :=
  let eyes := (d.lane l).eyes ++ [(hours, d.num (Obj.laneEyeHeight l))]
  let d := d.modLane l (fun x => { x with eyes := eyes })
  let rate := d.num (Obj.laneRate l)
  let life := d.num Obj.perLifeHours
  let floor := d.num Obj.perLaneFloor
  if rate = 0 then d
  else
    let proj := Config.eyeProjection eyes life
    let d := match d.portOfLane l with
      | some p =>
        if d.num (Obj.perPortEyeProjection p) = 0 ∨ proj < d.num (Obj.perPortEyeProjection p) then d.setNum (Obj.perPortEyeProjection p) (proj % 2 ^ 16) else d
      | none => d
    if proj < floor then
      if (d.lane l).presetMoves < 3 then d.modLane l (fun x => { x with presetMoves := x.presetMoves + 1 })
      else
        let adv := adviseRate eyes life floor rate
        let d := d.logEvent (Half.ofLane l) Scope.lane l 3 0x0105 (beBytes 1 adv)
        match d.portOfLane l with
        | some p => (d.setNum (Obj.perPortRateAdvice p) adv).perBit 4 true
        | none => d
    else d

/-- The lanes of a half at a summary; each port's projection is that of its worst lane now (R373). -/
def Dev.projectHalf (d : Dev) (h : Half) (hours : Nat) : Dev :=
  let d := (portsOfHalf h).foldl (fun d p => d.setNum (Obj.perPortEyeProjection p) 0) d
  (lanesOfHalf h).foldl (fun d l => d.projectLane hours l) d

/-- PERENNIAL_SUMMARY (R368, R370, R373): every 24 powered hours a chained record of the half is written. -/
def execPerennialSummary (h : Half) (s : State) : Host.Outcome State Fault Refusal :=
  let d := s.dev
  if d.per.baselineTaken then
    let hours := d.lastHours h + 24
    let eye := (lanesOfHalf h).foldl (fun a l => let e := d.num (Obj.laneEyeHeight l); if e = 0 then a else if a = 0 then e else min a e) 0
    let prev := match d.per.ring with
      | [] => (d.per.baseline).getD []
      | r :: _ => r.bytes
    let r : Summary := ⟨h, hours, d.num (ageingKey h), d.num (slackKey h), d.num (requestKey h), eye, Config.shake256 prev 32⟩
    onDev s (({ d with per := { d.per with ring := (r :: d.per.ring).take 3968 } }).projectHalf h hours)
  else .next s

/-- The core rail request of R371, with its two loops unrolled over at most 31 steps of 5 mV. -/
def replanUp : Nat → Int → Int → Int → Nat → Int × Nat
  | 0, s, _, _, req => (s, req)
  | n + 1, s, p, margin, req =>
    if s - p < margin ∧ req < 850 then replanUp n (s + 0x999A) p margin (req + 5) else (s, req)

/-- The second loop of R371. -/
def replanDown : Nat → Int → Int → Int → Nat → Int × Nat
  | 0, s, _, _, req => (s, req)
  | n + 1, s, p, margin, req =>
    if margin ≤ s - p - 2 * 0x999A ∧ 700 < req then replanDown n (s - 0x999A) p margin (req - 5) else (s, req)

/-- A re-plan of a half (R371). -/
def Dev.replan (d : Dev) (h : Half) : Dev :=
  if d.per.baselineTaken && d.flag Obj.perEnable then
    let pts := d.ageingPoints h
    let p : Int := toSigned 32 (Config.ageingLoss pts d.runHours (d.num Obj.perReplanPeriod))
    let margin : Int := toSigned 32 (d.num Obj.perVddMargin)
    let old := d.num (requestKey h)
    let u := replanUp 31 (toSigned 32 (d.num (slackKey h))) p margin old
    let w := replanDown 31 u.1 p margin u.2
    let d := d.setNum (requestKey h) w.2
    let d := d.setNum Obj.perExhaustHours (Config.exhaustHours pts d.runHours (d.num Obj.perLifeHours) % 2 ^ 32)
    let d := if w.2 = old then d else (d.emit (.rail h w.2)).notifyPerennial
    if w.1 - p < margin then ((d.perBit 3 true).logEvent h Scope.half h.code 3 0x0512 [1]).notifyPerennial else d.perBit 3 false
  else d

/-- PERENNIAL_REPLAN (R371). -/
def execPerennialReplan (h : Half) (s : State) : Host.Outcome State Fault Refusal := onDev s (s.dev.replan h)

/-- RAIL_FOLLOW_TIMEOUT (R372): a rail more than 10 mV from its request for 1 s is flagged and logged, and the request
repeated. -/
def execRailFollowTimeout (h : Half) (measured : Nat) (s : State) : Host.Outcome State Fault Refusal :=
  let d := s.dev.setNum (measuredKey h) (measured % 2 ^ 16)
  let req := d.num (requestKey h)
  if req + 10 < measured ∨ measured + 10 < req then
    onDev s (((d.perBit 2 true).logEvent h Scope.half h.code 1 0x0511 (beBytes 2 req)).emit (.rail h req))
  else onDev s (d.perBit 2 false)

/-- The Perennial baseline at health declaration (R369): written where the PA-die flag or a valid record is missing. -/
def Dev.takeBaseline (d : Dev) : Dev :=
  if d.pa.baselineFlag && d.per.baseline.isSome then { d with per := { d.per with baselineTaken := true } }
  else
    let body := beBytes 4 (d.num Obj.perAgeingW) ++ beBytes 4 (d.num Obj.perAgeingE) ++ beBytes 4 (d.num Obj.perSlackW) ++ beBytes 4 (d.num Obj.perSlackE)
    let again := d.pa.baselineFlag
    let d := { d with per := { baseline := some (body ++ Config.mlDsaSign body), baselineTaken := true, origin := if again then 2 else 1 },
                      pa := { d.pa with baselineFlag := true } }
    if again then d.logEvent d.holderHalf Scope.half d.holderHalf.code 3 0x0512 [2] else d

/-- A write of `per.cmd` (R368, R371, R373): 1 starts a measurement, 2 re-plans both halves; 3 retrains the seam modules
one at a time, which the core chapter's operation does. -/
def Dev.writePerCmd (d : Dev) (v : Nat) : Dev :=
  match v with
  | 1 => if d.flag Obj.perEnable then d.perBit 1 true else d
  | _ => (d.replan .west).replan .east

/-! Domains. -/

/-- Bits from an offset, by a test. -/
def domBits (off n : Nat) (f : Nat → Bool) : Nat := packBits ((List.range n).map f) * 2 ^ off

/-- `pwr.dom.on` (R359). -/
def Dev.domOn (d : Dev) : Nat :=
  let st := d.num Obj.pwrState
  let staOn := fun n => (List.range 8).any (fun i => d.flag (Obj.portEnable (8 * n + i)))
  let sliceOn := fun (h : Nat) => (d.recordsWith 0x6000 4096 1).any (fun n => n / 2048 == h)
  if st = 0 ∨ st = 1 ∨ st = 5 ∨ st = 6 then
    domBits 0 16 staOn + domBits 16 16 staOn + 0xF * 2 ^ 32 + domBits 36 2 sliceOn + 0xF * 2 ^ 38 +
      domBits 42 2 (fun _ => d.flag Obj.harvEnable && st != 1) + 0x1F * 2 ^ 44
  else if st = 2 then domBits 40 2 (fun h => d.holder == some (Half.ofCode h)) + 0xF * 2 ^ 44
  else 0

/-- `pwr.dom.retained` (R359). -/
def Dev.domRetained (d : Dev) : Nat :=
  let st := d.num Obj.pwrState
  if st = 2 then 0xFFFF * 2 ^ 16 + 0x3 * 2 ^ 32 + 0x3 * 2 ^ 36 + 0x3 * 2 ^ 38 + domBits 40 2 (fun h => d.holder != some (Half.ofCode h))
  else if st = 3 then 0xFFFF * 2 ^ 16 + 0x3 * 2 ^ 32 + 0x3 * 2 ^ 40
  else 0

end Sys2Proof.Machine
end

