-- ==== Sys2Proof/Machine/Seam.lean ====
section
/-!
DEFINITION. Sys2Proof/Machine/Seam.lean: the seam: its modules, admission and crossing, faults, heartbeats and time, and
the halt of a half (R188 to R193, R318, R319).
-/
namespace Sys2Proof.Machine

/-! Modules. -/

/-- Modules of a direction. -/
def Dev.seamMods (d : Dev) : SeamDir → List (Nat × SeamModule)
  | .we => d.seam.we
  | .ew => d.seam.ew

/-- A module. -/
def Dev.seamMod (d : Dev) (x : SeamDir) (m : Nat) : SeamModule := tabGet (d.seamMods x) m {}

/-- A module changed. -/
def Dev.modSeamMod (d : Dev) (x : SeamDir) (m : Nat) (f : SeamModule → SeamModule) : Dev :=
  match x with
  | .we => { d with seam := { d.seam with we := tabMod d.seam.we m {} f } }
  | .ew => { d with seam := { d.seam with ew := tabMod d.seam.ew m {} f } }

/-- The service bits of a direction (0x5050:02, 0x5050:03). -/
def seamBits : SeamDir → Key
  | .we => Obj.coreSeamModulesWe
  | .ew => Obj.coreSeamModulesEw

/-- A module is in service: trained and not retired. -/
def Dev.inService (d : Dev) (x : SeamDir) (m : Nat) : Bool := bitOf (d.num (seamBits x)) m

/-- Retired modules of a direction. -/
def Dev.retiredMods (d : Dev) (x : SeamDir) : List Nat := (List.range 8).filter (fun m => (d.seamMod x m).st == .retired)

/-- The module that serves a number: itself, or the first in service in the order m XOR 1 to m XOR 7 (R188). -/
def Dev.seamServes (d : Dev) (x : SeamDir) (m : Nat) : Option Nat :=
  ((List.range 8).map (fun k => Nat.xor m k)).find? (fun i => d.inService x i)

/-- The module of a direction that carries the control channels (R191): module 0, or the lowest in service where it is
retired. -/
def Dev.controlModule (d : Dev) (x : SeamDir) : Option Nat :=
  if (d.seamMod x 0).st = .retired then (List.range 8).find? (fun m => d.inService x m) else some 0

/-- The control channels of a direction pass (R191): their module is ACTIVE, or replays. -/
def Dev.controlUp (d : Dev) (x : SeamDir) : Bool :=
  d.seamOpen && (d.controlModule x).any (fun m => (d.seamMod x m).st == .active || (d.seamMod x m).st == .retry)

/-- The module that a station's frames take (R188). -/
def Dev.stationModule (d : Dev) (st : Nat) : Option Nat := d.seamServes (SeamDir.ofSender (Half.ofStation st)) (st % 8)

/-- `core.seam.state` follows the modules: TRAINING while one trains, DEGRADED once one is retired. -/
def Dev.refreshSeam (d : Dev) : Dev :=
  if d.seam.lost then d
  else
    let all := (List.range 8).map (fun m => (d.seamMod .we m).st) ++ (List.range 8).map (fun m => (d.seamMod .ew m).st)
    let st := if all.any (fun s => s == .training) then 1 else if all.any (fun s => s == .retired) then 3 else 2
    let d := if d.seamUp then d else { d with seam := { d.seam with hbW := d.clk, hbE := d.clk } }
    d.setNum Obj.coreSeamState st

/-- An event of the seam is recorded in each half. -/
def Dev.seamEvent (d : Dev) (sev ev : Nat) : Dev :=
  (d.logEvent .west Scope.half 0 sev ev).logEvent .east Scope.half 1 sev ev

/-! The seam is lost (R192, R319). -/

/-- A node's upstream port lies in a half. -/
def Dev.nodeHalf (d : Dev) (v : Nat) : Option Half := (d.upstreamOf v).map Half.ofPort

/-- The switch functions of a node for targets on the other half: link down and surprise down in the configuration space
that the upstream port's half serves; in fabric mode the bindings read state 4 (R319). -/
def Dev.nodeCut (d : Dev) (v : Nat) : Dev :=
  match d.nodeHalf v with
  | none => d
  | some h =>
    if d.fabricMode then
      ((d.boundTo v).filter (fun b => ((d.portOfBinding b).map Half.ofPort).any (fun x => x != h))).foldl (fun d b =>
        if d.num (Obj.bindState b) = 4 then d else (d.bindTo b 4).synthLink b false false) d
    else
      ((d.downstreamOf v).filter (fun p => Half.ofPort p != h)).foldl (fun d p =>
        (d.orCfg (dsp p) .slotStatus slotStLinkChanged).aerUncor p Aer.surpriseDown) d

/-- A QP's peer is on the other half of this device. -/
def Dev.peerAcross (d : Dev) (k : Nat) (q : Qp) : Bool := !d.remoteTwin q && Half.ofCode (field q.remote 23 1) != keyHalf k

/-- The seam becomes LOST: the record, the events, the frames that wait to cross, and what each node, QP and slice sees. -/
def Dev.seamLost (d : Dev) : Dev :=
  if d.seam.lost then d
  else
    let waiting := d.bufW.crossing ++ d.bufE.crossing
    let across := fun (q : QFrame) => q.inHalf != q.outHalf
    let held := (d.bufW.held ++ d.bufE.held).filter across
    let here := fun (l : List QFrame) => l.filter (fun q => !across q)
    let d := (d.seamEvent 2 0x050B).setNum Obj.coreSeamState 4
    let d := d.setNum Obj.coreSeamLostTime (d.time .west)
    let d := { d with seam := { d.seam with lost := true, retune := none },
                      bufW := { d.bufW with seamQueue := [], held := here d.bufW.held }, bufE := { d.bufE with seamQueue := [], held := here d.bufE.held } }
    let d := d.endSessions (fun s => s.transport == .seam .west || s.transport == .seam .east)
    let d := (waiting ++ held).foldl (fun d q => d.endQueued q .policy (d.portRid q.outPort)) d
    let d := (List.range 64).foldl (fun d v => if d.nodeState v = 0 then d else d.nodeCut v) d
    let d := d.losePaths d.peerAcross
    (d.knownSlices.filter (fun n => (d.nodeHalf (d.num (Obj.rmeSliceOwner n))).any (fun h => h != Half.ofSlice n))).foldl
      (fun d n => d.loseHost n) d

/-! The module state machine ("Seam faults"). -/

/-- A channel's frames in flight on a module, changed. -/
def Dev.useCredit (d : Dev) (x : SeamDir) (m channel : Nat) (f : Nat → Nat) : Dev :=
  d.modSeamMod x m (fun y => { y with used := tabMod y.used channel 0 f })

/-- The unacknowledged flits of a module's stations are sent again on its replacement (R190). -/
def Dev.resendModule (d : Dev) (x : SeamDir) (m : Nat) : Dev :=
  let h := x.sender
  let moved := (d.buf h).seamQueue.filter (fun f => f.sent.any (fun s => s.2 == m))
  moved.foldl (fun d f =>
    match f.sent, d.stationModule f.station with
    | some (seq, _), some m' =>
      let g := { f with sent := some (seq, m') }
      let d := d.useCredit x m' f.channel (fun n => n + 1)
      (d.modBuf h (fun b => { b with seamQueue := b.seamQueue.map (fun y => if y.q.id = f.q.id then g else y) })).emit (.seamFlit x m' g)
    | _, _ => d) d

/-- A module is retired: event 0x050A in each half, its flits resent, and the seam LOST with the last of a direction
(R191, R192). -/
def Dev.retireModule (d : Dev) (x : SeamDir) (m : Nat) : Dev :=
  let d := (d.modSeamMod x m (fun y => { y with st := .retired, fails := 0, used := [] })).setNum (seamBits x) (setBit (d.num (seamBits x)) m false)
  let d := (d.seamEvent 1 0x050A).refreshSeam
  if (d.retiredMods x).length = 8 then d.seamLost else d.resendModule x m

/-- A re-tune goes on to the next module that is ACTIVE (R373). -/
def Dev.retuneNext (d : Dev) (n : Nat) : Dev :=
  let dir := fun (i : Nat) => if i < 8 then SeamDir.we else SeamDir.ew
  match ((List.range 16).filter (fun i => decide (n ≤ i))).find? (fun i => (d.seamMod (dir i) (i % 8)).st == .active) with
  | none => { d with seam := { d.seam with retune := none } }
  | some i =>
    let d := d.modSeamMod (dir i) (i % 8) (fun y => { y with st := .retrain, since := d.clk })
    { d with seam := { d.seam with retune := some i } }

/-- The number of a module among both directions. -/
def seamNumber (x : SeamDir) (m : Nat) : Nat := match x with
  | .we => m
  | .ew => 8 + m

/-- A module has left RETRAIN: a re-tune that waits for it goes on. -/
def Dev.retuneAfter (d : Dev) (x : SeamDir) (m : Nat) : Dev :=
  if d.seam.retune = some (seamNumber x m) then d.retuneNext (seamNumber x m + 1) else d

/-- `per.cmd` 3 (R373): the seam modules are retrained one at a time. -/
def Dev.seamRetune (d : Dev) : Dev := if d.seamUp && d.seam.retune.isNone then d.retuneNext 0 else d

/-- A write of `per.cmd`. -/
def Dev.perCommand (d : Dev) (v : Nat) : Dev := if v = 3 then d.seamRetune else d.writePerCmd v

/-- SEAM_TRAINED: a module goes into service after the rake claim, or on the way out of Deep sleep. -/
def execSeamTrained (x : SeamDir) (m : Fin 8) (s : State) : Host.Outcome State Fault Refusal :=
  let d := s.dev
  if (d.seamMod x m).st == .training && !d.seam.lost && (d.holder.isSome || d.num Obj.coreSeamState == 1) then
    onDev s ((d.modSeamMod x m (fun y => { y with st := .active })).setNum (seamBits x) (setBit (d.num (seamBits x)) m true)).refreshSeam
  else .next s

/-- Modules that have not trained. -/
def Dev.untrained (d : Dev) (x : SeamDir) : List Nat := (List.range 8).filter (fun m => (d.seamMod x m).st == .training)

/-- SEAM_TRAIN_TIMEOUT (R90): untrained modules are retired 20 ms after the claim; the boot fails with module 0 of either
direction, or more than four modules of one direction, retired. -/
def execSeamTrainTimeout (s : State) : Host.Outcome State Fault Refusal :=
  let d := s.dev
  if d.holder.isSome && !d.crocus && !d.seam.lost && (d.untrained .we ++ d.untrained .ew != []) then
    let d := d.advanceTo (d.boot.claimClk + ms 20)
    let d := (d.untrained .we).foldl (fun d m => d.retireModule .we m) d
    let d := (d.untrained .ew).foldl (fun d m => d.retireModule .ew m) d
    let bad := fun x => (d.retiredMods x).contains 0 || decide (4 < (d.retiredMods x).length)
    onDev s (if (bad .we || bad .ew) && !d.boot.slotChosen then d.failAttempt 0x05 (if bad .we then 0 else 1) else d)
  else .next s

/-- A CRC error or NAK on a module: a replay, and RETRAIN at the fourth failed replay. -/
def Dev.seamCrc (d : Dev) (x : SeamDir) (m : Nat) : Dev :=
  match (d.seamMod x m).st with
  | .active => ((d.modSeamMod x m (fun y => { y with st := .retry, fails := 0 })).inc64 Obj.coreSeamRetries).emit (.seamReplay x m)
  | .retry =>
    if (d.seamMod x m).fails = 3 then d.modSeamMod x m (fun y => { y with st := .retrain, fails := 0, since := d.clk })
    else ((d.modSeamMod x m (fun y => { y with fails := y.fails + 1 })).inc64 Obj.coreSeamRetries).emit (.seamReplay x m)
  | _ => d

/-- SEAM_CRC_ERROR. -/
def execSeamCrcError (x : SeamDir) (m : Fin 8) (s : State) : Host.Outcome State Fault Refusal :=
  if s.dev.seam.lost then .next s else onDev s (s.dev.seamCrc x m)

/-- SEAM_REPLAY_ACK. -/
def execSeamReplayAck (x : SeamDir) (m : Fin 8) (s : State) : Host.Outcome State Fault Refusal :=
  if (s.dev.seamMod x m).st = .retry then onDev s (s.dev.modSeamMod x m (fun y => { y with st := .active, fails := 0 })) else .next s

/-- SEAM_RETRAIN_DONE: ACTIVE with its retry buffer replayed, or RETIRED where this retrain reaches `retire_limit` within
1 s. -/
def execSeamRetrainDone (x : SeamDir) (m : Fin 8) (s : State) : Host.Outcome State Fault Refusal :=
  let d := s.dev
  if (d.seamMod x m).st = .retrain ∧ d.seam.lost = false then
    let d := d.inc32 Obj.coreSeamRetrains
    let recent := d.clk :: (d.seamMod x m).retrains.filter (fun t => decide (d.clk < t + sec 1))
    let d := d.modSeamMod x m (fun y => { y with retrains := recent })
    onDev s ((if recent.length < d.num Obj.coreSeamRetireLimit then
        ((d.modSeamMod x m (fun y => { y with st := .active })).seamEvent 0 0x0509).emit (.seamReplay x m)
      else d.retireModule x m).retuneAfter x m)
  else .next s

/-- SEAM_RETRAIN_TIMEOUT: 50 µs without success retire the module. -/
def execSeamRetrainTimeout (x : SeamDir) (m : Fin 8) (s : State) : Host.Outcome State Fault Refusal :=
  let d := s.dev
  if (d.seamMod x m).st = .retrain ∧ d.seam.lost = false then
    onDev s (((d.advanceTo ((d.seamMod x m).since + us 50)).retireModule x m).retuneAfter x m)
  else .next s

/-! Heartbeats and time (R191 to R193). -/

/-- A heartbeat of a half reaches the other: a gap of 30 µs or more is counted (0x5050:07). -/
def Dev.heartbeatFrom (d : Dev) (h : Half) : Dev :=
  let last := byHalf h d.seam.hbE d.seam.hbW
  let d := if d.elapsed last (us 30) then d.inc32 Obj.coreSeamHeartbeatLost else d
  let d := d.emit (.seamHeartbeat h ((d.controlModule (SeamDir.ofSender h)).getD 0))
  { d with seam := byHalf h { d.seam with hbE := d.clk } { d.seam with hbW := d.clk } }

/-- SEAM_HEARTBEAT_SEND: on the module that carries the control channels. -/
def execSeamHeartbeatSend (h : Half) (s : State) : Host.Outcome State Fault Refusal :=
  if s.dev.controlUp (SeamDir.ofSender h) then onDev s (s.dev.heartbeatFrom h) else .next s

/-- SEAM_HEARTBEAT_TIMEOUT (R192, R193): no heartbeat for 100 µs, whatever the data modules do. -/
def execSeamHeartbeatTimeout (s : State) : Host.Outcome State Fault Refusal :=
  let d := s.dev
  if d.seamUp then onDev s (((d.advanceTo (min d.seam.hbW d.seam.hbE + us 100)).inc32 Obj.coreSeamHeartbeatLost).seamLost) else .next s

/-- SEAM_TIME_EXCHANGE (R191): the offset is measured, and East slews towards West by at most one unit. -/
def execSeamTimeExchange (s : State) : Host.Outcome State Fault Refusal :=
  let d := s.dev
  if d.controlUp .we && d.controlUp .ew then
    let w := d.clocks.west
    let e := d.clocks.east
    let d := d.setNum Obj.coreSeamTimeOffset (ofSigned 32 ((e : Int) - (w : Int)))
    onDev s { d with clocks := { d.clocks with eastSlew := if w < e then -1 else if e < w then 1 else 0 } }
  else .next s

/-! Crossing (R188 to R190). -/

/-- A seam queue entry may be sent: not yet sent, not held for a harvest record, and no frame that it must not pass waits
unsent before it (R173, R385). -/
def seamEligible (queue : List SeamFrame) (f : SeamFrame) : Bool :=
  f.sent.isNone && !f.q.stallHeld && f.q.barrier.all (fun i => !queue.any (fun g => g.sent.isNone && g.q.id == i))

/-- The first frame of a station and channel that may cross. -/
def Dev.seamHead (d : Dev) (st channel : Nat) : Option SeamFrame :=
  let queue := (d.buf (Half.ofStation st)).seamQueue
  queue.find? (fun f => f.station == st && f.channel == channel && seamEligible queue f)

/-- A channel of a module has credit (R189): at least for one frame. -/
def SeamModule.credit (y : SeamModule) (channel : Nat) : Bool :=
  tabGet y.used channel 0 == 0 || decide (tabGet y.used channel 0 < Config.seamCredits channel)

/-- A station has a frame that its module may send now: it has credit on its channel, and the egress half admits it. -/
def Dev.seamReady (d : Dev) (m st : Nat) : Bool :=
  let h := Half.ofStation st
  (List.range 5).any (fun c => (d.seamMod (SeamDir.ofSender h) m).credit c &&
    (d.seamHead st c).any (fun f => (d.uncreditedAccount h.other f.q.outPort f.q.qcls f.q.cells).isSome))

/-- A module that carries several stations serves them in turn (R188): no other station with a frame to send comes before
this one after the station served last. -/
def Dev.seamTurn (d : Dev) (m st : Nat) : Bool :=
  let h := Half.ofStation st
  let after := (d.seamMod (SeamDir.ofSender h) m).last + 1
  let turn := (List.range 8).map (fun k => 8 * h.code + (after + k) % 8)
  (turn.find? (fun x => d.stationModule x == some m && d.seamReady m x)).all (fun x => x == st)

/-- A frame goes onto a module: it takes its crossing number and its channel's credit, and its cells move to the egress
half. -/
def Dev.seamSend (d : Dev) (st m : Nat) (f : SeamFrame) (a : Account) : Dev :=
  let h := Half.ofStation st
  let x := SeamDir.ofSender h
  let seq := tabGet d.seam.txSeq st 0
  let g := { f with sent := some (seq, m), admitted := a, q := { f.q with account := .pool } }
  let d := d.leaveAccount f.q
  let d := { d with seam := { d.seam with txSeq := tabSet id d.seam.txSeq st ((seq + 1) % 65536) } }
  let d := d.modBuf h (fun b => { b with seamQueue := b.seamQueue.map (fun y => if y.q.id = f.q.id then g else y) })
  let d := (d.useCredit x m f.channel (fun n => n + 1)).modSeamMod x m (fun y => { y with last := st % 8 })
  (((d.notePool h.other).count Ev.seamFrames h.code).emit (.seamFlit x m g)).admitHeld h

/-- SEAM_ADMISSION (R188, R189): the first frame of a station and channel that may cross is sent once it has credit and the
egress half has admitted its cells, in its station's turn; until then it stays where it is. -/
def Dev.seamAdmit (d : Dev) (st channel : Nat) : Dev :=
  let h := Half.ofStation st
  match d.stationModule st, d.seamHead st channel with
  | some m, some f =>
    let y := d.seamMod (SeamDir.ofSender h) m
    if y.st = .active ∧ y.credit channel ∧ d.seamTurn m st then
      match d.uncreditedAccount h.other f.q.outPort f.q.qcls f.q.cells with
      | none => d
      | some a => d.seamSend st m f a
    else d
  | _, _ => d

/-- SEAM_ADMISSION. -/
def execSeamAdmission (st : Fin 16) (channel : Fin 5) (s : State) : Host.Outcome State Fault Refusal :=
  if s.dev.seamOpen then onDev s (s.dev.seamAdmit st channel) else .next s

/-! The halt of a half (R318). -/

/-- A half halts: its event, its ports in electrical idle, its side of the seam stopped; or a warm reset by policy. -/
def Dev.halt (d : Dev) (h : Half) (c : HaltCause) : Dev :=
  let d := { d with boot := byHalf h { d.boot with haltW := true } { d.boot with haltE := true } }
  let d := d.logEvent h Scope.half h.code 2 0x050D (beBytes 1 c.code)
  if d.num Obj.errPolHalfFatalAction = 1 then d.warmReset
  else (portsOfHalf h).foldl (fun d p => d.portDown p Ltssm.detect 0) d

/-- HALF_HALT. -/
def execHalfHalt (h : Half) (cause : HaltCause) (s : State) : Host.Outcome State Fault Refusal :=
  if s.dev.boot.released && !s.dev.halted h then onDev s (s.dev.halt h cause) else .next s

end Sys2Proof.Machine
end

