-- ==== Sys2Proof/Machine/Route.lean ====
section
/-!
DEFINITION. Sys2Proof/Machine/Route.lean: route lookup and rights (C3 and C4): bridge windows and ACS in hierarchy mode
(R154, R156, R160, R168), bindings, map entries and peer grants in fabric mode (R197, R205, R207, R209, R210), RME frames
(R169), and the class of a frame (R278).
-/
namespace Sys2Proof.Machine

/-- What C3 and C4 find for a frame. -/
inductive Routed where
  /-- a port, or a local target of a half -/
  | out (tgt : Nat) (h : Half) (node : Option Nat) (f : Frame)
  /-- a request of a host or of the twin to a binding's function; a non-posted one needs a tracking entry (R211) -/
  | bound (b : Nat) (node : Option Nat) (f : Frame) (t : Option Track)
  /-- blocked or unclaimed (R170), with the completer of its completion; an ACS violation or not -/
  | blocked (node : Option Nat) (completer : Nat) (acs : Bool)
  /-- ended because its target's port has DPC triggered (R310) -/
  | ended (node : Option Nat) (cause : EndCause) (completer : Nat)
  /-- copies for several ports (R166) -/
  | copies (ports : List Nat) (node : Option Nat)
  /-- a completion for a tracked request (R212) -/
  | proxy (t : Tlp)
  /-- an error message of a function that is not bound (R309) -/
  | lostError
  /-- an RME frame that names another device (R169) -/
  | stale
  /-- discarded without an answer -/
  | gone
  deriving DecidableEq, Repr

/-! Bridge registers (assumption log 8). -/

/-- A range lies in a window. -/
def inWindow (base limit a len : Nat) : Bool := decide (base ≤ a) && decide (a + max 1 len ≤ limit + 1)

/-- A memory range lies in the memory or prefetchable window of a bridge. -/
def Dev.memClaims (d : Dev) (f : CfgFunc) (a len : Nat) : Bool :=
  let r := d.cfgReg f
  bitOf (r .command) 1 &&
    (inWindow (field (r .memBase) 4 12 * 2 ^ 20) (field (r .memLimit) 4 12 * 2 ^ 20 + 0xFFFFF) a len ||
      inWindow (field (r .prefBase) 4 12 * 2 ^ 20 + field (r .prefBase) 16 32 * 2 ^ 32)
        (field (r .prefLimit) 4 12 * 2 ^ 20 + field (r .prefLimit) 16 32 * 2 ^ 32 + 0xFFFFF) a len)

/-- An I/O range lies in the I/O window of a bridge. -/
def Dev.ioClaims (d : Dev) (f : CfgFunc) (a len : Nat) : Bool :=
  let r := d.cfgReg f
  bitOf (r .command) 0 &&
    inWindow (field (r .ioBase) 4 4 * 4096 + field (r .ioBase) 8 16 * 65536) (field (r .ioLimit) 4 4 * 4096 + field (r .ioLimit) 8 16 * 65536 + 0xFFF) a len

/-- A bridge claims the range of a request. -/
def Dev.claims (d : Dev) (f : CfgFunc) (t : Tlp) : Bool :=
  if t.type.isIo then d.ioClaims f t.addr t.len else d.memClaims f t.addr t.len

/-- A bus lies in a bridge's secondary to subordinate range. -/
def Dev.busIn (d : Dev) (f : CfgFunc) (bus : Nat) : Bool :=
  d.cfgReg f .secondaryBus != 0 && decide (d.cfgReg f .secondaryBus ≤ bus) && decide (bus ≤ d.cfgReg f .subordinateBus)

/-- A memory range lies in a function's own BAR. -/
def Dev.barClaims (d : Dev) (f : CfgFunc) (r : CfgReg) (size a len : Nat) : Bool :=
  bitOf (d.cfgReg f .command) 1 && d.cfgReg f r != 0 && inWindow (d.cfgReg f r) (d.cfgReg f r + size - 1) a len

/-- A downstream bridge of a partition: its function, its port and its device and function on the internal bus. -/
structure Bridge where
  fn : CfgFunc
  port : Nat
  devfn : Nat
  deriving DecidableEq, Repr

/-- The bridges of a partition: downstream ports, and the virtual ports of its logical devices (R154, R161). -/
def Dev.bridgesOf (d : Dev) (v : Nat) : List Bridge :=
  (d.downstreamOf v).map (fun p => ⟨dsp p, p, d.num (Obj.portVsDevfn p)⟩) ++
    ((d.usedEntries 0x2301 5 0xFF).filter (fun e => d.num (Obj.cxlLdPartition e) == v && d.num (Obj.cxlLdState e) == 2)).map (fun e =>
      ⟨.synthetic (Fin.ofNat 64 v) (Fin.ofNat 256 (d.num (Obj.cxlLdVppb e))), d.num (Obj.cxlLdPort e), d.num (Obj.cxlLdVppb e)⟩)

/-- The functions 0 to 2 of a node on its host's bus that claim a range, as local targets (R154, R409). -/
def Dev.endpointClaims (d : Dev) (v a len : Nat) : Option Nat :=
  let w := Fin.ofNat 64 v
  if d.barClaims (.rme w) .bar 0x1000000 a len || d.barClaims (.rme w) .prefBase 0x10000 a len then some localRme
  else if d.barClaims (.mgmt w) .bar 0x10000 a len || d.barClaims (usp v) .bar 0x2000 a len then some localMgmt
  else none

/-- The half whose cluster and RME serve a node's endpoints: that of its upstream port. -/
def Dev.endpointHalf (d : Dev) (v : Nat) : Half := (d.nodeHalf v).getD .west

/-- The RID of a bridge in its host's view (R305). -/
def Dev.bridgeRid (d : Dev) (v devfn : Nat) : Nat := 256 * d.cfgReg (usp v) .secondaryBus + devfn

/-- The RID of a node's upstream port. -/
def Dev.upstreamRid (d : Dev) (v : Nat) : Nat := 256 * (d.node v).bus

/-- A frame for a local target of a node. -/
def Dev.toEndpoint (d : Dev) (v target : Nat) (f : Frame) : Routed := .out target (d.endpointHalf v) (some v) f

/-- A frame for a port. -/
def toPort (p : Nat) (v : Option Nat) (f : Frame) : Routed := .out p (Half.ofPort p) v f

/-- A frame for a node's upstream port; a node without one sends nothing there. -/
def Dev.toUpstream (d : Dev) (v : Nat) (f : Frame) : Routed :=
  match d.upstreamOf v with
  | some p => toPort p (some v) f
  | none => .blocked (some v) (d.upstreamRid v) false

/-- The device and function to which a committed HDM decoder of a node sends an address (R160; assumption log 8). -/
def Dev.hdmTarget (d : Dev) (v a : Nat) : Option Nat :=
  (List.range 16).findSome? (fun i =>
    let r := d.cfgReg (.hdm (Fin.ofNat 64 v) (Fin.ofNat 16 i))
    if bitOf (r .command) 0 && d.hdmLegal (.hdm (Fin.ofNat 64 v) (Fin.ofNat 16 i)) && decide (r .memBase ≤ a) && decide (a ≤ r .memLimit) then
      some (field (r .acsEgressVectorLo) (8 * ((a - r .memBase) / 2 ^ r .secondaryBus % max 1 (r .primaryBus))) 8)
    else none)

/-! ACS (R156). -/

abbrev Acs.sourceValidation : Nat := 0
abbrev Acs.translationBlocking : Nat := 1
abbrev Acs.requestRedirect : Nat := 2
abbrev Acs.completionRedirect : Nat := 3
abbrev Acs.upstreamForwarding : Nat := 4
abbrev Acs.egressControl : Nat := 5
abbrev Acs.directTranslated : Nat := 6
abbrev Acs.ioBlocking : Nat := 7
abbrev Acs.unclaimedRedirect : Nat := 12

/-- An ACS control of a downstream function. -/
def Dev.acs (d : Dev) (f : CfgFunc) (k : Nat) : Bool := bitOf (d.cfgReg f .acsControl) k

/-- The egress control vector of a function. -/
def Dev.egressVector (d : Dev) (f : CfgFunc) (devfn : Nat) : Bool :=
  if devfn < 128 then bitOf (d.cfgReg f .acsEgressVectorLo) devfn else bitOf (d.cfgReg f .acsEgressVectorHi) (devfn - 128)

/-- What ACS makes of a request. -/
inductive Verdict where
  | direct
  | redirect
  | violation
  deriving DecidableEq, Repr

/-- Checks of every request that a downstream function receives. -/
def Dev.acsSource (d : Dev) (f : CfgFunc) (t : Tlp) (validSource : Bool) : Bool :=
  (d.acs f Acs.sourceValidation && !validSource) || (d.acs f Acs.translationBlocking && t.at' != 0) ||
    (d.acs f Acs.ioBlocking && t.type.isIo)

/-- A request from a downstream function to a peer at a device and function number. -/
def Dev.acsPeer (d : Dev) (f : CfgFunc) (t : Tlp) (devfn : Nat) : Verdict :=
  if d.acs f Acs.directTranslated && t.at' == 2 then .direct
  else if d.acs f Acs.egressControl && d.egressVector f devfn then
    if d.acs f Acs.requestRedirect then .redirect else .violation
  else if d.acs f Acs.requestRedirect then .redirect
  else .direct

/-- A memory target access control: a two-bit field of a function. -/
def Dev.acsTarget (d : Dev) (f : CfgFunc) (off : Nat) : Verdict :=
  match field (d.cfgReg f .acsControl) off 2 with
  | 0 => .direct
  | 2 => .redirect
  | _ => .violation

/-! Hierarchy mode. -/

/-- The partition and bridge under which a TLP enters at a port; a multi-logical device's TLP belongs to the logical
device whose buses hold its requester, or its completer. -/
def Dev.sourceBridge (d : Dev) (p : Nat) (t : Tlp) : Option (Nat × Bridge) :=
  if (d.port p).isMld then
    let rid := if t.type = .completion then t.completer else t.requester
    (List.range 64).findSome? (fun v => ((d.bridgesOf v).find? (fun b => b.port == p && d.busIn b.fn (rid / 256))).map (fun b => (v, b)))
  else
    let v := d.num (Obj.portPartition p)
    some (v, if d.num (Obj.portRole p) = 1 then ⟨usp v, p, 0⟩ else ⟨dsp p, p, d.num (Obj.portVsDevfn p)⟩)

/-- A memory or I/O request from the upstream port. -/
def Dev.requestDown (d : Dev) (v : Nat) (t : Tlp) (f : Frame) : Routed :=
  let bs := d.bridgesOf v
  let claim := if t.type.isCxl then (d.hdmTarget v t.addr).bind (fun x => bs.find? (fun b => b.devfn == x && (d.port b.port).cxlMem))
    else bs.find? (fun b => d.claims b.fn t)
  let own := if t.type.isMemory then
      match d.endpointClaims v t.addr t.len with
      | some x => some x
      | none => if bs.any (fun b => d.barClaims b.fn .bar 0x2000 t.addr t.len) then some localMgmt else none
    else none
  match own, claim with
  | some x, _ => d.toEndpoint v x f
  | none, some b => toPort b.port (some v) f
  | none, none => .blocked (some v) (d.upstreamRid v) false

/-- A memory or I/O request from a downstream port. DSP Memory Target Access is that of the function whose BAR it is, USP
Memory Target Access that of the port it comes in at (R156, R409). -/
def Dev.requestUp (d : Dev) (v : Nat) (src : Bridge) (t : Tlp) (f : Frame) : Routed :=
  let bs := d.bridgesOf v
  let bad := Routed.blocked (some v) (d.bridgeRid v src.devfn) true
  let unclaimed := Routed.blocked (some v) (d.upstreamRid v) false
  let judge := fun (x : Verdict) (r : Routed) =>
    match x with
    | .direct => r
    | .redirect => d.toUpstream v f
    | .violation => bad
  if d.acsSource src.fn t (d.busIn src.fn (t.requester / 256)) then bad
  else if t.type.isCxl then d.toUpstream v f
  else
    let mem := t.type.isMemory
    match (if mem then d.endpointClaims v t.addr t.len else none) with
    | some x => judge (d.acsTarget src.fn 10) (d.toEndpoint v x f)
    | none =>
      match (if mem then bs.find? (fun b => d.barClaims b.fn .bar 0x2000 t.addr t.len) else none) with
      | some b => judge (d.acsTarget b.fn 8) (d.toEndpoint v localMgmt f)
      | none =>
        match bs.find? (fun b => d.claims b.fn t) with
        | some b =>
          if b = src then if d.acs src.fn Acs.upstreamForwarding then d.toUpstream v f else unclaimed
          else judge (d.acsPeer src.fn t b.devfn) (toPort b.port (some v) f)
        | none =>
          if d.claims (usp v) t && !d.acs src.fn Acs.unclaimedRedirect then unclaimed else d.toUpstream v f

/-- An ID-routed TLP inside a partition: local functions, downstream ranges, or upwards. -/
def Dev.routeId (d : Dev) (v : Nat) (fromUp : Bool) (rid : Nat) (f : Frame) : Routed :=
  if rid = d.upstreamRid v + 2 ∧ (d.node v).bus ≠ 0 then d.toEndpoint v localRme f
  else if (rid = d.upstreamRid v + 1 ∨ rid = d.upstreamRid v) ∧ (d.node v).bus ≠ 0 then d.toEndpoint v localMgmt f
  else
    match (d.bridgesOf v).find? (fun b => d.busIn b.fn (rid / 256)) with
    | some b => toPort b.port (some v) f
    | none =>
      if (d.bridgesOf v).any (fun b => rid == d.bridgeRid v b.devfn) then d.toEndpoint v localMgmt f
      else if fromUp then .blocked (some v) (d.upstreamRid v) false
      else d.toUpstream v f

/-- Route lookup of a TLP from a port in hierarchy mode (R168). -/
def Dev.routeTree (d : Dev) (p : Nat) (t : Tlp) (f : Frame) : Routed :=
  match d.sourceBridge p t with
  | none => .gone
  | some (v, src) =>
    let fromUp := src.fn == usp v
    match t.type with
    | .completion =>
      match d.routeId v fromUp t.requester f with
      | .out tgt h n g =>
        if !fromUp && tgt != src.port && decide (tgt < 128) && d.upPort v != tgt && d.acs src.fn Acs.completionRedirect && !t.ro then d.toUpstream v f
        else .out tgt h n g
      | r => r
    | .cfgRead | .cfgWrite => if fromUp then d.routeId v true t.target f else .blocked (some v) (d.upstreamRid v) false
    | .broadcastMessage => if fromUp then .copies (d.downstreamOf v) (some v) else .blocked (some v) (d.upstreamRid v) false
    | .message =>
      if !fromUp && d.acsSource src.fn t (d.busIn src.fn (t.requester / 256)) then .blocked (some v) (d.bridgeRid v src.devfn) true
      else if t.isError || t.target == 0 then (if fromUp then d.toEndpoint v localMgmt f else d.toUpstream v f)
      else d.routeId v fromUp t.target f
    | _ => if fromUp then d.requestDown v t f else d.requestUp v src t f

/-! Fabric mode. -/

/-- The request as its target sees it: the fabric address (R207). -/
def atFabric (f : Frame) (addr requester : Nat) : Frame :=
  match f.body with
  | .tlp t => { f with body := .tlp { t with addr := addr, requester := requester } }
  | _ => f

/-- The tracking entry of a host's request (R211). -/
def trackOf (host : Option Nat) (link b cls grant : Nat) (t : Tlp) : Track :=
  { entry := 0, host := host, fromTwin := host.isNone, link := link, requester := t.requester, tag := t.tag, tc := t.tc, ro := t.ro, ido := t.ido, binding := b,
    due := t.len, issued := 0, type := t.type, cls := cls, grant := grant, reg := none }

/-- A request for a binding's function, tracked where it is non-posted. The requester ID of a host's posted request is not
stated on the fabric side: a free value (assumption log 1). -/
def Dev.toBinding (d : Dev) (b : Nat) (host : Option Nat) (node : Option Nat) (link cls grant requester : Nat) (t : Tlp) (addr : Nat) (f : Frame) : Routed :=
  match t.type.ord with
  | .nonPosted => .bound b node (atFabric f addr t.requester) (some (trackOf host link b cls grant t))
  | _ => .bound b node (atFabric { f with fprefix := none } addr requester) none

/-- Synthetic and endpoint functions of a host that claim a range. -/
def Dev.hostOwn (d : Dev) (h a len : Nat) : Option Nat :=
  match d.endpointClaims h a len with
  | some x => some x
  | none => if (d.boundTo h).any (fun b => d.barClaims (d.synthOf b) .bar 0x2000 a len) then some localMgmt else none

/-- A TLP from a host's upstream port (R205, R207). -/
def Dev.routeHost (d : Dev) (h cls : Nat) (t : Tlp) (f : Frame) : Routed :=
  let unclaimed := Routed.blocked (some h) (d.upstreamRid h) false
  let toFn := fun (rid : Nat) (g : Nat → Frame) =>
    match d.bindOfHostRid h rid with
    | some b =>
      if d.dpcSet (d.synthOf b) then .ended (some h) (.dpc (d.synthOf b)) (d.bridgeRid h (d.num (Obj.bindVdsp b)))
      else
        match d.portOfBinding b with
        | some p => toPort p (some h) (g (d.num (Obj.bindRid b)))
        | none => unclaimed
    | none => if rid = d.upstreamRid h + 2 then d.toEndpoint h localRme f else if rid / 256 = (d.node h).bus then d.toEndpoint h localMgmt f else unclaimed
  match t.type with
  | .completion => toFn t.requester (fun r => { f with body := .tlp { t with requester := r } })
  | .cfgRead | .cfgWrite | .broadcastMessage => d.toEndpoint h localMgmt f
  | .message => if t.target = 0 then d.toEndpoint h localMgmt f else toFn t.target (fun r => { f with body := .tlp { t with target := r } })
  | .ioRead | .ioWrite => unclaimed
  | _ =>
    match d.hostOwn h t.addr t.len with
    | some x => d.toEndpoint h x f
    | none =>
      match d.gamMatch (d.endpointHalf h) t.addr t.len (fun e => e.kind == 1 && e.host == h) with
      | e :: _ =>
        if d.dpcSet (d.synthOf e.binding) then .ended (some h) (.dpc (d.synthOf e.binding)) (d.bridgeRid h (d.num (Obj.bindVdsp e.binding)))
        else d.toBinding e.binding (some h) (some h) 0 cls 0xFFFF (d.free % 65536) t (e.fabricBase + (t.addr - e.base)) f
      | [] => unclaimed

/-- The right that a request needs of a peer entry (R209). -/
def peerRight (rights : Nat) (t : TlpType) : Bool :=
  match t with
  | .memRead => bitOf rights 0
  | .memWrite => bitOf rights 1
  | _ => bitOf rights 2

/-- A request or message with its host-view requester ID, towards the host (R205); an INTx message takes the swizzle of its
synthetic port, the sum of pin and device number modulo 4 (R204; assumption log 94, PRESUMED). -/
def Dev.fnToHost (d : Dev) (b h : Nat) (t : Tlp) (f : Frame) : Routed :=
  match d.hostRid b with
  | some rid => d.toUpstream h { f with body := .tlp { t with requester := rid, intx := t.intx.map (fun k => (k + d.num (Obj.bindVdsp b) / 8) % 4) } }
  | none => .blocked (some h) (d.bridgeRid h (d.num (Obj.bindVdsp b))) false

/-- A memory request lies in the window of a suspended grant to the twin, which blocks it (R219). -/
def Dev.crossSuspended (d : Dev) (b : Nat) (t : Tlp) : Bool :=
  d.gam.any (fun e => e.kind == 2 && !e.valid && e.source == b && d.crossGrant e.grant && d.num (Obj.grantState e.grant) == 2 &&
    decide (e.base ≤ t.addr) && decide (t.addr + max 1 t.len ≤ e.limit + 1))

/-- A memory request of a bound function (R207 steps 1 to 3). -/
def Dev.fnMemory (d : Dev) (b h : Nat) (t : Tlp) (f : Frame) : Routed :=
  let src := d.synthOf b
  let half := ((d.portOfBinding b).map Half.ofPort).getD .west
  let bad := Routed.blocked (some h) (d.bridgeRid h (d.num (Obj.bindVdsp b))) true
  let judge := fun (x : Verdict) (r : Routed) =>
    match x with
    | .direct => r
    | .redirect => d.fnToHost b h t f
    | .violation => bad
  match d.gamMatch half t.addr t.len (fun e => e.kind == 2 && e.source == b) with
  | e :: _ =>
    if !peerRight e.rights t.type then .blocked (some h) (d.bridgeRid h (d.num (Obj.bindVdsp b))) false
    else if d.crossGrant e.grant then
      match tabFind d.homes e.grant with
      | some i => toPort (d.num (Obj.bflPort i)) (some h) { f with fprefix := some { pkind := 1, srcNode := d.ownNode, grant := e.grant, offset := t.addr - e.base } }
      | none => .blocked (some h) (d.bridgeRid h (d.num (Obj.bindVdsp b))) false
    else
      match d.portOfBinding e.binding with
      | some p => toPort p (some h) (atFabric f (e.fabricBase + (t.addr - e.base)) t.requester)
      | none => .blocked (some h) (d.bridgeRid h (d.num (Obj.bindVdsp b))) false
  | [] =>
    if d.crossSuspended b t then .blocked (some h) (d.bridgeRid h (d.num (Obj.bindVdsp b))) false
    else if d.acsSource src t true then bad
    else
      match d.hostOwn h t.addr t.len with
      | some x =>
        let own := match d.hostRid b with
          | some rid => d.toEndpoint h x { f with body := .tlp { t with requester := rid } }
          | none => .blocked (some h) (d.bridgeRid h (d.num (Obj.bindVdsp b))) false
        let verdict := if (d.endpointClaims h t.addr t.len).isSome then d.acsTarget src 10
          else (((d.boundTo h).find? (fun b => d.barClaims (d.synthOf b) .bar 0x2000 t.addr t.len)).map (fun b => d.acsTarget (d.synthOf b) 8)).getD .direct
        judge verdict own
      | none =>
        match d.gamMatch half t.addr t.len (fun e => e.kind == 1 && e.host == h) with
        | e :: _ =>
          match d.portOfBinding e.binding with
          | some p => judge (d.acsPeer src t (d.num (Obj.bindVdsp e.binding))) (toPort p (some h) (atFabric f (e.fabricBase + (t.addr - e.base)) t.requester))
          | none => .blocked (some h) (d.bridgeRid h (d.num (Obj.bindVdsp b))) false
        | [] => d.fnToHost b h t f

/-- The node of a fabric RID: the host of its binding. -/
def Dev.nodeOfRid (d : Dev) (rid : Nat) : Option Nat :=
  match d.bindOfRid rid with
  | some b => if d.isBound b then some (d.num (Obj.bindHost b)) else none
  | none => none

/-- A TLP from a function behind a fabric port (R197, R205, R207, R309). -/
def Dev.routeFn (d : Dev) (p : Nat) (t : Tlp) (f : Frame) : Routed :=
  if t.type = .completion then
    if (d.bindOfRid t.completer).any (fun b => d.isBound b && d.dpcSet (d.synthOf b)) then .gone
    else if isProxy t.requester then .proxy t
    else if t.requester = 0x00A0 ∨ t.requester = 0x00A1 then .out localMgmt (Half.ofCode (t.requester % 2)) none f
    else
      match d.portOfBus (t.requester / 256) with
      | some q => toPort q (d.nodeOfRid t.requester) f
      | none => .gone
  else if !d.inBusRange p (t.requester / 256) then .blocked none 0 false
  else
    match d.bindOfRid t.requester with
    | none => if t.isError then .lostError else .blocked none 0 false
    | some b =>
      if !d.isBound b || d.num (Obj.bindState b) != 2 then (if t.isError then .lostError else .blocked (d.nodeOfRid t.requester) 0 false)
      else
        let h := d.num (Obj.bindHost b)
        if d.dpcSet (d.synthOf b) then .gone else
        match t.type with
        | .message => if d.acsSource (d.synthOf b) t true then .blocked (some h) (d.bridgeRid h (d.num (Obj.bindVdsp b))) true else d.fnToHost b h t f
        | .cfgRead | .cfgWrite | .broadcastMessage => .blocked (some h) (d.bridgeRid h (d.num (Obj.bindVdsp b))) false
        | .ioRead | .ioWrite =>
          if d.acsSource (d.synthOf b) t true then .blocked (some h) (d.bridgeRid h (d.num (Obj.bindVdsp b))) true else d.fnToHost b h t f
        | _ => d.fnMemory b h t f

/-- A TLP of the management cluster (R199, and its endpoints' answers). -/
def Dev.routeMgmt (d : Dev) (h : Half) (t : Tlp) (f : Frame) : Routed :=
  if d.fabricMode && (t.requester == 0x00A0 || t.requester == 0x00A1) then
    match d.portOfBus (t.target / 256) with
    | some p => toPort p none f
    | none => .blocked none 0 false
  else
    let asked := d.out.findSome? (fun o =>
      match o with
      | .toMgmt v g =>
        match g.body with
        | .tlp r => if r.requester = t.requester ∧ r.tag = t.tag then some v else none
        | _ => none
      | _ => none)
    let own := (List.range 64).find? (fun v => d.nodeEnabled v && (d.node v).bus != 0 && d.upstreamRid v + 1 == t.requester)
    match (if t.type = .completion then asked else own) with
    | some v =>
      if d.endpointHalf v != h then .gone
      else if t.type = .completion then
        if d.fabricMode then
          match d.bindOfHostRid v t.requester with
          | some b => match d.portOfBinding b with
            | some p => toPort p (some v) f
            | none => .gone
          | none => d.toUpstream v f
        else d.routeId v false t.requester f
      else d.toUpstream v f
    | none => .gone

/-! Frames from BFL, RME frames and the rest. -/

/-- An RME frame (R169): to an RME of this device, onto link PATH for the twin, where it waits until the link is ACTIVE and
the pair FORMED, or stale. `fromBfl` says where it comes from. A path without a port leads nowhere. -/
def Dev.routeRme (d : Dev) (fromBfl : Bool) (x : RmePacket) (node : Option Nat) (f : Frame) : Routed :=
  if !d.flag Obj.pairEnable || x.dnode == d.ownNode then .out localRme (Half.ofCode (field x.destQpn 23 1)) node f
  else if fromBfl then .stale
  else if d.num (Obj.bflPort x.path) < 128 then toPort (d.num (Obj.bflPort x.path)) node f
  else .gone

/-- A peer request from the twin (R210): checked again against this device's copy of the grant. -/
def Dev.routePeer (d : Dev) (link cls : Nat) (x : FabricPrefix) (t : Tlp) (f : Frame) : Routed :=
  let g := x.grant
  let b := d.num (Obj.grantDstBinding g)
  let node := if d.isBound b then some (d.num (Obj.bindHost b)) else none
  let ok := d.num (Obj.grantState g) == 1 && d.num (Obj.grantDstNode g) == d.ownNode && x.srcNode == d.num (Obj.grantSrcNode g) &&
    decide (x.offset + max 1 t.len ≤ d.num (Obj.grantLength g)) && peerRight (d.num (Obj.grantRights g)) t.type
  match d.realBar b (d.num (Obj.grantDstBar g)) with
  | some r =>
    if ok then d.toBinding b none node link cls g (0x00B0 + x.srcNode) t (d.fabricBase b r + d.num (Obj.grantDstOffset g) + x.offset) f
    else .blocked node 0 false
  | none => .blocked node 0 false

/-- A frame that BFL delivers (R169, R210, R225); one with a reserved PKIND is malformed and discarded (R7). -/
def Dev.routeBfl (d : Dev) (link cls : Nat) (f : Frame) : Routed :=
  match f.body, f.fprefix with
  | .rme x, _ => d.routeRme true x none f
  | .tlp t, some x =>
    if x.pkind = 1 then d.routePeer link cls x t f
    else if x.pkind ≠ 2 then .gone
    else
      match d.portOfBus (t.requester / 256) with
      | some q => toPort q (d.nodeOfRid t.requester) { f with fprefix := none }
      | none => .gone
  | .mgmt _, _ => .out localMgmt d.holderHalf none f
  | _, _ => .gone

/-- The RME slice that sent a TLP: the newest host operation of the half that is this TLP. -/
def Dev.sliceOfTlp (d : Dev) (h : Half) (t : Tlp) : Option Nat :=
  d.out.findSome? (fun o =>
    match o with
    | .rmeHost h' n (.tlp t') => if h' = h ∧ t' = t then some n else none
    | _ => none)

/-- The slice of a packet that a local RME sends: that of its own QP. -/
def Dev.sliceOfPacket (d : Dev) (x : RmePacket) : Option Nat := (d.qp (qpnKey x.srcQpn)).map (fun q => q.slice)

/-- The class of a frame at C5 of its ingress half (R278). -/
def Dev.classOf (d : Dev) (i : Ingress) (f : Frame) : Nat :=
  match i, f.body with
  | .port p, .tlp t =>
    if d.fabricMode && t.type == .completion && (t.requester == 0x00A0 || t.requester == 0x00A1) then 7
    else field (d.num (Obj.schedPortTcMap p)) (3 * (t.tc % 8)) 3
  | .rme h, .tlp t => ((d.sliceOfTlp h t).map (fun n => d.num (Obj.rmeSliceClass n))).getD 7
  | .rme _, .rme x => if x.op.isData then ((d.sliceOfPacket x).map (fun n => d.num (Obj.rmeSliceClass n))).getD 7 else 7
  | _, _ => 7

/-- Route lookup of a frame that does not come from BFL; none where the source cannot have sent it. -/
def Dev.route (d : Dev) (i : Ingress) (cls : Nat) (f : Frame) : Routed :=
  match i, f.body with
  | .port p, .tlp t =>
    if !d.fabricMode then d.routeTree p t f
    else if d.num (Obj.portRole p) = 1 then d.routeHost (d.num (Obj.portPartition p)) cls t f
    else d.routeFn p t f
  | .rme h, .tlp t =>
    match d.sliceOfTlp h t with
    | some n => d.toUpstream (d.num (Obj.rmeSliceOwner n)) f
    | none => .gone
  | .rme _, .rme x => d.routeRme false x ((d.sliceOfPacket x).map (fun n => d.num (Obj.rmeSliceOwner n))) f
  | .mgmt h, .tlp t => d.routeMgmt h t f
  | .mgmt _, .mgmt _ =>
    match d.activeLinks with
    | i :: _ => toPort (d.num (Obj.bflPort i)) none f
    | [] => .gone
  | .mgmt _, .linkControl _ link _ _ => toPort (d.num (Obj.bflPort link)) none f
  | _, _ => .gone

end Sys2Proof.Machine
end

