-- ==== Sys2Proof/Machine/ConfigSpace.lean ====
section
/-!
DEFINITION. Sys2Proof/Machine/ConfigSpace.lean: what hosts find in the configuration space of the device's own functions: identities
and capabilities (R154, R155; 08, "Synthetic hierarchy"), and the BARs of switch port functions with their MSI-X tables
(R409).
-/
namespace Sys2Proof.Machine

/-! Identities (R154). -/

/-- Device IDs of the functions; a virtual port is that of a CXL logical device in hierarchy mode and of a binding in fabric mode.
HDM decoders are registers of the upstream port. -/
def Dev.deviceId (d : Dev) : CfgFunc → Nat
  | .upstream _ | .hdm _ _ => 0xA256
  | .mgmt _ => 0xA25E
  | .rme _ => 0xA25F
  | .downstream _ => 0xA257
  | .synthetic _ _ => if d.fabricMode then 0xA259 else 0xA258

/-- The node whose configuration space holds a function. -/
def Dev.nodeOfFn (d : Dev) : CfgFunc → Nat
  | .upstream v | .mgmt v | .rme v | .synthetic v _ | .hdm v _ => v
  | .downstream p => d.num (Obj.portPartition p)

/-- Subsystem Vendor ID and Subsystem ID of a function: those of `vs.subsystem` or `fhost.subsystem`, whose bits [31:16] are the Vendor
ID. -/
def Dev.subsystem (d : Dev) (f : CfgFunc) : Nat :=
  d.num (if d.fabricMode then Obj.fhostSubsystem (d.nodeOfFn f) else Obj.vsSubsystem (d.nodeOfFn f))
def Dev.subsystemVendor (d : Dev) (f : CfgFunc) : Nat := field (d.subsystem f) 16 16
def Dev.subsystemId (d : Dev) (f : CfgFunc) : Nat := field (d.subsystem f) 0 16

/-- The first word of a function's configuration space: Device ID and Vendor ID. -/
def Dev.identityWord (d : Dev) (f : CfgFunc) : Nat := 65536 * d.deviceId f + Config.vendorId % 65536

/-! Capabilities (R155). -/

/-- Capabilities of switch port functions. -/
inductive Capability where
  | pciExpress
  | powerManagement
  | msi
  | msix
  | aer
  | acs
  | dpc
  | secondaryPciExpress
  | physicalLayer16
  | physicalLayer32
  | physicalLayer64
  | physicalLayer128
  | laneMargining
  | flitLogging
  | ptm
  | serialNumber
  deriving DecidableEq, Repr

/-- A capability that every switch port function carries. -/
def Capability.common : Capability → Bool
  | .pciExpress | .powerManagement | .msi | .msix | .aer | .secondaryPciExpress | .ptm | .serialNumber => true
  | _ => false

/-- A capability of the physical link, which a synthetic port does not carry. -/
def Capability.ofLink : Capability → Bool
  | .physicalLayer16 | .physicalLayer32 | .physicalLayer64 | .physicalLayer128 | .laneMargining | .flitLogging => true
  | _ => false

/-- A function carries a capability: ACS and DPC are those of downstream ports. -/
def hasCapability (f : CfgFunc) (c : Capability) : Bool :=
  match f with
  | .upstream _ => c.common || c.ofLink
  | .downstream _ => true
  | .synthetic _ _ => c.common || c == .acs || c == .dpc
  | _ => false

/-- Device Serial Number: the partition number and the field-network MAC address. -/
def Dev.serialNumber (d : Dev) (f : CfgFunc) : Nat := d.nodeOfFn f * 2 ^ 48 + deviceMac % 2 ^ 48

/-- What a downstream port tells of its slot: Slot Implemented, and the Slot Capabilities that R155 lists. -/
structure SlotCaps where
  powerController : Bool := true
  attentionButton : Bool := true
  attentionIndicator : Bool := true
  powerIndicator : Bool := true
  mrlSensor : Bool := false
  hotPlugCapable : Bool := true
  hotPlugSurprise : Bool := false
  physicalSlot : Nat
  deriving DecidableEq, Repr

/-- The slot of a function, where one is implemented: the slot channel behind a downstream port, or for a synthetic port the
binding entry of its function 0. -/
def Dev.slotCaps (d : Dev) (f : CfgFunc) : Option SlotCaps :=
  match f with
  | .downstream p => if d.linkField p (Obj.portSlotChannel p) < 32 then some { physicalSlot := d.linkField p (Obj.portSlotChannel p) } else none
  | .synthetic v x => ((d.boundTo v).find? (fun b => d.num (Obj.bindVdsp b) == x.val && d.num (Obj.bindVfn b) == 0)).map (fun b => { physicalSlot := b })
  | _ => none

/-! BARs of switch port functions (R409). -/

/-- A BAR register as a host reads it: its address with its type bits (64-bit and non-prefetchable). -/
def Dev.barRead (d : Dev) (f : CfgFunc) (r : CfgReg) : Nat := if (barSize f r).isSome then d.cfgReg f r + 4 else d.cfgReg f r

/-- The Expansion ROM BAR of a switch port function. -/
def romBarRead : Nat := 0

/-- The switch port function of a node whose own BAR holds a range, and the offset in it. -/
def Dev.ownBar (d : Dev) (v a len : Nat) : Option (CfgFunc × Nat) :=
  let fns := usp v :: (if d.fabricMode then (d.boundTo v).map d.synthOf else (d.bridgesOf v).map (fun b => b.fn))
  (fns.find? (fun f => d.barClaims f .bar 0x2000 a len)).map (fun f => (f, a - d.cfgReg f .bar))

/-- Bytes of a function's MSI-X table: 2,048 vectors of the RME endpoint, 8 of a switch port function (10, "Endpoint, doorbells and
host memory"; R409). -/
def msixBytes (f : CfgFunc) : Nat :=
  match f with
  | .rme _ => 32768
  | _ => 128

/-- A byte of the BAR that holds a function's MSI-X table: each vector is masked until a host clears Vector Control, and every other
byte reads 0, the pending-bit array as well (assumption log 8). -/
def Dev.barByte (d : Dev) (f : CfgFunc) (off : Nat) : Nat := if off < msixBytes f then tabGet d.msix (f, off) (b2n (off % 16 == 12)) else 0

/-- The order of the bytes of MSI-X tables. -/
def msixCode (k : CfgFunc × Nat) : Nat := cfgFuncCode k.1 * 32768 + k.2

/-- Bytes written to a function's BAR: only the MSI-X table keeps them. -/
def Dev.barWrite (d : Dev) (f : CfgFunc) : Nat → List Byte → Dev
  | _, [] => d
  | off, b :: t => Dev.barWrite (if off < msixBytes f then { d with msix := tabSet msixCode d.msix (f, off) b.toNat } else d) f (off + 1) t

/-- The offset of a range in BAR2 of a node's RME endpoint, which holds its MSI-X table. -/
def Dev.rmeBar2 (d : Dev) (v a len : Nat) : Option Nat :=
  let f : CfgFunc := .rme (Fin.ofNat 64 v)
  if d.barClaims f .prefBase 0x10000 a len then some (a - d.cfgReg f .prefBase) else none

/-- The bytes of a function's BAR. -/
def Dev.barBytes (d : Dev) (f : CfgFunc) (off len : Nat) : List Byte := (List.range len).map (fun i => BitVec.ofNat 8 (d.barByte f (off + i)))

end Sys2Proof.Machine
end

