-- ==== Sys2Proof/Machine/Sampling.lean ====
section
/-!
DEFINITION. Sys2Proof/Machine/Sampling.lean: frame samples (R382, R383) and the harvest rings (R384 to R386).
-/
namespace Sys2Proof

/-- The ingress number of a frame's source, as the sample record gives it. -/
def Ingress.number : Ingress → Nat
  | .port p => p
  | .rme _ => 0xFE
  | .mgmt _ => 0xFD

/-- The half in which a frame's source lies. -/
def Ingress.half : Ingress → Half
  | .port p => Half.ofPort p
  | .rme h => h
  | .mgmt h => h

end Sys2Proof

namespace Sys2Proof.Machine

/-! Samples. -/

/-- The record buffer of a half. -/
def Dev.sampleRecs (d : Dev) (h : Half) : List (List Byte) := byHalf h d.tele.recsW d.tele.recsE

/-- Samples of a half since enable. -/
def Dev.sampleSeq (d : Dev) (h : Half) : Nat := byHalf h d.tele.seqW d.tele.seqE

/-- A record put into a half's buffer of 4,096: it wraps in mode 0, and in mode 1 a full buffer loses it (R383). -/
def Dev.putSample (d : Dev) (h : Half) (r : List Byte) : Dev :=
  if d.num Obj.smpMode = 1 ∧ 4096 ≤ (d.sampleRecs h).length then d.inc32 Obj.smpLost
  else
    let l := r :: (d.sampleRecs h).take 4095
    let n := d.sampleSeq h + 1
    { d with tele := byHalf h { d.tele with recsW := l, seqW := n } { d.tele with recsE := l, seqE := n } }

/-- How a sampled frame ended. -/
structure SampleEnd where
  half : Half
  outPort : Nat
  cls : Nat
  colour : Colour
  cut : Bool := false
  cancelled : Bool := false
  crossed : Bool := false
  demoted : Bool := false
  stalled : Bool := false
  /-- the frame reached C9 -/
  sent : Bool
  deriving DecidableEq, Repr

/-- The 64 bytes of a sample record (16, "Sample record"). A clean cut-through frame takes nine core cycles, 16 or 17
units: which one is a free value (assumption log 1). -/
def sampleBytes (seq now free : Nat) (o : OpenSample) (e : SampleEnd) : List Byte :=
  let enq := match o.enq with
    | some (t, _, _) => if e.cut then 0xFFFFFFFF else t
    | none => 0xFFFFFFFF
  let q := match o.enq with
    | some (_, a, b) => (a, b)
    | none => (0, 0)
  beBytes 8 o.c1 ++ beBytes 4 (e.half.code * 2 ^ 31 + seq % 2 ^ 31) ++ beBytes 4 enq ++
    beBytes 4 (if !e.sent then 0xFFFFFFFF else if e.cut then 16 + free % 2 else now - o.c1) ++
    beBytes 1 o.inPort ++ beBytes 1 e.outPort ++ beBytes 1 (e.cls + 8 * e.colour.code) ++
    beBytes 1 (packBits [e.cut, e.cancelled, e.crossed, e.demoted, o.captured, o.stalled, !e.sent]) ++
    beBytes 1 o.kind ++ beBytes 1 (o.node.getD 0xFF) ++ beBytes 2 o.length ++ beBytes 4 q.1 ++ beBytes 4 q.2 ++ padTo 28 o.head

/-- The record of a sampled frame is written where it reaches C9 or ends (R383). -/
def Dev.sampleDone (d : Dev) (id : Nat) (e : SampleEnd) : Dev :=
  match tabFind d.tele.openSamples id with
  | none => d
  | some o =>
    let d := { d with tele := { d.tele with openSamples := tabDel d.tele.openSamples id } }
    d.bump.putSample e.half (sampleBytes (d.sampleSeq e.half) (d.time e.half) d.free o e)

/-- A sampled frame's enqueue, capture or node is noted. -/
def Dev.noteSample (d : Dev) (id : Nat) (f : OpenSample → OpenSample) : Dev :=
  { d with tele := { d.tele with openSamples := d.tele.openSamples.map (fun x => if x.1 = id then (id, f x.2) else x) } }

/-- The end of a queued frame's sample. -/
def Dev.sampleQueued (d : Dev) (h : Half) (q : QFrame) (sent : Bool) : Dev :=
  d.sampleDone q.id { half := h, outPort := q.outPort, cls := q.qcls, colour := q.colour, cancelled := q.cancelledGrant, crossed := q.crossed,
                      demoted := q.qcls != q.cls, stalled := q.stallHeld, sent := sent }

/-- A record's port filter: 0xFF matches any. -/
def portMatches (filter p : Nat) : Bool := filter == 0xFF || filter == p

/-- The egress that C3 gives a frame, 0xFF for none. -/
def Routed.egress (d : Dev) : Routed → Nat
  | .out tgt _ _ _ => tgt
  | .bound b _ _ _ => (d.portOfBinding b).getD noPort
  | _ => noPort

/-- A frame is a sampling candidate of a half (R382). -/
def Dev.sampleCandidate (d : Dev) (i : Ingress) (f : Frame) (out : Nat) : Bool :=
  portMatches (d.num Obj.smpInPort) i.number && portMatches (d.num Obj.smpOutPort) out &&
    bitOf (d.num Obj.smpClassMask) (d.classOf i f) && bitOf (d.num Obj.smpKindMask) (f.kind - 1)

/-- One step of the LFSR x^16 + x^14 + x^13 + x^11 + 1 of R382, shifted towards bit 0 (assumption log 115). -/
def lfsrStep (s : Nat) : Nat := s / 2 + (field s 0 1 + field s 2 1 + field s 3 1 + field s 5 1) % 2 * 2 ^ 15

/-- Several steps of the LFSR. -/
def lfsrRun : Nat → Nat → Nat
  | 0, s => s
  | n + 1, s => lfsrRun n (lfsrStep s)

/-- The countdown that a state of the LFSR draws: one of the integers N - N/4 to N + N/4 (R382). -/
def sampleCountdown (n lfsr : Nat) : Nat := n - n / 4 + Config.sampleDraw lfsr % (2 * (n / 4) + 1)

/-- SAMPLE_SELECT (R382): the countdown of a half has run out at a candidate, which is sampled, and is reloaded from the
half's LFSR. The sample belongs to the frame that enters the core next. -/
def Dev.sampleSelect (d : Dev) (h : Half) (i : Ingress) (f : Frame) : Dev :=
  let lfsr := lfsrRun Config.sampleSteps (byHalf h d.tele.lfsrW d.tele.lfsrE)
  let count := sampleCountdown (d.num Obj.smpInterval) lfsr
  let o : OpenSample := { half := h, c1 := d.time h, inPort := i.number, kind := f.kind, head := padTo 28 f.wire, length := f.bytes }
  { d with tele := byHalf h { d.tele with countW := count, lfsrW := lfsr, openSamples := tabSet id d.tele.openSamples d.nextFrame o }
                            { d.tele with countE := count, lfsrE := lfsr, openSamples := tabSet id d.tele.openSamples d.nextFrame o } }

/-- SAMPLE_SELECT. -/
def execSampleSelect (h : Half) (i : Ingress) (f : Frame) (out : Nat) (s : State) : Host.Outcome State Fault Refusal :=
  let d := s.dev
  if d.flag Obj.smpEnable && i.half == h && d.sampleCandidate i f out then onDev s (d.sampleSelect h i f) else .next s

/-- A write of `smp.enable` (R382): enabling restarts SEQ, empties the buffers and seeds both LFSRs. -/
def Dev.writeSmpEnable (d : Dev) (on : Bool) : Dev :=
  let was := d.flag Obj.smpEnable
  let d := d.setNum Obj.smpEnable (b2n on)
  if on && !was then
    let s := d.num Obj.smpSeed
    { d with tele := { d.tele with seqW := 0, seqE := 0, recsW := [], recsE := [], openSamples := [], lfsrW := s, lfsrE := s,
                                   countW := d.num Obj.smpInterval, countE := d.num Obj.smpInterval } }
  else d

/-! The harvest rings. -/

/-- Bytes of a harvest ring: 2 MiB. -/
abbrev ringBytes : Nat := 2097152

/-- Ring, writer queue and drop count of a half. -/
def Dev.ring (d : Dev) (h : Half) : List (List Byte) := byHalf h d.tele.ringW d.tele.ringE
def Dev.writer (d : Dev) (h : Half) : List (Option Nat × List Byte) := byHalf h d.tele.writerW d.tele.writerE
def Dev.dropped (d : Dev) (h : Half) : Nat := byHalf h d.tele.droppedW d.tele.droppedE
def Dev.setRing (d : Dev) (h : Half) (l : List (List Byte)) : Dev :=
  { d with tele := byHalf h { d.tele with ringW := l } { d.tele with ringE := l } }
def Dev.setWriter (d : Dev) (h : Half) (l : List (Option Nat × List Byte)) : Dev :=
  { d with tele := byHalf h { d.tele with writerW := l } { d.tele with writerE := l } }
def Dev.setDropped (d : Dev) (h : Half) (n : Nat) : Dev :=
  { d with tele := byHalf h { d.tele with droppedW := n } { d.tele with droppedE := n } }

/-- A matching frame is not captured. -/
def Dev.harvestDrop (d : Dev) (h : Half) : Dev := d.setDropped h (min 65535 (d.dropped h + 1))

/-- Bytes of a list of records. -/
def bytesOf (l : List (List Byte)) : Nat := (l.map List.length).sum

/-- A filter matches a frame (R384). -/
def Dev.filterMatches (d : Dev) (e inPort outPort cls : Nat) (colour : Colour) (node : Option Nat) (f : Frame) : Bool :=
  let mask := padTo 16 (d.bytes (Obj.harvFilterMask e))
  let value := padTo 16 (d.bytes (Obj.harvFilterValue e))
  let head := padTo 16 f.wire
  d.num (Obj.harvFilterMode e) != 0 && portMatches (d.num (Obj.harvFilterInPort e)) inPort && portMatches (d.num (Obj.harvFilterOutPort e)) outPort &&
    bitOf (d.num (Obj.harvFilterKindMask e)) (f.kind - 1) && bitOf (d.num (Obj.harvFilterClassMask e)) cls &&
    bitOf (d.num (Obj.harvFilterColourMask e)) colour.code &&
    (d.num (Obj.harvFilterNode e) == 0xFF || node == some (d.num (Obj.harvFilterNode e))) &&
    (mask.zip (value.zip head)).all (fun x => x.1 &&& x.2.1 == x.1 &&& x.2.2)

/-- A harvest record of a frame, its SEQ and DROPPED still 0 (16, "Harvest record header"). -/
def harvestBytes (now e inPort outPort cls snap : Nat) (stall : Bool) (colour : Colour) (node : Option Nat) (f : Frame) : List Byte :=
  let w := f.wire
  let body := w.take snap
  let pad := (body.length + 31) / 32 * 32
  beBytes 8 now ++ beBytes 4 0 ++ beBytes 2 (32 + pad) ++ beBytes 2 w.length ++ beBytes 1 inPort ++ beBytes 1 outPort ++ beBytes 1 e ++
    beBytes 1 (b2n (decide (snap < w.length)) + 2 * b2n stall + 4 * colour.code + 16 * cls) ++ beBytes 1 f.kind ++ beBytes 1 (node.getD 0xFF) ++
    beBytes 2 0 ++ beBytes 8 0 ++ padTo pad body

/-- A frame meets the harvest filters of its ingress half (R384, R385): whether a stall-mode filter holds it, and the
device with the record in the half's writer. -/
def Dev.harvest (d : Dev) (h : Half) (id inPort outPort cls : Nat) (colour : Colour) (node : Option Nat) (f : Frame) : Bool × Dev :=
  if !d.flag Obj.harvEnable then (false, d)
  else
    match ((List.range 32).map (fun i => 32 * h.code + i)).find? (fun e => d.filterMatches e inPort outPort cls colour node f) with
    | none => (false, d)
    | some e =>
      let stall := d.num (Obj.harvFilterMode e) == 2
      let r := harvestBytes (d.time h) e inPort outPort cls (d.num (Obj.harvFilterSnap e)) stall colour node f
      let ringFull := d.num Obj.harvMode == 1 && decide (ringBytes < bytesOf (d.ring h) + r.length)
      let queueFull := !stall && decide (65536 < bytesOf ((d.writer h).map (fun x => x.2)) + r.length)
      if ringFull || queueFull then (false, d.harvestDrop h)
      else (stall, (d.setWriter h (d.writer h ++ [(if stall then some id else none, r)])).noteSample id (fun o => { o with captured := true, stalled := stall }))

/-- A stall-held frame becomes eligible (R385). -/
def Dev.releaseStall (d : Dev) (id : Nat) : Dev :=
  let free := fun (q : QFrame) => if q.id = id then { q with stallHeld := false } else q
  let one := fun (b : Buffer) => { b with frames := b.frames.map free, seamQueue := b.seamQueue.map (fun f => { f with q := free f.q }) }
  { d with bufW := one d.bufW, bufE := one d.bufE }

/-- The oldest records of a ring that make room for one more. -/
def dropOldest (room : Nat) : List (List Byte) → List (List Byte)
  | [] => []
  | r :: t => if bytesOf (r :: t) ≤ room then r :: t else dropOldest room t

/-- A record with its SEQ and DROPPED. -/
def sealRecord (r : List Byte) (seq dropped : Nat) : List Byte :=
  r.take 8 ++ beBytes 4 seq ++ (r.drop 12).take 10 ++ beBytes 2 dropped ++ r.drop 24

/-- HARVEST_RECORD_WRITTEN (R385): the oldest record of the writer goes into the ring, where the oldest records make room
for it in mode 0 and a full ring drops it in mode 1; a stall-held frame is released in either case. -/
def Dev.harvestWrite (d : Dev) (h : Half) : Dev :=
  match d.writer h with
  | [] => d
  | (held, r) :: rest =>
    let d := d.setWriter h rest
    let d := match held with
      | some id => d.releaseStall id
      | none => d
    if d.num Obj.harvMode = 1 ∧ ringBytes < bytesOf (d.ring h) + r.length then d.harvestDrop h
    else
      let n := byHalf h d.tele.harvSeqW d.tele.harvSeqE
      let r := sealRecord r (h.code * 2 ^ 31 + n % 2 ^ 31) (d.dropped h)
      let d := (d.setRing h (dropOldest (ringBytes - r.length) (d.ring h) ++ [r])).setDropped h 0
      { d with tele := byHalf h { d.tele with harvSeqW := n + 1 } { d.tele with harvSeqE := n + 1 } }

/-- HARVEST_RECORD_WRITTEN. -/
def execHarvestRecordWritten (h : Half) (s : State) : Host.Outcome State Fault Refusal := onDev s (s.dev.harvestWrite h)

/-- A write of `harv.enable` (R386): 0 releases every stall-held frame at once. -/
def Dev.writeHarvEnable (d : Dev) (on : Bool) : Dev :=
  let d := d.setNum Obj.harvEnable (b2n on)
  if on then d else (d.tele.writerW ++ d.tele.writerE).foldl (fun d x =>
    match x.1 with
    | some id => d.releaseStall id
    | none => d) d

/-- A write of 1 to `harv.clear` (R386): both rings are empty, and SEQ starts again. -/
def Dev.harvClear (d : Dev) : Dev :=
  { d with tele := { d.tele with ringW := [], ringE := [], harvSeqW := 0, harvSeqE := 0, droppedW := 0, droppedE := 0 } }

/-- `harv.data`: the newest 2 MiB of records of a half, from the oldest on. -/
def Dev.harvData (d : Dev) (h : Half) : List Byte := (d.ring h).flatten

end Sys2Proof.Machine
end

