-- ==== Sys2Proof/Machine/Forward.lean ====
section
/-!
DEFINITION. Sys2Proof/Machine/Forward.lean: the forwarding core: cut-through and the buffered path (R163 to R167, R170),
meters and colours (R284), the egress scheduler (R289 to R293), link credits (R178, R316), skim (R182, R183) and the tally
(R185 to R187).
-/
namespace Sys2Proof

/-- Credits cover a need. -/
def Credits.covers (a n : Credits) : Bool :=
  decide (n.ph ≤ a.ph ∧ n.pd ≤ a.pd ∧ n.nh ≤ a.nh ∧ n.nd ≤ a.nd ∧ n.ch ≤ a.ch ∧ n.cd ≤ a.cd)

end Sys2Proof

namespace Sys2Proof.Machine

/-! BFL data flits as a port sends them (R224, R227, R230). -/

/-- Size of a credit pool of a link at its trained width. -/
def poolCells (width pool : Nat) : Nat := if pool < 8 then 17 else 81 * width - 136

/-- Free cells of a pool: its size less what is consumed and not returned, modulo 65,536 (R228). -/
def Dev.poolOf (d : Dev) (i pool : Nat) : Nat :=
  let l := d.link i
  poolCells (d.num (Obj.bflWidth i)) pool - (tabGet l.consumed pool 0 + 65536 - tabGet l.returned pool 0) % 65536

/-- Flits that a frame takes: its frame word and its bytes, padded to a dword, in payloads of 236 bytes. -/
def flitsOf (f : Frame) : Nat := (4 + (f.bflLength + 3) / 4 * 4 + 235) / 236

/-- A frame may start on a link (R215, R227, R230): the link is ACTIVE, the pair is FORMED or the frame is the joining
session's, its cost is covered and the replay buffer has room. -/
def Dev.bflReady (d : Dev) (i : Nat) (q : QFrame) : Bool :=
  d.linkSt i == LinkSt.active && (d.num Obj.pairState == PairSt.formed || q.frame.bflKind == 5) &&
    decide (q.cells ≤ d.poolOf i (min 7 q.qcls) + d.poolOf i 8) && decide ((d.link i).replay.length + flitsOf q.frame ≤ 1024)

/-- One data flit goes onto a link: numbered, kept for replay, and the replay timer runs (R230, R233). A forced error corrupts
it on its way, not in the replay buffer (R390). -/
def Dev.sendFlit (d : Dev) (i vc : Nat) (x : Nat × Bool × List Byte) (frames : List QFrame) (bad : Bool := false) : Dev :=
  let l := d.link i
  let e := d.inject 0x0A i
  let d := e.2
  let s : SentFlit := { seq := l.txSeq, vc := vc, first := x.1, cont := x.2.1, payload := x.2.2, frames := frames, replays := 0 }
  (d.modLink i (fun x => { x with txSeq := (l.txSeq + 1) % 4096, timerOn := true, timerAt := if l.timerOn then l.timerAt else d.clk,
                                  replay := x.replay ++ [s] })).flitOut i s (e.1 || bad)

/-- A frame sent on a link, on the VC of the class that it is queued as (R226): dedicated cells first, then shared. It takes flits of its own, the last padded by a word of
KIND 0 (assumption log 89, DESIGN CHOICE), and stands on its last flit. -/
def Dev.bflSend (d : Dev) (i : Nat) (q : QFrame) (bad : Bool := false) : Dev :=
  let vc := min 7 q.qcls
  let ded := min q.cells (d.poolOf i vc)
  let d := d.modLink i (fun x => { x with consumed := giveCells (giveCells x.consumed vc ded) 8 (q.cells - ded) })
  let l := frameFlits q.frame ded
  let d := l.dropLast.foldl (fun d x => d.sendFlit i vc x [] bad) d
  d.sendFlit i vc (l.getLastD (0, false, [])) [q] bad

/-! Eligibility (R290, R366, R390). -/

/-- An armed perturbation of a kind at a port. -/
def Dev.pertAt (d : Dev) (kind p : Nat) : Option (Nat × Pert) := d.test.armed.find? (fun e => e.2.kind == kind && e.2.target == p && e.2.left != 0)

/-- The non-posted sub-queue of a frame waits: a request at its head still needs a tracking entry (R214). -/
def Dev.trackHeld (d : Dev) (p : Nat) (q : QFrame) : Bool :=
  match q.frame.tlp? with
  | some t =>
    t.type.ord == .nonPosted && ((d.queueAt p).find? (fun x => queueKey x == queueKey q && x.frame.tlp?.any (fun y => y.type.ord == .nonPosted))).any (fun x => x.track.isSome)
  | none => false

/-- A queued frame that no stall, barrier, wait for a tracking entry or delay perturbation holds (R173, R214, R385). -/
def Dev.eligible (d : Dev) (p : Nat) (q : QFrame) : Bool :=
  !q.stallHeld && d.barrierClear q && q.track.isNone && !d.trackHeld p q &&
    match d.pertAt 3 p with
    | some (_, x) => !(bitOf x.mask q.qcls) || decide (q.enq + ns x.p1 ≤ d.time (Half.ofPort p))
    | none => true

/-- A back-pressure perturbation withholds a port's link credits. -/
def Dev.backPressed (d : Dev) (p : Nat) : Bool :=
  match d.pertAt 2 p with
  | some (_, x) => decide (d.time (Half.ofPort p) / 4 % max 1 x.p2 < x.p1)
  | none => false

/-- The link takes a frame: a BFL link by R227, another link while it is DL_Up and has its credits. -/
def Dev.linkReady (d : Dev) (p : Nat) (q : QFrame) : Bool :=
  if d.backPressed p then false
  else if d.num (Obj.portRole p) = 2 then
    match d.linkOfPort p with
    | some i => d.bflReady i q
    | none => false
  else d.dlUp p && (d.port p).credits.covers q.frame.credits

/-- The thermal throttle withholds the data tier from a fraction of the slots (R366). -/
def Dev.throttled (d : Dev) (p : Nat) : Bool :=
  decide ((d.port p).slotNo % 8 < byHalf (Half.ofPort p) d.pwr.throttleW d.pwr.throttleE)

/-- The shaper of a node's contract at a port. -/
def Dev.contractShaper (d : Dev) (p : Nat) (node : Option Nat) : Nat :=
  match node.bind (d.contractOf p) with
  | some e => d.num (Obj.trellisShaper e)
  | none => noShaper

/-- The data-tier shaper of a node at a port. -/
def Dev.nodeShaper (d : Dev) (p : Nat) (node : Option Nat) : Nat := d.num (Obj.schedNodeShaper (nodeKey p (node.getD 0)))

/-- Shapers, the IC7 limiter and the throttle let a frame pass (R287, R290, R291). -/
def Dev.gateOpen (d : Dev) (p : Nat) (q : QFrame) : Bool :=
  let h := Half.ofPort p
  d.shaperOpen h (d.num (Obj.schedPortShaper p)) &&
    (if q.qcls = 7 then decide (0 ≤ d.ic7Now p)
     else if q.qcls = 6 then d.shaperOpen h (d.contractShaper p q.node)
     else d.shaperOpen h (d.nodeShaper p q.node) && !d.throttled p)

/-- "May pass" is used only when the earlier TLP waits for link credits or a shaper (R171): no earlier TLP of the frame's
stream could go now. -/
def Dev.streamFree (d : Dev) (p : Nat) (q : QFrame) : Bool :=
  match q.frame.tlp? with
  | some t =>
    !(d.queueAt p).any (fun x => decide (x.id < q.id) && sameStream x q.inPort q.inHalf p t.tc && d.eligible p x && d.linkReady p x && d.gateOpen p x)
  | none => true

/-! Selection (R290 to R293). -/

/-- The sub-queue of a frame: posted, non-posted, completion, or other. -/
def subQueue (q : QFrame) : Nat :=
  match q.frame.body with
  | .tlp t =>
    match t.type.ord with
    | .posted => 0
    | .nonPosted => 1
    | .completion => 2
  | _ => 3

/-- The head of a queue: the oldest of its sub-queues' heads that the link takes. -/
def Dev.headOf (d : Dev) (p : Nat) (l : List QFrame) : Option QFrame :=
  l.find? (fun q => d.linkReady p q && (l.find? (fun x => subQueue x == subQueue q)).any (fun x => x.id == q.id))

/-- The frame of least enqueue time, then node number, then arrival (R292). -/
def oldest (l : List QFrame) : Option QFrame :=
  l.foldl (fun best q =>
    match best with
    | none => some q
    | some b => if q.enq < b.enq ∨ (q.enq = b.enq ∧ q.node.getD 64 < b.node.getD 64) then some q else best) none

/-- The child of least start tag plus service, the first of equals (R293). -/
def least {α : Type} (l : List (Nat × α)) : Option α :=
  (l.foldl (fun (best : Option (Nat × α)) x =>
    match best with
    | none => some x
    | some b => if x.1 < b.1 then some x else best) none).map (fun x => x.2)

/-- The class arbiter of a node: classes in ascending number. -/
def Dev.pickClass (d : Dev) (p v : Nat) (l : List QFrame) : Option QFrame :=
  least ((List.range 6).filterMap (fun c =>
    (d.headOf p (l.filter (fun q => q.qcls == c))).map (fun q => ((d.classTag p v c).s + service (d.charge p q.frame) (max 1 (d.classWeight p c)), q))))

/-- The node arbiter of a port: nodes in ascending number. -/
def Dev.pickNode (d : Dev) (p : Nat) (l : List QFrame) : Option QFrame :=
  least ((List.range 64).filterMap (fun v =>
    (d.pickClass p v (l.filter (fun q => q.node.getD 0 == v))).map (fun q => ((d.nodeTag p v).s + service (d.charge p q.frame) (max 1 (d.nodeWeight p v)), q))))

/-- The frame that the egress scheduler of a port chooses (R290): IC7, IC6, then the data tier. -/
def Dev.select (d : Dev) (p : Nat) : Option QFrame :=
  let l := (d.queueAt p).filter (fun q => d.eligible p q && d.gateOpen p q && d.streamFree p q)
  let heads := fun (c : Nat) => (List.range 4).filterMap (fun k => (l.filter (fun q => q.qcls == c && subQueue q == k)).find? (fun q => d.linkReady p q))
  match oldest (heads 7) with
  | some q => some q
  | none =>
    match oldest (heads 6) with
    | some q => some q
    | none => d.pickNode p (l.filter (fun q => decide (q.qcls ≤ 5)))

/-- The tier of a class (R290). -/
def tierOf (c : Nat) : Nat := if c = 7 then 0 else if c = 6 then 1 else 2

/-! Sending (C8, C9). -/

/-- Slots that a frame takes at a port's active width (R380). -/
def Dev.slotsOf (d : Dev) (p : Nat) (f : Frame) : Nat := d.slotsFor p f.bytes

/-- An IC6 frame is sent under its node's contract (0x4300:0D). -/
def Dev.countContract (d : Dev) (p : Nat) (node : Option Nat) : Dev :=
  match node.bind (d.contractOf p) with
  | some e => d.inc64 (Obj.trellisFrames e)
  | none => d

/-- What a frame that is sent is charged to: shapers, the IC7 limiter, the tags and the link's credits (R287, R289). -/
def Dev.chargeSend (d : Dev) (p : Nat) (q : QFrame) : Dev :=
  let h := Half.ofPort p
  let b := d.charge p q.frame
  let v := q.node.getD 0
  let rest := (d.queueAt p).filter (fun x => x.id != q.id && decide (x.qcls ≤ 5) && x.node.getD 0 == v)
  let d := d.chargeIf h (d.num (Obj.schedPortShaper p)) b
  let d := if q.qcls = 7 then d.chargeIc7 p b
    else if q.qcls = 6 then (d.chargeIf h (d.contractShaper p q.node) b).countContract p q.node
    else (d.chargeIf h (d.nodeShaper p q.node) b).serveTags p v q.qcls b (!rest.isEmpty) (rest.any (fun x => x.qcls == q.qcls))
  let d := (d.count Ev.txFrames p (some q.qcls) q.node).count Ev.txBytes p (some q.qcls) q.node b
  let n := d.slotsOf p q.frame
  d.modPort p (fun x => { x with credits := if d.num (Obj.portRole p) = 2 then x.credits else x.credits.less q.frame.credits, carry := x.carry + n })

/-- A frame's EP bit set (R312). -/
def setEp (f : Frame) : Frame :=
  match f.body with
  | .tlp t => { f with body := .tlp { t with ep := true } }
  | _ => f

/-- A TLP with EP set. -/
def isPoisoned (f : Frame) : Bool :=
  match f.body with
  | .tlp t => t.ep
  | _ => false

/-- The binding whose synthetic port a frame passes towards its function (R310). -/
def Dev.egressBinding (d : Dev) (q : QFrame) : Option Nat :=
  (q.bind.orElse (fun _ => (q.frame.tlp?.filter (fun t => t.type == .completion)).bind (fun t => d.bindOfRid t.requester))).filter d.isBound

/-- The downstream switch function by which a frame leaves at a port, physical or synthetic, with its binding there (R310, R311). -/
def Dev.egressFn (d : Dev) (p : Nat) (q : QFrame) : Option (CfgFunc × Option Nat) :=
  if d.num (Obj.portRole p) ≠ 0 then none
  else if d.fabricMode then (d.egressBinding q).map (fun b => (d.synthOf b, some b))
  else some (dsp p, none)

/-- A poisoned frame that Poisoned TLP Egress Blocking discards (R311): it triggers DPC with that reason. -/
def Dev.egressPoison (d : Dev) (p : Nat) (q : QFrame) (b : Option Nat) : Dev :=
  match b with
  | none => ((d.endFrame (Half.ofPort p) q.inPort q.inHalf q.cls q.node q.frame (.dpc (dsp p)) (d.portRid p)).dpcTrigger p DpcReason.poisoned).aerUncor p Aer.poisonedEgress
  | some b =>
    let v := d.num (Obj.bindHost b)
    let x := d.num (Obj.bindVdsp b)
    ((d.endSynthetic v x q).dpcSynthetic v x DpcReason.poisoned).orCfg (d.synthOf b) .aerUncorStatus (2 ^ Aer.poisonedEgress)

/-- A frame leaves at C9 of a port (R311, R390): on its link, or discarded by a forced error or Poisoned TLP Egress
Blocking, which triggers DPC. -/
def Dev.sendOut (d : Dev) (p : Nat) (q : QFrame) (cut : Bool) : Dev :=
  let h := Half.ofPort p
  let done := fun (d : Dev) (sent : Bool) => d.sampleDone q.id { half := h, outPort := p, cls := q.qcls, colour := q.colour, cut := cut, cancelled := q.cancelledGrant, crossed := q.crossed, demoted := q.qcls != q.cls, sent := sent }
  let e := if q.frame.tlp?.isSome then d.inject 0x0C p else (false, d)
  let q := if e.1 then { q with frame := setEp q.frame } else q
  let d := e.2
  let x := if q.frame.isRmeData then d.inject 0x08 p else (false, d)
  let d := x.2
  if x.1 then done d false
  else
    match (if isPoisoned q.frame then (d.egressFn p q).filter (fun x => bitOf (d.cfgReg x.1 .dpcControl) 5) else none) with
    | some (_, b) => (done d false).egressPoison p q b
    | none =>
      let d := done (d.chargeSend p q) true
      let l := d.inject 0x01 p
      let bfl := d.num (Obj.portRole p) == 2
      let d := if l.1 && !bfl then (l.2.modPort p (fun x => { x with replaying := x.replaying + d.slotsOf p q.frame })).linkReplay p else l.2
      if bfl then
        match d.linkOfPort p with
        | some i => d.bflSend i q l.1
        | none => d
      else (d.keepReplay p q.frame.bytes).emit (.frame p q.frame q.qcls)

/-- A frame that an uncorrectable buffer error destroys is reported in its node's upstream port (R308). -/
def Dev.frameDestroyed (d : Dev) (node : Option Nat) : Dev :=
  match node with
  | some v => if d.upPort v < 128 then d.aerUncor (d.upPort v) Aer.internal else d
  | none => d

/-- What the buffer read finds in the cells of the chosen frame (R313): the frame as it goes on, or none. -/
def Dev.readCells (d : Dev) (h : Half) (q : QFrame) (ecc : CellEcc) : Option QFrame × Dev :=
  match (if q.ecc = .clean then ecc else q.ecc) with
  | .clean => (some q, d)
  | .corrected => (some q, d.logEvent h Scope.half h.code 0 0x0501)
  | .payload =>
    let d := d.logEvent h Scope.half h.code 1 0x0502
    if q.frame.tlp?.isSome then
      (some { q with frame := setEp q.frame }, match q.node with
        | some v => d.inc64 (Obj.errNodePoisoned v)
        | none => d)
    else (none, d.frameDestroyed q.node)
  | .descriptor =>
    let d := (d.logEvent h Scope.half h.code 1 0x0502).frameDestroyed q.node
    (none, d.modBuf h (fun b => { b with lostCells := b.lostCells + q.cells }))

/-- EGRESS_SELECT (R290): the scheduler's slot: a timing perturbation may skip it, nothing may be eligible, or the chosen
frame is read and sent. -/
def Dev.egress (d : Dev) (p : Nat) (ecc : CellEcc) : Dev :=
  let h := Half.ofPort p
  let skip := match d.pertAt 1 p with
    | some (e, x) => if d.free % 65536 < x.p1 then some e else none
    | none => none
  let sel := d.select p
  let d := (if (d.pertAt 1 p).isSome then d.bump else d).modPort p (fun x => { x with slotNo := x.slotNo + 1 })
  match skip, sel with
  | some e, _ => d.fired e
  | none, none => d
  | none, some q =>
    let d := d.dropFrame h q.id
    match d.readCells h q ecc with
    | (none, d) => (d.sampleQueued h q false).admitHeld h
    | (some q, d) => (d.sendOut p q false).admitHeld h

/-- EGRESS_SELECT. -/
def execEgressSelect (p : Fin 128) (ecc : CellEcc) (s : State) : Host.Outcome State Fault Refusal := onDev s (s.dev.egress p ecc)

/-- LINK_CREDIT_UPDATE (R178): the partner returns credits. -/
def execLinkCreditUpdate (p : Fin 128) (c : Credits) (s : State) : Host.Outcome State Fault Refusal :=
  if s.dev.dlUp p then onDev s (s.dev.modPort p (fun x => { x with credits := x.credits.plus c, stallLogged := false })) else .next s

/-- CREDIT_STALL_TIMEOUT (R316). -/
def execCreditStallTimeout (p : Fin 128) (s : State) : Host.Outcome State Fault Refusal :=
  let d := s.dev
  if d.dlUp p && !(d.port p).stallLogged && (d.queueAt p).any (fun q => d.eligible p q && !d.linkReady p q) then
    let d := (d.logEvent (Half.ofPort p) Scope.port p 1 0x0209).modPort p (fun x => { x with stallLogged := true })
    onDev s (if d.num (Obj.portRole p) == 0 && !d.fabricMode && d.flag (Obj.errNodeStallDpc (d.num (Obj.portPartition p))) &&
        field (d.cfgReg (dsp p) .dpcControl) 0 2 != 0 then d.dpcTrigger p DpcReason.software else d)
  else .next s

/-! Arrival (C5 to C7). -/

/-- A frame on its way through C1 to C7. -/
structure Arrival where
  inPort : Nat
  inHalf : Half
  cls : Nat
  /-- the frame came over BFL, and took so many dedicated cells -/
  ded : Nat := 0
  /-- its link credits are owed; one copy of a broadcast message owes none (R166, R178) -/
  credited : Bool := true
  facts : CoreFacts
  deriving DecidableEq, Repr

/-- A skim notice for a victim (R183): in IC7 to the RME that sent it. -/
def noticeOf (x : RmePacket) : RmePacket :=
  { op := .skimNotice, dnode := x.snode, snode := x.dnode, destQpn := x.srcQpn, srcQpn := x.destQpn, psn := x.psn, path := x.path }

/-- A frame that the core itself sends towards an RME (R169, R183). -/
def Dev.sendNotice (d : Dev) (h : Half) (x : RmePacket) : Dev :=
  let f : Frame := { body := .rme (noticeOf x) }
  match d.routeRme false (noticeOf x) none f with
  | .out tgt h' _ f =>
    if tgt = localRme ∧ h' = h then (d.emit (.skimNotice h (noticeOf x))).emit (.toRme h f)
    else if h' ≠ h ∧ !d.seamOpen then d
    else
      let q := d.newFrame localMgmt h tgt h' 7 none f .ic7
      { (if h' = h then d.enqueueAt h q else d.enqueueSeam h q) with nextFrame := d.nextFrame + 1 }
  | _ => d

/-- A queue entry for an arriving frame. -/
def Dev.arriving (d : Dev) (a : Arrival) (tgt : Nat) (h : Half) (node : Option Nat) (f : Frame) : QFrame :=
  { d.newFrame a.inPort a.inHalf tgt h a.cls node f .pool with ded := a.ded, credited := a.credited }

/-- A frame that goes no further: its credits return and its sample ends (R383). -/
def Dev.arrivalOver (d : Dev) (a : Arrival) (f : Frame) (out : Nat) (colour : Colour) : Dev :=
  let q := d.arriving a out a.inHalf none f
  let d := d.giveCredits a.inPort q
  { (d.sampleDone q.id { half := a.inHalf, outPort := out, cls := a.cls, colour := colour, sent := false }) with nextFrame := d.nextFrame + 1 }

/-- A delay perturbation holds the frames of a class at a port (R390). -/
def Dev.delayed (d : Dev) (p c : Nat) : Bool :=
  match d.pertAt 3 p with
  | some (_, x) => bitOf x.mask c
  | none => false

/-- Conditions of R164 that the core's own state decides; a frame from BFL is stored like one that crosses the seam
(R21, R226). -/
def Dev.mayCut (d : Dev) (a : Arrival) (q : QFrame) (red stall : Bool) : Bool :=
  d.flag Obj.coreCtEnable && q.outHalf == a.inHalf && (decide (128 ≤ a.inPort) || d.num (Obj.portRole a.inPort) != 2) && !red && !stall && q.barrier.isEmpty && q.track.isNone &&
    (decide (128 ≤ q.outPort) ||
      ((if q.outPort < 64 then bitOf (d.num Obj.coreCtPortMaskLo) q.outPort else bitOf (d.num Obj.coreCtPortMaskHi) (q.outPort - 64)) &&
        a.facts.assemblerReady && d.linkReady q.outPort q && d.gateOpen q.outPort q && !d.delayed q.outPort q.qcls && !d.trackHeld q.outPort q && d.streamFree q.outPort q &&
        !(d.queueAt q.outPort).any (fun x => d.eligible q.outPort x && d.gateOpen q.outPort x && d.linkReady q.outPort x && decide (tierOf x.qcls ≤ tierOf q.qcls))))

/-- A request to the own BAR of a switch port function (R409), whose RID is its completer: a write fills the MSI-X table, and a read is
answered with what the BAR holds. -/
def Dev.atOwnBar (d : Dev) (h : Half) (q : QFrame) (src v : Nat) (f : CfgFunc) (off : Nat) (t : Tlp) : Dev :=
  let completer := match f with
    | .upstream _ => d.upstreamRid v
    | .downstream p => d.bridgeRid v (d.num (Obj.portVsDevfn p))
    | .synthetic _ x => d.bridgeRid v x
    | .rme _ => d.upstreamRid v + 2
    | _ => d.upstreamRid v
  match t.type.ord with
  | .posted => d.barWrite f off t.data
  | .nonPosted =>
    let ok := t.type == .memRead
    let c : Tlp := { completionOf t completer (if ok then .sc else .ur) false with data := if ok then d.barBytes f off t.len else [] }
    d.sendOwn src h q.inPort q.inHalf q.cls q.node { body := .tlp c }
  | .completion => d

/-- A frame handed to a local target (R248 to R251, R409): the RME answers non-posted requests to its BAR itself; a frame that
fails IDE integrity at its terminus is discarded (R111). -/
def Dev.atLocal (d : Dev) (h : Half) (q : QFrame) : Dev :=
  match q.frame.body with
  | .tlp t =>
    if q.outPort = localRme then
      match q.node.bind (fun v => if t.type.isMemory then (d.rmeBar2 v t.addr t.len).map (fun x => (v, x)) else none), t.type.ord with
      | some (v, off), _ => d.atOwnBar h q localRme v (.rme (Fin.ofNat 64 v)) off t
      | none, .nonPosted =>
        let ok := t.type == .memRead
        let c : Tlp := { completionOf t (d.upstreamRid (q.node.getD 0) + 2) (if ok then .sc else .ur) false with data := if ok then List.replicate t.len 0 else [] }
        d.sendOwn localRme h q.inPort q.inHalf q.cls q.node { body := .tlp c }
      | none, _ => d.handLocal h q.outPort q.node q.frame
    else if t.ide && t.ideFails then d.logEvent h Scope.node (q.node.getD 0) 1 0x0404
    else
      match q.node.bind (fun v => if t.type.isMemory then (d.ownBar v t.addr t.len).map (fun x => (v, x)) else none) with
      | some (v, f, off) => d.atOwnBar h q localMgmt v f off t
      | none => d.handLocal h q.outPort q.node q.frame
  | _ => d.handLocal h q.outPort q.node q.frame

/-- SEAM_FRAME_RECEIVE (R190): a frame is accepted in sequence only and stored in the egress half; a number that has been
accepted is a duplicate. A frame discarded on its way is not stored. -/
def Dev.seamReceive (d : Dev) (st seq : Nat) (fr : Frame) : Dev :=
  let h := Half.ofStation st
  let next := tabGet d.seam.rxSeq st 0
  if seq = next then
    match (d.buf h).seamQueue.find? (fun f => f.station == st && f.sent.any (fun x => x.1 == seq) && f.q.frame == fr) with
    | none => d
    | some f =>
      let d := d.modBuf h (fun b => { b with seamQueue := b.seamQueue.filter (fun y => !(y.station == st && y.sent == f.sent)) })
      let d := match f.sent with
        | some (_, m) => d.useCredit (SeamDir.ofSender h) m f.channel (fun n => n - 1)
        | none => d
      let d := { d with seam := { d.seam with rxSeq := tabSet id d.seam.rxSeq st ((next + 1) % 65536) } }
      let q : QFrame := { f.q with account := f.admitted, crossed := true }
      if f.gone then d.admitHeld h.other
      else if q.outPort < 128 then d.enqueueAt h.other q
      else d.atLocal h.other q
  else if (next + 65536 - seq % 65536) % 65536 ≤ 32768 then d.inc32 Obj.coreSeamDuplicates
  else d

/-- SEAM_FRAME_RECEIVE. -/
def execSeamFrameReceive (st : Fin 16) (seq : Nat) (f : Frame) (s : State) : Host.Outcome State Fault Refusal :=
  if s.dev.seamOpen && seq < 65536 then onDev s (s.dev.seamReceive st seq f) else .next s

/-- Buffered frames for local targets leave as soon as nothing holds them (R385). -/
def Dev.drainLocal (d : Dev) (h : Half) : Dev :=
  ((d.buf h).frames.filter (fun q => decide (128 ≤ q.outPort))).foldl (fun d x =>
    match (d.buf h).frames.find? (fun q => q.id == x.id) with
    | some q => if q.stallHeld || !d.barrierClear q then d else ((d.dropFrame h q.id).sampleQueued h q true).atLocal h q
    | none => d) d

/-- The objects of a half: cut-through and cancellation counts. -/
def ctCount (h : Half) : Key := byHalf h Obj.coreCtCountW Obj.coreCtCountE
def ctCancel (h : Half) : Key := byHalf h Obj.coreCtCancelW Obj.coreCtCancelE

/-- A frame cuts through (R164, R289). -/
def Dev.cutThrough (d : Dev) (q : QFrame) : Dev :=
  let h := q.inHalf
  let d := (d.inc64 (ctCount h)).count Ev.coreCut q.inPort (some q.cls) q.node
  let d := { (d.giveCredits q.inPort q) with nextFrame := d.nextFrame + 1 }
  if 128 ≤ q.outPort then
    (d.sampleDone q.id { half := h, outPort := q.outPort, cls := q.cls, colour := q.colour, cut := true, sent := true }).atLocal h q
  else
    let d := d.wakeFor q
    let d := if q.qcls ≠ q.cls then d.inc64 (Obj.schedPortIc6Demoted q.outPort) else d
    d.sendOut q.outPort q true

/-- A frame takes the buffered path (R167); none holds its source back. -/
def Dev.bufferPath (d : Dev) (q : QFrame) (red : Bool) : Option Dev :=
  let d := if q.outHalf = q.inHalf then
      d.noteSample q.id (fun o => { o with enq := some (d.time q.inHalf - o.c1, d.queueUsed q.inHalf q.outPort q.qcls, d.poolFree q.inHalf) })
    else d
  match (d.count Ev.coreBuffered q.inPort (some q.cls) q.node).bufferFrame q red with
  | some d => some (if 128 ≤ q.outPort ∧ q.outHalf = q.inHalf then d.drainLocal q.inHalf else d)
  | none => none

/-- The far half, or the target's port, cannot take a frame: why, by the first row of R304 that applies (R192, R310, R407). -/
def Dev.unreachable (d : Dev) (a : Arrival) (tgt : Nat) (h : Half) : Option EndCause :=
  let port := decide (tgt < 128) && d.num (Obj.portRole tgt) != 2 && !d.dlUp tgt
  if port && !d.fabricMode && d.num (Obj.portRole tgt) == 0 && d.dpcSet (dsp tgt) then some (.dpc (dsp tgt))
  else if h ≠ a.inHalf ∧ !d.seamOpen then some .policy
  else if port then some .unsupported
  else none

/-- A speculative grant that C7 does not confirm (R165): its slot is lost to the gate, and the frame is buffered. -/
def Dev.cancelGrant (d : Dev) (a : Arrival) (q : QFrame) (red : Bool) : Option Dev :=
  let d := (d.inc64 (ctCancel a.inHalf)).count Ev.coreCancel q.outPort (some a.cls) q.node
  (d.modPort q.outPort (fun x => { x with cancelled := x.cancelled + 1 })).bufferPath { q with cancelledGrant := true } red

/-- A frame that C5 has coloured: captured (R385), and cut through or buffered (R164, R165). `b` and `t` are the binding and
the tracking entry that a request to a bound function needs. -/
def Dev.carryOn (d : Dev) (a : Arrival) (tgt : Nat) (h : Half) (node : Option Nat) (f : Frame) (b : Option Nat) (t : Option Track) (colour : Colour) : Option Dev :=
  let red := colour == .red
  let g := d.harvest a.inHalf d.nextFrame a.inPort tgt a.cls colour node f
  let d := g.2
  let q : QFrame := { d.arriving a tgt h node f with colour := colour, stallHeld := g.1, bind := b, track := t, qcls := d.queueClass tgt a.cls node f }
  if d.mayCut a q red g.1 then
    if a.facts.c7Confirms || decide (128 ≤ tgt) then some (d.cutThrough q) else d.cancelGrant a q red
  else d.bufferPath q red

/-- A frame with a target: metered and marked (R284), then captured and cut through or buffered. -/
def Dev.carry (d : Dev) (a : Arrival) (tgt : Nat) (h : Half) (node : Option Nat) (f : Frame) (b : Option Nat := none) (t : Option Track := none) : Option Dev :=
  match d.unreachable a tgt h with
  | some cause => some ((d.arrivalOver a f tgt .green).endFrame a.inHalf a.inPort a.inHalf a.cls node f cause (if tgt < 128 then d.portRid tgt else 0))
  | none =>
    let m := if a.inPort < 128 then d.meterFrame a.inPort a.cls (d.charge a.inPort f) else (Colour.green, d)
    let colour := m.1
    let d := m.2
    let d := if a.inPort < 128 then d.count (Ev.meterGreen + colour.code) a.inPort (some a.cls) node else d
    let base := d.num (Obj.schedPortMeterBase a.inPort) + a.cls
    match f.rme? with
    | some x =>
      if colour == .red && x.op.isData && d.num (Obj.meterRedRme a.inHalf base) == 0 then some ((d.arrivalOver a f tgt colour).sendNotice a.inHalf x)
      else if x.op.isData && colour != .green then (d.count Ev.coreCeMarked tgt (some a.cls) node).carryOn a tgt h node (setCe f) b t colour
      else d.carryOn a tgt h node f b t colour
    | none => d.carryOn a tgt h node f b t colour

/-- A frame blocked at C4 or unclaimed (R170, R209): a non-posted request is answered with UR, everything else is
discarded; the event goes to the ingress port. -/
def Dev.blockFrame (d : Dev) (a : Arrival) (node : Option Nat) (completer : Nat) (acs : Bool) (f : Frame) : Dev :=
  let d := (d.arrivalOver a f noPort .green)
  let d := if d.fabricMode then d.inc64 Obj.fabricCtlBlocked else d
  let d := match node with
    | some v => d.count Ev.nodeBlocked v none (some v)
    | none => d
  match f.body with
  | .tlp t =>
    if t.type.isCxl then
      let d := if a.inPort < 128 then d.logEvent a.inHalf Scope.port a.inPort 1 0x0210 t.detail else d
      d.emit (.cxlResponse (node.getD 0) (t.type == .cxlMemRead))
    else
      let d := if a.inPort < 128 then
          (d.logEvent a.inHalf Scope.port a.inPort 1 (if acs then 0x0206 else 0x0207) t.detail).aerUncor a.inPort (if acs then Aer.acs else Aer.unsupported)
        else d
      match t.type.ord with
      | .nonPosted => d.synthesise a.inHalf a.inPort a.inHalf a.cls node f t .unsupported completer
      | _ => d
  | _ => d

/-- Two valid entries of the step that resolves a memory request contain its address (R207). `b` is the bound function that
sends it; none, and the host's upstream port does. -/
def Dev.mapOverlap (d : Dev) (h : Half) (b : Option Nat) (v : Nat) (t : Tlp) : Bool :=
  let peers := match b with
    | some b => d.gamMatch h t.addr t.len (fun e => e.kind == 2 && e.source == b)
    | none => []
  if !peers.isEmpty then decide (1 < peers.length)
  else if (d.hostOwn v t.addr t.len).isSome then false
  else decide (1 < (d.gamMatch h t.addr t.len (fun e => e.kind == 1 && e.host == v)).length)

/-- Overlapping map entries that a request meets are recorded (R207). -/
def Dev.noteOverlap (d : Dev) (a : Arrival) (node : Option Nat) (f : Frame) : Dev :=
  match node, f.body with
  | some v, .tlp t =>
    if d.fabricMode && t.type.isMemory && decide (a.inPort < 128) && d.num (Obj.portRole a.inPort) != 2 &&
        d.mapOverlap a.inHalf (if d.num (Obj.portRole a.inPort) = 1 then none else d.bindOfRid t.requester) v t then
      d.logEvent a.inHalf Scope.node v 1 0x0403
    else d
  | _, _ => d

/-- A request to a bound function (R202, R211): a non-posted one takes a tracking entry in the half of its egress port, at
once where that is its own half, and otherwise when it reaches its egress queue. -/
def Dev.carryBound (d : Dev) (a : Arrival) (b : Nat) (node : Option Nat) (f : Frame) (t : Option Track) : Option Dev :=
  match d.portOfBinding b with
  | none => some (d.blockFrame a node 0 false f)
  | some p =>
    let h := Half.ofPort p
    match d.unreachable a p h with
    | some cause => some ((d.arrivalOver a f p .green).endFrame a.inHalf a.inPort a.inHalf a.cls node f cause (d.bridgeRid (node.getD 0) (d.num (Obj.bindVdsp b))))
    | none =>
      match t with
      | none => d.carry a p h node f (some b) none
      | some t =>
        if h = a.inHalf then
          match d.takeTrack h f t with
          | some (g, d) => d.carry a p h node g (some b) none
          | none => d.carry a p h node f (some b) (some t)
        else d.carry a p h node f (some b) (some t)

/-- A completion to a proxy RID (R205, R212): matched, translated and forwarded; one whose translation has no value is
blocked. -/
def Dev.proxyArrives (d : Dev) (a : Arrival) (t : Tlp) (f : Frame) : Option Dev :=
  match d.proxyTake t with
  | (d, none) => some (d.arrivalOver a f noPort .green)
  | (d, some (x, c)) =>
    match x.host, d.hostRid x.binding with
    | some v, none => some (d.blockFrame a (some v) 0 false f)
    | _, rid =>
      let g := d.trackTarget x { c with completer := rid.getD 0 }
      if g.1 < 128 then d.carry a g.1 (Half.ofPort g.1) g.2.1 g.2.2 else some (d.arrivalOver a f noPort .green)

/-- What C3 and C4 found, carried out; none holds the source back. -/
def Dev.dispatch (d : Dev) (a : Arrival) (f : Frame) (r : Routed) : Option Dev :=
  match r with
  | .out tgt h node g => (d.noteOverlap a node f).carry a tgt h node g
  | .bound b node g t => (d.noteOverlap a node f).carryBound a b node g t
  | .blocked node completer acs => some (d.blockFrame a node completer acs f)
  | .ended node cause completer => some ((d.arrivalOver a f noPort .green).endFrame a.inHalf a.inPort a.inHalf a.cls node f cause completer)
  | .copies ports node =>
    some (ports.foldl (fun d p => (d.carry { a with credited := false } p (Half.ofPort p) node f).getD d) (d.arrivalOver a f noPort .green))
  | .proxy t => d.proxyArrives a t f
  | .lostError => some ((d.arrivalOver a f noPort .green).logEvent a.inHalf Scope.node 0xFF 3 0x0405)
  | .stale => some ((d.arrivalOver a f noPort .green).inc64 Obj.rmeStatDropStale)
  | .gone => some (d.arrivalOver a f noPort .green)

/-- The node that a route gives a frame. -/
def Routed.node : Routed → Option Nat
  | .out _ _ n _ => n
  | .bound _ n _ _ => n
  | .blocked n _ _ => n
  | .ended n _ _ => n
  | .copies _ n => n
  | _ => none

/-- A frame enters C1 (R163): counted, its poison logged (R312), looked up and carried. -/
def Dev.enter (d : Dev) (a : Arrival) (f : Frame) (r : Routed) : Option Dev :=
  let d := if a.inPort < 128 then
      (d.count Ev.rxFrames a.inPort (some a.cls) r.node).count Ev.rxBytes a.inPort (some a.cls) r.node (d.charge a.inPort f)
    else d
  let d := d.noteSample d.nextFrame (fun o => { o with node := r.node, length := if a.inPort < 128 then d.charge a.inPort f else f.bytes })
  let d := match f.body with
    | .tlp t => if t.ep && decide (a.inPort < 128) then (d.logEvent a.inHalf Scope.port a.inPort 1 0x0208 t.detail).aerUncor a.inPort Aer.poisoned else d
    | _ => d
  d.bump.dispatch a f r

/-- A frame may come from a source: a port whose link is up and that carries TLPs, CXL.mem messages only where that is on
(R159), or a half that runs. -/
def Dev.sourceOpen (d : Dev) (i : Ingress) (f : Frame) : Bool :=
  match i with
  | .port p => d.dlUp p && decide (d.num (Obj.portRole p) ≤ 1) && f.tlp?.any (fun t => !t.type.isCxl || (d.port p).cxlMem)
  | .rme h | .mgmt h => d.boot.released && !d.halted h

/-- A TLP longer than the largest frame is a malformed one (assumption log 114, DEDUCED): event 0x0205 and AER of the port that
received it, and the frame goes no further. -/
def Dev.malformed (d : Dev) (i : Ingress) (f : Frame) : Dev :=
  match i with
  | .port p =>
    let a : Arrival := { inPort := p, inHalf := i.half, cls := d.classOf i f, facts := ⟨false, false⟩ }
    (((d.arrivalOver a f noPort .green).logEvent i.half Scope.port p 1 0x0205 ((f.tlp?.map Tlp.detail).getD [])).aerUncor p Aer.malformed)
  | _ => d

/-- FRAME_INGRESS (R163, R164, R281). -/
def execFrameIngress (i : Ingress) (f : Frame) (facts : CoreFacts) (s : State) : Host.Outcome State Fault Refusal :=
  let d := s.dev
  if d.sourceOpen i f && decide (f.bytes ≤ d.num Obj.schedFrameMax) then
    let cls := d.classOf i f
    match d.enter { inPort := i.number, inHalf := i.half, cls := cls, facts := facts } f (d.route i cls f) with
    | some d => onDev s d
    | none => .next s
  else if d.sourceOpen i f then onDev s (d.malformed i f)
  else .next s

/-! Skim (R182 to R184). -/

/-- A frame that skim may evict: a queued RME data frame of an eligible class that has not been sent onto the seam. -/
def Dev.skimmable (d : Dev) (q : QFrame) : Bool := q.frame.isRmeData && decide (q.qcls ≤ 5) && bitOf (d.num Obj.coreSkimClassMask) q.qcls

/-- Candidates of a half: in its buffer and unsent in its seam queues, oldest first. -/
def Dev.skimList (d : Dev) (h : Half) : List QFrame :=
  ((d.buf h).frames ++ ((d.buf h).seamQueue.filter (fun f => f.sent.isNone)).map (fun f => f.q)).filter d.skimmable

/-- The victim: lowest class, its egress queue with the most pool cells, the newest frame there (R182). -/
def Dev.skimVictim (d : Dev) (h : Half) : Option QFrame :=
  let l := d.skimList h
  match (List.range 6).find? (fun c => l.any (fun q => q.qcls == c)) with
  | none => none
  | some c =>
    let lc := l.filter (fun q => q.qcls == c)
    let most := maxOf (lc.map (fun q => d.queueUsed h q.outPort c))
    match lc.find? (fun q => d.queueUsed h q.outPort c == most) with
    | none => none
    | some q0 =>
      (lc.filter (fun q => q.outPort == q0.outPort)).foldl (fun (best : Option QFrame) q =>
        match best with
        | none => some q
        | some b => if b.id < q.id then some q else best) none

/-- The counter of skimmed frames of a half. -/
def skimCount (h : Half) : Key := byHalf h Obj.coreSkimCountW Obj.coreSkimCountE

/-- SKIM_EVICT (R182, R183): one eviction, while the pool is below the floor or a skim that began there has not reached
floor and hysteresis. -/
def Dev.skim (d : Dev) (h : Half) : Dev :=
  let low := decide (d.poolFree h < d.num Obj.coreSkimFloor)
  let goal := decide (d.poolFree h < d.num Obj.coreSkimFloor + d.num Obj.coreSkimHysteresis)
  let run := d.flag Obj.coreSkimEnable && (low || ((d.buf h).skimming && goal))
  if !run then d.modBuf h (fun b => { b with skimming := false })
  else
    match d.skimVictim h with
    | none => d.modBuf h (fun b => { b with skimming := false })
    | some q =>
      let d := (d.dropFrame h q.id).dropSeam h q.id
      let d := (d.inc64 (skimCount h)).count Ev.coreSkimmed q.outPort (some q.cls) q.node
      let d := d.sampleQueued h q false
      let d := (d.modBuf h (fun b => { b with skimming := decide (d.poolFree h < d.num Obj.coreSkimFloor + d.num Obj.coreSkimHysteresis) })).admitHeld h
      match q.frame.rme? with
      | some x => d.sendNotice h x
      | none => d

/-- SKIM_EVICT. -/
def execSkimEvict (h : Half) (s : State) : Host.Outcome State Fault Refusal := onDev s (s.dev.skim h)

/-! The tally (R185 to R187). -/

/-- TALLY_SCAN_START (R185): a new scan `core.tally.period` after the previous one started, once that has ended. -/
def execTallyScanStart (h : Half) (s : State) : Host.Outcome State Fault Refusal :=
  let d := s.dev
  if d.flag Obj.coreTallyEnable && !(d.buf h).scanning then
    let d := d.advanceTo (if (d.buf h).lastScan = 0 then d.clk else (d.buf h).lastScan + ms (d.num Obj.coreTallyPeriod))
    onDev s (d.modBuf h (fun b => { b with scanning := true, lastScan := d.clk, judged := b.judged + b.lostCells, lostCells := 0 }))
  else .next s

/-- A completed scan adds one to the age of every queued cell, and to the scans since each queue's head advanced (R187). -/
def ageScan (b : Buffer) : Buffer :=
  let keys := (b.frames.map queueKey).eraseDups
  { b with frames := b.frames.map (fun q => { q with age := q.age + 1 }), headAge := keys.map (fun k => (k, tabGet b.headAge k 0 + 1)) }

/-- Stuck queues of a half (R187): a queued cell's age exceeds `core.tally.stuck_age` scans, and the queue's head has not
advanced for that long. Each is named by its egress port. -/
def Dev.stuckQueues (d : Dev) (h : Half) : List Nat :=
  let n := d.num Obj.coreTallyStuckAge
  let b := d.buf h
  (((b.frames.filter (fun q => decide (n < q.age) && decide (n < tabGet b.headAge (queueKey q) 0))).map (fun q => (queueKey q, q.outPort))).eraseDups).map (fun e => e.2)

/-- Counters of a half. -/
def tallyReclaimed (h : Half) : Key := byHalf h Obj.coreTallyReclaimedW Obj.coreTallyReclaimedE

/-- TALLY_SCAN_END (R186, R187): orphans of two scans are reclaimed, new ones are remembered, stuck queues are reported,
and a difference between 131,072 and the cells found free or owned that the orphans reclaimed in this scan do not explain
is recorded. -/
def Dev.tallyEnd (d : Dev) (h : Half) (found : Nat) : Dev :=
  let b := d.buf h
  let d := d.modBuf h (fun x => ageScan { x with scanning := false, orphans := b.judged, judged := 0 })
  let d := d.inc64 Obj.coreTallyScans
  let d := if b.orphans = 0 then d else (d.inc64 (tallyReclaimed h) b.orphans).logEvent h Scope.half h.code 0 0x0507
  let d := (d.stuckQueues h).foldl (fun d p => (d.inc32 Obj.coreTallyStuck).logEvent h Scope.port p 1 0x020A) d
  if found = bufferCells ∨ found + b.orphans = bufferCells then d
  else (d.inc32 Obj.coreTallyMismatch).logEvent h Scope.half h.code 1 0x0508

/-- TALLY_SCAN_END. -/
def execTallyScanEnd (h : Half) (found : Nat) (s : State) : Host.Outcome State Fault Refusal :=
  if (s.dev.buf h).scanning then onDev s (s.dev.tallyEnd h found) else .next s

end Sys2Proof.Machine
end

