-- ==== Sys2Proof/Machine/Ledger.lean ====
section
/-!
DEFINITION. Sys2Proof/Machine/Ledger.lean: what counts with time: core cycles and occupancies (R379) and the egress slot
ledger (R380, R381).
-/
namespace Sys2Proof.Machine

/-- Core cycles of 0.4545 ns that end within the unit before a fabric time: 2.2 cycles per ns. -/
def cyclesAt (t : Nat) : Nat := 11 * t / 20 - 11 * (t - 1) / 20

/-- Cells queued at a port. -/
def Dev.portCells (d : Dev) (p : Nat) : Nat := ((d.queueAt p).map (fun q => q.cells)).sum

/-- Cells that staged packets of a slice hold. -/
def Dev.sliceStaging (d : Dev) (n : Nat) : Nat :=
  ((d.rme.qps.filter (fun e => e.2.slice == n)).map (fun e => (e.2.staged.map (fun s => s.2)).sum)).sum

/-- A core cycle of a half: it is counted, and every occupancy adds what it holds. -/
def Dev.cycle (d : Dev) (h : Half) : Dev :=
  let d := (d.count Ev.cycles h.code).count Ev.poolCells h.code none none (d.poolSize h - d.poolFree h)
  let ports := ((d.buf h).frames.map (fun q => q.outPort)).eraseDups.filter (fun p => decide (p < 128))
  let d := ports.foldl (fun d p => d.count Ev.queueCells p none none (d.portCells p)) d
  ((d.knownSlices.filter (fun n => Half.ofSlice n == h && d.sliceStaging n != 0))).foldl (fun d n => d.count Ev.stagingCells n none none (d.sliceStaging n)) d

/-- The account of a slot that carries no byte of a frame, and its split (R381): lost to link, empty, or lost to gate. -/
def Dev.idleSlot (d : Dev) (p : Nat) : Nat × Option Nat :=
  let l := (d.queueAt p).filter (fun q => d.eligible p q)
  let ready := l.filter (fun q => d.linkReady p q)
  if l.isEmpty then (Ev.slotEmpty, none)
  else if ready.isEmpty then (Ev.slotLink, some Ev.slotLinkCredit)
  else if ready.any (fun q => d.gateOpen p q) then (Ev.slotGate, none)
  else (Ev.slotGate, some Ev.slotGateHold)

/-- One slot of a port is charged to one account (R381). -/
def Dev.chargeSlot (d : Dev) (p : Nat) : Dev :=
  let x := d.port p
  let d := d.count Ev.slotTotal p
  if 0 < x.carry then (d.modPort p (fun x => { x with carry := x.carry - 1 })).count Ev.slotCarried p
  else if 0 < x.replaying then
    ((d.modPort p (fun x => { x with replaying := x.replaying - 1 })).count Ev.slotLink p).count Ev.slotLinkReplay p
  else if 0 < x.cancelled then (d.modPort p (fun x => { x with cancelled := x.cancelled - 1 })).count Ev.slotGate p
  else
    let a := d.idleSlot p
    let d := d.count a.1 p
    match a.2 with
    | some e => d.count e p
    | none => d

/-- A fabric time unit of a port's capacity: a slot passes once 8 × w bytes have (R380). -/
def Dev.portUnit (d : Dev) (p : Nat) : Dev :=
  let w := d.num (Obj.pstL0pWidth p)
  let n := (d.port p).slotFrac + d.activeCapacity p
  if 256000 * w ≤ n then (d.modPort p (fun x => { x with slotFrac := n - 256000 * w })).chargeSlot p
  else d.modPort p (fun x => { x with slotFrac := n })

/-- One fabric time unit passes, with everything that counts in it (assumption log 4). -/
def Dev.passTime (d : Dev) : Dev :=
  let d := d.tick
  if d.clocks.stopped then d
  else
    let d := if cyclesAt d.clocks.west = 0 then d else d.cycle .west
    let d := if cyclesAt d.clocks.east = 0 then d else d.cycle .east
    (allPorts.filter (fun p => d.dlUp p && decide (0 < d.num (Obj.pstL0pWidth p)))).foldl (fun d p => d.portUnit p) d

end Sys2Proof.Machine
end

