-- ==== Sys2Proof/Machine/Bfl.lean ====
section
/-!
DEFINITION. Sys2Proof/Machine/Bfl.lean: the Brynjo Fabric Link: sequencing, acknowledgement and replay (R230 to R233),
bypass messages (R228, R229), retrains and holds (R234, R235), initialisation (R236 to R239), full resets (R240, R241) and
evacuation (R243, R244).
-/
namespace Sys2Proof.Machine

/-- The half of a link's port. -/
def Dev.linkHalf (d : Dev) (i : Nat) : Half := Half.ofPort (d.num (Obj.bflPort i))

/-- The last data flit accepted in order. -/
def BflLink.lastAccepted (l : BflLink) : Nat := (l.rxSeq + 4095) % 4096

/-! Acknowledgement and replay. -/

/-- The number before the oldest unacknowledged flit: an acknowledgement of it repeats the last one. -/
def BflLink.lastAcked (l : BflLink) : Nat :=
  match l.replay with
  | f :: _ => (f.seq + 4095) % 4096
  | [] => (l.txSeq + 4095) % 4096

/-- A number that an acknowledgement may carry (R232): of an unacknowledged flit, or the last one acknowledged. -/
def BflLink.inSpan (l : BflLink) (seq : Nat) : Bool := l.replay.any (fun f => f.seq == seq) || seq == l.lastAcked

/-- An acknowledgement of every flit up to a number (R232): it advances, repeats the last one, or lies outside the span
and is ignored. -/
def Dev.ackTo (d : Dev) (i seq : Nat) : Dev :=
  let l := d.link i
  if l.replay.any (fun f => f.seq == seq) then
    let rest := (l.replay.dropWhile (fun f => f.seq != seq)).drop 1
    d.modLink i (fun x => { x with replay := rest, timerOn := !rest.isEmpty, timerAt := d.clk })
  else if seq = l.lastAcked then d
  else d.inc32 (Obj.bflAcksIgnored i)

/-- The data flits of a list go out again, their slots charged as replayed (R233, R381). -/
def Dev.resendFlits (d : Dev) (i : Nat) (l : List SentFlit) : Dev :=
  let p := d.num (Obj.bflPort i)
  let w := max 1 (8 * d.num (Obj.pstL0pWidth p))
  let d := d.modPort p (fun x => { x with replaying := x.replaying + l.length * ((236 + w - 1) / w) })
  l.foldl (fun d f => d.flitOut i f) d

/-- A replay is due (R233, R234): every unacknowledged flit from the oldest, or RETRAIN at the limit. -/
def Dev.replayDue (d : Dev) (i : Nat) : Dev :=
  match (d.link i).replay with
  | [] => d
  | f :: t =>
    if d.num (Obj.bflReplayLimit i) ≤ f.replays then d.bflEvent i
    else
      let d := d.modLink i (fun x => { x with replay := { f with replays := f.replays + 1 } :: t, timerOn := true, timerAt := d.clk })
      (d.inc64 (Obj.bflReplays i) (f :: t).length).resendFlits i (f :: t)

/-- An ACK arrives (R232); an injected loss discards it at the receiver (R390). -/
def Dev.ackIn (d : Dev) (i ackSeq : Nat) : Dev :=
  if d.linkSt i = LinkSt.active then
    let e := d.inject 0x0B i
    if e.1 then e.2 else e.2.ackTo i ackSeq
  else d

/-- ACK. -/
def execAck (i : Fin 16) (ackSeq : Nat) (s : State) : Host.Outcome State Fault Refusal := onDev s (s.dev.ackIn i ackSeq)

/-- A NAK arrives (R233): its number acknowledges, and the rest is replayed at once, so that flit s + 1 has been sent again
before another NAK can come. One whose number lies outside the span is ignored (R232). -/
def Dev.nakIn (d : Dev) (i seq cause : Nat) : Dev :=
  if d.linkSt i = LinkSt.active ∧ cause ≤ 2 then
    let e := d.inject 0x0B i
    if e.1 then e.2 else if (e.2.link i).inSpan seq then (e.2.ackTo i seq).replayDue i else e.2.ackTo i seq
  else d

/-- NAK. -/
def execNak (i : Fin 16) (seq cause : Nat) (s : State) : Host.Outcome State Fault Refusal := onDev s (s.dev.nakIn i seq cause)

/-- BFL_REPLAY_TIMEOUT (R233). -/
def execBflReplayTimeout (i : Fin 16) (s : State) : Host.Outcome State Fault Refusal :=
  let d := s.dev
  if d.linkSt i = LinkSt.active ∧ (d.link i).timerOn then
    onDev s ((d.advanceTo ((d.link i).timerAt + ns (d.num (Obj.bflReplayTimer i)))).replayDue i)
  else .next s

/-! Reception. -/

/-- A NAK goes out. -/
def Dev.sendNak (d : Dev) (i cause : Nat) : Dev := (d.bypass i [.nak (d.link i).lastAccepted cause]).inc64 (Obj.bflNaksSent i)

/-- An ACK goes out and covers what has been accepted. -/
def Dev.sendAck (d : Dev) (i : Nat) : Dev := (d.bypass i [.ack (d.link i).lastAccepted]).modLink i (fun x => { x with sinceAck := 0 })

/-- A pool's total as the partner last stated it (R228). -/
def Dev.setReturned (d : Dev) (i pool total : Nat) : Dev :=
  if pool ≤ 8 then d.modLink i (fun x => { x with returned := tabSet id x.returned pool (total % 65536) }) else d

/-- A frame that an accepted flit completes enters the core (R226, R231). While the pair is not FORMED a link carries only
bypass messages and the joining session, and any other frame goes no further (R215). -/
def Dev.bflDeliver (d : Dev) (i vc : Nat) (f : Frame) (ded : Nat) : Dev :=
  let a : Arrival := { inPort := d.num (Obj.bflPort i), inHalf := d.linkHalf i, cls := vc, ded := ded, facts := ⟨false, false⟩ }
  if d.num Obj.pairState ≠ PairSt.formed ∧ f.bflKind ≠ 5 then d.arrivalOver a f noPort .green
  else (d.enter a f (d.routeBfl i vc f)).getD d

/-- A data flit that fails its CRC, or is malformed: counted, and answered by a NAK, at most one in 64 ns (R231). -/
def Dev.badFlit (d : Dev) (i cause : Nat) : Dev :=
  let d := d.inc64 (Obj.bflCrcErrors i)
  if (d.link i).lastCrcNak.any (fun t => decide (d.clk < t + ns 64)) then d
  else (d.sendNak i cause).modLink i (fun x => { x with lastCrcNak := some d.clk })

/-- A data flit whose CRC passes (R224, R231). -/
def Dev.dataFlit (d : Dev) (i : Nat) (h : BflHeader) (payload : List Byte) : Dev :=
  let l := d.link i
  if l.partnerInc ≠ some h.inc then d
  else if 8 ≤ h.vc then d.badFlit i 2
  else
    let d := d.setReturned i h.crPool h.crTotal
    if h.seq = l.rxSeq then
      match readPayload l.part h.cont payload with
      | none => d.badFlit i 2
      | some (fs, part) =>
        let d := d.modLink i (fun x => { x with rxSeq := (l.rxSeq + 1) % 4096, nakFor := none, sinceAck := l.sinceAck + 1, part := part })
        let d := if 16 ≤ l.sinceAck + 1 then d.sendAck i else d
        fs.foldl (fun d e => d.bflDeliver i h.vc (Frame.readBfl e.1 e.2.2) e.2.1) d
    else if (l.rxSeq + 4096 - h.seq % 4096) % 4096 ≤ 2048 then (d.inc64 (Obj.bflDuplicates i)).sendAck i
    else if l.nakFor = some l.rxSeq then d
    else (d.sendNak i 1).modLink i (fun x => { x with nakFor := some l.rxSeq })

/-- BFL_ACK_DUE (R232). -/
def execBflAckDue (i : Fin 16) (s : State) : Host.Outcome State Fault Refusal :=
  if s.dev.linkSt i = LinkSt.active ∧ 0 < (s.dev.link i).sinceAck then onDev s (s.dev.sendAck i) else .next s

/-- A CREDIT message arrives (R228). -/
def Dev.creditIn (d : Dev) (i firstPool : Nat) (totals : List Nat) : Dev :=
  if d.linkSt i = LinkSt.active ∧ (firstPool = 0 ∨ firstPool = 7) then
    ((List.range 7).zip totals).foldl (fun d e => d.setReturned i (firstPool + e.1) e.2) d
  else d

/-- CREDIT. -/
def execCredit (i : Fin 16) (firstPool : Nat) (totals : List Nat) (s : State) : Host.Outcome State Fault Refusal :=
  onDev s (s.dev.creditIn i firstPool totals)

/-- BFL_CREDIT_SEND (R228): both CREDIT messages. -/
def execBflCreditSend (i : Fin 16) (s : State) : Host.Outcome State Fault Refusal :=
  let g := fun k => tabGet (s.dev.link i).given k 0
  if s.dev.linkSt i = LinkSt.active then
    onDev s (s.dev.bypass i [.credit 0 ((List.range 7).map g), .credit 7 [g 7, g 8, 0, 0, 0, 0, 0]])
  else .next s

/-- A HEARTBEAT arrives (R229, R232): it also acknowledges. -/
def Dev.heartbeatIn (d : Dev) (i ackSeq : Nat) : Dev :=
  if d.linkSt i = LinkSt.active ∨ d.linkSt i = LinkSt.retrain then
    (d.modLink i (fun x => { x with lastHb := d.clk })).ackTo i ackSeq
  else d

/-- HEARTBEAT. -/
def execHeartbeat (i : Fin 16) (_linkState _hbSeq ackSeq : Nat) (s : State) : Host.Outcome State Fault Refusal := onDev s (s.dev.heartbeatIn i ackSeq)

/-- BFL_HEARTBEAT_SEND (R229). -/
def execBflHeartbeatSend (i : Fin 16) (s : State) : Host.Outcome State Fault Refusal :=
  let d := s.dev
  let l := d.link i
  if d.linkSt i ≠ LinkSt.down ∧ d.dlUp (d.num (Obj.bflPort i)) then
    onDev s ((d.bypass i [.heartbeat i (d.linkSt i) l.hbSeq l.lastAccepted]).modLink i (fun x => { x with hbSeq := (l.hbSeq + 1) % 65536 }))
  else .next s

/-- BFL_HEARTBEAT_TIMEOUT (R234). -/
def execBflHeartbeatTimeout (i : Fin 16) (s : State) : Host.Outcome State Fault Refusal :=
  let d := s.dev
  if d.linkSt i = LinkSt.active then onDev s ((d.advanceTo (max (d.link i).lastHb (d.link i).activeSince + us 100)).bflEvent i) else .next s

/-! Time (R217, R229). -/

/-- BFL_TIME_SEND. -/
def execBflTimeSend (i : Fin 16) (s : State) : Host.Outcome State Fault Refusal :=
  let d := s.dev
  let l := d.link i
  if d.linkSt i = LinkSt.active then
    let t := d.time (d.linkHalf i)
    let echo := match l.lastTime with
      | some (q, at') => (q, (t - at') % 2 ^ 24)
      | none => (0, 0)
    onDev s ((d.bypass i [.time l.tseq t echo.2 echo.1]).modLink i (fun x => { x with tseq := (l.tseq + 1) % 256, txTimes := ((l.tseq, t) :: x.txTimes).take 16 }))
  else .next s

/-- Fabric time of both halves stepped forward (R217). -/
def Dev.leapTime (d : Dev) (n : Nat) : Dev :=
  { d with clocks := { d.clocks with west := moveTime d.clocks.west n, east := moveTime d.clocks.east n } }

/-- A TIME message arrives: the round trip, the offset of the twin, and what node 1 has to slew (R217, R229). -/
def Dev.timeMessage (d : Dev) (i tseq txTime echoDelay echoSeq : Nat) : Dev :=
  let now := d.time (d.linkHalf i)
  let l := d.link i
  let rtt := match tabFind l.txTimes echoSeq with
    | some t => now - t - echoDelay
    | none => d.num (Obj.bflRtt i)
  let d := (d.setNum (Obj.bflRtt i) (rtt % 2 ^ 32)).modLink i (fun x => { x with lastTime := some (tseq, now) })
  if d.activeLinks.head? = some i then
    let off : Int := (txTime : Int) + (rtt / 2 : Nat) - (now : Int)
    let d := d.setNum Obj.pairTimeOffset (ofSigned 32 off)
    if d.ownNode = 1 ∧ (d.num Obj.pairState = PairSt.formed ∨ d.num Obj.pairState = PairSt.resync) then { d with pair := { d.pair with slew := off } } else d
  else d

/-- A TIME message on a link that is ACTIVE. -/
def Dev.timeIn (d : Dev) (i tseq txTime echoDelay echoSeq : Nat) : Dev :=
  if d.linkSt i = LinkSt.active then d.timeMessage i tseq txTime echoDelay echoSeq else d

/-- TIME. -/
def execTime (i : Fin 16) (tseq txTime echoDelay echoSeq : Nat) (s : State) : Host.Outcome State Fault Refusal :=
  onDev s (s.dev.timeIn i tseq txTime echoDelay echoSeq)

/-! Retrains. -/

/-- A link enters or re-enters ACTIVE. -/
def Dev.linkActive (d : Dev) (i : Nat) : Dev :=
  let p := d.num (Obj.bflPort i)
  let d := ((d.setNum (Obj.bflState i) LinkSt.active).setNum (Obj.bflWidth i) (d.num (Obj.pstWidth p))).setNum (Obj.bflRate i) (d.num (Obj.pstRate p))
  (d.modLink i (fun x => { x with activeSince := d.clk, lastHb := d.clk, resetReq := none, selfAcked := false, partnerAcked := false, peer := none, cap := none,
                                  timerOn := !x.replay.isEmpty, timerAt := d.clk })).setActive i true

/-- Every unacknowledged flit goes out again, replay counts at 0. -/
def Dev.replayAll (d : Dev) (i : Nat) : Dev :=
  let l := (d.link i).replay.map (fun f => { f with replays := 0 })
  ((d.modLink i (fun x => { x with replay := l })).inc64 (Obj.bflReplays i) l.length).resendFlits i l

/-- BFL_RETRAIN_L0 (R235): back to ACTIVE at the width and rate in force, or HELD where they are lost. -/
def execBflRetrainL0 (i : Fin 16) (width rate : Nat) (s : State) : Host.Outcome State Fault Refusal :=
  let d := s.dev
  if d.linkSt i = LinkSt.retrain then
    onDev s (if width = d.num (Obj.bflWidth i) ∧ rate = d.num (Obj.bflRate i) then
      (((d.inc32 (Obj.bflRetrains i)).setNum (Obj.pstLtssm (d.num (Obj.bflPort i))) Ltssm.l0).linkActive i).replayAll i else d.linkHeld i)
  else .next s

/-- BFL_RETRAIN_TIMEOUT (R235). -/
def execBflRetrainTimeout (i : Fin 16) (s : State) : Host.Outcome State Fault Refusal :=
  let d := s.dev
  if d.linkSt i = LinkSt.retrain then onDev s ((d.advanceTo ((d.link i).retrainSince + ms 2)).linkHeld i) else .next s

/-! Initialisation (R236 to R239). -/

/-- The first check of R236 that a partner's request fails. -/
def Dev.resetCheck (d : Dev) (i : Nat) (r : BflReset) : Nat :=
  let hash := padTo 32 (d.bytes Obj.pairTwinKeyHash)
  if !r.negotiated then 1
  else if r.node = d.ownNode then 2
  else if r.link ≠ i then 3
  else if hash.all (fun b => b == 0) then 5
  else if r.tag ≠ hash.take 8 then 4
  else if d.num (Obj.pstWidth (d.num (Obj.bflPort i))) < 4 then 6
  else 0

/-- Both ends have acknowledged: the link is ACTIVE, and its traffic continues or starts again (R238, R239). -/
def Dev.initDone (d : Dev) (i : Nat) : Dev :=
  let l := d.link i
  match l.peer with
  | none => d
  | some (inc, next) =>
    if l.selfAcked && l.partnerAcked then
      let own := d.num (Obj.bflIncarnation i)
      let same := l.partnerInc == some inc && l.ownInc == some own
      let d := d.setNum (Obj.bflTrainCause i) 0
      let d := if same then d.ackTo i ((next + 4095) % 4096)
        else (d.dropReplay i).modLink i (fun x => { x with txSeq := 0, rxSeq := 0, nakFor := none, sinceAck := 0, consumed := [], returned := [], given := [], changed := [], part := none })
      let d := d.modLink i (fun x => { x with partnerInc := some inc, ownInc := some own })
      let d := d.linkActive i
      if same then d.replayAll i else d
    else d

/-- A link awaits its initialisation: TRAINING or HELD with a physical layer in L0. -/
def Dev.initialising (d : Dev) (i : Nat) : Bool :=
  (d.linkSt i == LinkSt.training || d.linkSt i == LinkSt.held) && (d.link i).resetReq.any (fun r => r.1 == 0)

/-- A full reset agreed by both ends (R240): TRAINING with its traffic held, the physical layer in Detect. -/
def Dev.linkResets (d : Dev) (i width rate : Nat) : Dev :=
  let d := ((d.setNum (Obj.bflState i) LinkSt.training).linkUnlit i).setActive i false
  let d := d.modLink i (fun x => { x with resetReq := none, cap := some (width, rate), timerOn := false })
  d.portDown (d.num (Obj.bflPort i)) Ltssm.detect 0

/-- The limits of a link's port in the codes of R229. -/
def Dev.linkLimits (d : Dev) (i : Nat) : Nat × Nat :=
  let p := d.num (Obj.bflPort i)
  (widthCode (min (d.splitWidth p) (d.num (Obj.portMaxWidth p))), d.num (Obj.portMaxRate p))

/-- RESET_REQ (R236, R240, R241): each one is checked before it is answered. One that fails its check on an ACTIVE link has no
effect, since no train cause stands beside ACTIVE (assumption log 119, DEDUCED). -/
def Dev.resetRequest (d : Dev) (i : Nat) (r : BflReset) : Dev :=
  if r.reason = 0 then
    if d.initialising i then
      let c := d.resetCheck i r
      if c ≠ 0 then d.initFails i c
      else
        let w := d.num (Obj.pstWidth (d.num (Obj.bflPort i)))
        let d := d.bypass i [.reset true (d.resetMsg i 0 (widthCode w) (d.num (Obj.pstRate (d.num (Obj.bflPort i)))))]
        (d.modLink i (fun x => { x with partnerAcked := true, peer := some (r.inc, r.nextExpected) })).initDone i
    else d
  else if d.linkSt i = LinkSt.active then
    if d.resetCheck i r ≠ 0 ∨ ((d.link i).resetReq.isSome && d.ownNode == 1) then d
    else
      let lim := d.linkLimits i
      let w := min r.width lim.1
      let rate := min r.rate lim.2
      (d.bypass i [.reset true (d.resetMsg i r.reason w rate)]).linkResets i w rate
  else d

/-- RESET_REQ. -/
def execResetReq (i : Fin 16) (r : BflReset) (s : State) : Host.Outcome State Fault Refusal := onDev s (s.dev.resetRequest i r)

/-- RESET_ACK (R236, R238, R240). -/
def Dev.resetAnswered (d : Dev) (i : Nat) (r : BflReset) : Dev :=
  if r.reason = 0 then
    if d.initialising i then
      (d.modLink i (fun x => { x with selfAcked := true, peer := some (r.inc, r.nextExpected) })).initDone i
    else d
  else if d.linkSt i = LinkSt.active ∧ (d.link i).resetReq.any (fun q => q.1 == r.reason) then d.linkResets i r.width r.rate
  else d

/-- RESET_ACK. -/
def execResetAck (i : Fin 16) (r : BflReset) (s : State) : Host.Outcome State Fault Refusal := onDev s (s.dev.resetAnswered i r)

/-- BFL_RESET_REQ_SEND (R236, R240): the request again, until it is answered. -/
def execBflResetReqSend (i : Fin 16) (s : State) : Host.Outcome State Fault Refusal :=
  let d := s.dev
  match (d.link i).resetReq with
  | some (reason, w, rate) => if (d.link i).selfAcked then .next s else onDev s (d.bypass i [.reset false (d.resetMsg i reason w rate)])
  | none => .next s

/-- BFL_INIT_TIMEOUT (R236): 1 ms without RESET_ACK. -/
def execBflInitTimeout (i : Fin 16) (s : State) : Host.Outcome State Fault Refusal :=
  let d := s.dev
  if d.initialising i && !(d.link i).selfAcked then onDev s ((d.advanceTo ((d.link i).initSince + ms 1)).initFails i 7) else .next s

/-- BFL_TRAIN_RETRY (R235, R236): 100 ms after a failed attempt the physical layer trains again from Detect. -/
def execBflTrainRetry (i : Fin 16) (s : State) : Host.Outcome State Fault Refusal :=
  let d := s.dev
  if (d.link i).needFullTrain then
    onDev s ((d.modLink i (fun x => { x with needFullTrain := false })).portDown (d.num (Obj.bflPort i)) Ltssm.detect 0)
  else .next s

/-- A write of 1 or 0x81 to `bfl.cmd` (R240). -/
def Dev.requestReset (d : Dev) (i : Nat) (forced : Bool) : Dev × Nat :=
  if d.linkSt i ≠ LinkSt.active then (d, Status.state)
  else if !forced && d.num Obj.pairState == PairSt.formed && d.activeLinks.length == 1 then (d, Status.state)
  else
    let lim := d.linkLimits i
    ((d.modLink i (fun x => { x with resetReq := some (1, lim.1, lim.2), selfAcked := false })).bypass i [.reset false (d.resetMsg i 1 lim.1 lim.2)], Status.ok)

/-! Evacuation (R243, R244). -/

/-- A link control frame queued for a link, on VC 7. -/
def Dev.sendControl (d : Dev) (t op s lastSeq inc : Nat) : Dev :=
  d.sendOwn localMgmt (d.linkHalf t) (d.num (Obj.bflPort t)) (d.linkHalf t) 7 none { body := .linkControl op s lastSeq inc }

/-- A write of 2 to `bfl.cmd` (R243, R244): the status where it is refused, else the query is sent. -/
def Dev.startEvac (d : Dev) (s sid : Nat) : Dev × Option Nat :=
  let t := d.num (Obj.bflEvacTarget s)
  if (d.link s).evac.isSome then (d, some Status.busy)
  else if d.linkSt s ≠ LinkSt.held ∨ 16 ≤ t ∨ d.linkSt t ≠ LinkSt.active ∨ t = s ∨ d.num Obj.pairState ≠ PairSt.formed then (d, some Status.state)
  else
    let d := d.sendControl t 1 s 0 (d.num (Obj.bflIncarnation s))
    (d.modLink s (fun x => { x with evac := some (t, sid, d.nextFrame) }), none)

/-- EVAC_QUERY (R243 step 2): link s is held, and the last number accepted on it is answered; s takes a new incarnation
(R237). -/
def execEvacQuery (t s : Fin 16) (_inc : Nat) (st : State) : Host.Outcome State Fault Refusal :=
  let d := st.dev
  if d.linkSt t = LinkSt.active ∧ t ≠ s then
    let d := if d.linkSt s = LinkSt.held ∨ d.linkSt s = LinkSt.down then d else d.linkHeld s
    let d := d.modLink s (fun x => { x with part := none })
    onDev st ((d.sendControl t 2 s (d.link s).lastAccepted (d.num (Obj.bflIncarnation s))).newIncarnation s)
  else .next st

/-- The flits of a replay buffer after a number: all of them where the number lies before the oldest. -/
def flitsAfter (l : List SentFlit) (seq : Nat) : List SentFlit :=
  if l.any (fun f => f.seq == seq) then (l.dropWhile (fun f => f.seq != seq)).drop 1 else l

/-- The moved frames of an evacuation placed on link t (R243 step 4): in each class after the frames queued there before the
query and before any queued later, in their order. They stay charged to their accounts (R242). Where link t lies in the other half
they wait in the seam queues of the half that holds them (R12, R189), and the frames queued later wait behind them. -/
def Dev.placeMoved (d : Dev) (h : Half) (t mark : Nat) (moved : List QFrame) : Dev :=
  let p := d.num (Obj.bflPort t)
  let g := Half.ofPort p
  let ids := fun (c : Nat) => (moved.filter (fun q => q.qcls == c)).map (fun q => q.id)
  let later := fun (q : QFrame) => q.outPort == p && decide (mark ≤ q.id) && !q.moved
  let d := d.modBuf g (fun b => { b with frames := b.frames.map (fun q => if later q then { q with barrier := q.barrier ++ ids q.qcls } else q) })
  (moved.foldl (fun (a : Dev × List QFrame) q =>
    let q := { q with outPort := p, outHalf := g, enq := d.time h, moved := true, barrier := (a.2.filter (fun w => w.qcls == q.qcls)).map (fun w => w.id) }
    (if g = h then (a.1.wakeFor q).pushFrame h q else a.1.enqueueSeam h { q with crossed := false }, a.2 ++ [q])) (d, [])).1

/-- EVAC_REPLY (R243 steps 3 to 5): how many frames moved. What is on a seam module has not reached link s's queue yet, and goes
there. -/
def Dev.evacuate (d : Dev) (s t mark lastSeq : Nat) : Dev :=
  let p := d.num (Obj.bflPort s)
  let h := Half.ofPort p
  let sent := ((flitsAfter (d.link s).replay lastSeq).flatMap (fun f => f.frames)).map (fun q => { q with account := .pool })
  let queued := (d.buf h).frames.filter (fun q => q.outPort == p)
  let unsent := fun (f : SeamFrame) => f.q.outPort == p && f.sent.isNone
  let waiting := ((d.buf h.other).seamQueue.filter unsent).map (fun f => f.q)
  let d := d.modBuf h (fun b => { b with frames := b.frames.filter (fun q => q.outPort != p), headAge := b.headAge.filter (fun e => !(queued.map queueKey).contains e.1) })
  let d := d.modBuf h.other (fun b => { b with seamQueue := b.seamQueue.filter (fun f => !unsent f) })
  let d := d.modLink s (fun x => { x with replay := [], timerOn := false, evac := none })
  let d := (d.placeMoved h t mark (sent ++ queued)).placeMoved h.other t mark waiting
  let d := { d with homes := d.homes.map (fun (e : Nat × Nat) => if e.2 = s then (e.1, t) else e) }
  (d.setNum (Obj.bflEvacMoved s) (sent.length + queued.length + waiting.length)).newIncarnation s

end Sys2Proof.Machine
end

