-- ==== Sys2Proof/Machine/Rme.lean ====
section
/-!
DEFINITION. Sys2Proof/Machine/Rme.lean: the requester side of the remote memory engines: doorbells (R250, R253), host
reads (R251), keys (R257, R258), pacing and congestion control (R273 to R275), sending (R256, R259, R264), responses and
timers (R260, R261, R270), the flush (R276) and the quiesce of slices (R248).
-/
namespace Sys2Proof.Machine

/-! PSNs, modulo 2^24. -/

def psnAdd (a n : Nat) : Nat := (a + n) % 2 ^ 24

/-- How far a PSN lies after another. -/
def psnDiff (a b : Nat) : Nat := (a % 2 ^ 24 + 2 ^ 24 - b % 2 ^ 24) % 2 ^ 24

/-- A PSN lies within the 2^23 PSNs that precede a value (R262). -/
def psnBefore (a b : Nat) : Bool := decide (2 ^ 23 ≤ psnDiff a b)

/-! Host memory (R251, R265). -/

/-- Lengths of the TLPs that cover a range: at most a limit each, none across a 4 KiB boundary. -/
def hostChunks (limit : Nat) : Nat → Nat → Nat → List Nat
  | 0, _, _ => []
  | fuel + 1, addr, len =>
    if len = 0 then []
    else
      let n := max 1 (min len (min limit (4096 - addr % 4096)))
      n :: hostChunks limit fuel (addr + n) (len - n)

/-- Max Payload Size and Max Read Request Size of the RME endpoint of a slice (Device Control; assumption log 8). -/
def Dev.maxPayload (d : Dev) (n : Nat) : Nat := 128 * 2 ^ min 5 (field (d.cfgReg (.rme (Fin.ofNat 64 (d.num (Obj.rmeSliceOwner n)))) .deviceControl) 5 3)
def Dev.maxRead (d : Dev) (n : Nat) : Nat := 128 * 2 ^ min 5 (field (d.cfgReg (.rme (Fin.ofNat 64 (d.num (Obj.rmeSliceOwner n)))) .deviceControl) 12 3)

/-- Data written to host memory in posted writes; `roLast` says whether the last of them carries RO like the others
(R265, R266). -/
def Dev.hostWrites (d : Dev) (n : Nat) (ro roLast : Bool) : List Nat → Nat → List Byte → Dev
  | [], _, _ => d
  | [k], addr, data => d.hostWrite n addr (data.take k) roLast
  | k :: t, addr, data => (d.hostWrite n addr (data.take k) ro).hostWrites n ro roLast t (addr + k) (data.drop k)

/-- A write of any length to host memory. -/
def Dev.hostStore (d : Dev) (n addr : Nat) (data : List Byte) (ro roLast : Bool := false) : Dev :=
  d.hostWrites n ro roLast (hostChunks (d.maxPayload n) data.length addr data.length) addr data

/-- A read of any length of host memory. -/
def Dev.hostLoad (d : Dev) (n addr len : Nat) : Dev :=
  ((hostChunks (d.maxRead n) len addr len).foldl (fun (e : Dev × Nat) k => (e.1.hostRead n e.2 k, e.2 + k)) (d, addr)).1

/-- The host of a slice answers the RME's reads: it is not lost, and Bus Master Enable is set (R249, R251). -/
def Dev.hostOpen (d : Dev) (n : Nat) : Bool := !d.flag (Obj.rmeSliceLostHost n) && d.rmeBme (d.num (Obj.rmeSliceOwner n))

/-! Rings. -/

/-- Entries of the SQ and of the RQ. -/
def Qp.sqSize (q : Qp) : Nat := 2 ^ q.sqLog
def Qp.rqSize (q : Qp) : Nat := if q.rqLog = 0 then 0 else 2 ^ q.rqLog

/-- WQEs of an SQ are fetched while the QP sends or flushes, those of an RQ from INIT on (R255, R276). -/
def Qp.fetchesSq (q : Qp) : Bool := q.st == .ready || q.st == .error || q.st == .flushed
def Qp.fetchesRq (q : Qp) : Bool := q.st != .reset

/-- The RME fetches what the doorbells cover and it has not asked for yet, in ring order (R252); a slice that is
quiescing fetches nothing new (R248). -/
def Dev.fetch (d : Dev) (k : Nat) : Dev :=
  match d.qp k with
  | none => d
  | some q =>
    let st := d.num (Obj.rmeSliceState q.slice)
    if st = SliceSt.active ∨ (st = SliceSt.quiesced ∧ q.st = .error) then
      let sq := if q.fetchesSq then (List.range (q.sqProd - q.sqAsked)).map (fun i => q.sqAsked + i) else []
      let rq := if q.fetchesRq then (List.range (q.rqProd - q.rqAsked)).map (fun i => q.rqAsked + i) else []
      let d := sq.foldl (fun d i => d.hostRead q.slice (q.sqBase + 64 * (i % q.sqSize)) 64) d
      let d := rq.foldl (fun d i => d.hostRead q.slice (q.rqBase + 64 * (i % q.rqSize)) 64) d
      d.modQp k (fun x => { x with sqAsked := x.sqAsked + sq.length, rqAsked := x.rqAsked + rq.length })
    else d

/-- The next entry of a command queue is fetched: one at a time, in order (R254). -/
def Dev.fetchCmd (d : Dev) (n : Nat) : Dev :=
  let x := d.slice n
  if d.num (Obj.rmeSliceState n) = SliceSt.active ∧ x.cmd.isNone ∧ !x.stopped ∧ x.cmdFetched < x.cmdProd ∧ x.cmdFetched = x.cmdDone then
    (d.hostRead n (d.num (Obj.rmeSliceCmdqBase n) + 64 * (x.cmdFetched % 2 ^ d.num (Obj.rmeSliceCmdqLog n))) 64).modSlice n
      (fun x => { x with cmdFetched := x.cmdFetched + 1 })
  else d

/-! Doorbells (R250, R253, R254). -/

/-- A doorbell that is ignored is counted. -/
def Dev.dropDoorbell (d : Dev) (n : Nat) : Dev := d.inc32 (Obj.rmeSliceDoorbellDrops n)

/-- The conditions on the slice and the write: 32 bits, through the endpoint of the slice's node, the slice ACTIVE. -/
def Dev.doorbellOk (d : Dev) (n node size : Nat) : Bool :=
  size == 32 && d.num (Obj.rmeSliceState n) == SliceSt.active && d.num (Obj.rmeSliceOwner n) == node

/-- A producer index as a doorbell gives it, at most a ring ahead of the fetched position. -/
def newProducer (fetched size idx : Nat) : Option Nat :=
  let ahead := (idx % 65536 + 65536 - fetched % 65536) % 65536
  if ahead ≤ size then some (fetched + ahead) else none

/-- A consumer index from the last one written up to the producer. -/
def newConsumer (cons prod idx : Nat) : Option Nat :=
  let ahead := (idx % 65536 + 65536 - cons % 65536) % 65536
  if ahead ≤ prod - cons then some (cons + ahead) else none

/-- A send queue doorbell. -/
def Dev.sqDoorbell (d : Dev) (n node i idx size : Nat) : Dev :=
  let k := halfKey (Half.ofSlice n) i
  match d.qp k with
  | some q =>
    match newProducer q.sqFetched q.sqSize idx with
    | some x =>
      if d.doorbellOk n node size && q.slice == n then
        (d.modQp k (fun q => { q with sqProd := x, sqAsked := min q.sqAsked x })).fetch k
      else d.dropDoorbell n
    | none => d.dropDoorbell n
  | none => d.dropDoorbell n

/-- A receive queue doorbell. -/
def Dev.rqDoorbell (d : Dev) (n node i idx size : Nat) : Dev :=
  let k := halfKey (Half.ofSlice n) i
  match d.qp k with
  | some q =>
    match newProducer q.rqFetched q.rqSize idx with
    | some x =>
      if d.doorbellOk n node size && q.slice == n && q.rqLog != 0 then
        (d.modQp k (fun q => { q with rqProd := x, rqAsked := min q.rqAsked x })).fetch k
      else d.dropDoorbell n
    | none => d.dropDoorbell n
  | none => d.dropDoorbell n

/-- A doorbell on a CQ of the slice, with what it does for a valid index; an overflowed CQ accepts only DESTROY_CQ. -/
def Dev.cqDoorbell (d : Dev) (n node i idx size : Nat) (f : Nat → Cq → Cq) : Dev :=
  let k := halfKey (Half.ofSlice n) i
  match tabFind d.rme.cqs k with
  | some c =>
    match newConsumer c.cons c.prod idx with
    | some x => if d.doorbellOk n node size && c.slice == n && !c.overflow then d.modCq k (f x) else d.dropDoorbell n
    | none => d.dropDoorbell n
  | none => d.dropDoorbell n

/-- A command queue doorbell. -/
def Dev.cmdDoorbell (d : Dev) (n node idx size : Nat) : Dev :=
  let x := d.slice n
  match newProducer x.cmdFetched (2 ^ d.num (Obj.rmeSliceCmdqLog n)) idx with
  | some p => if d.doorbellOk n node size && !x.stopped then (d.modSlice n (fun x => { x with cmdProd := p })).fetchCmd n else d.dropDoorbell n
  | none => d.dropDoorbell n

/-- SQ_DB: a host's write of a size in bits, its bytes at offsets 2 and 3 (`target`) and at 0 and 1 (`index`), least significant first
(R5). -/
def execSqDb (n : Fin 4096) (node : Fin 64) (target index : List Byte) (size : Nat) (s : State) : Host.Outcome State Fault Refusal :=
  onDev s (s.dev.sqDoorbell n node (dbField target) (dbField index) size)

/-- RQ_DB. -/
def execRqDb (n : Fin 4096) (node : Fin 64) (target index : List Byte) (size : Nat) (s : State) : Host.Outcome State Fault Refusal :=
  onDev s (s.dev.rqDoorbell n node (dbField target) (dbField index) size)

/-- CQ_DB. -/
def execCqDb (n : Fin 4096) (node : Fin 64) (target index : List Byte) (size : Nat) (s : State) : Host.Outcome State Fault Refusal :=
  onDev s (s.dev.cqDoorbell n node (dbField target) (dbField index) size (fun x c => { c with cons := x }))

/-- CQ_ARM (R253). -/
def execCqArm (n : Fin 4096) (node : Fin 64) (target index : List Byte) (size : Nat) (s : State) : Host.Outcome State Fault Refusal :=
  onDev s (s.dev.cqDoorbell n node (dbField target) (dbField index) size (fun _ c => { c with armed := true }))

/-- CMD_DB (R254). -/
def execCmdDb (n : Fin 4096) (node : Fin 64) (index : List Byte) (size : Nat) (s : State) : Host.Outcome State Fault Refusal :=
  onDev s (s.dev.cmdDoorbell n node (dbField index) size)

/-! Keys (R257, R258). -/

/-- Half, entry and generation of a key (10, "Key, 32 bits"). -/
def keyEntry (key : Nat) : Nat := field key 11 20
def keyGen (key : Nat) : Nat := field key 0 11
def entryKey (h : Half) (e : Nat) : Nat := 1048576 * h.code + e

/-- The table entry that a key names, if it names a half. -/
def Dev.keyOf (d : Dev) (h : Half) (key : Nat) : Option KeyEntry :=
  if field key 31 1 = h.code then tabFind d.rme.keys (entryKey h (keyEntry key)) else none

def Dev.setKey (d : Dev) (h : Half) (e : Nat) (x : KeyEntry) : Dev :=
  { d with rme := { d.rme with keys := tabSet id d.rme.keys (entryKey h e) x } }

/-- The check of a local buffer (R258): none, or the status that it ends the WQE with. `base` is where the buffer starts
within the region's address space. -/
def Dev.localCheck (d : Dev) (n key addr len : Nat) (writes : Bool) : Option Nat :=
  match d.keyOf (Half.ofSlice n) key with
  | none => some CqeSt.localProtection
  | some e =>
    if !e.valid || e.slice != n || e.generation != keyGen key || (writes && !bitOf e.rights 0) then some CqeSt.localProtection
    else if e.base ≤ addr ∧ addr + len ≤ e.base + e.lenM1 + 1 then none
    else some CqeSt.localLength

/-! Rate and pacing (R273, R275). -/

/-- Mb/s of a QP that is not paced. -/
abbrev fullRate : Nat := 1200000

/-- Ceiling of the QPs of a slice, Mb/s. -/
def Dev.rateCeiling (d : Dev) (n : Nat) : Nat := min (1000 * d.num (Obj.rmeSliceRateLimit n)) fullRate

/-- Payload bytes of an MTU code. -/
def mtuBytes (c : Nat) : Nat := 1024 * 2 ^ c

/-- The lowest free shaper of the RME pool of a half. -/
def Dev.freeShaper (d : Dev) (h : Half) : Option Nat :=
  ((List.range (d.num Obj.rmeCcShaperCount)).map (fun i => d.num Obj.rmeCcShaperFirst + i)).find? (fun i => !(d.poolUse h).any (fun e => e.1 == i))

/-- A QP's pacing follows its rate (R275): a pool shaper below 1,200 Gb/s, gaps while the pool is empty. -/
def Dev.pace (d : Dev) (k : Nat) : Dev :=
  match d.qp k with
  | none => d
  | some q =>
    let h := keyHalf k
    if q.st ≠ .ready ∨ fullRate ≤ q.rate then d.dropPacing k
    else
      let burst := mtuBytes q.mtu + 32
      match q.shaper with
      | some i => d.reshape h i (1000 * q.rate) burst
      | none =>
        match d.freeShaper h with
        | some i =>
          ((d.setPoolUse h ((i, k) :: d.poolUse h)).modQp k (fun x => { x with shaper := some i, gapEnd := none })).reshape h i (1000 * q.rate) burst
        | none => if q.gapEnd.isSome then d else (d.inc64 Obj.rmeStatShaperShort).modQp k (fun x => { x with gapEnd := some d.clk })

/-- A QP takes a rate. -/
def Dev.setQpRate (d : Dev) (k r : Nat) : Dev := (d.modQp k (fun x => { x with rate := r })).pace k

/-- The QPs of a slice stay under its ceiling (R247). -/
def Dev.underCeiling (d : Dev) (n : Nat) : Dev :=
  (d.qpsOfSlice n).foldl (fun d k =>
    match d.qp k with
    | some q => if q.st = .ready ∧ d.rateCeiling n < q.rate then d.setQpRate k (d.rateCeiling n) else d
    | none => d) d

/-- Pacing lets a QP send. -/
def Dev.paceOpen (d : Dev) (k : Nat) (q : Qp) : Bool :=
  match q.shaper, q.gapEnd with
  | some i, _ => d.shaperOpen (keyHalf k) i
  | none, some t => decide (t ≤ d.clk)
  | none, none => true

/-- A packet of b bytes is charged to the pacing: the shaper, or a gap of whole steps of 64 ns that is at least the
packet's time at the rate. -/
def Dev.chargePace (d : Dev) (k b : Nat) : Dev :=
  match d.qp k with
  | none => d
  | some q =>
    match q.shaper, q.gapEnd with
    | some i, _ => d.chargeShaper (keyHalf k) i b
    | none, some t =>
      let gap := (8000 * b + 64 * max 1 q.rate - 1) / (64 * max 1 q.rate) * ns 64
      d.modQp k (fun x => { x with gapEnd := some (max t d.clk + gap) })
    | none, none => d

/-! Paths (R264, R274). -/

/-- Paths that a QP may take now: every active link, with its weight. -/
def Dev.pathsOf (d : Dev) (q : Qp) : List (Nat × Nat) := d.activeLinks.map (fun i => (i, tabGet q.weights i 0))

/-- A QP may send at all (R270): its peer is on this device, or some link to the twin is active. -/
def Dev.pathOpen (d : Dev) (q : Qp) : Bool := !d.remoteTwin q || d.num Obj.pairLinksActive != 0

/-- The credit of a path. -/
def creditOf (l : List (Nat × Int)) (p : Nat) : Int := tabGet l p 0

/-- The path with the most credit, the lowest number first. -/
def bestPath (l : List (Nat × Int)) : Option Nat :=
  (l.foldl (fun (b : Option (Nat × Int)) e =>
    match b with
    | none => some e
    | some x => if x.2 < e.2 ∨ (x.2 = e.2 ∧ e.1 < x.1) then some e else b) none).map (fun e => e.1)

/-- Smooth weighted round-robin (R264): every active path gains its weight, the one with the most credit is taken and
loses 65,536. A retransmission avoids the path that it last used while another is active. -/
def Dev.takePath (d : Dev) (k : Nat) (avoid : Option Nat) : Nat × Dev :=
  match d.qp k with
  | none => (0, d)
  | some q =>
    if !d.remoteTwin q then (0, d)
    else
      let paths := d.pathsOf q
      let cr := paths.map (fun e => (e.1, creditOf q.wcredit e.1 + (e.2 : Int)))
      let others := cr.filter (fun e => some e.1 != avoid)
      match bestPath (if others.isEmpty then cr else others) with
      | none => (0, d)
      | some p => (p, d.modQp k (fun x => { x with wcredit := cr.map (fun e => if e.1 = p then (p, e.2 - 65536) else e) }))

/-- Weight moved away from a path that echoed c marks (R274). -/
def shiftWeights (l : List (Nat × Nat)) (p c : Nat) : List (Nat × Nat) :=
  let take := tabGet l p 0 * min c 32 / 64
  let others := (l.filter (fun e => e.1 != p)).map (fun e => e.1)
  let n := others.length
  if n = 0 then l
  else
    let low := others.foldl min (others.headD 0)
    l.map (fun e =>
      if e.1 = p then (e.1, e.2 - take)
      else (e.1, e.2 + take / n + (if e.1 = low then take % n else 0)))

/-- A weight a quarter of the way towards its uniform value, rounded towards that value. -/
def quarterTowards (w u : Nat) : Nat := if w ≤ u then w + (u - w + 3) / 4 else w - (w - u + 3) / 4

/-- Weights a quarter of the way towards uniform, the difference of their sum settled on the lowest-numbered path. -/
def relaxWeights (l uniform : List (Nat × Nat)) : List (Nat × Nat) :=
  let m := l.map (fun e => (e.1, quarterTowards e.2 (tabGet uniform e.1 0)))
  let sum := (m.map (fun e => e.2)).sum
  match m with
  | [] => []
  | (p, w) :: t => (p, w + 65536 - sum) :: t

/-! Sending (R256, R259, R260). -/

/-- A request packet that its response, not an acknowledgement, completes. -/
def opAnswered (o : RmeOp) : Bool := o == .readReq || o == .fetchAdd || o == .compSwap

/-- READ and atomic WQEs outstanding. -/
def Qp.reads (q : Qp) : Nat := (q.unacked.filter (fun x => opAnswered x.pkt.op)).length

/-- Packets of a WQE at an MTU. -/
def packetsOf (w : Wqe) (mtu : Nat) : Nat :=
  if w.opcode = 3 ∨ w.opcode = 6 ∨ w.opcode = 7 then 1 else max 1 ((w.len + mtu - 1) / mtu)

/-- A WQE whose packets have all been sent. -/
def LiveWqe.allSent (w : LiveWqe) (mtu : Nat) : Bool := w.started && decide (packetsOf w.wqe mtu ≤ w.sent)

/-- Packet opcode of a WQE opcode. -/
def packetOp (opcode : Nat) : RmeOp :=
  match opcode with
  | 1 => .write
  | 2 => .writeImm
  | 3 => .readReq
  | 4 => .send
  | 5 => .sendImm
  | 6 => .fetchAdd
  | _ => .compSwap

/-- POS of packet i of n. -/
def posOf (i n : Nat) : Pos := if n ≤ 1 then .only else if i = 0 then .first else if i + 1 = n then .last else .middle

/-- Packet i of a WQE (R259). -/
def Dev.cutPacket (d : Dev) (k : Nat) (q : Qp) (w : LiveWqe) (i : Nat) : RmePacket :=
  let mtu := mtuBytes q.mtu
  let n := packetsOf w.wqe mtu
  let op := packetOp w.wqe.opcode
  let keyed := op != .send && op != .sendImm
  let payload := match op with
    | .readReq => []
    | .fetchAdd => beBytes 8 w.wqe.operand0
    | .compSwap => beBytes 8 w.wqe.operand0 ++ beBytes 8 w.wqe.operand1
    | _ => Sys2Proof.Machine.slice w.data (i * mtu) mtu
  { op := op, pos := posOf i n, ackReq := i + 1 == n || (q.sinceAckReq + 1) % 16 == 0, dnode := q.remoteNode, snode := d.ownNode,
    destQpn := field q.remote 0 24, srcQpn := qpnOf k q, psn := q.psn, msn := w.msn,
    offset := ((if keyed then field w.wqe.remoteOffset 0 30 else 0) + (if opAnswered op then 0 else i * mtu)) % 2 ^ 30,
    len := payload.length, key := if keyed then w.wqe.remoteKey else 0,
    imm := if op = .writeImm ∨ op = .sendImm then w.wqe.imm else 0,
    readLen := if op = .readReq then w.wqe.len else 0, payload := payload }

/-- A packet on its way to the core, with its counts (R379). -/
def Dev.emitPacket (d : Dev) (k n : Nat) (p : RmePacket) : Dev :=
  let d := d.emit (.packet (keyHalf k) p)
  if p.op.isData then
    let d := d.count Ev.rmeTxPackets n
    if p.retx then d.count Ev.rmeRetx n else d.count Ev.rmeTxBytes n none none p.payload.length
  else d

/-- The retransmission timer starts where it was stopped (R260). -/
def Dev.startTimer (d : Dev) (k : Nat) : Dev :=
  d.modQp k (fun q => if q.timerOn then q else { q with timerOn := true, timerAt := d.clk })

/-- The timer restarts, or stops when nothing is unacknowledged (R260). -/
def Dev.restartTimer (d : Dev) (k : Nat) : Dev :=
  d.modQp k (fun q => { q with timerOn := !q.unacked.isEmpty, timerAt := d.clk })

/-- The next WQE of a QP with packets still to send: started, and not all sent. -/
def Qp.sending (q : Qp) : Option LiveWqe := q.sq.find? (fun w => w.started && w.wqe.opcode != 8 && !w.allSent (mtuBytes q.mtu))

/-- The local buffer of a sending WQE fails the check that comes before a packet's data is read (R258). -/
def Dev.sendCheck (d : Dev) (q : Qp) (w : LiveWqe) : Option Nat :=
  if opAnswered (packetOp w.wqe.opcode) || w.wqe.len == 0 then none
  else d.localCheck q.slice w.wqe.localKey w.wqe.localAddr w.wqe.len false

/-- One packet is sent for the first time. -/
def Dev.sendNext (d : Dev) (k : Nat) (q : Qp) (w : LiveWqe) : Dev :=
  let i := w.sent
  let t := d.takePath k none
  let p := { d.cutPacket k q w i with path := t.1 }
  let d := t.2.modQp k (fun x => { x with
    psn := psnAdd x.psn 1, sinceAckReq := (x.sinceAckReq + 1) % 16,
    sq := x.sq.map (fun y => if y.index = w.index then { y with sent := i + 1 } else y),
    unacked := x.unacked ++ [{ pkt := p, wqe := w.index, isLast := decide (packetsOf w.wqe (mtuBytes q.mtu) ≤ i + 1), placed := [] }] })
  ((d.chargePace k (32 + p.payload.length)).emitPacket k q.slice p).startTimer k

/-- A WQE that no queue admits fails when its turn comes (10, "WQE opcodes"). -/
def Dev.badWqe (d : Dev) (k : Nat) (q : Qp) : Dev :=
  match q.sq.find? (fun w => !w.started) with
  | some w =>
    if (w.wqe.opcode = 0 ∨ 8 < w.wqe.opcode) ∧ (q.sq.takeWhile (fun x => x.started)).all (fun x => x.allSent (mtuBytes q.mtu)) then
      d.qpFails k (some w) CqeSt.localProtection
    else d
  | none => d

/-- A READY QP sends what its limits, its paths and its pacing let it (R256, R261, R270, R275). -/
def Dev.pump : Nat → Dev → Nat → Dev
  | 0, d, _ => d
  | fuel + 1, d, k =>
    match d.qp k with
    | none => d
    | some q =>
      if q.st ≠ .ready ∨ q.lost then d
      else
        match q.sending with
        | none => d.badWqe k q
        | some w =>
          if q.unacked.length < 512 ∧ q.reads < 16 ∧ q.rnrWait.isNone ∧ d.pathOpen q ∧ d.paceOpen k q then
            match d.sendCheck q w with
            | some st => d.qpFails k (some w) st
            | none => Dev.pump fuel (d.sendNext k q w) k
          else d

/-- A QP sends on. -/
def Dev.sendOn (d : Dev) (k : Nat) : Dev := Dev.pump 513 d k

/-- Paced QPs send on as time passes. -/
def Dev.sendPaced (d : Dev) : Dev :=
  (d.rme.qps.filter (fun e => e.2.shaper.isSome || e.2.gapEnd.isSome)).foldl (fun d e => d.sendOn e.1) d

/-- The next WQE to start, where its turn has come: every earlier one has sent all its packets, and a fence waits for
earlier READs and atomics (R252, R256). -/
def Qp.turn (q : Qp) (opcode : Nat) : Option LiveWqe :=
  match q.sq.find? (fun w => !w.started) with
  | some w =>
    let before := q.sq.takeWhile (fun x => x.started)
    if w.wqe.opcode = opcode ∧ before.all (fun x => x.allSent (mtuBytes q.mtu)) ∧ (!w.wqe.fence ∨ q.reads = 0) then some w else none
  | none => none

/-- A WQE starts with the data of its buffer, and its packets go out. -/
def Dev.beginWqe (d : Dev) (k : Nat) (w : LiveWqe) (data : List Byte) : Dev :=
  (d.modQp k (fun x => { x with
      msn := (x.msn + 1) % 65536,
      sq := x.sq.map (fun y => if y.index = w.index then { y with started := true, data := data, msn := x.msn } else y) })).sendOn k

/-- A WRITE or SEND WQE of an opcode starts (R258, R259): its local buffer is checked and read. -/
def Dev.startOut (d : Dev) (qpn opcode : Nat) (data : List Byte) : Dev :=
  let k := qpnKey qpn
  match d.qpByNumber qpn with
  | some q =>
    match (if q.st = .ready then q.turn opcode else none) with
    | some w =>
      if 2 ^ 30 < w.wqe.len then d.qpFails k (some w) CqeSt.localLength
      else
        match (if w.wqe.len = 0 then none else d.localCheck q.slice w.wqe.localKey w.wqe.localAddr w.wqe.len false) with
        | some st => d.qpFails k (some w) st
        | none =>
          if data.length = w.wqe.len ∧ (w.wqe.len = 0 ∨ d.hostOpen q.slice) then
            (d.hostLoad q.slice w.wqe.localAddr w.wqe.len).beginWqe k w data
          else d
    | none => d
  | none => d

/-- A READ or atomic WQE of an opcode starts: its local buffer is checked. -/
def Dev.startIn (d : Dev) (qpn opcode : Nat) : Dev :=
  let k := qpnKey qpn
  match d.qpByNumber qpn with
  | some q =>
    match (if q.st = .ready then q.turn opcode else none) with
    | some w =>
      let len := if opcode = 3 then w.wqe.len else 8
      if 2 ^ 30 < len then d.qpFails k (some w) CqeSt.localLength
      else if len = 0 then d.qpFails k (some w) CqeSt.localProtection
      else
        match d.localCheck q.slice w.wqe.localKey w.wqe.localAddr len true with
        | some st => d.qpFails k (some w) st
        | none => d.beginWqe k w []
    | none => d
  | none => d

/-- LOCAL_INV (R257): the key is invalidated once every earlier WQE has completed, and its entry stays allocated. -/
def Dev.localInv (d : Dev) (qpn : Nat) : Dev :=
  let k := qpnKey qpn
  match d.qpByNumber qpn with
  | some q =>
    match q.sq with
    | w :: _ =>
      if q.st = .ready ∧ w.wqe.opcode = 8 ∧ !w.started then
        let h := keyHalf k
        match d.keyOf h w.wqe.imm with
        | some e =>
          if e.valid && e.slice == q.slice && e.generation == keyGen w.wqe.imm then
            ((d.setKey h (keyEntry w.wqe.imm) { e with valid := false }).completeSend k w CqeSt.ok).sendOn k
          else d.qpFails k (some w) CqeSt.localProtection
        | none => d.qpFails k (some w) CqeSt.localProtection
      else d
    | [] => d
  | none => d

/-- WQE_WRITE. -/
def execWqeWrite (qpn : Nat) (data : List Byte) (s : State) : Host.Outcome State Fault Refusal := onDev s (s.dev.startOut qpn 1 data)

/-- WQE_WRITE_IMM. -/
def execWqeWriteImm (qpn : Nat) (data : List Byte) (s : State) : Host.Outcome State Fault Refusal := onDev s (s.dev.startOut qpn 2 data)

/-- WQE_SEND. -/
def execWqeSend (qpn : Nat) (data : List Byte) (s : State) : Host.Outcome State Fault Refusal := onDev s (s.dev.startOut qpn 4 data)

/-- WQE_SEND_IMM. -/
def execWqeSendImm (qpn : Nat) (data : List Byte) (s : State) : Host.Outcome State Fault Refusal := onDev s (s.dev.startOut qpn 5 data)

/-- WQE_READ. -/
def execWqeRead (qpn : Nat) (s : State) : Host.Outcome State Fault Refusal := onDev s (s.dev.startIn qpn 3)

/-- WQE_FETCH_ADD. -/
def execWqeFetchAdd (qpn : Nat) (s : State) : Host.Outcome State Fault Refusal := onDev s (s.dev.startIn qpn 6)

/-- WQE_COMP_SWAP. -/
def execWqeCompSwap (qpn : Nat) (s : State) : Host.Outcome State Fault Refusal := onDev s (s.dev.startIn qpn 7)

/-- WQE_LOCAL_INV. -/
def execWqeLocalInv (qpn : Nat) (s : State) : Host.Outcome State Fault Refusal := onDev s (s.dev.localInv qpn)

/-! The flush and the quiesce (R248, R276). -/

/-- Free value bits for a CQE field that the manual does not give (assumption log 1). -/
def Dev.freeBits (d : Dev) (w : Nat) : Nat := d.free % 2 ^ w

/-- A QP in ERROR whose posted WQEs have all been fetched flushes them in ring order and is FLUSHED. -/
def Dev.flushQp (d : Dev) (k : Nat) : Dev :=
  match d.qp k with
  | none => d
  | some q =>
    if q.st = .error ∧ q.sqFetched = q.sqProd ∧ q.rqFetched = q.rqProd then
      let d := q.sq.foldl (fun d w => d.completeSend k w CqeSt.flushed) d
      let d := q.rq.foldl (fun d w => d.completeRecv k w { status := CqeSt.flushed }) d
      (d.modQp k (fun x => { x with st := .flushed, recv := none })).countQpError q.slice
    else d

/-- A QUIESCING slice is QUIESCED at the instant its last condition comes to hold (R248). -/
def Dev.quiesceCheck (d : Dev) (n : Nat) : Dev :=
  let qs := d.qpsOfSlice n
  if d.num (Obj.rmeSliceState n) = SliceSt.quiescing ∧ (d.slice n).cmd.isNone ∧ (d.slice n).cmdFetched = (d.slice n).cmdDone ∧
      qs.all (fun k => match d.qp k with
        | some q => (q.st == .reset || q.st == .flushed) && q.staged.isEmpty
        | none => true) then d.sliceTo n SliceSt.quiesced
  else d

/-- QP_FLUSHED (R276). -/
def execQpFlushed (qpn : Nat) (s : State) : Host.Outcome State Fault Refusal :=
  match s.dev.qpByNumber qpn with
  | some q => onDev s ((s.dev.flushQp (qpnKey qpn)).quiesceCheck q.slice)
  | none => .next s

/-- SLICE_QUIESCED (R248). -/
def execSliceQuiesced (n : Fin 4096) (s : State) : Host.Outcome State Fault Refusal := onDev s (s.dev.quiesceCheck n)

/-- SLICE_QUIESCE_BUDGET_EXPIRY (R248). -/
def Dev.quiesceBudget (d : Dev) (n : Nat) : Dev :=
  if d.num (Obj.rmeSliceState n) = SliceSt.quiescing then
    let d := d.advanceTo ((d.slice n).quiesceSince + us (d.num Obj.rmeRetxTimeout * (d.num Obj.rmeRetryLimit + 1)) + ms 1)
    let d := d.sliceTo n SliceSt.quiesced
    (d.qpsOfSlice n).foldl (fun d k =>
      match d.qp k with
      | some q =>
        if q.st = .reset ∨ q.st = .flushed ∨ q.lost then d
        else if q.st = .error then (d.fetch k).flushQp k
        else ((d.qpFails k (d.oldestSend k) CqeSt.retryExceeded).fetch k).flushQp k
      | none => d) d
  else d

/-- SLICE_QUIESCE_BUDGET_EXPIRY. -/
def execSliceQuiesceBudgetExpiry (n : Fin 4096) (s : State) : Host.Outcome State Fault Refusal := onDev s (s.dev.quiesceBudget n)

/-! Releasing (R248, R255). -/

/-- A QP is destroyed: its index is free after 10 ms, and keeps its incarnation. -/
def Dev.dropQp (d : Dev) (k : Nat) : Dev :=
  match d.qp k with
  | none => d
  | some q =>
    let d := d.dropPacing k
    { d with rme := { d.rme with qps := tabDel d.rme.qps k, qpHist := tabSet id d.rme.qpHist k (q.incarnation, some d.clk) } }

/-- A slice is released: every QP and CQ destroyed, every key invalidated and freed, its rings at index 0. -/
def Dev.releaseSlice (d : Dev) (n : Nat) : Dev :=
  let d := (d.qpsOfSlice n).foldl (fun d k => d.dropQp k) d
  let d := { d with rme := { d.rme with
    cqs := d.rme.cqs.filter (fun e => e.2.slice != n),
    keys := d.rme.keys.map (fun (e : Nat × KeyEntry) => if e.2.slice = n ∧ e.2.allocated then (e.1, { e.2 with valid := false, allocated := false }) else e),
    slices := tabSet id d.rme.slices n {} } }
  (d.setNum (Obj.rmeSliceLostHost n) 0).sliceTo n SliceSt.released

/-- A write of `rme.slice.cmd` (R248). -/
def Dev.sliceCmd (d : Dev) (n v : Nat) : Dev × Nat :=
  let st := d.num (Obj.rmeSliceState n)
  if st = SliceSt.active ∧ v = 1 then
    (((d.sliceTo n SliceSt.quiescing).modSlice n (fun x => { x with quiesceSince := d.clk })).quiesceCheck n, Status.ok)
  else if st = SliceSt.active ∧ v = 3 then (d, Status.quiesce)
  else if st = SliceSt.quiesced ∧ v = 2 ∧ !d.flag (Obj.rmeSliceLostHost n) then
    let d := d.sliceTo n SliceSt.active
    (((d.qpsOfSlice n).foldl (fun d k => d.fetch k) d).fetchCmd n, Status.ok)
  else if st = SliceSt.quiesced ∧ v = 3 then (d.releaseSlice n, Status.ok)
  else (d, Status.state)

/-! Responses (R261, R272 to R274). -/

/-- A received packet passes step 1 of R262, for a QP of the half: its device, its QP, its incarnation and its peer. -/
def Dev.stepOne (d : Dev) (h : Half) (p : RmePacket) : Option (Nat × Qp) :=
  if p.wellFormed && p.dnode == d.ownNode && field p.destQpn 23 1 == h.code then
    match d.qpByNumber p.destQpn with
    | some q => if field q.remote 0 24 = p.srcQpn ∧ q.remoteNode = p.snode then some (qpnKey p.destQpn, q) else none
    | none => none
  else none

def Dev.dropStale (d : Dev) : Dev := d.inc64 Obj.rmeStatDropStale

/-- A response for a READY QP; any other is discarded and counted. -/
def Dev.forRequester (d : Dev) (h : Half) (p : RmePacket) (f : Nat → Qp → Dev) : Dev :=
  match d.stepOne h p with
  | some (k, q) => if q.st = .ready then f k q else d.dropStale
  | none => d.dropStale

/-- WQEs whose packets have all been sent and acknowledged complete, in ring order (R268). -/
def Dev.completeAcked (d : Dev) (k : Nat) : Dev :=
  match d.qp k with
  | none => d
  | some q =>
    (q.sq.filter (fun w => w.wqe.opcode != 8 && w.allSent (mtuBytes q.mtu) && !q.unacked.any (fun x => x.wqe == w.index))).foldl
      (fun d w => d.completeSend k w CqeSt.ok) d

/-- An acknowledgement up to a PSN (R261): READ and atomic requests stay outstanding (R260). -/
def Dev.ackUpTo (d : Dev) (k psn : Nat) : Dev :=
  match d.qp k with
  | none => d
  | some q =>
    let n := psnDiff psn q.acked
    let sent := psnDiff q.psn (q.acked + 1)
    if n = 0 ∨ 2 ^ 23 ≤ n ∨ sent = 0 then d
    else
      let upto := psnAdd q.acked (min n sent)
      let d := d.modQp k (fun x => { x with
        acked := upto, expiries := 0,
        unacked := x.unacked.filter (fun y => opAnswered y.pkt.op || psnDiff y.pkt.psn q.acked == 0 || decide (min n sent < psnDiff y.pkt.psn q.acked)) })
      (d.restartTimer k).completeAcked k

/-- One unacknowledged packet is sent again (R260, R264). -/
def Dev.resend (d : Dev) (k : Nat) (x : SentPacket) (attempt : Nat) : Dev :=
  match d.qp k with
  | none => d
  | some q =>
    if !d.pathOpen q then d
    else
      let t := d.takePath k (some x.pkt.path)
      let p := { x.pkt with retx := true, path := t.1, attempt := attempt, ce := false }
      let d := t.2.modQp k (fun y => { y with unacked := y.unacked.map (fun z => if z.pkt.psn = p.psn then { z with pkt := p, placed := if attempt = x.pkt.attempt then z.placed else [] } else z) })
      ((d.chargePace k (32 + p.payload.length)).emitPacket k q.slice p).startTimer k

/-- A PSN is sent again, if it is unacknowledged. -/
def Dev.resendPsn (d : Dev) (k psn : Nat) : Dev :=
  match (d.qp k).bind (fun q => q.unacked.find? (fun x => x.pkt.psn == psn)) with
  | some x => d.resend k x x.pkt.attempt
  | none => d

/-- Every unacknowledged packet from a PSN on is sent again; `fresh` gives READ_REQs a new ATTEMPT. -/
def Dev.resendFrom (d : Dev) (k psn : Nat) (fresh : Bool) : Dev :=
  match d.qp k with
  | none => d
  | some q => (q.unacked.filter (fun x => !psnBefore x.pkt.psn psn)).foldl
      (fun d x => d.resend k x (if fresh && x.pkt.op == .readReq then (x.pkt.attempt + 1) % 16 else x.pkt.attempt)) d

/-- Selective NAKs whose completed point an acknowledgement has passed resend their packet once (R261). -/
def Dev.answerSnaks (d : Dev) (k psn : Nat) : Dev :=
  match d.qp k with
  | none => d
  | some q =>
    let ready := q.snaks.filter (fun x => x.2 != psn && !psnBefore psn x.2)
    ready.foldl (fun d x => d.resendPsn k x.1) (d.modQp k (fun y => { y with snaks := y.snaks.filter (fun x => !ready.contains x) }))

/-- An echo of c marks on a path (R273, R274). -/
def Dev.echo (d : Dev) (k path c : Nat) : Dev :=
  match d.qp k with
  | none => d
  | some q =>
    let d := d.count Ev.rmeEchoRx q.slice none none c
    let may := match q.lastDecrease with
      | some t => d.elapsed t (us (d.num Obj.rmeCcDecreaseInterval))
      | none => true
    let low := max (min q.rate (d.num Obj.rmeCcMinRate)) (q.rate - q.rate * min c 32 / 64)
    let d := if may then (d.modQp k (fun x => { x with lastDecrease := some d.clk })).setQpRate k low else d
    let w := if d.remoteTwin q && decide (2 ≤ (d.pathsOf q).length) then shiftWeights q.weights path c else q.weights
    d.modQp k (fun x => { x with lastEcho := d.clk, weights := w })

/-- What every ACK does, whatever its syndrome (R261, R272): its echo, its acknowledgement, and resends that waited. -/
def Dev.ackBase (d : Dev) (k : Nat) (p : RmePacket) : Dev :=
  let d := if p.ceEcho then d.echo k p.path p.echoCount else d
  (d.ackUpTo k p.psn).answerSnaks k p.psn

/-- The WQE that a PSN belongs to. -/
def Dev.wqeOfPsn (d : Dev) (k psn : Nat) : Option LiveWqe :=
  (d.qp k).bind (fun q =>
    match q.unacked.find? (fun x => x.pkt.psn == psn) with
    | some x => q.sq.find? (fun w => w.index == x.wqe)
    | none => none)

/-- A NAK of syndrome 3, 4 or 5. -/
def Dev.remoteFails (d : Dev) (h : Half) (p : RmePacket) (syn status : Nat) : Dev :=
  if p.op ≠ .ack ∨ p.syndrome ≠ syn then d
  else d.forRequester h p (fun k _ => let d := d.ackBase k p; d.qpFails k (d.wqeOfPsn k p.nakPsn) status)

/-- RME_ACK. -/
def execRmeAck (h : Half) (p : RmePacket) (s : State) : Host.Outcome State Fault Refusal :=
  if p.op ≠ .ack ∨ p.syndrome ≠ 0 then .next s
  else onDev s (s.dev.forRequester h p (fun k _ => (s.dev.ackBase k p).sendOn k))

/-- RME_SELECTIVE_NAK. -/
def execRmeSelectiveNak (h : Half) (p : RmePacket) (s : State) : Host.Outcome State Fault Refusal :=
  if p.op ≠ .ack ∨ p.syndrome ≠ 1 then .next s
  else onDev s (s.dev.forRequester h p (fun k q =>
    let d := (s.dev.count Ev.rmeSnakRx q.slice).ackBase k p
    (d.modQp k (fun x => { x with snaks := x.snaks.filter (fun y => y.1 != p.nakPsn) ++ [(p.nakPsn, p.psn)] })).sendOn k))

/-- RME_RNR_NAK. -/
def Dev.rnrNak (d : Dev) (k : Nat) (p : RmePacket) : Dev :=
  let d := d.ackBase k p
  match d.qp k with
  | none => d
  | some q =>
    let n := if q.rnrPsn = p.nakPsn ∧ 0 < q.rnr then q.rnr + 1 else 1
    let d := d.modQp k (fun x => { x with rnr := n, rnrPsn := p.nakPsn, rnrWait := some d.clk })
    if d.num Obj.rmeRnrLimit ≠ 15 ∧ d.num Obj.rmeRnrLimit ≤ n then d.qpFails k (d.wqeOfPsn k p.nakPsn) CqeSt.rnrExceeded else d

/-- RME_RNR_NAK. -/
def execRmeRnrNak (h : Half) (p : RmePacket) (s : State) : Host.Outcome State Fault Refusal :=
  if p.op ≠ .ack ∨ p.syndrome ≠ 2 then .next s
  else onDev s (s.dev.forRequester h p (fun k _ => s.dev.rnrNak k p))

/-- RME_NAK_REMOTE_ACCESS. -/
def execRmeNakRemoteAccess (h : Half) (p : RmePacket) (s : State) : Host.Outcome State Fault Refusal :=
  onDev s (s.dev.remoteFails h p 3 CqeSt.remoteAccess)

/-- RME_NAK_REMOTE_INVALID. -/
def execRmeNakRemoteInvalid (h : Half) (p : RmePacket) (s : State) : Host.Outcome State Fault Refusal :=
  onDev s (s.dev.remoteFails h p 4 CqeSt.remoteInvalid)

/-- RME_NAK_KEY_GENERATION. -/
def execRmeNakKeyGeneration (h : Half) (p : RmePacket) (s : State) : Host.Outcome State Fault Refusal :=
  onDev s (s.dev.remoteFails h p 5 CqeSt.keyGeneration)

/-- A response's request is complete: it leaves the unacknowledged packets and its WQE completes. -/
def Dev.answerDone (d : Dev) (k psn : Nat) (w : LiveWqe) : Dev :=
  ((d.modQp k (fun x => { x with expiries := 0, unacked := x.unacked.filter (fun y => y.pkt.psn != psn) })).restartTimer k).completeSend k w CqeSt.ok

/-- READ_RESP: placed where its READ's latest attempt asks for it (R258, R261). -/
def Dev.placeRead (d : Dev) (k : Nat) (p : RmePacket) : Dev :=
  let d := d.ackUpTo k (psnAdd p.psn (2 ^ 24 - 1))
  match d.qp k with
  | none => d
  | some q =>
    match q.unacked.find? (fun x => x.pkt.psn == p.psn && x.pkt.op == .readReq && x.pkt.attempt == p.attempt), d.wqeOfPsn k p.psn with
    | some x, some w =>
      if w.wqe.len < p.offset + p.payload.length then d
      else
        match d.localCheck q.slice w.wqe.localKey (w.wqe.localAddr + p.offset) p.payload.length true with
        | some st => d.qpFails k (some w) st
        | none =>
          let d := d.hostStore q.slice (w.wqe.localAddr + p.offset) p.payload
          let placed := x.placed.filter (fun e => e.1 != p.offset) ++ [(p.offset, p.payload.length)]
          let d := (d.modQp k (fun y => { y with unacked := y.unacked.map (fun z => if z.pkt.psn = p.psn then { z with placed := placed } else z) })).restartTimer k
          if w.wqe.len ≤ (placed.map (fun e => e.2)).sum then (d.answerDone k p.psn w).sendOn k else d
    | _, _ => d

/-- READ_RESP. -/
def execReadResp (h : Half) (p : RmePacket) (s : State) : Host.Outcome State Fault Refusal :=
  if p.op ≠ .readResp then .next s else onDev s (s.dev.forRequester h p (fun k _ => s.dev.placeRead k p))

/-- ATOMIC_RESP: the original value goes to LOCAL_ADDR, in the host's byte order (10, "Packets"). -/
def Dev.placeAtomic (d : Dev) (k : Nat) (p : RmePacket) : Dev :=
  let d := d.ackUpTo k (psnAdd p.psn (2 ^ 24 - 1))
  match d.qp k with
  | none => d
  | some q =>
    match q.unacked.find? (fun x => x.pkt.psn == p.psn && (x.pkt.op == .fetchAdd || x.pkt.op == .compSwap)), d.wqeOfPsn k p.psn with
    | some _, some w =>
      match d.localCheck q.slice w.wqe.localKey w.wqe.localAddr 8 true with
      | some st => d.qpFails k (some w) st
      | none => ((d.hostStore q.slice w.wqe.localAddr (leBytes 8 (beNat p.payload))).answerDone k p.psn w).sendOn k
    | _, _ => d

/-- ATOMIC_RESP. -/
def execAtomicResp (h : Half) (p : RmePacket) (s : State) : Host.Outcome State Fault Refusal :=
  if p.op ≠ .atomicResp then .next s else onDev s (s.dev.forRequester h p (fun k _ => s.dev.placeAtomic k p))

/-- SKIM_NOTICE: a request packet goes out again at once, and the notice counts as an echo of 32 on its path; a notice for
a READ_RESP is ignored (R261, R270). -/
def execSkimNotice (h : Half) (p : RmePacket) (s : State) : Host.Outcome State Fault Refusal :=
  if p.op ≠ .skimNotice then .next s
  else
    let d := s.dev.inc64 Obj.rmeStatSkimNotices
    onDev s (d.forRequester h p (fun k q =>
      if q.unacked.any (fun x => x.pkt.psn == p.psn) then (d.resendPsn k p.psn).echo k p.path 32 else d))

/-! Timers. -/

/-- RME_RETX_TIMEOUT (R260, R261, R270). -/
def Dev.retxTimeout (d : Dev) (k : Nat) : Dev :=
  match d.qp k with
  | none => d
  | some q =>
    if q.st = .ready ∧ q.timerOn ∧ d.pathOpen q then
      let d := d.advanceTo (q.timerAt + us (d.num Obj.rmeRetxTimeout))
      if d.num Obj.rmeRetryLimit < q.expiries + 1 then d.qpFails k (d.oldestSend k) CqeSt.retryExceeded
      else
        let d := d.modQp k (fun x => { x with expiries := x.expiries + 1, snaks := [], timerAt := d.clk })
        d.resendFrom k ((q.unacked.head?.map (fun x => x.pkt.psn)).getD q.psn) true
    else d

/-- RME_RETX_TIMEOUT. -/
def execRmeRetxTimeout (qpn : Nat) (s : State) : Host.Outcome State Fault Refusal :=
  match s.dev.qpByNumber qpn with
  | some _ => onDev s (s.dev.retxTimeout (qpnKey qpn))
  | none => .next s

/-- RME_RNR_DELAY_EXPIRY (R261). -/
def execRmeRnrDelayExpiry (qpn : Nat) (s : State) : Host.Outcome State Fault Refusal :=
  match s.dev.qpByNumber qpn with
  | some q =>
    match q.rnrWait with
    | some t =>
      if q.st = .ready then
        let d := (s.dev.advanceTo (t + us (s.dev.num Obj.rmeRnrDelay))).modQp (qpnKey qpn) (fun x => { x with rnrWait := none })
        onDev s ((d.resendFrom (qpnKey qpn) q.rnrPsn false).sendOn (qpnKey qpn))
      else .next s
    | none => .next s
  | none => .next s

/-- RME_CC_INCREASE (R273, R274). -/
def execRmeCcIncrease (qpn : Nat) (s : State) : Host.Outcome State Fault Refusal :=
  match s.dev.qpByNumber qpn with
  | some q =>
    if q.st = .ready then
      let k := qpnKey qpn
      let d := s.dev.advanceTo (q.lastEcho + us (s.dev.num Obj.rmeCcIncreasePeriod))
      let r := min (d.rateCeiling q.slice) (q.rate + d.num Obj.rmeCcIncreaseStep)
      let w := if d.remoteTwin q then relaxWeights q.weights (uniformWeights d.activeLinks) else q.weights
      onDev s (((d.modQp k (fun x => { x with lastEcho := d.clk, weights := w })).setQpRate k r).sendOn k)
    else .next s
  | none => .next s

end Sys2Proof.Machine
end

