-- ==== Sys2Proof/Machine/Responder.lean ====
section
/-!
DEFINITION. Sys2Proof/Machine/Responder.lean: the responder side of the remote memory engines: the checks of request
packets (R262), execution in PSN order (R265, R266, R268), staging (R267), duplicates (R269), acknowledgements and echoes
(R263, R272), the command queue's completions (R254), and what a completed host read brings (R251).
-/
namespace Sys2Proof.Machine

/-! Acknowledgements (R263, R272). -/

/-- An ACK of a QP on a path: its completed point, its syndrome, and the marks of the path since its last echo. -/
def Dev.sendRmeAck (d : Dev) (k path syn nak : Nat) : Dev :=
  match d.qp k with
  | none => d
  | some q =>
    let c := min 255 (tabGet q.marks path 0)
    let d := if syn = 1 then d.inc64 Obj.rmeStatSnaks else d
    (d.bump.modQp k (fun x => { x with marks := tabDel x.marks path })).emitPacket k q.slice
      { op := .ack, dnode := q.remoteNode, snode := d.ownNode, destQpn := field q.remote 0 24, srcQpn := qpnOf k q, psn := q.completed,
        msn := d.freeBits 16, path := path, ceEcho := c != 0, echoCount := c, syndrome := syn, nakPsn := if syn = 0 then 0 else nak }

/-- A NAK of syndrome 2 to 5: every staged packet of the QP is freed, and the expected PSN stays (R262, R265). -/
def Dev.rxNak (d : Dev) (k : Nat) (p : RmePacket) (syn : Nat) : Dev :=
  (d.modQp k (fun x => { x with staged := [], window := [], busy := none })).sendRmeAck k p.path syn p.psn

/-- RME_ECHO_DUE (R263, R272): one ACK for each path with marks. -/
def execRmeEchoDue (qpn : Nat) (s : State) : Host.Outcome State Fault Refusal :=
  match s.dev.qpByNumber qpn with
  | some q => onDev s (q.marks.foldl (fun d e => d.sendRmeAck (qpnKey qpn) e.1 0 0) s.dev)
  | none => .next s

/-! Checks (R262, R266). -/

/-- An opcode's packets are keyed (R262: steps 7 to 9 do not apply to SEND and SEND_IMM). -/
def keyedOp (o : RmeOp) : Bool := o != .send && o != .sendImm

/-- The right in a key entry that an opcode needs. -/
def keyRight (o : RmeOp) : Nat := if o = .readReq then 1 else if o = .write ∨ o = .writeImm then 2 else 3

/-- Steps 7 to 9: the syndrome of the first failure. -/
def Dev.keyCheck (d : Dev) (k : Nat) (q : Qp) (p : RmePacket) : Option Nat :=
  if !keyedOp p.op then none
  else
    match d.keyOf (keyHalf k) p.key with
    | none => some 3
    | some e =>
      if !e.valid || e.slice != q.slice || (e.qpBound && e.boundQp != k % 65536) then some 3
      else if e.generation ≠ keyGen p.key then some 5
      else if !bitOf e.rights (keyRight p.op) ∨ e.lenM1 + 1 < p.offset + (if p.op = .readReq then p.readLen else p.len) then some 3
      else none

/-- Step 6, but for POS against MSN, which execution in PSN order decides. -/
def Qp.opcodeOk (q : Qp) (p : RmePacket) : Bool :=
  let right := match p.op with
    | .readReq => bitOf q.rights 0
    | .fetchAdd | .compSwap => bitOf q.rights 2
    | _ => bitOf q.rights 1
  let size := match p.op with
    | .readReq => p.len == 0
    | .fetchAdd => p.len == 8
    | .compSwap => p.len == 16
    | _ => true
  right && (keyedOp p.op || q.rqLog != 0) && p.len == p.payload.length && decide (p.len ≤ mtuBytes q.mtu) && size &&
    (if p.op = .fetchAdd ∨ p.op = .compSwap then p.offset % 8 == 0 else true)

/-- First and last packet of a message. -/
def RmePos.starts (p : Pos) : Bool := p == .first || p == .only
def RmePos.ends (p : Pos) : Bool := p == .last || p == .only

/-- POS is consistent with MSN: a message begins where none is under way, and carries the next MSN throughout. -/
def Qp.posOk (q : Qp) (p : RmePacket) : Bool := RmePos.starts p.pos != q.midMsg && p.msn == q.rxMsn

/-! Execution (R265 to R268). -/

/-- A packet has been executed: the completed point advances, its window bit and cells are freed, and it is acknowledged
where R263 asks. -/
def Dev.rxDone (d : Dev) (k : Nat) (p : RmePacket) : Dev :=
  match d.qp k with
  | none => d
  | some q =>
    let last := RmePos.ends p.pos
    let d := d.modQp k (fun x => { x with
      completed := p.psn, busy := none, window := x.window.filter (fun y => y != p.psn), staged := x.staged.filter (fun y => y.1.psn != p.psn),
      midMsg := !last, rxMsn := if last then (p.msn + 1) % 65536 else p.msn,
      rxBytes := if last then 0 else x.rxBytes + p.len, afterSnak := false })
    if p.ackReq || q.afterSnak then d.sendRmeAck k p.path 0 0 else d

/-- A packet at the expected PSN waits for the host: its window bit is set. -/
def Dev.rxWait (d : Dev) (k : Nat) (p : RmePacket) : Dev :=
  d.modQp k (fun x => { x with busy := some p, window := x.window.filter (fun y => y != p.psn) ++ [p.psn], staged := x.staged.filter (fun y => y.1.psn != p.psn) })

/-- The SRC field of a receive CQE. -/
def srcOf (p : RmePacket) : Nat := p.srcQpn % 2 ^ 24 + p.snode % 2 * 2 ^ 24

/-- The writes of a packet's payload: RO by R266. -/
def Dev.rxStore (d : Dev) (q : Qp) (addr : Nat) (p : RmePacket) : Dev :=
  let ro := d.flag (Obj.rmeSliceRelaxed q.slice)
  d.hostStore q.slice addr p.payload ro (ro && !RmePos.ends p.pos)

/-- The receive WQE of a message fails: syndrome 4, its CQE, and the QP in ERROR (R258, R265). -/
def Dev.rxFails (d : Dev) (k : Nat) (p : RmePacket) (w : LiveWqe) (status : Nat) : Dev :=
  ((d.rxNak k p 4).qpToError k).completeRecv k w { status := status, src := srcOf p }

/-- A packet of a SEND goes into the message's receive WQE. -/
def Dev.rxInto (d : Dev) (k : Nat) (q : Qp) (p : RmePacket) (w : LiveWqe) : Dev :=
  if w.wqe.opcode ≠ 0x0F then d.rxFails k p w CqeSt.localProtection
  else if w.wqe.len < q.rxBytes + p.len then d.rxFails k p w CqeSt.localLength
  else
    match (if w.wqe.len = 0 then none else d.localCheck q.slice w.wqe.localKey w.wqe.localAddr w.wqe.len true) with
    | some st => d.rxFails k p w st
    | none =>
      let d := (d.rxStore q (w.wqe.localAddr + q.rxBytes) p).modQp k (fun x => { x with recv := if RmePos.ends p.pos then none else some w })
      let d := if RmePos.ends p.pos then
          d.bump.completeRecv k w { byteLen := q.rxBytes + p.len, imm := if p.op = .sendImm then p.imm else 0, immValid := p.op == .sendImm,
                                    solicited := d.free % 2 == 1, src := srcOf p }
        else d
      d.rxDone k p

/-- A packet of a SEND (R265). -/
def Dev.rxSend (d : Dev) (k : Nat) (q : Qp) (p : RmePacket) : Dev :=
  if RmePos.starts p.pos then
    match q.rq with
    | w :: _ => d.rxInto k q p w
    | [] => if q.rqFetched < q.rqProd then (d.fetch k).rxWait k p else d.rxNak k p 2
  else
    match q.recv with
    | some w => d.rxInto k q p w
    | none => d.rxNak k p 4

/-- A packet of a WRITE (R265, R268). WRITE_IMM takes no receive WQE, so what its CQE would take from one is free
(assumption log 1). -/
def Dev.rxWrite (d : Dev) (k : Nat) (q : Qp) (p : RmePacket) (e : KeyEntry) : Dev :=
  let d := d.rxStore q (e.base + p.offset) p
  let d := if p.op = .writeImm ∧ RmePos.ends p.pos then
      d.bump.writeCqe (halfKey (keyHalf k) q.recvCq)
        { wrId := d.freeBits 64, byteLen := q.rxBytes + p.len, imm := p.imm, immValid := true, receive := true, qpn := qpnOf k q, opcode := 2,
          solicited := d.free % 2 == 1, src := srcOf p, index := d.freeBits 16 }
    else d
  d.rxDone k p

/-- The AtomicOp of a packet, its operands in the host's byte order. -/
def atomicTlp (p : RmePacket) (addr : Nat) : Tlp :=
  { type := .atomic, addr := addr, len := 8,
    data := leBytes 8 (beNat (p.payload.take 8)) ++ (if p.op = .compSwap then leBytes 8 (beNat (p.payload.drop 8)) else []) }

/-- The packet at the expected PSN is executed (R265, R266): its key is checked again, and while Bus Master Enable is 0 it
waits (R251). -/
def Dev.rxExecute (d : Dev) (k : Nat) (p : RmePacket) : Dev :=
  match d.qp k with
  | none => d
  | some q =>
    if !q.posOk p then d.rxNak k p 4
    else
      match d.keyCheck k q p with
      | some syn => d.rxNak k p syn
      | none =>
        if !d.hostOpen q.slice then d.rxWait k p
        else
          match p.op, d.keyOf (keyHalf k) p.key with
          | .send, _ | .sendImm, _ => d.rxSend k q p
          | .write, some e | .writeImm, some e => d.rxWrite k q p e
          | .readReq, some e => (d.hostLoad q.slice (e.base + p.offset) p.readLen).rxWait k p
          | .fetchAdd, some e | .compSwap, some e => (d.hostTlp q.slice (atomicTlp p (e.base + p.offset))).rxWait k p
          | _, _ => d

/-- Staged packets that have become next are executed (R265). -/
def Dev.drainStaged : Nat → Dev → Nat → Dev
  | 0, d, _ => d
  | fuel + 1, d, k =>
    match d.qp k with
    | none => d
    | some q =>
      if q.st ≠ .ready ∨ q.busy.isSome then d
      else
        match q.staged.find? (fun s => s.1.psn == psnAdd q.completed 1) with
        | some s => Dev.drainStaged fuel (d.rxExecute k s.1) k
        | none => d

/-- Execution goes on after a packet, and a quiescing slice may come to rest. -/
def Dev.rxGoOn (d : Dev) (k : Nat) : Dev :=
  let d := Dev.drainStaged 512 d k
  match d.qp k with
  | some q => d.quiesceCheck q.slice
  | none => d

/-- A packet that waited for a receive WQE or for Bus Master Enable runs again. -/
def Dev.rxResume (d : Dev) (k : Nat) : Dev :=
  match d.qp k with
  | none => d
  | some q =>
    match q.busy with
    | some p =>
      if q.st = .ready ∧ d.hostOpen q.slice ∧ (keyedOp p.op = false ∨ p.op = .write ∨ p.op = .writeImm) then (d.rxExecute k p).rxGoOn k
      else d
    | none => d

/-! Staging (R177, R267). -/

/-- Cells of a staged packet. -/
def stagedCells (p : RmePacket) : Nat := (p.len + 32 + 255) / 256

/-- Staging of a packet is admitted: the slice's quota, the half's, and the pool above the skim floor. -/
def Dev.mayStage (d : Dev) (h : Half) (n cells : Nat) : Bool :=
  decide (d.sliceStaging n + cells ≤ d.num (Obj.rmeSliceStagingQuota n)) &&
    decide (d.stagingUsed h + cells ≤ d.num (byHalf h Obj.rmeStagingQuotaW Obj.rmeStagingQuotaE)) &&
    decide (d.num Obj.coreSkimFloor + cells ≤ d.poolFree h)

/-- A packet ahead of the expected PSN is staged, or refused with a selective NAK. -/
def Dev.stagePacket (d : Dev) (k : Nat) (q : Qp) (p : RmePacket) : Dev :=
  let h := keyHalf k
  let c := stagedCells p
  if d.mayStage h q.slice c then
    (d.modQp k (fun x => { x with staged := x.staged ++ [(p, c)], window := x.window ++ [p.psn] })).notePool h
  else
    ((d.inc64 Obj.rmeStatStagingRefused).modQp k (fun x => { x with afterSnak := true })).sendRmeAck k p.path 1 p.psn

/-! Duplicates (R269). -/

/-- A packet of a responding QP towards its peer. With no active link no path is offered, and the packet waits (R220). -/
def Dev.reply (d : Dev) (k : Nat) (q : Qp) (p : RmePacket) : Dev :=
  if !d.pathOpen q then d.modQp k (fun x => { x with replies := x.replies ++ [p] })
  else
    let t := d.takePath k none
    t.2.emitPacket k q.slice { p with dnode := q.remoteNode, snode := d.ownNode, destQpn := field q.remote 0 24, srcQpn := qpnOf k q, path := t.1 }

/-- Responses that waited for a path go out, oldest first. -/
def Dev.sendReplies (d : Dev) (k : Nat) : Dev :=
  match d.qp k with
  | none => d
  | some q => if d.pathOpen q then q.replies.foldl (fun d p => d.reply k q p) (d.modQp k (fun x => { x with replies := [] })) else d

/-- ATOMIC_RESP with an original value. -/
def Dev.replyAtomic (d : Dev) (k : Nat) (q : Qp) (p : RmePacket) (v : Nat) : Dev :=
  d.reply k q { op := .atomicResp, psn := p.psn, msn := p.msn, len := 8, payload := beBytes 8 v }

/-- The data of a READ_REQ goes back in READ_RESP packets of the MTU. -/
def Dev.replyRead (d : Dev) (k : Nat) (q : Qp) (p : RmePacket) (data : List Byte) : Dev :=
  let mtu := mtuBytes q.mtu
  let n := max 1 ((data.length + mtu - 1) / mtu)
  (List.range n).foldl (fun d i =>
    let b := Sys2Proof.Machine.slice data (i * mtu) mtu
    d.reply k q { op := .readResp, pos := posOf i n, psn := p.psn, msn := p.msn, offset := i * mtu, len := b.length, attempt := p.attempt, payload := b }) d

/-- A packet before the expected PSN. -/
def Dev.rxDuplicate (d : Dev) (k : Nat) (q : Qp) (p : RmePacket) : Dev :=
  let d := d.inc64 Obj.rmeStatDuplicates
  if p.op = .fetchAdd ∨ p.op = .compSwap then
    match tabFind q.atomics p.psn with
    | some v => (d.inc64 Obj.rmeStatAtomicReplays).replyAtomic k q p v
    | none => d
  else
    let stale := keyedOp p.op && match d.keyOf (keyHalf k) p.key with
      | some e => !e.valid || e.generation != keyGen p.key
      | none => true
    if stale then d.inc64 Obj.rmeStatDropKeygen
    else if p.op = .readReq then
      match d.keyCheck k q p, d.keyOf (keyHalf k) p.key with
      | some syn, _ => d.rxNak k p syn
      | none, some e => d.hostLoad q.slice (e.base + p.offset) p.readLen
      | none, none => d
    else d.sendRmeAck k p.path 0 0

/-! Arrival (R262). -/

/-- A request packet of a half's RME, by the steps of R262. -/
def Dev.rxRequest (d : Dev) (h : Half) (p : RmePacket) : Dev :=
  match d.stepOne h p with
  | none => d.dropStale
  | some (k, q) =>
    if q.st ≠ .ready then
      if (match q.lastNak4 with
          | some t => d.elapsed t (us 10)
          | none => true) then (d.modQp k (fun x => { x with lastNak4 := some d.clk })).sendRmeAck k p.path 4 p.psn
      else d
    else
      let d := if p.ce then d.modQp k (fun x => { x with marks := tabMod x.marks p.path 0 (fun c => c + 1) }) else d
      let off := psnDiff p.psn (psnAdd q.completed 1)
      if 2 ^ 23 ≤ off then d.rxDuplicate k q p
      else if 512 ≤ off then d.inc64 Obj.rmeStatBeyondWindow
      else if q.window.contains p.psn then d.inc64 Obj.rmeStatDuplicates
      else if !q.opcodeOk p then d.rxNak k p 4
      else
        match d.keyCheck k q p with
        | some syn => d.rxNak k p syn
        | none => if off = 0 then (d.rxExecute k p).rxGoOn k else d.stagePacket k q p

/-- A request packet of one opcode. -/
def onPacket (h : Half) (p : RmePacket) (op : RmeOp) (s : State) : Host.Outcome State Fault Refusal :=
  if p.op = op then onDev s (s.dev.rxRequest h p) else .next s

/-- PACKET_WRITE. -/
def execPacketWrite (h : Half) (p : RmePacket) (s : State) : Host.Outcome State Fault Refusal := onPacket h p .write s

/-- PACKET_WRITE_IMM. -/
def execPacketWriteImm (h : Half) (p : RmePacket) (s : State) : Host.Outcome State Fault Refusal := onPacket h p .writeImm s

/-- PACKET_SEND. -/
def execPacketSend (h : Half) (p : RmePacket) (s : State) : Host.Outcome State Fault Refusal := onPacket h p .send s

/-- PACKET_SEND_IMM. -/
def execPacketSendImm (h : Half) (p : RmePacket) (s : State) : Host.Outcome State Fault Refusal := onPacket h p .sendImm s

/-- PACKET_READ_REQ. -/
def execPacketReadReq (h : Half) (p : RmePacket) (s : State) : Host.Outcome State Fault Refusal := onPacket h p .readReq s

/-- PACKET_FETCH_ADD. -/
def execPacketFetchAdd (h : Half) (p : RmePacket) (s : State) : Host.Outcome State Fault Refusal := onPacket h p .fetchAdd s

/-- PACKET_COMP_SWAP. -/
def execPacketCompSwap (h : Half) (p : RmePacket) (s : State) : Host.Outcome State Fault Refusal := onPacket h p .compSwap s

/-- WQE_RECV (R265): the receive WQEs that a doorbell covers are fetched, and a packet that waited for one takes it. -/
def execWqeRecv (qpn : Nat) (s : State) : Host.Outcome State Fault Refusal :=
  match s.dev.qpByNumber qpn with
  | some q => onDev s (if q.rq.isEmpty then s.dev.fetch (qpnKey qpn) else (s.dev.fetch (qpnKey qpn)).rxResume (qpnKey qpn))
  | none => .next s

/-! The command completion ring (R254). -/

/-- A command ends with one CQE, followed by the slice's first vector; the next entry is fetched. -/
def Dev.cmdFinish (d : Dev) (n detail imm byteLen : Nat) (result : Bool := false) : Dev :=
  match (d.slice n).cmd with
  | none => d
  | some w =>
    let i := (d.slice n).cmdDone
    let size := 2 ^ d.num (Obj.rmeSliceCmdqLog n)
    let e : Cqe := { wrId := w.wrId, byteLen := byteLen, imm := imm, opcode := w.opcode, detail := detail,
                     status := if detail = Status.ok then CqeSt.ok else CqeSt.localProtection, immValid := result, index := i % 65536 }
    let d := (d.hostWrite n (d.num (Obj.rmeSliceCmdcBase n) + 32 * (i % size)) (e.bytes (i / size % 2 == 0))).hostOp n (.vector (d.num (Obj.rmeSliceMsixBase n)))
    (((d.count Ev.rmeCqe n).modSlice n (fun x => { x with cmd := none, dictOpen := false, cmdDone := i + 1 })).fetchCmd n).quiesceCheck n

/-- A command fails with the dictionary status of its cause and changes nothing else. -/
def Dev.cmdFails (d : Dev) (n status : Nat) : Dev := d.cmdFinish n status 0 0

/-- A command entry has arrived: what it points at is read too. -/
def Dev.cmdArrives (d : Dev) (n : Nat) (w : Wqe) : Dev :=
  let d := d.modSlice n (fun x => { x with cmd := some w })
  if w.opcode = 0x22 ∨ w.opcode = 0x23 then d.hostRead n w.localAddr 64
  else if w.opcode = 0x30 then
    if w.len < 16 ∨ 1024 < w.len ∨ field w.operand1 0 16 < 1024 then d.cmdFails n Status.range else d.hostLoad n w.localAddr w.len
  else if (0x20 ≤ w.opcode ∧ w.opcode ≤ 0x26) then d
  else d.cmdFails n Status.range

/-- A failed read of a command entry stops the queue; of what the entry points at, it fails the command. -/
def Dev.cmdReadFails (d : Dev) (n : Nat) : Dev :=
  if (d.slice n).cmd.isSome then d.cmdFails n Status.farNak
  else
    let w : Wqe := { opcode := d.freeBits 8, wrId := d.freeBits 64 }
    ((d.bump.modSlice n (fun x => { x with cmd := some w, stopped := true })).cmdFails n Status.farNak).logEvent (Half.ofSlice n) Scope.slice n 1 0x0903

/-! HOST_READ_COMPLETION (R251). -/

/-- A WQE whose read failed: what it says is not known (assumption log 1). -/
def Dev.unreadWqe (d : Dev) (i : Nat) : LiveWqe := { index := i, wqe := { opcode := d.freeBits 8, wrId := d.freeBits 64 } }

/-- A send WQE has been read, or its read has failed. -/
def Dev.gotSqWqe (d : Dev) (k : Nat) (q : Qp) (w : Wqe) (ok : Bool) : Dev :=
  if q.sqAsked ≤ q.sqFetched then d
  else
    let i := q.sqFetched
    let x := if ok then { index := i, wqe := w } else d.unreadWqe i
    let d := (if ok then d else d.bump).modQp k (fun y => { y with sqFetched := i + 1, sq := y.sq ++ [x] })
    if q.st = .flushed then d.completeSend k x CqeSt.flushed
    else if q.st = .error then d
    else if ok then d.sendOn k
    else d.qpFails k (some x) CqeSt.localProtection

/-- A receive WQE has been read, or its read has failed. -/
def Dev.gotRqWqe (d : Dev) (k : Nat) (q : Qp) (w : Wqe) (ok : Bool) : Dev :=
  if q.rqAsked ≤ q.rqFetched then d
  else
    let i := q.rqFetched
    let x := if ok then { index := i, wqe := w } else d.unreadWqe i
    let d := (if ok then d else d.bump).modQp k (fun y => { y with rqFetched := i + 1, rq := y.rq ++ [x] })
    if q.st = .flushed then d.completeRecv k x { status := CqeSt.flushed }
    else if q.st = .error then d
    else if ok then d.rxResume k
    else (d.qpToError k).completeRecv k x { status := CqeSt.localProtection }

/-- The data of a READ_REQ, or its failure: the packet at the expected PSN is then executed, or answered with
syndrome 4. -/
def Dev.gotRead (d : Dev) (k : Nat) (q : Qp) (p : RmePacket) (data : List Byte) (ok : Bool) : Dev :=
  if q.st ≠ .ready then d
  else if ok then
    if data.length ≠ p.readLen then d
    else
      let d := d.replyRead k q p data
      if q.busy = some p then (d.rxDone k p).rxGoOn k else d
  else d.rxNak k p 4

/-- The result of an AtomicOp, or its failure. -/
def Dev.gotAtomic (d : Dev) (k : Nat) (q : Qp) (p : RmePacket) (v : Nat) (ok : Bool) : Dev :=
  if q.st ≠ .ready ∨ q.busy ≠ some p then d
  else if ok then
    (((d.modQp k (fun x => { x with atomics := ((p.psn, v % 2 ^ 64) :: x.atomics).take 16 })).replyAtomic k q p v).rxDone k p).rxGoOn k
  else d.rxNak k p 4

/-- A host read completes. -/
def Dev.hostAnswers (d : Dev) (r : HostRead) (ok : Bool) : Dev :=
  match r with
  | .command n data =>
    let x := d.slice n
    if x.cmdFetched ≤ x.cmdDone ∨ d.flag (Obj.rmeSliceLostHost n) then d
    else if ok then (if x.cmd.isNone then d.cmdArrives n (Wqe.ofBytes data) else d)
    else d.cmdReadFails n
  | .sqWqe qpn data =>
    match d.qpByNumber qpn with
    | some q => d.gotSqWqe (qpnKey qpn) q (Wqe.ofBytes data) ok
    | none => d
  | .rqWqe qpn data =>
    match d.qpByNumber qpn with
    | some q => d.gotRqWqe (qpnKey qpn) q (Wqe.ofBytes data) ok
    | none => d
  | .payload qpn psn _ =>
    match d.qpByNumber qpn with
    | some q => if ok ∨ q.st ≠ .ready then d else
        match d.wqeOfPsn (qpnKey qpn) psn with
        | some w => d.qpFails (qpnKey qpn) (some w) CqeSt.localProtection
        | none => d
    | none => d
  | .readReq qpn p data =>
    match d.qpByNumber qpn with
    | some q => d.gotRead (qpnKey qpn) q p data ok
    | none => d
  | .atomicOp qpn p v =>
    match d.qpByNumber qpn with
    | some q => d.gotAtomic (qpnKey qpn) q p v ok
    | none => d

/-- HOST_READ_COMPLETION. -/
def execHostReadCompletion (r : HostRead) (st : ReadStatus) (s : State) : Host.Outcome State Fault Refusal :=
  onDev s (s.dev.hostAnswers r (st == .ok))

/-! Time. -/

/-- What time and a host's Bus Master Enable let go on in the RMEs: paced sending, and packets that waited. -/
def Dev.rmeGoOn (d : Dev) : Dev :=
  let d := d.sendPaced
  let d := (d.rme.qps.filter (fun e => !e.2.replies.isEmpty)).foldl (fun d e => d.sendReplies e.1) d
  (d.rme.qps.filter (fun e => e.2.busy.isSome)).foldl (fun d e => d.rxResume e.1) d

end Sys2Proof.Machine
end

