-- ==== Sys2Proof/Machine/CmdQueue.lean ====
section
/-!
DEFINITION. Sys2Proof/Machine/CmdQueue.lean: the control commands of a slice's command queue (R254): regions and keys
(R257), queue pairs (R255, R414) and completion queues.
-/
namespace Sys2Proof.Machine

/-- The command entry of a slice, if it is of an opcode. -/
def Dev.cmdOf (d : Dev) (n opcode : Nat) : Option Wqe :=
  match (d.slice n).cmd with
  | some w => if w.opcode = opcode then some w else none
  | none => none

/-- The first number from a start, wrapping at a size, that is not taken; the fuel bounds how many are tried. -/
def firstFree (taken : Nat → Bool) (size : Nat) : Nat → Nat → Option Nat
  | 0, _ => none
  | fuel + 1, i => if taken (i % size) then firstFree taken size fuel (i + 1) else some (i % size)

/-! Regions (R257). -/

/-- Keys allocated to a slice, and in a half. -/
def Dev.keysUsed (d : Dev) (n : Nat) : Nat := (d.rme.keys.filter (fun e => e.2.allocated && e.2.slice == n)).length

/-- A free entry of a half's key table. Which one is taken is not stated: a free value chooses (assumption log 1). -/
def Dev.freeKey (d : Dev) (h : Half) : Option Nat :=
  firstFree (fun i => match tabFind d.rme.keys (entryKey h i) with
    | some e => e.allocated
    | none => false) 1048576 (d.rme.keys.length + 1) (d.free % 1048576)

/-- The next generation of an entry: 2,047 is followed by 1. -/
def nextGen (g : Nat) : Nat := g % 2047 + 1

/-- The entry of a registered region. -/
def regionEntry (n : Nat) (w : Wqe) (gen : Nat) : KeyEntry :=
  { valid := true, allocated := true, slice := n, generation := gen, rights := field w.imm 0 4, qpBound := bitOf w.imm 4,
    boundQp := field w.imm 16 16, base := w.localAddr, lenM1 := w.len - 1 }

/-- The key of an entry. -/
def keyNumber (h : Half) (e gen : Nat) : Nat := h.code * 2 ^ 31 + e * 2 ^ 11 + gen

/-- The QP that a region is bound to belongs to the slice. -/
def Dev.boundOk (d : Dev) (n : Nat) (w : Wqe) : Bool :=
  !bitOf w.imm 4 || match d.qp (halfKey (Half.ofSlice n) (field w.imm 16 16)) with
    | some q => q.slice == n
    | none => false

/-- REG_REGION. -/
def Dev.regRegion (d : Dev) (n : Nat) (w : Wqe) : Dev :=
  let h := Half.ofSlice n
  let put := fun (d : Dev) (e g : Nat) => (d.setKey h e (regionEntry n w (nextGen g))).cmdFinish n Status.ok (keyNumber h e (nextGen g)) 0 true
  if w.len = 0 ∨ 2 ^ 30 < w.len ∨ !d.boundOk n w then d.cmdFails n Status.range
  else if w.remoteKey = 0 then
    if d.num (Obj.rmeSliceKeyQuota n) ≤ d.keysUsed n then d.cmdFails n Status.exhausted
    else
      match d.freeKey h with
      | none => d.cmdFails n Status.exhausted
      | some e => put d.bump e (tabGet d.rme.keys (entryKey h e) {}).generation
  else
    match d.keyOf h w.remoteKey with
    | none => d.cmdFails n Status.range
    | some x =>
      if !x.allocated || x.slice != n || x.generation != keyGen w.remoteKey then d.cmdFails n Status.range
      else if x.valid then d.cmdFails n Status.state
      else put d (keyEntry w.remoteKey) x.generation

/-- REG_REGION. -/
def execRegRegion (n : Fin 4096) (s : State) : Host.Outcome State Fault Refusal :=
  match s.dev.cmdOf n 0x20 with
  | some w => onDev s (s.dev.regRegion n w)
  | none => .next s

/-- DEREG_REGION: a QP-bound key waits for its QP to be in RESET or destroyed. -/
def Dev.deregRegion (d : Dev) (n : Nat) (w : Wqe) : Dev :=
  let h := Half.ofSlice n
  match d.keyOf h w.remoteKey with
  | none => d.cmdFails n Status.range
  | some x =>
    if !x.allocated || x.slice != n || x.generation != keyGen w.remoteKey then d.cmdFails n Status.range
    else if x.qpBound && (match d.qp (halfKey h x.boundQp) with
        | some q => q.slice == n && q.st != .reset
        | none => false) then d.cmdFails n Status.state
    else (d.setKey h (keyEntry w.remoteKey) { x with valid := false, allocated := false }).cmdFinish n Status.ok 0 0

/-- DEREG_REGION. -/
def execDeregRegion (n : Fin 4096) (s : State) : Host.Outcome State Fault Refusal :=
  match s.dev.cmdOf n 0x21 with
  | some w => onDev s (s.dev.deregRegion n w)
  | none => .next s

/-! Queue pairs (R255, R414). -/

/-- A CQ of a slice, and whether it has overflowed. -/
def Dev.cqOf (d : Dev) (n i : Nat) : Option Cq :=
  match tabFind d.rme.cqs (halfKey (Half.ofSlice n) i) with
  | some c => if c.slice = n then some c else none
  | none => none

/-- The fields of a parameter block are in range for CREATE_QP. -/
def Dev.blockOk (d : Dev) (n : Nat) (b : QpBlock) : Bool :=
  decide (b.mtu ≤ 2) && decide (6 ≤ b.sqLog ∧ b.sqLog ≤ 15) && (b.rqLog == 0 || decide (6 ≤ b.rqLog ∧ b.rqLog ≤ 15)) &&
    b.sqBase % 64 == 0 && b.rqBase % 64 == 0 && (d.cqOf n b.sendCq).isSome && (d.cqOf n b.recvCq).isSome

/-- An index of a half is free and its last DESTROY_QP at least 10 ms old (R255). -/
def Dev.indexReady (d : Dev) (h : Half) (i : Nat) : Bool :=
  (d.qp (halfKey h i)).isNone && match tabFind d.rme.qpHist (halfKey h i) with
    | some (_, some t) => d.elapsed t (ms 10)
    | _ => true

/-- QPs of a half. -/
def Dev.qpsOfHalf (d : Dev) (h : Half) : Nat := (d.rme.qps.filter (fun e => keyHalf e.1 == h)).length

/-- CREATE_QP. -/
def Dev.createQp (d : Dev) (n : Nat) (b : QpBlock) : Dev :=
  let h := Half.ofSlice n
  if !d.blockOk n b then d.cmdFails n Status.range
  else if ((d.cqOf n b.sendCq).any (fun c => c.overflow)) ∨ ((d.cqOf n b.recvCq).any (fun c => c.overflow)) then d.cmdFails n Status.state
  else if d.num (Obj.rmeSliceQpQuota n) ≤ (d.qpsOfSlice n).length ∨ 65536 ≤ d.qpsOfHalf h then d.cmdFails n Status.exhausted
  else
    match firstFree (fun i => !d.indexReady h i) 65536 (min 65536 (d.rme.qps.length + d.rme.qpHist.length + 1)) 0 with
    | none => d.cmdFails n Status.busy
    | some i =>
      let k := halfKey h i
      let inc := ((tabGet d.rme.qpHist k (0, none)).1 + 1) % 128
      let q : Qp :=
        { slice := n, incarnation := inc, mtu := b.mtu, sqLog := b.sqLog, rqLog := b.rqLog, sqBase := b.sqBase, rqBase := b.rqBase,
          sendCq := b.sendCq, recvCq := b.recvCq, remote := field b.remote 0 25, remoteSet := true, sendPsn := field b.sendPsn 0 24,
          sendSet := true, recvPsn := field b.recvPsn 0 24, recvSet := true, rights := field b.rights 0 3 }
      ({ d with rme := { d.rme with qps := tabSet id d.rme.qps k q } }).cmdFinish n Status.ok (qpnOf k q) 0 true

/-- CREATE_QP. -/
def execCreateQp (n : Fin 4096) (block : List Byte) (s : State) : Host.Outcome State Fault Refusal :=
  match s.dev.cmdOf n 0x22 with
  | some _ => onDev s (s.dev.createQp n (QpBlock.ofBytes block))
  | none => .next s

/-- Attributes that a block's mask gives (R414). -/
def giveAttrs (q : Qp) (b : QpBlock) : Qp :=
  let q := if bitOf b.mask 1 then { q with mtu := b.mtu } else q
  let q := if bitOf b.mask 2 then { q with remote := field b.remote 0 25, remoteSet := true } else q
  let q := if bitOf b.mask 3 then { q with sendPsn := field b.sendPsn 0 24, sendSet := true } else q
  let q := if bitOf b.mask 4 then { q with recvPsn := field b.recvPsn 0 24, recvSet := true } else q
  if bitOf b.mask 5 then { q with rights := field b.rights 0 3 } else q

/-- A QP reset: rings emptied, attributes except SQ, RQ and CQs cleared (R255, R414). -/
def resetQp (q : Qp) : Qp :=
  { slice := q.slice, incarnation := q.incarnation, sqLog := q.sqLog, rqLog := q.rqLog, sqBase := q.sqBase, rqBase := q.rqBase,
    sendCq := q.sendCq, recvCq := q.recvCq, lost := q.lost }

/-- A QP enters READY (R255, R220, R273). -/
def Dev.readyQp (d : Dev) (k : Nat) : Dev :=
  match d.qp k with
  | none => d
  | some q =>
    let w := if d.remoteTwin q then uniformWeights d.activeLinks else []
    ((d.modQp k (fun x => { x with
      st := .ready, completed := psnAdd x.recvPsn (2 ^ 24 - 1), psn := x.sendPsn, acked := psnAdd x.sendPsn (2 ^ 24 - 1),
      weights := w, wcredit := [], lastEcho := d.clk })).setQpRate k (d.rateCeiling q.slice)).fetch k

/-- The QP that a MODIFY_QP or DESTROY_QP names, of the slice. -/
def Dev.qpOfCmd (d : Dev) (n : Nat) (w : Wqe) : Option (Nat × Qp) :=
  match d.qp (qpnKey (field w.imm 0 24)) with
  | some q => if q.slice = n ∧ q.incarnation = field w.imm 16 7 ∧ keyHalf (qpnKey (field w.imm 0 24)) = Half.ofSlice n then some (qpnKey (field w.imm 0 24), q) else none
  | none => none

/-- What a MODIFY_QP comes to (R255, R414): a status, and the device after it; a lost context accepts only DESTROY_QP (R314). -/
def Dev.modifyQp (d : Dev) (k : Nat) (q : Qp) (b : QpBlock) : Dev × Nat :=
  let attrs := bitOf b.mask 1 || bitOf b.mask 2 || bitOf b.mask 3 || bitOf b.mask 4
  let open_ := q.st == .reset || q.st == .init
  let x := giveAttrs q b
  if q.lost then (d, Status.state)
  else if (bitOf b.mask 1 ∧ 2 < b.mtu) ∨ (bitOf b.mask 0 ∧ 3 < b.state) then (d, Status.range)
  else if attrs && !open_ then (d, Status.state)
  else if !bitOf b.mask 0 then (d.modQp k (fun _ => x), Status.ok)
  else
    match b.state, q.st with
    | 1, .reset => ((d.modQp k (fun _ => { x with st := .init })).fetch k, Status.ok)
    | 2, .init => if x.remoteSet && x.sendSet && x.recvSet then ((d.modQp k (fun _ => x)).readyQp k, Status.ok) else (d, Status.state)
    | 3, .reset | 3, .init | 3, .ready => (((d.modQp k (fun _ => x)).qpToError k).fetch k, Status.ok)
    | 0, .error | 0, .flushed => (d.modQp k (fun _ => if bitOf b.mask 5 then { resetQp q with rights := field b.rights 0 3 } else resetQp q), Status.ok)
    | _, _ => (d, Status.state)

/-- A MODIFY_QP whose block meets a test. -/
def onModify (n : Nat) (b : QpBlock) (s : State) : Host.Outcome State Fault Refusal :=
  match s.dev.cmdOf n 0x23 with
  | none => .next s
  | some w =>
    match s.dev.qpOfCmd n w with
    | none => onDev s (s.dev.cmdFails n Status.range)
    | some (k, q) =>
      let r := s.dev.modifyQp k q b
      onDev s (if r.2 = Status.ok then r.1.cmdFinish n Status.ok 0 0 else s.dev.cmdFails n r.2)

/-- MODIFY_QP: without MASK [0], or with a STATE that the table does not list. -/
def execModifyQp (n : Fin 4096) (block : List Byte) (s : State) : Host.Outcome State Fault Refusal :=
  let b := QpBlock.ofBytes block
  if bitOf b.mask 0 ∧ b.state ≤ 3 then .next s else onModify n b s

/-- MODIFY_QP_RESET. -/
def execModifyQpReset (n : Fin 4096) (block : List Byte) (s : State) : Host.Outcome State Fault Refusal :=
  let b := QpBlock.ofBytes block
  if bitOf b.mask 0 ∧ b.state = 0 then onModify n b s else .next s

/-- MODIFY_QP_INIT. -/
def execModifyQpInit (n : Fin 4096) (block : List Byte) (s : State) : Host.Outcome State Fault Refusal :=
  let b := QpBlock.ofBytes block
  if bitOf b.mask 0 ∧ b.state = 1 then onModify n b s else .next s

/-- MODIFY_QP_READY. -/
def execModifyQpReady (n : Fin 4096) (block : List Byte) (s : State) : Host.Outcome State Fault Refusal :=
  let b := QpBlock.ofBytes block
  if bitOf b.mask 0 ∧ b.state = 2 then onModify n b s else .next s

/-- MODIFY_QP_ERROR. -/
def execModifyQpError (n : Fin 4096) (block : List Byte) (s : State) : Host.Outcome State Fault Refusal :=
  let b := QpBlock.ofBytes block
  if bitOf b.mask 0 ∧ b.state = 3 then onModify n b s else .next s

/-- DESTROY_QP. -/
def execDestroyQp (n : Fin 4096) (s : State) : Host.Outcome State Fault Refusal :=
  match s.dev.cmdOf n 0x24 with
  | none => .next s
  | some w =>
    match s.dev.qpOfCmd n w with
    | none => onDev s (s.dev.cmdFails n Status.range)
    | some (k, _) => onDev s ((s.dev.dropQp k).cmdFinish n Status.ok 0 0)

/-! Completion queues. -/

/-- CQs of a slice and of a half. -/
def Dev.cqsOfSlice (d : Dev) (n : Nat) : List Nat := (d.rme.cqs.filter (fun e => e.2.slice == n)).map (fun e => e.1)
def Dev.cqsOfHalf (d : Dev) (h : Half) : Nat := (d.rme.cqs.filter (fun e => keyHalf e.1 == h)).length

/-- A number of CQ entries: a power of two from 64 to 65,536. -/
def cqSizeOk (n : Nat) : Bool := ((List.range 11).map (fun i => 64 * 2 ^ i)).contains n

/-- CREATE_CQ. Which free index is taken is not stated: a free value chooses (assumption log 1). -/
def Dev.createCq (d : Dev) (n : Nat) (w : Wqe) : Dev :=
  let h := Half.ofSlice n
  let v := field w.imm 0 16
  let base := d.num (Obj.rmeSliceMsixBase n)
  if !cqSizeOk w.len ∨ v < base ∨ base + d.num (Obj.rmeSliceMsixCount n) ≤ v then d.cmdFails n Status.range
  else if d.num (Obj.rmeSliceCqQuota n) ≤ (d.cqsOfSlice n).length ∨ 65536 ≤ d.cqsOfHalf h then d.cmdFails n Status.exhausted
  else
    match firstFree (fun i => (tabFind d.rme.cqs (halfKey h i)).isSome) 65536 (d.rme.cqs.length + 1) (d.free % 65536) with
    | none => d.cmdFails n Status.exhausted
    | some i =>
      let c : Cq := { slice := n, base := w.localAddr, size := w.len, vector := v }
      ({ d.bump with rme := { d.rme with cqs := tabSet id d.rme.cqs (halfKey h i) c } }).cmdFinish n Status.ok i 0 true

/-- CREATE_CQ. -/
def execCreateCq (n : Fin 4096) (s : State) : Host.Outcome State Fault Refusal :=
  match s.dev.cmdOf n 0x25 with
  | some w => onDev s (s.dev.createCq n w)
  | none => .next s

/-- DESTROY_CQ. -/
def execDestroyCq (n : Fin 4096) (s : State) : Host.Outcome State Fault Refusal :=
  match s.dev.cmdOf n 0x26 with
  | none => .next s
  | some w =>
    let d := s.dev
    let k := halfKey (Half.ofSlice n) w.imm
    if w.imm < 65536 ∧ (d.cqOf n w.imm).isSome then
      if (d.qpsOfCq k).isEmpty then onDev s (({ d with rme := { d.rme with cqs := tabDel d.rme.cqs k } }).cmdFinish n Status.ok 0 0)
      else onDev s (d.cmdFails n Status.state)
    else onDev s (d.cmdFails n Status.range)

end Sys2Proof.Machine
end

