-- ==== Sys2Proof/Machine/Containment.lean ====
section
/-!
DEFINITION. Sys2Proof/Machine/Containment.lean: the scrubbers: QDR words (R313, R314) and on-die table entries (R315), with
the errors that a perturbation forces in them (R390, R391).
-/
namespace Sys2Proof.Machine

/-- A forced error of a sub-kind at one location of a half: whether one is injected now, and the device after it. -/
def Dev.injectAt (d : Dev) (sub target place : Nat) : Bool × Dev :=
  match d.test.armed.find? (fun e => e.2.kind == 4 && e.2.left != 0 && e.2.target == target && field e.2.p2 0 8 == sub && e.2.p1 == place) with
  | some e => (true, d.fired e.1)
  | none => (false, d)

/-- What a scrubber finds at a location: what the word holds, or a forced error. -/
def Dev.scrubbed (d : Dev) (single : Option Nat) (double h place : Nat) (res : EccResult) : EccResult × Dev :=
  let b := d.injectAt double h place
  if b.1 then (.uncorrectable, b.2)
  else
    match single with
    | some x => let a := d.injectAt x h place; if a.1 then (.corrected, a.2) else (res, d)
    | none => (res, d)

/-! QDR words (R314). -/

/-- A QP whose context or reorder state is lost: it sends nothing, completes nothing, and its staging is freed. -/
def Dev.loseQp (d : Dev) (h : Half) (i : Nat) : Dev :=
  let k := halfKey h i
  match d.qp k with
  | none => d
  | some q =>
    if q.lost then d
    else
      ((d.qpToError k).modQp k (fun x => { x with lost := true, sq := [], rq := [], recv := none })).logEvent h Scope.slice q.slice 1 0x0902
        (beBytes 3 (qpnOf k q))

/-- The replay entry of an executed atomic is invalidated: 16 entries for each QP (R13, R255). -/
def Dev.loseAtomic (d : Dev) (h : Half) (e : Nat) : Dev :=
  d.modQp (halfKey h (e / 16)) (fun q => { q with atomics := q.atomics.take (e % 16) ++ q.atomics.drop (e % 16 + 1) })

/-- A tracking entry is retired until warm reset. -/
def Dev.retireTrack (d : Dev) (h : Half) (e : Nat) : Dev :=
  { (d.setTrack h ((d.track h).filter (fun t => t.entry != e))) with trackRetired := (h.code, e) :: d.trackRetired.filter (fun x => x != (h.code, e)) }

/-- A slice whose context is lost. -/
def Dev.loseSlice (d : Dev) (n : Nat) : Dev := (d.loseHost n).setNum (Obj.rmeSliceLostHost n) 1

/-- What an uncorrectable word does, by region. -/
def Dev.qdrLost (d : Dev) (h : Half) (r : QdrRegion) (e : Nat) : Dev :=
  match r with
  | .keys =>
    match tabFind d.rme.keys (entryKey h e) with
    | some x => d.setKey h e { x with valid := false }
    | none => d
  | .qpContext | .reorder => d.loseQp h e
  | .atomicCache => d.loseAtomic h e
  | .cqContext => d.cqOverflow (halfKey h e)
  | .tracking => d.retireTrack h e
  | .sliceContext => d.loseSlice (2048 * h.code + e % 2048)

/-- One read of the QDR scrubber. -/
def Dev.qdrScrub (d : Dev) (h : Half) (r : QdrRegion) (e : Nat) (res : EccResult) : Dev :=
  match d.scrubbed (some 0x05) 0x06 h.code (r.code * 2 ^ 28 + e % 2 ^ 28) res with
  | (.clean, d) => d
  | (.corrected, d) => d.logEvent h Scope.half h.code 0 0x0503
  | (.uncorrectable, d) =>
    (d.logEvent h Scope.half h.code 1 0x0504 (beBytes 1 r.code ++ beBytes 3 0 ++ beBytes 4 e)).qdrLost h r e

/-- QDR_SCRUB. -/
def execQdrScrub (h : Half) (region : QdrRegion) (entry : Nat) (res : EccResult) (s : State) : Host.Outcome State Fault Refusal :=
  onDev s (s.dev.qdrScrub h region entry res)

/-! On-die tables (R315). -/

/-- Numbers of the tables in P1 [31:28] of a forced error, in the order in which the manual names them (assumption log
13). -/
def DieTable.number : DieTable → Nat
  | .addressMap => 0 | .route => 1 | .meter => 2 | .shaper => 3 | .scheduler => 4 | .counter => 5 | .ic7Limiter => 6

/-- A counter slot reads 0 and is invalid; the part that the other half counted is not told apart from the lost one, so it
is a free part of the sum (assumption log 1). -/
def Dev.loseCounter (d : Dev) (e : Nat) : Dev :=
  let v := d.num (Obj.pmuCtrValue e)
  let n := field v 0 48
  let keep := if (ctrHalves (d.num (Obj.pmuCtrEvent e)) (d.num (Obj.pmuCtrQual e))).length < 2 then 0 else d.free % (n + 1)
  d.bump.setNum (Obj.pmuCtrValue e) (keep + 2 ^ 62 + field v 63 1 * 2 ^ 63)

/-- An entry is restored from its source. -/
def Dev.restoreEntry (d : Dev) (h : Half) (t : DieTable) (e : Nat) : Dev :=
  match t with
  | .addressMap => if d.seamUp then d else { d with gamDead := (h.code, e) :: d.gamDead.filter (fun x => x != (h.code, e)) }
  | .route => d
  | .meter =>
    let d := { d with meters := tabDel d.meters (meterId h e) }
    d.clearObjs (fun k => k == Obj.meterGreen h e || k == Obj.meterYellow h e || k == Obj.meterRed h e)
  | .shaper => { d with shapers := tabDel d.shapers (shaperId h e) }
  | .scheduler =>
    let f := d.freeBits 64
    { (d.bump.setNum (Obj.schedNodeFinish e) f) with nodeTags := tabMod d.nodeTags e {} (fun t => { t with s := f, f := f }) }
  | .counter => d.loseCounter e
  | .ic7Limiter => d.modPort (64 * h.code + e % 64) (fun p => { p with ic7 := none })

/-- One read of the table scrubber. -/
def Dev.tableScrub (d : Dev) (h : Half) (t : DieTable) (e : Nat) (res : EccResult) : Dev :=
  match d.scrubbed none 0x07 h.code (DieTable.number t * 2 ^ 28 + e % 2 ^ 28) res with
  | (.clean, d) => d
  | (.corrected, d) => d.logEvent h Scope.half h.code 0 0x0505
  | (.uncorrectable, d) => (d.logEvent h Scope.half h.code 1 0x0506).restoreEntry h t e

/-- TABLE_SCRUB. -/
def execTableScrub (h : Half) (table : DieTable) (entry : Nat) (res : EccResult) (s : State) : Host.Outcome State Fault Refusal :=
  onDev s (s.dev.tableScrub h table entry res)

end Sys2Proof.Machine
end

