-- ==== Sys2Proof/Machine/Pair.lean ====
section
/-!
DEFINITION. Sys2Proof/Machine/Pair.lean: the pair: joining, resynchronisation, pair objects and twin loss (R215 to R219).
-/
namespace Sys2Proof.Machine

/-! Pair objects. -/

/-- A pair object: an entry of the peer grant table that a commit may set, or `pair.loss_time` (08, "Pair objects"). -/
def isPairObject (k : Key) : Bool := (k.idx == 0x3300 && decide (3 ≤ k.sub) && decide (k.sub ≤ 11)) || (k.idx == 0x3380 && k.sub == 6)

/-- The pair objects in force that differ from their defaults: index, subindex, entry and value. -/
def Dev.pairObjects (d : Dev) : List (Nat × Nat × Nat × Nat) :=
  (d.objs.filter (fun e => isPairObject e.1 && e.2 != defaultVal d.objs e.1)).map (fun e => (e.1.idx, e.1.sub, e.1.ent, e.2.toNum))

/-- The digest of a PAIRSYNC (R218). The manual does not lay out the bytes that are hashed; here they are index, subindex,
entry and value of each object (assumption log 2). -/
def Dev.pairDigest (d : Dev) : List Byte :=
  (Config.shake256 (d.pairObjects.flatMap (fun o => beBytes 2 o.1 ++ beBytes 1 o.2.1 ++ beBytes 4 o.2.2.1 ++ beBytes 8 o.2.2.2)) 32).take 8

/-- The pair objects replaced by others (R218). -/
def Dev.replacePair (d : Dev) (l : List (Nat × Nat × Nat × Nat)) : Dev :=
  let d := d.clearObjs isPairObject
  l.foldl (fun d o =>
    let k : Key := ⟨o.1, o.2.1, o.2.2.1⟩
    if isPairObject k then d.setNum k o.2.2.2 else d) d

/-- A grant that a revocation of the twin makes unused (R216). -/
def Dev.revokeGrant (d : Dev) (g : Nat) : Dev := d.setNum (Obj.grantSrcBinding g) 0xFFFF

/-- The pair objects are equal: revocations pend no longer, then FORMED (R216, R218). -/
def Dev.pairForms (d : Dev) : Dev :=
  let d := d.pair.pendingRevoke.foldl (fun d g => if d.num (Obj.grantState g) = 3 then d.setNum (Obj.grantState g) 0 else d) d
  ({ d with pair := { d.pair with pendingRevoke := [] } }).pairTo PairSt.formed

/-! Joining (R215, R217). -/

/-- The pair is refused with a reason. -/
def Dev.pairRefused (d : Dev) (reason : Nat) : Dev :=
  let d := (d.setNum Obj.pairRefuseReason reason).pairTo PairSt.refused
  d.notifyPair.logEvent d.holderHalf Scope.pair d.ownNode 1 0x0802 (beBytes 1 reason)

/-- The fabric time of a lagging device steps forward, both halves together (R217). -/
def Dev.stepForward (d : Dev) (twin : Nat) : Dev :=
  if d.clocks.west < twin then
    let d := d.leapTime (twin - d.clocks.west)
    (List.range 64).foldl (fun d v => if d.num (Obj.fhostPtmValid v) = 0 then d else d.setPtmValid v 0) d
  else d

/-- PAIR_SESSION_ESTABLISHED (R215, R217). -/
def execPairSessionEstablished (twinKey : List Byte) (twinFabric twinEnable : Bool) (twinTime : Nat) (s : State) : Host.Outcome State Fault Refusal :=
  let d := s.dev
  if d.num Obj.pairState = PairSt.joining ∧ d.activeLinks ≠ [] then
    onDev s (if Config.shake256 twinKey 32 ≠ padTo 32 (d.bytes Obj.pairTwinKeyHash) then d.pairRefused 1
      else if !twinFabric then d.pairRefused 3
      else if !twinEnable then d.pairRefused 4
      else (d.stepForward twinTime).pairTo PairSt.resync)
  else .next s

/-- PAIR_SESSION_REFUSED (R215). -/
def execPairSessionRefused (reason : Nat) (s : State) : Host.Outcome State Fault Refusal :=
  if s.dev.num Obj.pairState = PairSt.joining ∧ 1 ≤ reason ∧ reason ≤ 4 then onDev s (s.dev.pairRefused reason) else .next s

/-- PAIR_JOIN_TIMEOUT (R215). -/
def execPairJoinTimeout (s : State) : Host.Outcome State Fault Refusal :=
  let d := s.dev
  match d.pair.joinSince with
  | some t => if d.num Obj.pairState = PairSt.joining then onDev s ((d.advanceTo (t + sec 1)).pairRefused 5) else .next s
  | none => .next s

/-- PAIR_REFUSED_RETRY (R215). -/
def execPairRefusedRetry (s : State) : Host.Outcome State Fault Refusal :=
  let d := s.dev
  if d.num Obj.pairState = PairSt.refused ∧ d.flag Obj.pairEnable then onDev s ((d.advanceTo (d.pair.refusedAt + sec 10)).pairTo PairSt.joining) else .next s

/-- PAIR_RESYNC_TIMEOUT (R215): reason 6 is recorded. -/
def execPairResyncTimeout (s : State) : Host.Outcome State Fault Refusal :=
  let d := s.dev
  if d.num Obj.pairState = PairSt.resync then
    onDev s (((d.advanceTo (d.pair.resyncSince + ms 100)).setNum Obj.pairRefuseReason 6).pairTo PairSt.joining)
  else .next s

/-- PAIR_MISMATCH_TIMEOUT (R215): generations have differed for 10 ms, or digests for 300 µs. -/
def execPairMismatchTimeout (s : State) : Host.Outcome State Fault Refusal :=
  let d := s.dev
  if d.num Obj.pairState = PairSt.formed then
    match d.pair.genDiffSince, d.pair.digestDiffSince with
    | some t, _ => onDev s ((d.advanceTo (t + ms 10)).pairTo PairSt.resync)
    | none, some t => onDev s ((d.advanceTo (t + us 300)).pairTo PairSt.resync)
    | none, none => .next s
  else .next s

/-! Loss (R219). -/

/-- The pair loses its twin. -/
def Dev.twinLost (d : Dev) : Dev :=
  let d := (d.inc32 Obj.pairLosses).pairTo PairSt.twinLost
  let d := d.notifyPair.logEvent d.holderHalf Scope.pair d.ownNode 2 0x0801
  let d := ((List.range 16).filter (fun i => d.linkSt i != LinkSt.down)).foldl (fun d i => (d.dropHeld i).newIncarnation i) d
  (d.endTracks (fun t => t.fromTwin) true).losePaths (fun _ q => d.remoteTwin q)

/-- PAIR_LOSS_TIMEOUT (R219): no link ACTIVE, or no PAIRSYNC, for `pair.loss_time`. -/
def execPairLossTimeout (s : State) : Host.Outcome State Fault Refusal :=
  let d := s.dev
  if d.num Obj.pairState = PairSt.formed ∨ d.num Obj.pairState = PairSt.resync then
    let since := if d.activeLinks = [] then d.pair.linksLostAt.getD d.pair.lastSync else d.pair.lastSync
    onDev s (d.advanceTo (since + ms (d.num Obj.pairLossTime))).twinLost
  else .next s

/-! PAIRSYNC and the transfer of pair objects (R218). -/

/-- PAIRSYNC_SEND: on the lowest-numbered ACTIVE link. -/
def execPairsyncSend (s : State) : Host.Outcome State Fault Refusal :=
  let d := s.dev
  if (d.num Obj.pairState = PairSt.formed ∨ d.num Obj.pairState = PairSt.resync) ∧ d.activeLinks ≠ [] then
    onDev s (d.bypass (d.activeLinks.headD 0) [.pairSync d.ownNode (d.num Obj.pairState) (d.num Obj.pairGeneration) d.pairDigest])
  else .next s

/-- This device's pair objects prevail over a generation of the twin (R218). -/
def Dev.authoritative (d : Dev) (generation : Nat) : Bool :=
  decide (generation < d.num Obj.pairGeneration) || (generation == d.num Obj.pairGeneration && d.ownNode == 0)

/-- A PAIRSYNC of the twin. -/
def Dev.pairSynced (d : Dev) (generation : Nat) (digest : List Byte) : Dev :=
  let gen := generation == d.num Obj.pairGeneration
  let same := digest == d.pairDigest
  let d := { d with pair := { d.pair with lastSync := d.clk } }
  if d.num Obj.pairState = PairSt.formed then
    { d with pair := { d.pair with
      genDiffSince := if gen then none else some (d.pair.genDiffSince.getD d.clk),
      digestDiffSince := if !gen || same then none else some (d.pair.digestDiffSince.getD d.clk) } }
  else if gen && same then d.pairForms
  else if d.authoritative generation then d.emit (.pairObjects (d.num Obj.pairGeneration) d.pairObjects)
  else d

/-- A PAIRSYNC that names the other node, while FORMED or in RESYNC. -/
def Dev.pairsyncIn (d : Dev) (node generation : Nat) (digest : List Byte) : Dev :=
  if (d.num Obj.pairState = PairSt.formed ∨ d.num Obj.pairState = PairSt.resync) ∧ node ≠ d.ownNode then d.pairSynced generation digest else d

/-- PAIRSYNC. -/
def execPairsync (node _pairState generation : Nat) (digest : List Byte) (s : State) : Host.Outcome State Fault Refusal :=
  onDev s (s.dev.pairsyncIn node generation digest)

/-- PAIR_OBJECTS_TRANSFER (R216, R218): the twin's pending revocations apply before anything else; the objects and the
generation of an authoritative twin then replace this device's, and the pair forms. -/
def execPairObjectsTransfer (generation : Nat) (sent : PairObjects) (s : State) : Host.Outcome State Fault Refusal :=
  let d := s.dev
  if d.num Obj.pairState = PairSt.resync then
    let d := sent.revoked.foldl (fun d g => d.revokeGrant g) d
    onDev s (if d.authoritative generation then d.syncGam
      else ((d.replacePair sent.objs).setNum Obj.pairGeneration (generation % 2 ^ 32)).syncGam.pairForms)
  else .next s

/-- A confirmed prepare of the twin applies at the shared instant (R216). -/
def Dev.applyTwin (d : Dev) : Dev :=
  match d.pair.twinPrepared with
  | none => d
  | some (generation, objs) =>
    let d := { d with pair := { d.pair with twinPrepared := none } }
    ((objs.foldl (fun d o =>
      let k : Key := ⟨o.1, o.2.1, o.2.2.1⟩
      if isPairObject k then d.setNum k o.2.2.2 else d) d).setNum Obj.pairGeneration (generation % 2 ^ 32)).syncGam

/-! Flits that arrive. -/

/-- A message of a bypass flit takes effect (R229); one of a reserved TYPE is discarded and counted. -/
def Dev.bypassIn (d : Dev) (i : Nat) (b : List Byte) : Dev :=
  match BypassMsg.read b with
  | none => d.inc32 (Obj.bflAcksIgnored i)
  | some (.ack seq) => d.ackIn i seq
  | some (.nak seq cause) => d.nakIn i seq cause
  | some (.credit first totals) => d.creditIn i first totals
  | some (.heartbeat _ _ _ seq) => d.heartbeatIn i seq
  | some (.time tseq tx delay echo) => d.timeIn i tseq tx delay echo
  | some (.pairSync node _ gen digest) => d.pairsyncIn node gen digest
  | some (.reset false r) => d.resetRequest i r
  | some (.reset true r) => d.resetAnswered i r

/-- BFL_DATA_FLIT (R223, R229, R231): a flit of 256 bytes arrives. One whose CRC fails is discarded, and answered on an
ACTIVE link; a bypass flit delivers its messages in any state in which the link is up; a data flit is accepted on an ACTIVE
link only. -/
def Dev.flitIn (d : Dev) (i : Nat) (flit : List Byte) : Dev :=
  let h := readHeader flit
  let active := d.linkSt i == LinkSt.active
  if d.linkSt i = LinkSt.down then d
  else if !flitCrcOk flit then (if active then d.badFlit i 0 else d.inc64 (Obj.bflCrcErrors i))
  else if h.vc = 15 then
    let d := if active && (d.link i).partnerInc == some h.inc then d.setReturned i h.crPool h.crTotal else d
    (bypassMessages (flitPayload flit)).foldl (fun d b => d.bypassIn i b) d
  else if active then d.dataFlit i h (flitPayload flit)
  else d

/-- BFL_DATA_FLIT. -/
def execBflDataFlit (i : Fin 16) (flit : List Byte) (s : State) : Host.Outcome State Fault Refusal := onDev s (s.dev.flitIn i flit)

end Sys2Proof.Machine
end

