-- ==== Sys2Proof/Machine/Admit.lean ====
section
/-!
DEFINITION. Sys2Proof/Machine/Admit.lean: what a commit checks before it prepares: lock, consistency and admission (R63 steps 2 to 4;
R16, R17, R20, R138 to R142, R152, R162, R197 to R201, R208, R215, R221, R248, R277, R285, R286, R294 to R296, R329, R344,
R367, R376). Each check compares the state in force with the state that the set would leave.
-/
namespace Sys2Proof.Machine

/-- A staging set: object places with their new values, in key order. -/
abbrev StagedSet := List (Key × Val)

/-- A check that has failed: its status and the object that it names. -/
structure Offence where
  status : Nat
  key : Key
  deriving DecidableEq, Repr

/-- The set holds an entry that meets a test. -/
def touches (set : StagedSet) (p : Key → Bool) : Bool := set.any (fun e => p e.1)

/-- The first entry of the set that meets a test. -/
def firstTouched (set : StagedSet) (p : Key → Bool) : Option Key := (set.find? (fun e => p e.1)).map (fun e => e.1)

/-- The state that a set leaves: its values in force, splits taken over, and the port slots that a new split leaves unused
disabled (R138). -/
def Dev.withSet (d : Dev) (set : StagedSet) : Dev :=
  (List.range 16).foldl (fun n st =>
    let c := n.num (Obj.staSplit st)
    if c = n.num (Obj.staSplitActive st) then n
    else
      let n := n.setNum (Obj.staSplitActive st) c
      (portsOfStation st).foldl (fun n p => if n.splitWidth p = 0 ∧ n.flag (Obj.portEnable p) then n.setNum (Obj.portEnable p) 0 else n) n) (d.wrAll set)

/-- An entry of the set changes the value of a key in force. -/
def Dev.changes (d : Dev) (set : StagedSet) (k : Key) : Bool :=
  match tabFind set k with
  | some v => v != d.val k
  | none => false

/-- A slice is ACTIVE, QUIESCING or QUIESCED. -/
def Dev.sliceBusy (d : Dev) (n : Nat) : Bool := decide (1 ≤ d.num (Obj.rmeSliceState n)) && decide (d.num (Obj.rmeSliceState n) ≤ 3)

/-- Some slice of a node is neither FREE nor RELEASED. -/
def Dev.nodeSlicesBusy (d : Dev) (v : Nat) : Bool := d.knownSlices.any (fun n => d.sliceBusy n && d.num (Obj.rmeSliceOwner n) == v)

/-- Enabled ports. -/
def Dev.enabledPorts (d : Dev) : List Nat := allPorts.filter (fun p => d.flag (Obj.portEnable p))

/-- A node is enabled in the mode in force. -/
def Dev.nodeOn (d : Dev) (v : Nat) : Bool := if d.fabricMode then d.flag (Obj.fhostEnable v) else d.flag (Obj.vsEnable v)

/-! Lock (R62). -/

/-- The first entry of an RWL object (R63 step 2). -/
def lockCheck (set : StagedSet) : Option Offence :=
  (set.find? (fun e => ((findRow e.1.idx e.1.sub).map (fun r => r.access)) == some Access.rwl)).map (fun e => ⟨Status.locked, e.1⟩)

/-! Consistency: what a set needs quiesced. -/

/-- R17: a change of mode while a slice runs. -/
def Dev.checkMode (d : Dev) (set : StagedSet) : Option Offence :=
  if d.changes set Obj.fabricMode && d.knownSlices.any d.sliceBusy then some ⟨Status.quiesce, Obj.fabricMode⟩ else none

/-- R138: a change of split while a port of the station is enabled. -/
def Dev.checkSplit (d : Dev) (set : StagedSet) : Option Offence :=
  (List.range 16).findSome? (fun st =>
    if d.changes set (Obj.staSplit st) && (portsOfStation st).any (fun p => d.flag (Obj.portEnable p)) then some ⟨Status.quiesce, Obj.staSplit st⟩ else none)

/-- R142: role, partition, devfn or CXL of an enabled port. -/
def Dev.checkPortQuiet (d : Dev) (set : StagedSet) : Option Offence :=
  set.findSome? (fun e =>
    let k := e.1
    if decide (0x2000 ≤ k.idx) && decide (k.idx < 0x2080) && [2, 3, 12, 13].contains k.sub && d.changes set k && d.flag (Obj.portEnable (k.idx - 0x2000))
    then some ⟨Status.quiesce, k⟩ else none)

/-- R152 and R200: a node disabled while it has ports, bindings or slices. -/
def Dev.checkNodeOff (d : Dev) (set : StagedSet) : Option Offence :=
  (List.range 64).findSome? (fun v =>
    if !d.fabricMode && tabFind set (Obj.vsEnable v) == some (.num 0) && (!(d.portsOf v).isEmpty || d.nodeSlicesBusy v) then
      some ⟨Status.quiesce, Obj.vsEnable v⟩
    else if d.fabricMode && tabFind set (Obj.fhostEnable v) == some (.num 0) && (!(d.boundTo v).isEmpty || d.nodeSlicesBusy v) then
      some ⟨Status.quiesce, Obj.fhostEnable v⟩
    else none)

/-- R221: the port of a link record whose port is enabled. -/
def Dev.checkBflQuiet (d : Dev) (set : StagedSet) : Option Offence :=
  (List.range 16).findSome? (fun i =>
    let p := d.num (Obj.bflPort i)
    if d.changes set (Obj.bflPort i) && decide (p < 128) && d.flag (Obj.portEnable p) then some ⟨Status.quiesce, Obj.bflPort i⟩ else none)

/-- R248: fields and `enable` 0 of a slice that runs. -/
def Dev.checkSliceQuiet (d : Dev) (set : StagedSet) : Option Offence :=
  set.findSome? (fun e =>
    let k := e.1
    if decide (0x6000 ≤ k.idx) && decide (k.idx < 0x7000) && d.sliceBusy (k.idx - 0x6000) &&
      ((decide (2 ≤ k.sub) && decide (k.sub ≤ 10) && d.changes set k) || (k.sub == 1 && e.2 == .num 0))
    then some ⟨Status.quiesce, k⟩ else none)

/-- Everything that a set needs quiesced; never asked of the boot commit (R99). -/
def Dev.quiesceChecks (d : Dev) (set : StagedSet) : Option Offence :=
  d.checkMode set <|> d.checkSplit set <|> d.checkPortQuiet set <|> d.checkNodeOff set <|> d.checkBflQuiet set <|> d.checkSliceQuiet set

/-! Consistency: ports, partitions and hosts. `d` is the state in force, `n` the state that the set leaves. -/

/-- R138: a port enabled on a slot that the split in force or the staged split leaves unused. -/
def Dev.checkUnused (d n : Dev) (live : Bool) (set : StagedSet) : Option Offence :=
  allPorts.findSome? (fun p =>
    if tabFind set (Obj.portEnable p) == some (.num 1) && ((live && d.splitWidth p == 0) || n.splitWidth p == 0) then
      some ⟨Status.conflict, Obj.portEnable p⟩ else none)

/-- R141 for one enabled port: its role, its node, its slot channel and its clocking. -/
def Dev.checkPort (n : Dev) (p : Nat) : Option Offence :=
  let ps := n.enabledPorts
  let role := n.num (Obj.portRole p)
  let v := n.num (Obj.portPartition p)
  let ups := ps.filter (fun q => n.num (Obj.portRole q) == 1 && n.num (Obj.portPartition q) == v)
  let ch := n.num (Obj.portSlotChannel p)
  if role = 2 ∧ !n.fabricMode then some ⟨Status.conflict, Obj.portRole p⟩
  else if role ≠ 2 ∧ !(n.port p).isMld ∧ !n.nodeOn v then some ⟨Status.conflict, Obj.portPartition p⟩
  else if role = 1 ∧ ups.head? ≠ some p then some ⟨Status.conflict, Obj.portRole p⟩
  else if role = 0 ∧ !n.fabricMode ∧ !(n.port p).isMld ∧ ups.isEmpty then some ⟨Status.conflict, Obj.vsEnable v⟩
  else if ch ≠ 0xFF ∧ ps.any (fun q => q < p && n.num (Obj.portSlotChannel q) == ch) then some ⟨Status.conflict, Obj.portSlotChannel p⟩
  else if n.num (Obj.portClocking p) = 0 ∧ field (strapOf n.objs) 3 2 = 1 then some ⟨Status.conflict, Obj.portClocking p⟩
  else none

/-- Functions on the internal buses of partitions: partition, device and function, and the object that gives it (R141, R162). -/
def Dev.internalFns (n : Dev) : List (Nat × Nat × Key) :=
  ((n.enabledPorts.filter (fun p => n.num (Obj.portRole p) == 0 && !(n.port p).isMld)).map (fun p =>
      (n.num (Obj.portPartition p), n.num (Obj.portVsDevfn p), Obj.portVsDevfn p))) ++
    ((n.usedEntries 0x2301 5 0xFF).map (fun e => (n.num (Obj.cxlLdPartition e), n.num (Obj.cxlLdVppb e), Obj.cxlLdVppb e)))

/-- The first function that shares its place with an earlier one, or whose device has no function 0. -/
def fnClash (all : List (Nat × Nat × Key)) : List (Nat × Nat × Key) → List (Nat × Nat) → Option Offence
  | [], _ => none
  | f :: t, seen =>
    if seen.contains (f.1, f.2.1) ∨ !all.any (fun g => g.1 == f.1 && g.2.1 == f.2.1 / 8 * 8) then some ⟨Status.conflict, f.2.2⟩
    else fnClash all t ((f.1, f.2.1) :: seen)

/-- R141. -/
def Dev.checkPorts (n : Dev) : Option Offence :=
  n.enabledPorts.findSome? n.checkPort <|> (if n.fabricMode then none else fnClash n.internalFns n.internalFns [])

/-- R162: a bound LD. -/
def Dev.checkLds (d n : Dev) (set : StagedSet) : Option Offence :=
  set.findSome? (fun e =>
    let k := e.1
    let v := e.2.toNum
    if k.idx = 0x2301 ∧ k.sub = 5 ∧ v ≠ 0xFF ∧
      (d.num (Obj.cxlLdPort k.ent) = 0xFF ∨ !n.flag (Obj.vsEnable v) ∨ (d.num k ≠ 0xFF ∧ d.num k ≠ v)) then some ⟨Status.conflict, k⟩ else none)

/-- R197: fabric bus ranges. -/
def Dev.checkBuses (n : Dev) : Option Offence :=
  let ps := n.usedEntries 0x3181 3 0
  let base := fun p => n.num (Obj.fportBusBase p)
  let count := fun p => n.num (Obj.fportBusCount p)
  ps.findSome? (fun p =>
    if 256 < base p + count p ∨ n.num (Obj.portRole p) ≠ 0 ∨
      (n.flag (Obj.portEnable p) ∧ ps.any (fun q => q < p && n.flag (Obj.portEnable q) && decide (0 < count p) && decide (0 < count q) && decide (base q < base p + count p) && decide (base p < base q + count q)))
    then some ⟨Status.conflict, Obj.fportBusBase p⟩ else none)

/-- R201 for one used binding. -/
def Dev.checkBinding (d n : Dev) (b : Nat) : Option Offence :=
  let bs := n.bindings
  let v := n.num (Obj.bindHost b)
  let peers := n.boundTo v
  let held := d.num (Obj.bindRid b) != 0 && d.isBound b
  if (n.portOfBinding b).isNone ∨ bs.any (fun x => x < b && n.num (Obj.bindRid x) == n.num (Obj.bindRid b)) then some ⟨Status.conflict, Obj.bindRid b⟩
  else if held ∧ d.num (Obj.bindRid b) ≠ n.num (Obj.bindRid b) then some ⟨Status.conflict, Obj.bindRid b⟩
  else if v = 0xFF then none
  else if !n.flag (Obj.fhostEnable v) ∨ (held ∧ d.num (Obj.bindHost b) ≠ v) ∨ 2048 < peers.length then some ⟨Status.conflict, Obj.bindHost b⟩
  else
    let dv := n.num (Obj.bindVdsp b)
    let fn := n.num (Obj.bindVfn b)
    if peers.any (fun x => x < b && n.num (Obj.bindVdsp x) == dv && n.num (Obj.bindVfn x) == fn) ∨
        !peers.any (fun x => n.num (Obj.bindVdsp x) == dv && n.num (Obj.bindVfn x) == 0) then some ⟨Status.conflict, Obj.bindVfn b⟩
    else if !peers.any (fun x => n.num (Obj.bindVdsp x) == dv / 8 * 8) then some ⟨Status.conflict, Obj.bindVdsp b⟩
    else if n.num (Obj.bindPf b) ≠ 0xFFFF ∧ n.num (Obj.bindRid (n.num (Obj.bindPf b))) = 0 then some ⟨Status.conflict, Obj.bindPf b⟩
    else none

/-- R201: a commit that touches bindings; an entry made unused while it is bound changes its RID. -/
def Dev.checkBindings (d n : Dev) (set : StagedSet) : Option Offence :=
  if touches set (fun k => k.idx == 0x3180) then
    n.bindings.findSome? (d.checkBinding n) <|>
      (d.bindings.findSome? (fun b => if d.isBound b ∧ n.num (Obj.bindRid b) = 0 then some ⟨Status.conflict, Obj.bindRid b⟩ else none)) <|>
      (if 16384 < n.gamWanted.length then (firstTouched set (fun k => k.idx == 0x3180)).map (fun k => ⟨Status.exhausted, k⟩) else none)
  else none

/-- R208 for one used grant. A window in a BAR of a binding whose header has not been read yet is judged in the prepare step,
or by the commit that binds it. -/
def Dev.checkGrant (d n : Dev) (set : StagedSet) (g : Nat) : Option Offence :=
  let own := n.ownNode
  let sn := n.num (Obj.grantSrcNode g)
  let dn := n.num (Obj.grantDstNode g)
  let sb := n.num (Obj.grantSrcBinding g)
  let db := n.num (Obj.grantDstBinding g)
  let base := fun x => n.num (Obj.grantBase x)
  let len := fun x => n.num (Obj.grantLength x)
  if 1 < sn ∨ 1 < dn then some ⟨Status.conflict, if 1 < sn then Obj.grantSrcNode g else Obj.grantDstNode g⟩
  else if touches set (fun k => k.idx == 0x3300 && k.ent == g) ∧ d.num Obj.pairState = PairSt.solo ∧ (sn ≠ own ∨ dn ≠ own) then
    some ⟨Status.conflict, if sn ≠ own then Obj.grantSrcNode g else Obj.grantDstNode g⟩
  else if sn = own ∧ dn = own ∧ n.isBound sb ∧ n.num (Obj.bindHost sb) = n.num (Obj.bindHost db) then some ⟨Status.conflict, Obj.grantDstBinding g⟩
  else if n.grants.any (fun x => x < g && n.num (Obj.grantSrcNode x) == sn && n.num (Obj.grantSrcBinding x) == sb &&
      decide (base x < base g + len g) && decide (base g < base x + len x)) then some ⟨Status.conflict, Obj.grantBase g⟩
  else if n.num (Obj.grantRights g) = 0 then some ⟨Status.conflict, Obj.grantRights g⟩
  else if dn = own then
    match n.realBar db (n.num (Obj.grantDstBar g)) with
    | some r => if r.size < n.num (Obj.grantDstOffset g) + len g then some ⟨Status.conflict, Obj.grantDstOffset g⟩ else none
    | none => if (tabFind n.fns db).isSome then some ⟨Status.conflict, Obj.grantDstBar g⟩ else none
  else none

/-- R208: a commit that touches grants or bindings. A grant that waits for its revocation is a used grant no longer. -/
def Dev.checkGrants (d n : Dev) (set : StagedSet) : Option Offence :=
  if touches set (fun k => k.idx == 0x3300 || k.idx == 0x3180) then
    n.grants.findSome? (d.checkGrant n set) <|>
      (if 16384 < n.gamWanted.length then (firstTouched set (fun k => k.idx == 0x3300)).map (fun k => ⟨Status.exhausted, k⟩) else none)
  else none

/-- R20 and R215: a request to form a pair. -/
def Dev.checkPair (n : Dev) (set : StagedSet) : Option Offence :=
  if tabFind set Obj.pairEnable == some (.num 1) then
    if !n.fabricMode then some ⟨Status.state, Obj.pairEnable⟩
    else if (n.bytes Obj.pairTwinKeyHash).all (fun b => b == 0) then some ⟨Status.conflict, Obj.pairEnable⟩
    else none
  else none

/-- R221: the ports of BFL links. -/
def Dev.checkBfl (n : Dev) : Option Offence :=
  let records := (List.range 16).filter (fun i => n.num (Obj.bflPort i) != 0xFF)
  (n.enabledPorts.findSome? (fun p =>
    if n.num (Obj.portRole p) = 2 ∧ (records.filter (fun i => n.num (Obj.bflPort i) == p)).length ≠ 1 then some ⟨Status.conflict, Obj.portRole p⟩ else none)) <|>
  (records.findSome? (fun i =>
    let p := n.num (Obj.bflPort i)
    if !n.flag (Obj.portEnable p) ∨ n.num (Obj.portRole p) ≠ 2 ∨ n.splitWidth p < 4 then some ⟨Status.conflict, Obj.bflPort i⟩
    else if n.num (Obj.portMaxWidth p) < 4 then some ⟨Status.conflict, Obj.portMaxWidth p⟩
    else if n.num (Obj.portMaxRate p) < 6 then some ⟨Status.conflict, Obj.portMaxRate p⟩
    else if n.num (Obj.portCxl p) = 1 then some ⟨Status.conflict, Obj.portCxl p⟩
    else none))

/-- Slices that the set enables (R248). -/
def enabledSlices (set : StagedSet) : List Nat :=
  (set.filter (fun e => decide (0x6000 ≤ e.1.idx) && decide (e.1.idx < 0x7000) && e.1.sub == 1 && e.2 == .num 1)).map (fun e => e.1.idx - 0x6000)

/-- R248: slices that the set enables. -/
def Dev.checkSlices (n : Dev) (set : StagedSet) : Option Offence :=
  (enabledSlices set).findSome? (fun i =>
    if !n.nodeOn (n.num (Obj.rmeSliceOwner i)) then some ⟨Status.conflict, Obj.rmeSliceOwner i⟩
    else if n.num (Obj.rmeSliceCmdqBase i) = 0 then some ⟨Status.conflict, Obj.rmeSliceCmdqBase i⟩
    else if n.num (Obj.rmeSliceCmdcBase i) = 0 then some ⟨Status.conflict, Obj.rmeSliceCmdcBase i⟩
    else if 2048 < n.num (Obj.rmeSliceMsixBase i) + n.num (Obj.rmeSliceMsixCount i) then some ⟨Status.conflict, Obj.rmeSliceMsixCount i⟩
    else none)

/-! Consistency: scheduling. -/

/-- Every attachment of a shaper to a port, a node entry or a contract, with the object that names it (R286). -/
def Dev.attachments (n : Dev) : List (Half × Nat × Key) :=
  ((allPorts.filter (fun p => n.num (Obj.schedPortShaper p) != noShaper)).map (fun p => (Half.ofPort p, n.num (Obj.schedPortShaper p), Obj.schedPortShaper p))) ++
  ((n.usedEntries 0x40A0 4 noShaper).map (fun e => (Half.ofPort (e / 64), n.num (Obj.schedNodeShaper e), Obj.schedNodeShaper e))) ++
  ((n.contracts.filter (fun e => n.num (Obj.trellisShaper e) != noShaper)).map (fun e => (Half.ofPort (n.num (Obj.trellisPort e)), n.num (Obj.trellisShaper e), Obj.trellisShaper e)))

/-- The first attachment of a shaper that has another one, the pacing pool included. -/
def Dev.sharedShaper (n : Dev) : List (Half × Nat × Key) → List (Half × Nat) → Option Offence
  | [], _ => none
  | a :: t, seen => if n.inPool a.2.1 ∨ seen.contains (a.1, a.2.1) then some ⟨Status.conflict, a.2.2⟩ else n.sharedShaper t ((a.1, a.2.1) :: seen)

/-- R277: staging quotas inside the pools that the set leaves, and the pacing pool inside the table. -/
def Dev.checkRme (n : Dev) : Option Offence :=
  if n.poolSize .west < n.num Obj.rmeStagingQuotaW then some ⟨Status.conflict, Obj.rmeStagingQuotaW⟩
  else if n.poolSize .east < n.num Obj.rmeStagingQuotaE then some ⟨Status.conflict, Obj.rmeStagingQuotaE⟩
  else if 8192 < n.num Obj.rmeCcShaperFirst + n.num Obj.rmeCcShaperCount then some ⟨Status.conflict, Obj.rmeCcShaperCount⟩
  else if n.contracts.any (fun e => n.inPool (n.num (Obj.trellisShaper e))) then some ⟨Status.conflict, Obj.rmeCcShaperFirst⟩
  else none

/-- R285: meters that measure, and the meters that ports name. -/
def Dev.checkMeters (n : Dev) : Option Offence :=
  ([Half.west, Half.east].findSome? (fun h =>
    (n.usedEntries (0x4100 + h.code) 7 0).findSome? (fun m =>
      if n.num (Obj.meterCir h m) = 0 then some ⟨Status.conflict, Obj.meterCir h m⟩
      else if n.num (Obj.meterPir h m) < n.num (Obj.meterCir h m) then some ⟨Status.conflict, Obj.meterPir h m⟩
      else none))) <|>
  (allPorts.findSome? (fun p =>
    let base := n.num (Obj.schedPortMeterBase p)
    if base ≠ 0xFFFF ∧ 16383 < base + maxOf (bitsSet 7 (n.num (Obj.schedPortMeterMask p))) then some ⟨Status.conflict, Obj.schedPortMeterBase p⟩ else none))

/-- A node can have frames at a port (R280, R294): its own ports, an MLD with one of its LDs, and in fabric mode every
fabric and BFL port. -/
def Dev.mayReach (n : Dev) (v p : Nat) : Bool :=
  n.nodeOn v &&
    if n.fabricMode then n.num (Obj.portRole p) != 1 || n.num (Obj.portPartition p) == v
    else n.portOf p v || ((n.port p).isMld && (n.port p).lds.any (fun e => n.num (Obj.cxlLdPartition e) == v))

/-- R294 for one used contract. -/
def Dev.checkContract (n : Dev) (e : Nat) : Option Offence :=
  let p := n.num (Obj.trellisPort e)
  if !n.flag (Obj.portEnable p) then some ⟨Status.conflict, Obj.trellisPort e⟩
  else if !n.mayReach (n.num (Obj.trellisNode e)) p ∨ (n.contractsAt p).any (fun x => x < e && n.num (Obj.trellisNode x) == n.num (Obj.trellisNode e)) then
    some ⟨Status.conflict, Obj.trellisNode e⟩
  else if n.num (Obj.trellisShaper e) = noShaper ∨ n.shaperUses (Half.ofPort p) (n.num (Obj.trellisShaper e)) ≠ 1 then some ⟨Status.conflict, Obj.trellisShaper e⟩
  else if n.num (Obj.schedPortShaper p) ≠ noShaper then some ⟨Status.conflict, Obj.schedPortShaper p⟩
  else if bitOf (n.num (Obj.portLpm p)) 0 then some ⟨Status.conflict, Obj.portLpm p⟩
  else if n.num (Obj.trellisRate e) = 0 then some ⟨Status.conflict, Obj.trellisRate e⟩
  else if n.num (Obj.trellisDeadline e) = 0 then some ⟨Status.conflict, Obj.trellisDeadline e⟩
  else if n.num (Obj.trellisBurst e) < n.num (Obj.trellisFrameMax e) then some ⟨Status.conflict, Obj.trellisBurst e⟩
  else none

/-! Consistency: slots, sideband, thermal and counters. -/

/-- R329: the voltage window of a channel that the set changes. -/
def Dev.checkWindows (n : Dev) (set : StagedSet) : Option Offence :=
  (List.range 32).findSome? (fun k =>
    if touches set (fun x => x.idx == 0x7400 + k && (x.sub == 9 || x.sub == 10)) ∧ n.num (Obj.slotOv k) < n.num (Obj.slotUv k) + 1000 then
      some ⟨Status.conflict, Obj.slotOv k⟩ else none)

/-- R344 for one mapping entry. -/
def Dev.checkEntry (n : Dev) (e : Nat) : Option Offence :=
  let m := n.mapE e
  let others := n.mapEntries.filter (fun x => x < e && (n.mapE x).word == m.word)
  if 8 * m.len < m.srcOff + m.srcWidth then some ⟨Status.conflict, Obj.sbmapSrc e⟩
  else if 32 < m.dstOff + m.dstWidth ∨ others.any (fun x =>
      let y := n.mapE x
      decide (y.dstOff < m.dstOff + m.dstWidth) && decide (m.dstOff < y.dstOff + y.dstWidth)) then some ⟨Status.conflict, Obj.sbmapDst e⟩
  else if m.isWrite ∧ (others.any (fun x => (n.mapE x).isWrite) ∨ (m.flagged ∧ m.srcWidth ≠ 8 * m.len)) then some ⟨Status.conflict, Obj.sbmapFlags e⟩
  else if m.isWrite ∧ m.scale = 0 then some ⟨Status.conflict, Obj.sbmapScale e⟩
  else none

/-- R344: a commit that touches the mapping table. -/
def Dev.checkMap (n : Dev) (set : StagedSet) : Option Offence :=
  if touches set (fun k => k.idx == 0x7520) then n.mapEntries.findSome? n.checkEntry else none

/-- R367. -/
def Dev.checkThermal (n : Dev) : Option Offence :=
  if n.num Obj.pwrThermThrottle < n.num Obj.pwrThermWarn then some ⟨Status.conflict, Obj.pwrThermThrottle⟩ else none

/-- The qualifier of an event names something within a counter scope (R376). -/
def Dev.qualReach (n : Dev) (c : Nat) (kind : QualKind) (q : Nat) : Bool :=
  q == 0xFFFF ||
    match kind with
    | .half => decide (q ≤ 1)
    | .port => decide (q < 128) && (c == 0 || n.portOf q (c - 1))
    | .node => decide (q < 64) && (c == 0 || q == c - 1)
    | .slice => decide (q < 4096) && (c == 0 || (decide (c < 65) && n.num (Obj.rmeSliceOwner q) == c - 1) || q + 65 == c)

/-- R376 for the counters that the set changes: the event open to the scope, the qualifier in its reach, and slots left. -/
def Dev.checkCounters (n : Dev) (set : StagedSet) : Option Offence :=
  let mine := fun (k : Key) => k.idx == 0x8010 && (k.sub == 3 || k.sub == 4)
  (set.findSome? (fun x =>
    let e := x.1.ent
    let c := e / 256
    if mine x.1 ∧ n.num (Obj.pmuCtrEvent e) ≠ 0 then
      match eventRow (n.num (Obj.pmuCtrEvent e)) with
      | none => none
      | some r =>
        if (1 ≤ c ∧ c < 65 ∧ !r.admin) ∨ (65 ≤ c ∧ !r.tenant) then some ⟨Status.conflict, Obj.pmuCtrEvent e⟩
        else if n.qualReach c r.qual (field (n.num (Obj.pmuCtrQual e)) 0 16) then none
        else some ⟨Status.conflict, Obj.pmuCtrQual e⟩
    else none)) <|>
  ([Half.west, Half.east].findSome? (fun h =>
    if 2048 < ctrSlotsIn n.objs h then
      (firstTouched set (fun k => mine k && n.num (Obj.pmuCtrEvent k.ent) != 0 && n.ctrDraws h k.ent)).map (fun k => ⟨Status.exhausted, k⟩)
    else none))

/-- Every check of an inconsistent set, in the order of the rules (assumption log 30). -/
def Dev.conflictChecks (d n : Dev) (live : Bool) (set : StagedSet) : Option Offence :=
  d.checkUnused n live set <|> n.checkPorts <|> d.checkLds n set <|> n.checkBuses <|> d.checkBindings n set <|> d.checkGrants n set <|>
    n.checkPair set <|> n.checkBfl <|> n.checkSlices set <|> n.checkRme <|> n.checkMeters <|> n.sharedShaper n.attachments [] <|>
    n.contracts.findSome? n.checkContract <|> n.checkWindows set <|> n.checkMap set <|> n.checkThermal <|> n.checkCounters set

/-- R63 step 3. -/
def Dev.consistent (d n : Dev) (live : Bool) (set : StagedSet) : Option Offence :=
  (if live then d.quiesceChecks set else none) <|> d.conflictChecks n live set

/-! Admission (R295, R296). -/

/-- The set changes an input of a port's admission. -/
def Dev.inputsChanged (d n : Dev) (set : StagedSet) (p : Nat) : Bool :=
  touches set (fun k =>
    (k.idx == 0x4300 && (n.num (Obj.trellisPort k.ent) == p || d.num (Obj.trellisPort k.ent) == p)) ||
    k == Obj.staSplit (p / 8) || k == Obj.portMaxWidth p || k == Obj.portMaxRate p || k == Obj.portFlit p ||
    (k.idx == 0x4000 && decide (1 ≤ k.sub) && decide (k.sub ≤ 3)) || k == Obj.schedPortOverhead p)

/-- Rate and burst that a contract is admitted with: the larger of old and new while it is admitted in force (R296). -/
def Dev.admittedWith (d n : Dev) (e : Nat) (k : Nat → Key) : Nat :=
  if d.num (Obj.trellisState e) ≠ 0 ∧ d.num (Obj.trellisPort e) = n.num (Obj.trellisPort e) then max (d.num (k e)) (n.num (k e)) else n.num (k e)

/-- The bytes of Q_p's numerator: every contract's burst and largest frame, the IC7 burst and one frame below. -/
def Dev.admissionBytes (d n : Dev) (p : Nat) : Nat :=
  let extra := toSigned 32 (n.num (Obj.schedPortOverhead p))
  let sigma := ((n.contractsAt p).map (fun e => ((d.admittedWith n e Obj.trellisBurst : Nat) : Int) + n.num (Obj.trellisFrameMax e) + extra)).sum
  (sigma + n.num Obj.schedIc7Burst + 4224 + extra).toNat

/-- The bound of a contract in ps (R295). -/
def Dev.contractBound (d n : Dev) (e : Nat) : Nat :=
  let p := n.num (Obj.trellisPort e)
  let i := n.num (Obj.trellisIngress e)
  boundPs (d.admissionBytes n p) (n.capacity p) (n.num Obj.schedIc7RatePct) (i == 0xFF || Half.ofPort i != Half.ofPort p)

/-- The rate condition of a port. -/
def Dev.rateFits (d n : Dev) (p : Nat) : Bool :=
  let sum := ((n.contractsAt p).map (fun e => d.admittedWith n e Obj.trellisRate)).sum
  decide (sum * 10 ≤ n.capacity p * (100 - n.num Obj.schedIc7RatePct) * n.num Obj.schedTrellisCap)

/-- Ports that carry a used contract. -/
def Dev.contractPorts (n : Dev) : List Nat := (n.contracts.map (fun e => n.num (Obj.trellisPort e))).eraseDups

/-- R63 step 4: every port with a used contract whose inputs the set changes. -/
def Dev.admission (d n : Dev) (set : StagedSet) : Option Offence :=
  n.contractPorts.findSome? (fun p =>
    if d.inputsChanged n set p then
      let es := n.contractsAt p
      if !d.rateFits n p then
        ((es.find? (fun e => touches set (fun k => k.idx == 0x4300 && k.ent == e))).orElse (fun _ => es.head?)).map (fun e => ⟨Status.deadline, Obj.trellisRate e⟩)
      else (es.find? (fun e => n.num (Obj.trellisDeadline e) < d.contractBound n e)).map (fun e => ⟨Status.deadline, Obj.trellisDeadline e⟩)
    else none)

/-- Bounds and capacities of the ports that an admission has computed (R295). -/
def Dev.noteAdmission (d n : Dev) (set : StagedSet) (tgt : Dev) : Dev :=
  n.contractPorts.foldl (fun x p =>
    if d.inputsChanged n set p then
      (n.contractsAt p).foldl (fun x e => x.setNum (Obj.trellisBound e) (d.contractBound n e)) (x.setNum (Obj.schedPortCapacity p) (n.capacity p))
    else x) tgt

/-! The twin's prepare (R216). -/

/-- What this device finds against the pair objects that the twin prepares (R208). -/
def Dev.twinFault (d : Dev) (objs : List (Nat × Nat × Nat × Nat)) : Option Offence :=
  let set : StagedSet := (objs.map (fun o => ((⟨o.1, o.2.1, o.2.2.1⟩ : Key), Val.num o.2.2.2))).filter (fun e => isPairObject e.1)
  d.checkGrants (d.withSet set) set

/-- PAIR_PREPARE (R208, R216): node 0 refuses while its own prepare is outstanding, node 1 gives its own up; a set that fails
R208 here is refused. -/
def Dev.twinPrepares (d : Dev) (objs : List (Nat × Nat × Nat × Nat)) (generation : Nat) : Dev :=
  if d.num Obj.pairState ≠ PairSt.formed then d.emit (.pairPrepared Status.farTimeout)
  else if d.pair.ownPrepare && d.ownNode == 0 then d.emit (.pairPrepared Status.busy)
  else
    let d := if d.pair.ownPrepare then (({ d with pair := { d.pair with ownPrepare := false } }).commitFails Status.busy 0 noEntry).settle else d
    match d.twinFault objs with
    | some o => d.emit (.pairPrepared o.status)
    | none => ({ d with pair := { d.pair with twinPrepared := some (generation, objs) } }).emit (.pairPrepared Status.ok)

/-- PAIR_PREPARE. -/
def execPairPrepare (objs : List (Nat × Nat × Nat × Nat)) (generation : Nat) (s : State) : Host.Outcome State Fault Refusal :=
  onDev s (s.dev.twinPrepares objs generation)

end Sys2Proof.Machine
end

