-- ==== Sys2Proof/Machine/Lanes.lean ====
section
/-!
DEFINITION. Sys2Proof/Machine/Lanes.lean: loss of signal and lock, sleep levels, the free sampler, calibration, BIST and
the lane test objects (05; R112 to R136).
-/
namespace Sys2Proof.Machine

/-- What a lane's loss of signal or lock does to the BFL link on it (R234). -/
def Dev.laneEvent (d : Dev) (l : Nat) : Dev :=
  match d.portOfLane l with
  | some p => d.bflPortEvent p
  | none => d

/-- LANE_LOL_ASSERT (R115): judged only on an Active receiver with a signal. -/
def execLaneLolAssert (l : Fin 256) (s : State) : Host.Outcome State Fault Refusal :=
  let d := s.dev
  if d.laneLevel l .rx = 0 ∧ d.laneBit l LaneBit.los = false ∧ d.laneBit l LaneBit.lol = false then
    let d := (d.setLaneBit l LaneBit.lol true).inc32 (Obj.laneLolCount l)
    onDev s ((d.logEvent (Half.ofLane l) Scope.lane l 0 0x0102).laneEvent l)
  else .next s

/-- LANE_LOL_CLEAR (R115). -/
def execLaneLolClear (l : Fin 256) (s : State) : Host.Outcome State Fault Refusal := onDev s (s.dev.setLaneBit l LaneBit.lol false)

/-- A loss of signal is expected (R117). -/
def Dev.losExpected (d : Dev) (l : Nat) (announced : Bool) : Bool :=
  announced || d.inTest l ||
  match d.portOfLane l with
  | none => true
  | some p => [0, 5, 6, 8].contains (d.num (Obj.pstLtssm p))

/-- LANE_LOS_ASSERT (R116, R117): the status bit follows the detector; an unexpected assertion is counted and recorded. -/
def execLaneLosAssert (l : Fin 256) (announced : Bool) (s : State) : Host.Outcome State Fault Refusal :=
  let d := s.dev
  if d.laneBit l LaneBit.los then .next s
  else
    let expected := d.losExpected l announced
    let d := d.setLaneBit l LaneBit.los true
    onDev s (if expected then d
      else ((d.inc32 (Obj.laneLosCount l)).logEvent (Half.ofLane l) Scope.lane l 0 0x0101).laneEvent l)

/-- LANE_LOS_DEASSERT (R116). -/
def execLaneLosDeassert (l : Fin 256) (s : State) : Host.Outcome State Fault Refusal := onDev s (s.dev.setLaneBit l LaneBit.los false)

/-! Sleep (R118, R119). -/

/-- The level that a port's state can call a direction of its link to (R118, R143): Off as in L2, Deep only where `port.lpm`
allows a substate of L1 (assumption log 108). -/
def Dev.levelFor (d : Dev) (p : Nat) (level : SleepLevel) : Nat :=
  if level = .deep ∧ field (d.linkField p (Obj.portLpm p)) 1 2 = 0 then 1 else level.code

/-- A lane belongs to a trained PCI Express or CXL link in L0 or a link power state; a BFL link stays in L0 (R222). -/
def Dev.laneMaySleep (d : Dev) (p l : Nat) : Bool :=
  (d.port p).lanes.contains l && d.dlUp p && d.num (Obj.portRole p) != 2 && [3, 5, 6].contains (d.num (Obj.pstLtssm p))

/-- LANE_SLEEP_CHANGE: one direction of a lane takes the level that its port's state requires; `pst.ltssm` follows. -/
def execLaneSleepChange (l : Fin 256) (x : LaneDir) (level : SleepLevel) (s : State) : Host.Outcome State Fault Refusal :=
  let d := s.dev
  match d.portOfLane l with
  | some p => if d.laneMaySleep p l then onDev s ((d.setLevel l x (d.levelFor p level)).followSleep p) else .next s
  | none => .next s

/-- LANE_WAKE: the direction is Active again, and an overdue pass is queued. -/
def execLaneWake (l : Fin 256) (x : LaneDir) (s : State) : Host.Outcome State Fault Refusal :=
  let d := s.dev.setLevel l x 0
  onDev s (match d.portOfLane l with
    | some p => d.followSleep p
    | none => d)

/-! The free sampler (R122 to R126). -/

/-- BGCAL_PERIOD_EXPIRY (R124). -/
def execBgcalPeriodExpiry (l : Fin 256) (s : State) : Host.Outcome State Fault Refusal :=
  let d := s.dev
  onDev s ((d.advanceTo (d.clk + (d.num (Obj.laneBgcalLast l) + ms (d.num (Obj.laneBgcalPeriod l)) - d.time (Half.ofLane l)))).passDue l)

/-- Lanes of a station (R10). -/
def lanesOfStation (st : Nat) : List Nat := (List.range 16).map (fun i => 16 * st + i)

/-- BGCAL_TEMP_TRIGGER (R124). -/
def execBgcalTempTrigger (st : Fin 16) (s : State) : Host.Outcome State Fault Refusal :=
  onDev s ((lanesOfStation st).foldl (fun d l => d.passDue l) s.dev)

/-- 1 s has passed since a lane's last completed pass: a pass goes before the next margin step (R125). -/
def Dev.passFirst (d : Dev) (l : Nat) : Bool := decide (d.num (Obj.laneBgcalLast l) + sec 1 ≤ d.time (Half.ofLane l))

/-- The sampler may go to a calibration pass (R125): it is free, or in margining with 1 s gone since the last completed
pass. -/
def Dev.samplerForPass (d : Dev) (l : Nat) : Bool :=
  match (d.lane l).samplerUser with
  | 0 => true
  | 2 => d.passFirst l
  | _ => false

/-- A background pass runs and holds the free sampler. -/
def Dev.passHolds (d : Dev) (l : Nat) : Bool := (d.lane l).run == 1 && (d.lane l).samplerUser == 3

/-- FREE_SAMPLER_GRANT (R125, R128): a pending pass starts to run, or one that margining has interrupted goes on. -/
def execFreeSamplerGrant (l : Fin 256) (s : State) : Host.Outcome State Fault Refusal :=
  let d := s.dev
  if (d.num (Obj.laneCalStatus l) = Cal.pending ∨ (d.lane l).run = 1) ∧ d.rxActive l ∧ d.samplerForPass l then
    let d := (d.setNum (Obj.laneCalStatus l) Cal.running).setLaneBit l LaneBit.bgcal true
    onDev s (d.modLane l (fun x => { x with run := 1, samplerUser := 3 }))
  else .next s

/-- SAMPLER_SWAP (R123): at the end of a pass the samplers exchange their roles, or the exchange is abandoned. -/
def execSamplerSwap (l : Fin 256) (agreed : Bool) (s : State) : Host.Outcome State Fault Refusal :=
  let d := s.dev
  if d.passHolds l ∧ d.rxActive l then
    onDev s (if agreed then d.setLaneBit l LaneBit.sampler (!d.laneBit l LaneBit.sampler) else d.inc32 (Obj.laneSwapAbandoned l))
  else .next s

/-- BGCAL_PASS_END (R126, R128): Passed, or Degraded with the last good settings kept. -/
def execBgcalPassEnd (l : Fin 256) (ok : Bool) (s : State) : Host.Outcome State Fault Refusal :=
  let d := s.dev
  if d.passHolds l then
    let user := if d.laneBit l LaneBit.margining then 2 else 0
    let d := d.modLane l (fun x => { x with run := 0, passDue := false, samplerUser := user })
    let d := (d.setLaneBit l LaneBit.bgcal false).setLaneBit l LaneBit.degraded (!ok)
    let d := (d.setNum (Obj.laneBgcalLast l) (d.time (Half.ofLane l))).inc32 (Obj.laneBgcalCount l)
    onDev s (if ok then (d.setNum (Obj.laneCalStatus l) Cal.passed).setNum (Obj.laneCalResult l) 0
      else (d.setNum (Obj.laneCalStatus l) Cal.degraded).logEvent (Half.ofLane l) Scope.lane l 0 0x0103)
  else .next s

/-- EYE_SCAN (R125, R126, R368): the smallest eye is stored; every other user of the free sampler goes first. -/
def execEyeScan (l : Fin 256) (height width : Nat) (s : State) : Host.Outcome State Fault Refusal :=
  let d := s.dev
  if d.rxActive l ∧ (d.lane l).samplerUser = 0 ∧ d.num (Obj.laneCalStatus l) ≠ Cal.pending ∧ d.flag Obj.perEnable then
    onDev s (((d.setNum (Obj.laneEyeHeight l) (height % 2 ^ 16)).setNum (Obj.laneEyeWidth l) (width % 2 ^ 16)).setNum (Obj.laneEyeTime l) (d.time (Half.ofLane l)))
  else .next s

/-- The options of R122: 32 timing steps on each side and 64 voltage steps in each direction. -/
def marginTaken : MarginCmd → Bool
  | .stop => true
  | .timing _ n => decide (n ≤ 32)
  | .voltage _ n => decide (n ≤ 64)

/-- The offset of a margin step (R122): timing in µUI, up to 50% of the UI; voltage in µV, up to 250 mV at NRZ and 120 mV at
PAM4, rounded down. -/
def marginOffset (rate : Nat) : MarginCmd → Nat
  | .stop => 0
  | .timing _ n => n * 500000 / 32
  | .voltage _ n => n * (if 6 ≤ rate then 120000 else 250000) / 64

/-- MARGIN_COMMAND (R122, R125): a step takes the free sampler, unless a pass goes first, and gives it back at the end; a
step beyond the options is not taken. The errors that it counts are the channel's: a free value. -/
def execMarginCommand (l : Fin 256) (c : MarginCmd) (s : State) : Host.Outcome State Fault Refusal :=
  let d := s.dev
  if c = .stop then
    onDev s ((d.setLaneBit l LaneBit.margining false).modLane l (fun x =>
      { x with samplerUser := if x.samplerUser = 2 then (if x.run = 1 then 3 else 0) else x.samplerUser }))
  else if d.rxActive l ∧ marginTaken c then
    let wait := d.passHolds l && d.passFirst l
    let n := d.free
    onDev s (((d.setLaneBit l LaneBit.margining true).bump.modLane l (fun x => { x with samplerUser := if wait then 3 else 2 })).emit
      (.marginStep l c (marginOffset (d.num (Obj.laneRate l)) c) n))
  else .next s

/-! Full calibration and BIST (R127 to R129). -/

/-- The port of a lane is down as R128 defines it; a lane in no configured port counts as down. -/
def Dev.lanePortDown (d : Dev) (l : Nat) : Bool :=
  match d.portOfLane l with
  | some p => d.num (Obj.pstLtssm p) == Ltssm.detect || d.num (Obj.pstLtssm p) == Ltssm.disabled
  | none => true

/-- A calibration is Pending or Running. -/
def Dev.calBusy (d : Dev) (l : Nat) : Bool := d.num (Obj.laneCalStatus l) == Cal.pending || d.num (Obj.laneCalStatus l) == Cal.running

/-- A full calibration (2) or BIST (3) starts. -/
def Dev.startRun (d : Dev) (l run : Nat) (forced : Bool) : Dev :=
  (d.setNum (Obj.laneCalStatus l) Cal.running).modLane l (fun x => { x with run := run, forced := forced })

/-- A write of `lane.cal_cmd` (R128, R129). -/
def Dev.writeCalCmd (d : Dev) (l v : Nat) : Dev × Nat :=
  if v ≠ 1 ∧ d.inTest l then (d, Status.state)
  else if d.calBusy l then (d, Status.busy)
  else if v = 1 then
    if d.rxActive l then (d.setNum (Obj.laneCalStatus l) Cal.pending, Status.ok) else (d, Status.state)
  else
    let run := v % 128
    if d.lanePortDown l then (d.startRun l run false, Status.ok)
    else if v < 128 then (d, Status.busy)
    else
      match d.portOfLane l with
      | some p => ((d.portDown p Ltssm.disabled DownCause.test).startRun l run true, Status.ok)
      | none => (d, Status.ok)

/-- A lane marked failed, or its mark cleared (R127). -/
def Dev.markLane (d : Dev) (l : Nat) (bad : Bool) : Dev :=
  let d := d.setLaneBit l LaneBit.failed bad
  let d := if bad then d.logEvent (Half.ofLane l) Scope.lane l 2 0x0104 else d
  match d.portOfLane l with
  | some p => d.setNum (Obj.pstLanesFailed p) (d.lanesFailed p)
  | none => d

/-- The code that a failed run leaves in `lane.cal_result`. -/
def calCode : CalOutcome → Nat
  | .pass => 0
  | .beyondRange => 3
  | .fail c => c

/-- A full calibration or BIST has an outcome (R127, R128); a calibration that passes clears the mark. -/
def Dev.runEnds (d : Dev) (l run : Nat) (o : CalOutcome) : Dev :=
  let d := d.setNum (Obj.laneCalResult l) (calCode o)
  match o with
  | .pass =>
    let d := d.setNum (Obj.laneCalStatus l) Cal.passed
    if run = 2 ∧ d.laneBit l LaneBit.failed then d.markLane l false else d
  | _ => (d.setNum (Obj.laneCalStatus l) Cal.failed).markLane l true

/-- LANE_CAL_END (R127 to R129): the port returns to Detect unless its record holds it disabled. -/
def execLaneCalEnd (l : Fin 256) (o : CalOutcome) (s : State) : Host.Outcome State Fault Refusal :=
  let d := s.dev
  let x := d.lane l
  if 2 ≤ x.run then
    let d := (d.runEnds l x.run o).modLane l (fun x => { x with run := 0, forced := false })
    onDev s (if x.forced then
        match d.portOfLane l with
        | some p => d.backToDetect p
        | none => d
      else d)
  else .next s

/-- BOOT_LANE_CALIBRATION (R127): after the boot commit and before any port trains. -/
def execBootLaneCalibration (failed : List (Fin 256 × Nat)) (s : State) : Host.Outcome State Fault Refusal :=
  let d := s.dev
  if d.boot.bootCommitDone && !d.boot.laneCalDone then
    let d := (List.range 256).foldl (fun d l =>
      match failed.find? (fun e => e.1.val == l) with
      | some e => d.runEnds l 2 (.fail e.2)
      | none => d.runEnds l 2 .pass) d
    onDev s { d with boot := { d.boot with laneCalDone := true } }
  else .next s

/-! Lane tests (R131 to R136). -/

/-- Eighths of a bit that a lane sends in one fabric time unit, by rate code. -/
def bitEighths (rate : Nat) : Nat :=
  match rate with
  | 1 => 5 | 2 => 10 | 3 => 16 | 4 => 32 | 5 => 64 | 6 => 128 | 7 => 256 | _ => 0

/-- Bits that a lane's test has sent in a time. -/
def Dev.testBitsIn (d : Dev) (l dt : Nat) : Nat := bitEighths (d.num (Obj.testLaneRate l)) * dt / 8

/-- Periodic injection is on. -/
def Dev.injecting (d : Dev) (l : Nat) : Bool := field (d.num (Obj.testLaneInject l)) 30 2 == 2 && d.flag (Obj.testLaneGen l)

/-- Eighths of a bit that periodic injection has counted up to a time, and those between two inversions (R135). -/
def Dev.injectEighths (d : Dev) (l t : Nat) : Nat := (d.lane l).injRem + bitEighths (d.num (Obj.testLaneRate l)) * (t - (d.lane l).injAt)
def Dev.injectPeriod (d : Dev) (l : Nat) : Nat := 8 * 2 ^ field (d.num (Obj.testLaneInject l)) 24 6

/-- Bits that periodic injection has inverted up to a time (R135). -/
def Dev.periodicUpTo (d : Dev) (l t : Nat) : Nat := if d.injecting l then d.injectEighths l t / d.injectPeriod l else 0

/-- The checker watches the lane's own generator (R131). -/
def Dev.loops (d : Dev) (l : Nat) : Bool := d.num (Obj.testLaneLoopback l) == 1 || d.num (Obj.testLaneLoopback l) == 2

/-- `test.lane.injected`, `test.lane.bits` and `test.lane.errors` as they read (R134, R135). Errors that the channel adds
itself are known only when CHECKER_LOCK_LOST tells them. -/
def Dev.testInjected (d : Dev) (l : Nat) : Nat := d.num (Obj.testLaneInjected l) + d.periodicUpTo l d.clk
def Dev.testBits (d : Dev) (l : Nat) : Nat :=
  d.num (Obj.testLaneBits l) + (if d.num (Obj.testLaneChkStatus l) = 2 then d.testBitsIn l (d.clk - (d.lane l).lockAt) else 0)
def Dev.testErrors (d : Dev) (l : Nat) : Nat :=
  d.num (Obj.testLaneErrors l) +
    (if d.num (Obj.testLaneChkStatus l) = 2 ∧ d.loops l then d.periodicUpTo l d.clk - d.periodicUpTo l (d.lane l).lockAt else 0)

/-- The counts that run with time brought up to now, before something that changes their pace; the bits sent since the last
inversion go on counting. -/
def Dev.settleTest (d : Dev) (l : Nat) : Dev :=
  let i := d.testInjected l
  let b := d.testBits l
  let e := d.testErrors l
  let rem := if d.injecting l then d.injectEighths l d.clk % d.injectPeriod l else 0
  let d := ((d.setNum (Obj.testLaneInjected l) (i % 2 ^ 64)).setNum (Obj.testLaneBits l) (b % 2 ^ 64)).setNum (Obj.testLaneErrors l) (e % 2 ^ 64)
  d.modLane l (fun x => { x with lockAt := d.clk, injAt := d.clk, injRem := rem })

/-- A lane enters or leaves test with a write: its port stays in Disabled while any of its lanes is in test, and returns
to Detect with the last (R131); a lane in test is Active in both directions (R119). -/
def Dev.followTest (d : Dev) (l : Nat) : Dev :=
  let d := d.setLevels l 0
  match d.portOfLane l with
  | none => d
  | some p => if (d.lanesOf p).any d.inTest then d.setNum (Obj.pstLtssm p) Ltssm.disabled else d.backToDetect p

/-- A test may start on a lane (R131). -/
def Dev.testMayStart (d : Dev) (l : Nat) : Bool := d.lanePortDown l && !d.calBusy l

/-- Pattern codes that need PAM4 (R133). -/
def needsPam4 (code : Nat) : Bool := decide (8 ≤ code) && decide (code ≤ 10)

/-- A write of `test.lane.loopback` (R131, R132). Far-end loopback under a running generator is refused S_STATE: R132 says that
the two do not go together and states the refusal of the generator's write alone, so this one is the model's (assumption log
109, DESIGN CHOICE). -/
def Dev.writeLoopback (d : Dev) (l code : Nat) : Dev × Nat :=
  if code = 3 ∧ d.flag (Obj.testLaneGen l) then (d, Status.state)
  else if code ≠ 0 ∧ d.testMayStart l = false then (d, Status.busy)
  else (((d.settleTest l).setNum (Obj.testLaneLoopback l) code).followTest l, Status.ok)

/-- A write of `test.lane.gen` (R131 to R133; R53's order puts S_STATE before S_BUSY). -/
def Dev.writeGen (d : Dev) (l code : Nat) : Dev × Nat :=
  if code ≠ 0 ∧ d.num (Obj.testLaneLoopback l) = 3 then (d, Status.state)
  else if needsPam4 code ∧ d.num (Obj.testLaneRate l) < 6 then (d, Status.state)
  else if code ≠ 0 ∧ d.testMayStart l = false then (d, Status.busy)
  else
    let start := code != 0 && !d.flag (Obj.testLaneGen l)
    let d := (d.settleTest l).setNum (Obj.testLaneGen l) code
    ((if start then (d.setNum (Obj.testLaneInjected l) 0).modLane l (fun x => { x with injRem := 0 }) else d).followTest l, Status.ok)

/-- The checker hunts again, where it is on. -/
def Dev.rehunt (d : Dev) (l : Nat) : Dev := if d.flag (Obj.testLaneChk l) then d.setNum (Obj.testLaneChkStatus l) 1 else d

/-- A write of `test.lane.rate` (R133): the checker restarts. A rate below 6 is taken also while a pattern of codes 8 to 10 runs,
which then goes on: R133 states only the refusal of the pattern's write (assumption log 110, DESIGN CHOICE). -/
def Dev.writeTestRate (d : Dev) (l code : Nat) : Dev × Nat := (((d.settleTest l).setNum (Obj.testLaneRate l) code).rehunt l, Status.ok)

/-- A write of `test.lane.chk` (R131, R133, R134). -/
def Dev.writeChk (d : Dev) (l code : Nat) : Dev × Nat :=
  if needsPam4 code ∧ d.num (Obj.testLaneRate l) < 6 then (d, Status.state)
  else if code ≠ 0 ∧ d.testMayStart l = false then (d, Status.busy)
  else
    let d := (d.settleTest l).setNum (Obj.testLaneChk l) code
    ((d.setNum (Obj.testLaneChkStatus l) (b2n (code != 0))).followTest l, Status.ok)

/-- Bits inverted at once, counted at the generator and by a checker that watches it. -/
def Dev.injectBits (d : Dev) (l n : Nat) : Dev :=
  let d := d.inc64 (Obj.testLaneInjected l) n
  if d.num (Obj.testLaneChkStatus l) = 2 ∧ d.loops l then d.inc64 (Obj.testLaneErrors l) n else d

/-- A write of `test.lane.inject` (R135): accepted only while the generator runs; single and burst injections read mode 0
afterwards. -/
def Dev.writeInject (d : Dev) (l v : Nat) : Dev × Nat :=
  if d.flag (Obj.testLaneGen l) = false then (d, Status.state)
  else
    let d := (d.settleTest l).modLane l (fun x => { x with injRem := 0 })
    let v := v - v % 65536
    match field v 30 2 with
    | 1 => ((d.setNum (Obj.testLaneInject l) (setField v 30 2 0)).injectBits l 1, Status.ok)
    | 3 => ((d.setNum (Obj.testLaneInject l) (setField v 30 2 0)).injectBits l (field v 16 8), Status.ok)
    | _ => (d.setNum (Obj.testLaneInject l) v, Status.ok)

/-- CHECKER_LOCK (R134): the checker locks, and its counters start from 0. -/
def execCheckerLock (l : Fin 256) (s : State) : Host.Outcome State Fault Refusal :=
  let d := s.dev
  if d.num (Obj.testLaneChkStatus l) = 1 then
    let d := ((d.setNum (Obj.testLaneChkStatus l) 2).setNum (Obj.testLaneBits l) 0).setNum (Obj.testLaneErrors l) 0
    onDev s (d.modLane l (fun x => { x with lockAt := d.clk }))
  else .next s

/-- CHECKER_LOCK_LOST (R134): more than 128 errors in a window of 1,024 bits; the counters freeze at what they then hold. -/
def execCheckerLockLost (l : Fin 256) (bits errors : Nat) (s : State) : Host.Outcome State Fault Refusal :=
  let d := s.dev
  if d.num (Obj.testLaneChkStatus l) = 2 then
    let d := d.settleTest l
    onDev s (((d.setNum (Obj.testLaneChkStatus l) 3).setNum (Obj.testLaneBits l) (bits % 2 ^ 64)).setNum (Obj.testLaneErrors l) (errors % 2 ^ 64))
  else .next s

end Sys2Proof.Machine
end

