-- ==== Sys2Proof/Machine/Commit.lean ====
section
/-!
DEFINITION. Sys2Proof/Machine/Commit.lean: the commit sequence (R63 to R69), what the apply instant changes (R64 and the chapters
that name it), the configuration store (R55 to R57) and the boot commit (R99).
-/
namespace Sys2Proof.Machine

/-! The configuration store. -/

/-- An object belongs to the class Stored (R55). -/
def isStored (k : Key) : Bool := ((findRow k.idx k.sub).map (fun r => r.persist)) == some Persist.stored

/-- Values of one list overlaid with another's. -/
def overlay (l new : List (Key × Val)) : List (Key × Val) := new.foldl (fun l e => tabSet Key.code l e.1 e.2) l

/-- Mapping entries that a commit has changed and a flagged read still holds back (R348). -/
def Dev.heldBack (d : Dev) : List (Key × Val) := d.sb.flatMap (fun b => b.2.deferred)

/-- Every stored object, with the pending values of reset objects (R56, R60). -/
def Dev.storedContent (d : Dev) : List (Key × Val) := overlay (overlay (d.objs.filter (fun e => isStored e.1)) d.heldBack) d.resetObjs

/-- A half's copy is written in full (R56, R57). -/
def Dev.writeCopy (d : Dev) (h : Half) : Dev :=
  d.setStore h { valid := true, generation := d.num Obj.cfgGeneration, seq := (d.store h).seq + 1, content := d.storedContent }

/-- The holder's copy is written, and with it `cfg.store_generation` (R56). -/
def Dev.writeHolderCopy (d : Dev) : Dev := (d.writeCopy d.holderHalf).setNum Obj.cfgStoreGeneration (d.num Obj.cfgGeneration)

/-- Both copies are written. -/
def Dev.writeBothCopies (d : Dev) : Dev := { ((d.writeHolderCopy).writeCopy d.holderHalf.other) with storeWrite := none }

/-- An xSPI pad group is held (R361). -/
def Dev.xspiHeld (d : Dev) : Bool := d.padHeld 21 || d.padHeld 22

/-- The store write that a commit owes (R56): at once where both halves answer, else it waits for the other half until the
2 s have passed. -/
def Dev.owedStoreWrite (d : Dev) : Dev :=
  if d.farReachable d.holderHalf.other then d.writeBothCopies else { d with storeWrite := some (d.num Obj.cfgGeneration) }

/-- STORE_WRITE_TIMEOUT (R56): the other half has not answered within 2 s of the apply instant, and only the holder's copy
takes the new generation. -/
def execStoreWriteTimeout (s : State) : Host.Outcome State Fault Refusal :=
  match s.dev.storeWrite with
  | none => .next s
  | some _ => onDev s { s.dev.writeHolderCopy with storeWrite := none }

/-- The cluster that serves a session reaches the rake holder (R23, R86). -/
def Dev.reachesHolder (d : Dev) (h : Half) : Bool :=
  match d.holder with
  | some x => x == h || d.farReachable x
  | none => false

/-- A value put into both copies (R57): the holder's copy takes it, and the other copy is made equal to it (R56). A copy of
an earlier generation for which a store write is still owed is written in full. -/
def Dev.storeValue (d : Dev) (k : Key) (v : Val) : Dev :=
  if d.storeWrite.isSome then d.writeBothCopies
  else
    let h := d.holderHalf
    let c := d.store h
    let c : StoreCopy := { valid := true, generation := if c.valid then c.generation else d.num Obj.cfgGeneration,
                           seq := max c.seq (d.store h.other).seq + 1,
                           content := tabSet Key.code (if c.valid then c.content else d.storedContent) k v }
    ((d.setStore h c).setStore h.other c).setNum Obj.cfgStoreGeneration c.generation

/-- A write from a half that must stand in both copies before its answer (R57): it is refused while an xSPI pad group is
held, waits while the holder or the other half does not answer, and else gives the object its value. -/
def Dev.storeLive (d : Dev) (h : Half) (k : Key) (v : Val) (write : Dev → Dev) : Dev × WriteResult :=
  if d.xspiHeld then (d, .done Status.busy)
  else if !d.reachesHolder h || !d.farReachable d.holderHalf.other then (d, .wait .farAccess)
  else ((write d).storeValue k v, .done Status.ok)

/-! What the apply instant changes. `o` is the state before it; each function takes the state as it stands. -/

/-- Array entries of an index that a set holds. -/
def entsOf (set : StagedSet) (idx : Nat) : List Nat := ((set.filter (fun e => e.1.idx == idx)).map (fun e => e.1.ent)).eraseDups

/-- Records from a base index that a set holds. -/
def recsOf (set : StagedSet) (base count : Nat) : List Nat :=
  ((set.filter (fun e => decide (base ≤ e.1.idx) && decide (e.1.idx < base + count))).map (fun e => e.1.idx - base)).eraseDups

/-- BFL links that the set takes out of service (R221, "Link state machine"). -/
def Dev.stopLinks (d n : Dev) : Dev :=
  (List.range 16).foldl (fun d i =>
    let p := d.num (Obj.bflPort i)
    if p < 128 ∧ (n.num (Obj.bflPort i) ≠ p ∨ !n.flag (Obj.portEnable p)) then d.linkDown i p else d) d

/-- Ports that the set disables are held in Disabled (R140, R149); the loss of its upstream link resets a node (R153). -/
def Dev.disablePorts (d n : Dev) : Dev :=
  d.enabledPorts.foldl (fun d p => if n.flag (Obj.portEnable p) then d else d.portDown p Ltssm.disabled DownCause.config) d

/-- A synthetic or virtual port reports a surprise link down to its host (R202). -/
def Dev.synthGone (d : Dev) (b : Nat) : Dev :=
  let v := d.num (Obj.bindHost b)
  let f := d.synthOf b
  let d := (d.synthLink b false true).orCfg f .aerUncorStatus (2 ^ Aer.surpriseDown)
  if bitOf (d.cfgReg f .aerUncorMask) Aer.surpriseDown then d
  else d.emit (.aer v ((d.portOfBinding b).getD noPort) (if bitOf (d.cfgReg f .aerUncorSeverity) Aer.surpriseDown then 2 else 1))

/-- Bindings that the set unbinds (R202, R213): requests of the old host that still wait reach the function no more, and are
ended. -/
def Dev.unbindGone (d n : Dev) : Dev :=
  d.bindings.foldl (fun d b =>
    if d.isBound b ∧ !n.isBound b then
      let d := if d.num (Obj.bindState b) = 3 then d else d.synthGone b
      let d := d.discardWhere (fun q => q.bind == some b) .policy (fun _ => d.trackCompleter b)
      let d := d.endTracks (fun t => t.binding == b) false
      { d with views := tabDel d.views b }
    else d) d

/-- A TLP from inside a partition goes to the device below one of its bridges. -/
def Dev.viaBridge (d : Dev) (v : Nat) (b : Bridge) (t : Tlp) : Bool :=
  match t.type with
  | .completion => d.busIn b.fn (t.requester / 256)
  | .cfgRead | .cfgWrite | .message => d.busIn b.fn (t.target / 256)
  | .broadcastMessage => true
  | _ => if t.type.isCxl then d.hdmTarget v t.addr == some b.devfn else d.claims b.fn t

/-- LDs that the set unbinds (R162, R64): their virtual port goes down, and requests of the old partition that still wait reach the
LD no more. -/
def Dev.unbindLds (d n : Dev) : Dev :=
  (d.usedEntries 0x2301 5 0xFF).foldl (fun d e =>
    if n.num (Obj.cxlLdPartition e) = 0xFF then
      let v := d.num (Obj.cxlLdPartition e)
      let b : Bridge := ⟨.synthetic (Fin.ofNat 64 v) (Fin.ofNat 256 (d.num (Obj.cxlLdVppb e))), d.num (Obj.cxlLdPort e), d.num (Obj.cxlLdVppb e)⟩
      let mine := fun (q : QFrame) => q.outPort == b.port && q.node == some v && q.frame.tlp?.any (d.viaBridge v b)
      (d.ldUnbound e).discardWhere mine .policy (fun _ => d.bridgeRid v b.devfn)
    else d) d

/-- The part of a set that acts at once: a change to a flagged mapping entry that its bus is reading waits for the end of
the read, and an unflagged one that is being read is marked as changed (R348). -/
def Dev.mapSplit (d : Dev) (set : StagedSet) : Dev × StagedSet :=
  (List.range 32).foldl (fun r k =>
    match (r.1.sbus k).txn with
    | some (.read _ _ _ due spanned) =>
      (due ++ spanned).foldl (fun (r : Dev × StagedSet) e =>
        let mine := fun (x : Key × Val) => x.1.idx == 0x7520 && x.1.ent == e
        if !r.2.any mine then r
        else if (r.1.mapE e).flagged then
          (r.1.modSb k (fun b => { b with deferred := overlay b.deferred (r.2.filter mine) }), r.2.filter (fun x => !mine x))
        else
          let m := r.1.mapE e
          (r.1.modSb k (fun b => { b with changed := (e, m.addr, m.reg, m.len) :: b.changed }), r.2)) r
    | _ => r) (d, set)

/-- Fields that the link of an enabled port goes on using until it next enters Detect (R142). -/
def Dev.keepFields (d o : Dev) (set : StagedSet) : Dev :=
  set.foldl (fun d e =>
    let k := e.1
    if decide (0x2000 ≤ k.idx) && decide (k.idx < 0x2080) && decide (4 ≤ k.sub) && decide (k.sub ≤ 11) then
      let p := k.idx - 0x2000
      if o.flag (Obj.portEnable p) ∧ d.flag (Obj.portEnable p) ∧ d.num (Obj.pstLtssm p) ≠ Ltssm.detect ∧ d.num (Obj.pstLtssm p) ≠ Ltssm.disabled ∧ (tabFind (d.port p).kept k.sub).isNone then
        d.modPort p (fun x => { x with kept := tabSet id x.kept k.sub (o.num k) })
      else d
    else d) d

/-- Ports that the set enables leave Disabled (R140), one that its clocking holds is recorded (R141), and the receivers of lanes
that come into use or leave it follow (R118, R124). -/
def Dev.enablePorts (d o : Dev) : Dev :=
  let d := d.enabledPorts.foldl (fun d p => (if o.flag (Obj.portEnable p) then d else d.backToDetect p).noteClockHeld p) d
  (allPorts.filter (fun p => d.flag (Obj.portEnable p) != o.flag (Obj.portEnable p))).foldl (fun d p => d.receiversFollow (d.lanesOf p)) d

/-- A node that is enabled: in reset while PERSTIN_N holds its upstream port, else "upstream link down" (R141, R153). -/
def Dev.startNode (d : Dev) (v : Nat) : Dev :=
  let up := d.upPort v
  if up < 128 ∧ !d.perstHigh up then
    ((d.setNodeState v 3).modNode v (fun x => { x with resetBy := 1 })).modPort up (fun x => { x with resetHeld := true })
  else d.setNodeState v 1

/-- Nodes of the mode in force that the set enables or disables (R141, R153); one in reset that is left without an upstream port
reads "upstream link down" (R141). -/
def Dev.enableNodes (d o : Dev) : Dev :=
  (List.range 64).foldl (fun d v =>
    if d.nodeEnabled v = o.nodeEnabled v then
      (if d.nodeEnabled v && d.nodeState v == 3 && (d.upstreamOf v).isNone then d.nodeLeaveReset v else d)
    else if d.nodeEnabled v then d.startNode v else d.setNodeState v 0) d

/-- States of LD entries (0x2301:07) and their count. -/
def Dev.bindLds (d : Dev) (set : StagedSet) : Dev :=
  let es := entsOf set 0x2301
  if es.isEmpty then d
  else (es.foldl (fun d e => if d.num (Obj.cxlLdPort e) = 0xFF then d else d.setNum (Obj.cxlLdState e) (if d.num (Obj.cxlLdPartition e) = 0xFF then 1 else 2)) d).countLds

/-- Bindings as the set leaves them (R198, R201, R202): newly bound functions take what their headers gave, and a function
behind a port that is not ready is not served. -/
def Dev.bindNew (d o : Dev) (set : StagedSet) (found : List (Nat × FnInfo)) : Dev :=
  (entsOf set 0x3180).foldl (fun d b =>
    if d.num (Obj.bindRid b) = 0 then
      { (d.clearObjs (fun k => k.idx == 0x3180 && k.ent == b && decide (7 ≤ k.sub))) with fns := tabDel d.fns b }
    else if !d.isBound b then d.bindTo b 1
    else if o.num (Obj.bindRid b) ≠ 0 ∧ o.isBound b then d
    else
      let d := match tabFind found b with
        | some f => (((({ d with fns := tabSet id d.fns b f } : Dev).setNum (Obj.bindKind b) f.kind).setNum (Obj.bindTagBits b) f.tagBits)).setNum (Obj.bindVfIndex b) f.vfIndex
        | none => d
      let ready := (d.portOfBinding b).any (fun p => d.flag (Obj.fportReady p))
      (d.bindTo b (if ready then 2 else 4)).synthLink b ready ready) d

/-- A set whose pair objects only make grants unused (R216). -/
def onlyRevokes (set : StagedSet) : Bool := (set.filter (fun e => isPairObject e.1)).all (fun e => e.1.idx == 0x3300 && e.1.sub == 4 && e.2 == .num 0xFFFF)

/-- Grants that the set makes unused: free at once, or held for revocation on the twin at the next resync (R216). -/
def Dev.dropGrants (d o : Dev) (set : StagedSet) : Dev :=
  let local' := d.num Obj.pairState == PairSt.solo || d.num Obj.pairState == PairSt.formed
  (entsOf set 0x3300).foldl (fun d g =>
    if o.num (Obj.grantSrcBinding g) ≠ 0xFFFF ∧ d.num (Obj.grantSrcBinding g) = 0xFFFF then
      let d := { d with homes := tabDel d.homes g }
      if local' then d.setNum (Obj.grantState g) 0
      else { (d.setNum (Obj.grantState g) 3) with pair := { d.pair with pendingRevoke := d.pair.pendingRevoke ++ [g] } }
    else d) d

/-- Slices (R248): those that the set enables become ACTIVE, and a RELEASED one whose `enable` becomes 0 is FREE. -/
def Dev.moveSlices (d : Dev) (set : StagedSet) : Dev :=
  let d := (enabledSlices set).foldl (fun d n =>
    if d.num (Obj.rmeSliceState n) = SliceSt.free ∨ d.num (Obj.rmeSliceState n) = SliceSt.released then (d.modSlice n (fun _ => {})).sliceTo n SliceSt.active else d) d
  (recsOf set 0x6000 4096).foldl (fun d n =>
    if tabFind set (Obj.rmeSliceEnable n) = some (.num 0) ∧ d.num (Obj.rmeSliceState n) = SliceSt.released then d.sliceTo n SliceSt.free else d) d

/-- Meters (R283): full where the mode leaves 0, else clamped to new bucket sizes. -/
def Dev.moveMeters (d o : Dev) (set : StagedSet) : Dev :=
  [Half.west, Half.east].foldl (fun d h =>
    (entsOf set (0x4100 + h.code)).foldl (fun d m =>
      let id' := meterId h m
      if o.num (Obj.meterMode h m) = 0 then { d with meters := tabDel d.meters id' }
      else
        match tabFind d.meters id' with
        | none => d
        | some x => { d with meters := tabSet id d.meters id' { x with tc := min x.tc (1024 * d.num (Obj.meterCbs h m)), tp := min x.tp (1024 * d.num (Obj.meterPbs h m)) } }) d) d

/-- Contract shapers take the contract's rate and burst (R288, R294), and contracts their states (R298). -/
def Dev.moveContracts (d : Dev) (set : StagedSet) : Dev :=
  let d := d.contracts.foldl (fun d e =>
    let h := Half.ofPort (d.num (Obj.trellisPort e))
    let i := d.num (Obj.trellisShaper e)
    let r := d.num (Obj.trellisRate e)
    let b := d.num (Obj.trellisBurst e)
    if d.num (Obj.shaperRate h i) = r ∧ d.num (Obj.shaperBurst h i) = b then d else d.reshape h i r b) d
  let d := (entsOf set 0x4300).foldl (fun d e => if d.num (Obj.trellisPort e) = 0xFF then (d.setNum (Obj.trellisState e) 0).setNum (Obj.trellisBound e) 0 else d) d
  d.contractPorts.foldl (fun d p => d.contractsFollow p) d

/-- Shapers that the set attaches, of those that nothing used before, start full (R287). -/
def Dev.attachShapers (d o : Dev) (set : StagedSet) : Dev :=
  if touches set (fun k => k.idx == 0x40A0 || k.idx == 0x4300 || decide (0x4010 ≤ k.idx ∧ k.idx ≤ 0x408F)) then
    d.attachments.foldl (fun d a => if o.shaperUser a.1 a.2.1 = 0 then { d with shapers := tabDel d.shapers (shaperId a.1 a.2.1) } else d) d
  else d

/-- BFL links that come into service ("Link state machine"). -/
def Dev.startLinks (d : Dev) : Dev :=
  (List.range 16).foldl (fun d i =>
    let p := d.num (Obj.bflPort i)
    if p < 128 ∧ d.fabricMode ∧ d.flag (Obj.portEnable p) ∧ d.num (Obj.portRole p) = 2 then d.linkStart i else d) d

/-- A new bus mode starts with a new initialisation (R338); a new feed mode acts on the OR gates at once (R325); a brake threshold of
0 releases the brake (R334). -/
def Dev.moveSlots (d o : Dev) (set : StagedSet) : Dev :=
  let d := (recsOf set 0x7500 32).foldl (fun d k => if d.num (Obj.sbMode k) = o.num (Obj.sbMode k) then d else d.busDown k) d
  let d := (recsOf set 0x7400 32).foldl (fun d k => if d.num (Obj.slotFeedMode k) = o.num (Obj.slotFeedMode k) then d else
    d.followFeeds k) d
  let d := (recsOf set 0x7420 4).foldl (fun d g => if d.num (Obj.sgrpBrakeMw g) = 0 then d.setBrake g false else d) d
  (List.range 32).foldl (fun d k => d.slotRecheck k) d

/-- Counters whose event or qualifier changes restart at 0 (R376). -/
def Dev.moveCounters (d o : Dev) (set : StagedSet) : Dev :=
  let es := entsOf set 0x8010
  if es.isEmpty then d
  else (es.foldl (fun d e =>
    if d.num (Obj.pmuCtrEvent e) = o.num (Obj.pmuCtrEvent e) ∧ d.num (Obj.pmuCtrQual e) = o.num (Obj.pmuCtrQual e) then d else d.ctrClear e) d).refreshSlots

/-- The pair (R215, R216): enabled, left, or tried again after a refusal; every commit of pair objects advances
`pair.generation`. -/
def Dev.movePair (d o : Dev) (set : StagedSet) : Dev :=
  let d := if touches set isPairObject then d.inc32 Obj.pairGeneration else d
  let st := d.num Obj.pairState
  if d.flag Obj.pairEnable ∧ st = PairSt.solo then (if d.fabricMode then d.pairTo PairSt.joining else d)
  else if !d.flag Obj.pairEnable ∧ st ≠ PairSt.solo then (if d.activeLinks = [] then d else d.emit .pairLeave).pairTo PairSt.solo
  else if d.flag Obj.pairEnable ∧ st = PairSt.refused ∧ set.any (fun e => e.1.idx == 0x3380 && e.2 != o.val e.1) then d.pairTo PairSt.joining
  else d

/-- Every part switches to the set at the apply instant (R63 step 6, R64). -/
def Dev.switchTo (o : Dev) (set : StagedSet) (found : List (Nat × FnInfo)) : Dev :=
  let n := o.withSet set
  let d := (((o.stopLinks n).disablePorts n).unbindGone n).unbindLds n
  let sp := d.mapSplit set
  let d := o.noteAdmission n set (sp.1.withSet sp.2)
  let d := (((d.keepFields o set).enablePorts o).enableNodes o).bindLds set
  let d := ((d.bindNew o set found).dropGrants o set).moveSlices set
  let d := ((((d.moveMeters o set).moveContracts set).attachShapers o set).startLinks).moveSlots o set
  let d := (d.moveCounters o set).movePair o set
  if touches set (fun k => k.idx == 0x3180 || k.idx == 0x3300 || k.idx == 0x3181) then d.syncGam else d

/-! The sequence (R63). -/

/-- Where a check's object stands, for `cfg.commit_detail` and `cfg.commit_detail_entry`. -/
def detailOf (k : Key) : Nat × Nat :=
  (k.idx * 65536 + k.sub * 256, if ((findRec k.idx).map (fun r => r.entries)).getD 0 = 0 then noEntry else k.ent)

/-- The object that the issuer is told (R69): its own staged entry, never another party's. -/
def Session.names (s : Session) (k : Key) : Key :=
  if s.deviceWide || k == Obj.cfgCommitGuard || (tabFind s.staged k).isSome then k
  else
    match s.staged.find? (fun e => e.1.idx == k.idx && e.1.ent == k.ent), s.staged.find? (fun e => e.1.idx / 4096 == k.idx / 4096) with
    | some e, _ => e.1
    | none, some e => e.1
    | none, none => ((s.staged.head?).map (fun e => e.1)).getD k

/-- Steps 1 to 4 of R63. -/
def Dev.commitChecks (d : Dev) (lock : Bool) (s : Session) : Option Offence :=
  let guard := (s.loc Obj.cfgCommitGuard).toNum
  if guard ≠ 0 ∧ guard ≠ d.num Obj.cfgGeneration then some ⟨Status.conflict, Obj.cfgCommitGuard⟩
  else
    let n := d.withSet s.staged
    (if lock then lockCheck s.staged else none) <|> d.consistent n true s.staged <|> d.admission n s.staged

/-- R216: pair objects in a state of the pair that has no twin to prepare them. -/
def Dev.pairRefusesSet (d : Dev) (set : StagedSet) : Option Offence :=
  let st := d.num Obj.pairState
  if touches set isPairObject && st != PairSt.solo && st != PairSt.formed && !onlyRevokes set then
    (firstTouched set isPairObject).map (fun k => ⟨Status.farTimeout, k⟩)
  else none

/-- A check's result reported to the session (R63 step 7, R65). -/
def Dev.reportCheck (d : Dev) (s : Session) (r : Option Offence) : Dev × Nat :=
  match r with
  | none => (d.setCommitResult s.sid Status.ok 0 noEntry, Status.ok)
  | some o =>
    let x := detailOf (s.names o.key)
    (d.setCommitResult s.sid o.status x.1 x.2, o.status)

/-- The prepare step starts (R63 step 5, R105, R216). -/
def Dev.prepare (d : Dev) (s : Session) : Dev :=
  let twin := touches s.staged isPairObject && d.num Obj.pairState == PairSt.formed
  let d := { d with commit := some { sid := s.sid, half := d.holderHalf, set := s.staged,
                                     waitFor := [.west, .east, .paDie] ++ (if twin then [.twin] else []), applyAt := none, startClk := d.clk, found := [] },
                    pair := { d.pair with ownPrepare := twin } }
  if twin then d.emit (.pairPrepare ((d.num Obj.pairGeneration + 1) % 2 ^ 32) ((s.staged.filter (fun e => isPairObject e.1)).map (fun e => (e.1.idx, e.1.sub, e.1.ent, e.2.toNum)))) else d

/-- A commit starts (R63): it is refused, waits for an unreachable holder (R23), or is in its prepare step. -/
def Dev.beginCommit (d : Dev) (lock : Bool) (s : Session) : Dev × WriteResult :=
  if d.xspiHeld then (d, .done Status.busy)
  else if !d.reachesHolder s.half then (d, .wait .farAccess)
  else
    match (d.commitChecks lock s).orElse (fun _ => d.pairRefusesSet s.staged) with
    | some o =>
      let r := d.reportCheck s (some o)
      (r.1, .done r.2)
    | none => (d.prepare s, .wait .commit)

/-- A write of 1 to `cfg.commit` (R63, R66): it waits while another commit runs. -/
def Dev.askCommit (d : Dev) (lock : Bool) (s : Session) : Dev × WriteResult :=
  if d.commit.isSome || !d.commitQueue.isEmpty then ({ d with commitQueue := d.commitQueue ++ [⟨s.sid, d.clk⟩] }, .wait .commit)
  else d.beginCommit lock s

/-- A write of 2 to `cfg.commit` (R65); the detail stays that of the last commit or check (0x1F00:04). -/
def Dev.discardSet (d : Dev) (s : Session) : Dev :=
  d.modSes s.sid (fun (x : Session) => { x with staged := [] }.setLoc Obj.cfgCommitResult (.num Status.ok))

/-- A write of 3 to `cfg.commit` (R65): checked at once, where the session is served, also while a commit runs; R65 does not say
(assumption log 105, DESIGN CHOICE). -/
def Dev.checkSet (d : Dev) (lock : Bool) (s : Session) : Dev × Nat := d.reportCheck s (d.commitChecks lock s)

/-- COMMIT_START (R66): the oldest waiting commit starts once none runs. -/
def Dev.startWaiting (d : Dev) (lock : Bool) : Dev :=
  match d.commit, d.commitQueue with
  | none, w :: rest =>
    let d := { d with commitQueue := rest }
    match d.ses w.sid with
    | none => d
    | some s =>
      match d.beginCommit lock s with
      | (d, .done st) => (d.failWaiting w.sid st).settle
      | (d, .wait x) => d.modSes w.sid (fun s => { s with exec := s.exec.map (fun e => { e with wait := x }) })
  | _, _ => d

/-- COMMIT_START. -/
def execCommitStart (s : State) : Host.Outcome State Fault Refusal := onDev s (s.dev.startWaiting s.commitLock)

/-- COMMIT_WAIT_TIMEOUT (R66): answered with S_BUSY, the set kept. -/
def execCommitWaitTimeout (sid : Nat) (s : State) : Host.Outcome State Fault Refusal :=
  match s.dev.commitQueue.find? (fun w => w.sid == sid) with
  | none => .next s
  | some w => onDev s ((s.dev.advanceTo (w.arrived + sec 2)).commitNotRun sid Status.busy)

/-- The running commit fails, and what waited for its end happens. -/
def Dev.commitEnds (d : Dev) (status detail entry : Nat) : Dev := (d.commitFails status detail entry).settle

/-- What the headers of newly bound functions make of a prepared set (R201, R208): the first one that refuses it, also one
for which no header has come. -/
def Dev.headerCheck (d : Dev) (c : RunningCommit) : Option Offence :=
  let n := d.withSet c.set
  let new := (entsOf c.set 0x3180).filter (fun b => n.num (Obj.bindRid b) != 0 && n.isBound b && (d.num (Obj.bindRid b) == 0 || !d.isBound b))
  let n' := ({ n with fns := c.found.foldl (fun l f => tabSet id l f.1 f.2) n.fns } : Dev)
  (new.findSome? (fun b => if c.found.any (fun f => f.1 == b) then none else some ⟨Status.farNak, Obj.bindRid b⟩)) <|>
  (c.found.findSome? (fun f =>
    if !f.2.answered then some ⟨Status.farNak, Obj.bindRid f.1⟩
    else if f.2.kind = 3 ∧ (n.num (Obj.bindPf f.1) = 0xFFFF ∨ !f.2.vfValid) then some ⟨Status.conflict, Obj.bindPf f.1⟩
    else none)) <|>
  d.checkGrants n' c.set <|>
  (if 16384 < n'.gamWanted.length then
    (firstTouched c.set (fun k => k.idx == 0x3180)).map (fun k => ⟨Status.exhausted, k⟩) else none)

/-- A part has confirmed: once every part has, the holder sets the apply instant 2 µs on (R63 step 6). -/
def Dev.partConfirms (d : Dev) (c : RunningCommit) (part : CommitPart) (found : List (Nat × FnInfo)) : Dev :=
  let c := { c with waitFor := c.waitFor.filter (fun p => p != part), found := c.found ++ found.filter (fun (f : Nat × FnInfo) => touches c.set (fun k => k.idx == 0x3180 && k.ent == f.1)) }
  if c.waitFor.isEmpty then
    match d.headerCheck c with
    | some o =>
      let x := detailOf (((d.ses c.sid).map (fun (s : Session) => s.names o.key)).getD o.key)
      d.commitEnds o.status x.1 x.2
    | none => { d with commit := some { c with applyAt := some (d.clk + us 2) } }
  else { d with commit := some c }

/-- COMMIT_CONFIRM (R63 step 5, R105): a part confirms, or refuses with a status of its own, of those that R72 lists; the PA die refuses a half that
no longer holds the rake. -/
def Dev.commitConfirm (d : Dev) (part : CommitPart) (status : Nat) (found : List (Nat × FnInfo)) : Dev :=
  match d.commit with
  | none => d
  | some c =>
    if c.applyAt.isSome || !c.waitFor.contains part then d
    else
      let status := if part = .paDie ∧ !d.rakeOk c.half then Status.notHolder else if Status.listed status then status else Status.farNak
      if status = Status.ok then d.partConfirms c part found else d.commitEnds status 0 noEntry

/-- COMMIT_CONFIRM. -/
def execCommitConfirm (part : CommitPart) (status : Nat) (found : List (Nat × FnInfo)) (s : State) : Host.Outcome State Fault Refusal :=
  onDev s (s.dev.commitConfirm part status found)

/-- COMMIT_PREPARE_TIMEOUT (R63 step 5): a part has not confirmed within 10 ms. -/
def execCommitPrepareTimeout (part : CommitPart) (s : State) : Host.Outcome State Fault Refusal :=
  match s.dev.commit with
  | none => .next s
  | some c =>
    if c.applyAt.isNone && c.waitFor.contains part then onDev s ((s.dev.advanceTo (c.startClk + ms 10)).commitEnds Status.farTimeout 0 noEntry)
    else .next s

/-- The successor of a commit generation (0x1F00:06): it never reads 0. -/
def nextGeneration (g : Nat) : Nat := if g = 0xFFFFFFFF then 1 else g + 1

/-- Notification class [0] (R406): every session. -/
def Dev.notifyCommit (d : Dev) : Dev :=
  d.notify 0 (fun _ => true) (fun _ => [numItem Obj.cfgGeneration .u32 (d.num Obj.cfgGeneration), numItem Obj.cfgCommitTime .time64 (d.num Obj.cfgCommitTime)])

/-- Steps 6 and 7 of R63: the set applies, the generation advances, the set is emptied, and the store write is owed. -/
def Dev.applyCommit (d : Dev) (c : RunningCommit) : Dev :=
  let n7 := d.num Obj.coreThreshIc7Reserve
  let n6 := d.num Obj.coreThreshIc6Reserve
  let d := ((d.switchTo c.set c.found).noteReserves .west n7 n6).noteReserves .east n7 n6
  let d := { d with commit := none, pair := { d.pair with ownPrepare := false } }
  let d := (d.setNum Obj.cfgGeneration (nextGeneration (d.num Obj.cfgGeneration))).setNum Obj.cfgCommitTime (d.time d.holderHalf)
  let d := (d.modSes c.sid (fun s => { s with staged := [] })).setCommitResult c.sid Status.ok 0 noEntry
  d.notifyCommit.owedStoreWrite

/-! The boot commit (R16, R17, R99). -/

/-- Objects that have no effect in a mode (R17). -/
def otherMode (fabric : Bool) (k : Key) : Bool :=
  if fabric then (decide (0x2300 ≤ k.idx) && decide (k.idx < 0x2320)) || (decide (0x3000 ≤ k.idx) && decide (k.idx < 0x3040))
  else decide (0x3101 ≤ k.idx) && decide (k.idx < 0x3420)

/-- A slice's enable, 0 after a change of mode (R17). -/
def slicesOff (l : List (Key × Val)) : List (Key × Val) :=
  l.map (fun e => if decide (0x6000 ≤ e.1.idx) && decide (e.1.idx < 0x7000) && e.1.sub == 1 then (e.1, .num 0) else e)

/-- A store copy whose mode differs from the one last in force, with every slice off (R17). -/
def Dev.storesOff (d : Dev) : Dev :=
  { d with storeW := { d.storeW with content := slicesOff d.storeW.content }, storeE := { d.storeE with content := slicesOff d.storeE.content } }

/-- Ports leave Disabled, and nodes take their states, when the boot commit has ended (R99, R153). -/
def Dev.bootPorts (d : Dev) : Dev :=
  let d := d.enabledPorts.foldl (fun d p => d.backToDetect p) d
  (List.range 64).foldl (fun d v => if d.nodeEnabled v then d.startNode v else d) d

/-- The stored values applied at boot (R99) to every part, the PA die included: what it still holds of a commit that the copy lacks
returns to its default (R56, R68). None where the commit fails. LDs come back unbound, since their entries were
released with the links (R161; assumption log 31). -/
def Dev.applyBoot (d : Dev) (content : List (Key × Val)) : Option Dev :=
  let mode := (tabGet content Obj.fabricMode (.num 0)).toNum
  let changed := mode != d.pa.lastMode
  let set := (if changed then slicesOff content else content).filter (fun e => !(e.1.idx == 0x2301 && e.1.sub == 5))
  let o := d.setNum Obj.fabricModeActive mode
  let kept := ((d.objs.filter (fun e => isStored e.1)).map (fun e => (e.1, defaultVal [] e.1)))
  let checked := (overlay kept set).filter (fun e => !otherMode (mode == 1) e.1)
  let set := overlay kept set
  let n := o.withSet checked
  match (o.consistent n false checked).orElse (fun _ => o.admission n checked) with
  | some _ => none
  | none =>
    let d := (o.switchTo set []).bootPorts
    let d := if changed then d.storesOff else d
    some { d with resetObjs := [], pa := { d.pa with lastMode := mode, skipStore := false } }

/-- The boot commit has ended with the generation of the copy it applied, or 1 (R99). -/
def Dev.bootDone (d : Dev) (generation : Nat) : Dev :=
  let d := (d.setNum Obj.cfgGeneration generation).setNum Obj.cfgCommitTime (d.time d.holderHalf)
  let d := if (d.store d.holderHalf).valid then d.setNum Obj.cfgStoreGeneration (d.store d.holderHalf).generation else d
  { d with boot := { d.boot with bootCommitDone := true } }

/-- The boot commit: the better copy, then the other, then reason 0x09; defaults where there is no valid copy (R99, R102). -/
def Dev.bootCommit (d : Dev) : Dev :=
  match if d.pa.skipStore then none else d.bestStore with
  | none =>
    match d.applyBoot [] with
    | some d => d.bootDone 1
    | none => d.failAttempt 0x09 2
  | some c =>
    match d.applyBoot c.content with
    | some d => d.bootDone c.generation
    | none =>
      match d.otherStore.bind (fun c => (d.applyBoot c.content).map (fun d => d.bootDone c.generation)) with
      | some d => d
      | none => d.failAttempt 0x09 2

/-- The running image is published (0x1001:03, 0x1001:05, 0xB000:02 to 0xB000:06). -/
def Dev.imageRuns (d : Dev) : Dev :=
  let sl := FwSlot.ofCode (d.num Obj.fwLastBooted)
  let d := ((d.setNum Obj.fwActiveSlot sl.code).setNum (slotStateKey sl) 3).setNum Obj.bootPhase 1
  match d.check .west sl with
  | some c => (d.setNum Obj.verFirmware c.version).setBytes Obj.verHeaderDigest c.digest
  | none => d

/-- The cluster of a half starts firmware (R98, R405): its watchdog takes `rake.wd_period`. -/
def Dev.clusterStarts (d : Dev) (h : Half) : Dev :=
  if d.romStopped h || byHalf h d.boot.paLostW d.boot.paLostE then d
  else
    let d := { d with boot := byHalf h { d.boot with firmwareW := true } { d.boot with firmwareE := true } }
    let d := d.modWatchdog h (fun w => { w with period := d.num Obj.rakeWdPeriod, lastKick := d.clk })
    d.openSession (.firmware h) .owner 0xFFFF h

/-- FIRMWARE_START (R98, R99): firmware of the chosen slot starts in both halves and applies the boot commit. -/
def execFirmwareStart (s : State) : Host.Outcome State Fault Refusal :=
  let d := s.dev
  if d.boot.slotChosen && !d.boot.bootCommitDone && !d.crocus && !d.boot.firmwareW && !d.boot.firmwareE then
    onDev s (((d.imageRuns.clusterStarts .west).clusterStarts .east).bootCommit)
  else .next s

end Sys2Proof.Machine
end

