-- ==== Sys2Proof/Machine/Reach.lean ====
section
/-!
DEFINITION. Sys2Proof/Machine/Reach.lean: which objects a session reaches and may write (R49 to R51, R403, R405), which half
an object is held in, and the states in which only part of the dictionary answers (R71, R100, R356).
-/
namespace Sys2Proof.Machine

/-- An index lies in a range. -/
def within (lo hi idx : Nat) : Bool := decide (lo ≤ idx) && decide (idx ≤ hi)

/-- The window select of an ARRAY (R47). -/
def ObjRec.isWindow (r : ObjRec) (sub : Nat) : Bool := r.entries != 0 && sub == 1

/-- A station holds a port of a node. -/
def Dev.stationOf (d : Dev) (st v : Nat) : Bool := (List.range 8).any (fun i => d.portOf (8 * st + i) v)

/-- A binding entry is bound to a node. -/
def Dev.bindingOf (d : Dev) (b v : Nat) : Bool := d.num (Obj.bindRid b) != 0 && d.num (Obj.bindHost b) == v

/-- A meter that a port of a node uses (R403). -/
def Dev.meterOfNode (d : Dev) (h : Half) (m v : Nat) : Bool :=
  ((d.portsOf v).filter (fun p => Half.ofPort p == h)).any (fun p =>
    let b := d.num (Obj.schedPortMeterBase p)
    b != 0xFFFF && decide (b ≤ m) && decide (m < b + 7) && bitOf (d.num (Obj.schedPortMeterMask p)) (m - b))

/-- A shaper attached to a port of a node, to its entries of 0x40A0 or to its contracts (R403). -/
def Dev.shaperOfNode (d : Dev) (h : Half) (i v : Nat) : Bool :=
  (d.portShaperUsers h i).any (fun p => d.portOf p v) || (d.nodeShaperUsers h i).any (fun e => e % 64 == v) ||
    (d.contractShaperUsers h i).any (fun e => d.num (Obj.trellisNode e) == v)

/-- The entry of an ARRAY that an administrator of node v reaches (R403). -/
def Dev.adminEntry (d : Dev) (v idx e : Nat) : Bool :=
  match idx with
  | 0x2301 => d.num (Obj.cxlLdPort e) != 0xFF && d.num (Obj.cxlLdPartition e) == v
  | 0x3180 => d.num (Obj.bindHost e) == v
  | 0x3200 => (d.gamAt e).any (fun g => g.host == v)
  | 0x3300 =>
    let n := d.num Obj.pairNode
    (d.num (Obj.grantSrcNode e) == n && d.bindingOf (d.num (Obj.grantSrcBinding e)) v) ||
      (d.num (Obj.grantDstNode e) == n && d.bindingOf (d.num (Obj.grantDstBinding e)) v)
  | 0x40A0 => e % 64 == v
  | 0x4100 => d.meterOfNode .west e v
  | 0x4101 => d.meterOfNode .east e v
  | 0x4200 => d.shaperOfNode .west e v
  | 0x4201 => d.shaperOfNode .east e v
  | 0x4300 => d.num (Obj.trellisNode e) == v
  | _ => true

/-- The objects of the ranges of R403 that an administrator of node v reaches. -/
def Dev.adminReach (d : Dev) (v idx sub : Nat) : Bool :=
  if within 0x2000 0x207F idx then d.portOf (idx - 0x2000) v
  else if within 0x2080 0x208F idx then d.stationOf (idx - 0x2080) v
  else if within 0x2100 0x217F idx then d.portOf (idx - 0x2100) v
  else if within 0x2200 0x22FF idx then (d.portOfLane (idx - 0x2200)).any (fun p => d.portOf p v)
  else if within 0x3000 0x303F idx then idx == 0x3000 + v
  else if within 0x3110 0x314F idx then idx == 0x3110 + v
  else if within 0x4010 0x408F idx then d.portOf (idx - 0x4010) v
  else if within 0x6000 0x6FFF idx then d.num (Obj.rmeSliceOwner (idx - 0x6000)) == v
  else if within 0x7400 0x741F idx then d.slotOfNode (idx - 0x7400) v
  else if within 0x7420 0x7423 idx then (List.range 8).any (fun i => d.slotOfNode (8 * (idx - 0x7420) + i) v)
  else if within 0x7500 0x751F idx then d.slotOfNode (idx - 0x7500) v
  else if within 0x8000 0x81FF idx then idx == 0x8010 || (idx == 0x8000 && (sub == 5 || sub == 6))
  else if within 0xA040 0xA07F idx then idx == 0xA040 + v
  else within 0x1000 0x10FF idx || within 0x9000 0x91FF idx || within 0x7000 0x701F idx ||
    [0x2300, 0x2301, 0x3100, 0x3180, 0x3200, 0x3300, 0x3380, 0x4000, 0x40A0, 0x4100, 0x4101, 0x4200, 0x4201, 0x4300, 0xA000, 0xA010, 0xA011,
      0xA020, 0xB020, 0xB030].contains idx

/-- A virtual counter exists in the session's scope (R375). -/
def Dev.ctrExists (d : Dev) (s : Session) (v : Nat) : Bool := decide (v < d.pmuQuota s.pmuScope)

/-- Whether an object is within a session's reach (R50, R403): the row, if the subindex has one, and the entry that the
session's window selects. -/
def Dev.reaches (d : Dev) (s : Session) (r : ObjRec) (idx sub : Nat) : Bool :=
  let isLocal := (r.row sub).any (fun o => o.isLocal)
  let e := s.window idx
  let entryOk := r.entries == 0 || decide (sub ≤ 2)
  match s.role with
  | .owner => idx != 0x8010 || entryOk || d.ctrExists s e
  | .observer => !within 0xC000 0xC0FF idx && (!within 0xB000 0xB0FF idx || idx == 0xB020 || idx == 0xB030)
  | .admin =>
    if within 0x1100 0x11FF idx then true
    else if within 0x1F00 0x1F0F idx then true
    else if idx = 0x8010 then entryOk || d.ctrExists s e
    else d.adminReach s.scope idx sub && (entryOk || d.adminEntry s.scope idx e)
  | .tenant =>
    if idx = 0x1000 then true
    else if within 0x1100 0x11FF idx then isLocal && !r.isWindow sub
    else if within 0x1F00 0x1F0F idx then isLocal || [0, 1, 2, 6, 7, 9, 10, 11].contains sub
    else if within 0x6000 0x6FFF idx then idx == 0x6000 + s.scope
    else if within 0x7000 0x701F idx then true
    else if idx = 0x8010 then entryOk || d.ctrExists s e
    else false

/-- Objects whose Meaning names policy firmware as the only writer (R405). -/
def firmwareOnly (k : Key) : Bool := (k.idx == 0x1020 && k.sub == 3) || (k.idx == 0x3181 && k.sub == 5)

/-- Objects of the ranges that other roles write whose Meaning names the owner. -/
def ownerOnly (k : Key) : Bool :=
  (k.idx == 0x1F00 && k.sub == 7) || (within 0x6000 0x6FFF k.idx && k.sub == 2) || (k.idx == 0x8000 && (k.sub == 3 || k.sub == 4))

/-- Whether a session may write an object within its reach (R49, R50). A window select, which is session-local, may be written by
every role that reaches it, also one that only reads the range: R50 does not say (assumption log 101, DESIGN CHOICE). -/
def mayWrite (s : Session) (r : ObjRec) (o : ObjRow) (idx sub : Nat) : Bool :=
  let k : Key := ⟨idx, sub, 0⟩
  if o.access == .ro || o.access == .const then false
  else if r.isWindow sub then true
  else if firmwareOnly k then s.isFirmware
  else
    match s.role with
    | .owner => true
    | .observer => within 0x1100 0x11FF idx && o.isLocal
    | .admin =>
      if ownerOnly k then false
      else if within 0x1100 0x11FF idx then o.isLocal
      else within 0x1F00 0x1F0F idx || within 0x6000 0x6FFF idx || within 0x8000 0x81FF idx
    | .tenant =>
      if ownerOnly k then false
      else if within 0x1100 0x11FF idx then o.isLocal
      else within 0x1F00 0x1F0F idx || within 0x8000 0x81FF idx

/-- Objects that a Crocus device answers (R100, "Restricted object set in Crocus mode"). -/
def inCrocusSet (k : Key) (write : Bool) : Bool :=
  if k.idx == 0x1F00 then !write && [6, 7, 10, 11].contains k.sub
  else if write then
    [0x1100, 0x1110, 0x1120, 0x1121, 0x1130, 0xB000].contains k.idx || (k.idx == 0x1030 && (k.sub == 5 || k.sub == 6)) ||
      (k.idx == 0x1020 && k.sub == 2) || (k.idx == 0xB040 && k.sub == 3) ||
      ([0xB030, 0xA010, 0xA011].contains k.idx && k.sub == 1)
  else
    [0x1000, 0x1001, 0x1010, 0x1020, 0x1030, 0x1100, 0x1110, 0x1120, 0x1121, 0x1130, 0xB000, 0xB010, 0xB020, 0xB030, 0xB040, 0xA000, 0xA010,
      0xA011].contains k.idx

/-- Objects that answer in Sleep as in Run (R356). -/
def inSleepSet (idx : Nat) : Bool :=
  within 0x1000 0x11FF idx || within 0x7400 0x75FF idx || within 0x9000 0x91FF idx || within 0xA000 0xA0FF idx || within 0xB000 0xB0FF idx

/-- An access is answered with S_STATE because of the mode or the power state of the device (R71, R356). -/
def Dev.modeForbids (d : Dev) (k : Key) (write : Bool) : Bool :=
  (d.crocus && !inCrocusSet k write) || (d.num Obj.pwrState == PwrSt.sleep && !inSleepSet k.idx)

/-- The half that holds an object, where one of them does: by its port, lane, slice or station, the half that a selected BFL
link's port or sample is in, or the half whose harvest ring a session reads. -/
def Dev.homeOf (d : Dev) (s : Session) (k : Key) : Option Half :=
  if within 0x2000 0x207F k.idx then some (Half.ofPort (k.idx - 0x2000))
  else if within 0x2080 0x208F k.idx then some (Half.ofPort (8 * (k.idx - 0x2080)))
  else if within 0x2100 0x217F k.idx then some (Half.ofPort (k.idx - 0x2100))
  else if within 0x2200 0x22FF k.idx then some (Half.ofPort ((k.idx - 0x2200) / 2))
  else if within 0x3400 0x340F k.idx then
    if d.num (Obj.bflPort (k.idx - 0x3400)) < 128 then some (Half.ofPort (d.num (Obj.bflPort (k.idx - 0x3400)))) else none
  else if within 0x4010 0x408F k.idx then some (Half.ofPort (k.idx - 0x4010))
  else if k.idx = 0x40A0 then some (Half.ofPort (k.ent / 64))
  else if [0x4100, 0x4200, 0x5000].contains k.idx then some .west
  else if [0x4101, 0x4201, 0x5001].contains k.idx then some .east
  else if k.idx = 0x5100 ∧ k.sub = 6 then some (Half.ofCode (s.loc Obj.harvReadHalf).toNum)
  else if within 0x6000 0x6FFF k.idx then some (Half.ofSlice (k.idx - 0x6000))
  else if k.idx = 0x3181 then some (Half.ofPort k.ent)
  else if k.idx = 0x8110 ∧ k.sub = 3 then some (Half.ofCode (k.ent / 4096))
  else if k.idx = 0xC010 then some (Half.ofPort (k.ent / 2))
  else none

/-- Objects held in the PA die (R13, R104). -/
def inPaDie (k : Key) : Bool :=
  ((findRow k.idx k.sub).map (fun o => o.persist)) == some Persist.pa || within 0x7400 0x75FF k.idx || within 0x9000 0x90FF k.idx ||
    [0x1010, 0x1020, 0x1030, 0xB010, 0xB040].contains k.idx

/-- What a half that entered Crocus mode on its own knows of it without the PA die (R101). -/
def ownReason (k : Key) : Bool := k.idx == 0x1030 && within 1 3 k.sub

/-- An access to an object of the other half while that half does not answer, or of the PA die from a half that has lost it
(R23, R86, R101). -/
def Dev.tooFar (d : Dev) (s : Session) (k : Key) : Bool :=
  (match d.homeOf s k with
   | some x => x != s.half && !d.farReachable x
   | none => false) || (inPaDie k && !ownReason k && byHalf s.half d.boot.paLostW d.boot.paLostE)

/-- The dictionary key that a session's access to an object names: the entry its window selects, and in 0x8010 the virtual
counter of its scope (R47, R375). -/
def Session.keyFor (s : Session) (r : ObjRec) (idx sub : Nat) : Key :=
  if r.entries = 0 ∨ sub ≤ 2 then ⟨idx, sub, 0⟩
  else if idx = 0x8010 then ⟨idx, sub, 256 * s.pmuScope + s.window idx⟩
  else ⟨idx, sub, s.window idx⟩

end Sys2Proof.Machine
end

