-- ==== Sys2Proof/Machine/Reads.lean ====
section
/-!
DEFINITION. Sys2Proof/Machine/Reads.lean: what a read of a dictionary object gives: the stored value, or the value that the
rules derive from the rest of the state; the measurement blocks (R110); and the value of DESCRIBE (R404).
-/
namespace Sys2Proof.Machine

/-! Measurements. -/

/-- The running image's check in a half, while firmware runs. -/
def Dev.runningCheck (d : Dev) (h : Half) : Option SlotCheck :=
  if d.crocus || d.num Obj.fwActiveSlot = 0xFF then none else d.check h (FwSlot.ofCode (d.num Obj.fwActiveSlot))

/-- The stored objects as bytes, for the digest of block 6 (assumption log 2). -/
def contentBytes (l : List (Key × Val)) : List Byte :=
  l.flatMap (fun e => beBytes 2 e.1.idx ++ beBytes 1 e.1.sub ++ beBytes 4 e.1.ent ++
    match e.2 with
    | .num n => beBytes 8 n
    | .bytes b => b)

/-- The stored objects at `cfg.generation` (R110): those in force, or in Crocus mode those of the copy whose generation it gives. -/
def Dev.measuredContent (d : Dev) : List (Key × Val) := if d.crocus then (d.bestStore.map (fun c => c.content)).getD [] else d.storedContent

/-- SPDM measurement block b (R110). SVN and KEY_SLOT of block 5 while no image runs are not stated: they read 0 (assumption
log 100, DESIGN CHOICE). -/
def measurement (st : State) (b : Nat) : List Byte :=
  let d := st.dev
  let image := fun (h : Half) => ((d.runningCheck h).map (fun c => c.digest)).getD (zeros 64)
  match b with
  | 1 => Config.romDigest .west
  | 2 => Config.romDigest .east
  | 3 => image .west
  | 4 => image .east
  | 5 =>
    let c := d.runningCheck .west
    beBytes 2 ((c.map (fun x => x.svn)).getD 0) ++ beBytes 1 st.otp.counter ++ beBytes 1 ((c.map (fun x => x.keySlot)).getD 0) ++
      beBytes 1 st.otp.revoked ++ beBytes 1 (d.num Obj.fwActiveSlot) ++ zeros 2
  | 6 => beBytes 4 (d.num Obj.cfgGeneration) ++ Config.shake256 (contentBytes d.measuredContent) 64
  | 7 =>
    beBytes 2 (d.num Obj.bootStrapValue) ++ beBytes 1 (d.num Obj.fabricModeActive) ++ beBytes 1 (d.num Obj.bootPhase) ++
      beBytes 1 (d.num Obj.bootCrocusReason) ++ beBytes 1 (b2n st.commitLock) ++ zeros 2
  | 8 => beBytes 4 Config.paDieVersion ++ beBytes 1 (d.num Obj.bootAttemptThreshold) ++ zeros 3
  | _ => []

/-! Derived values. -/

/-- Where the value of an object comes from. -/
inductive Source where
  /-- the object's own value in force -/
  | plain
  | num (n : Nat)
  | bytes (b : List Byte)
  /-- measured outside the device: a free value (assumption log 1) -/
  | free
  /-- a number with some bits measured outside the device: the known bits, and the mask of the free ones -/
  | mixed (known mask : Nat)
  deriving DecidableEq, Repr

/-- Downstream ports of a partition, as the bits of `vs.dsp_lo` and `vs.dsp_hi`. -/
def Dev.dspBits (d : Dev) (v base : Nat) : Nat :=
  packBits ((List.range 64).map (fun i => d.portOf (base + i) v && d.num (Obj.portRole (base + i)) == 0))

/-- Fields of a map entry (0x3200). -/
def GamEntry.fieldOf (g : GamEntry) (sub : Nat) : Nat :=
  match sub with
  | 3 => g.kind
  | 4 => g.host
  | 5 => g.base
  | 6 => g.limit
  | 7 => g.binding
  | 8 => g.bar
  | 9 => g.fabricBase
  | 10 => g.source
  | 11 => g.grant
  | 12 => g.rights
  | _ => b2n g.valid

/-- The shared buffer's objects of a half (0x5000, 0x5001). -/
def Dev.bufValue (d : Dev) (h : Half) (sub : Nat) : Source :=
  match sub with
  | 2 => .num (d.cellsFree h)
  | 3 => .num (d.creditReserve h)
  | 4 => .num (d.poolSize h)
  | 5 => .num (d.poolFree h)
  | 6 => .num (min (((tabFind d.objs (Obj.coreBufPoolLow h)).map Val.toNum).getD bufferCells) (d.poolFree h))
  | 7 => .num (d.stagingUsed h)
  | _ => .plain

/-- Objects of a slot power channel (0x7400 + k): what only the board determines is free (R335). -/
def Dev.slotValue (d : Dev) (k sub : Nat) : Source :=
  let c := d.slot k
  match sub with
  | 0x11 => .num (d.cooldownLeft k)
  | 0x18 => if c.gateH then .free else .plain
  | 0x19 => if c.gateH then .free else .plain
  | 0x1A => if c.gateH then .free else .plain
  | 0x1B => if c.metered then .free else .plain
  | 0x1C => if c.metered then .free else .plain
  | 0x1D => if c.gateH then .mixed (slotStatusWord c false) 0x10 else .num (slotStatusWord c false)
  | _ => .plain

/-- Objects of a slot power group (0x7420 + g). -/
def Dev.groupValue (d : Dev) (g sub : Nat) : Source :=
  let ks := (List.range 8).map (fun i => 8 * g + i)
  match sub with
  | 3 => if ks.any (fun k => (d.slot k).gateH) then .free else .num 0
  | 4 => .num (d.ramping g)
  | 5 => .num (packBits (ks.map (fun k => d.num (Obj.slotState k) == SlotSt.on)))
  | _ => .plain

/-- Objects of an RME slice record (0x6000 + n). -/
def Dev.sliceValue (d : Dev) (n sub : Nat) : Source :=
  match sub with
  | 0x12 => .num (d.qpsOfSlice n).length
  | 0x13 => .num (d.cqsOfSlice n).length
  | 0x14 => .num (d.keysUsed n)
  | 0x15 => .num (d.sliceStaging n)
  | _ => .plain

/-- Record number n of a list, or zeros (R302). -/
def recordAt (l : List (List Byte)) (n len : Nat) : List Byte := (l[n]?).getD (zeros len)

/-- Records of identity, sessions, staging, firmware and security. -/
def derivedMgmt (st : State) (s : Session) (k : Key) : Source :=
  let d := st.dev
  match k.idx, k.sub with
  | 0x1001, 1 => .num (Config.romVersion .west)
  | 0x1001, 2 => .num (Config.romVersion .east)
  | 0x1001, 4 => .num Config.paDieVersion
  | 0x1100, 3 => .num deviceMac
  | 0x1110, 2 => .num (d.sessions.countP (fun x => !x.isFirmware) % 256)
  | 0x1110, 4 => .num s.role.code
  | 0x1110, 5 => .num s.scope
  | 0x1F00, 2 => .num s.staged.length
  | 0x1F00, 7 => .num (b2n st.commitLock)
  | 0xA000, 2 => .num (d.logHead s)
  | 0xA000, 4 => .num d.log.persistent.length
  | 0xA010, 3 => .bytes (recordAt ((d.logList s).map LogRec.bytes) k.ent 32)
  | 0xA011, 3 => .bytes (recordAt ((d.log.persistent.filter (d.recReach s)).map LogRec.bytes) k.ent 32)
  | 0xB010, 1 => .num st.otp.counter
  | 0xB010, 4 => .num st.otp.revoked
  | 0xB020, 1 => .bytes Config.identityKey
  | 0xB020, 2 => .bytes identityHash
  | 0xB020, 3 => .bytes Config.certChain
  | 0xB030, 3 => .bytes (measurement st (k.ent + 1))
  | _, _ => .plain

/-- Single records of the fabric, sampling, harvest and power. -/
def Dev.derivedRecord (d : Dev) (s : Session) (k : Key) : Source :=
  match k.idx, k.sub with
  | 0x3101, 2 => .num d.trackW.length
  | 0x3101, 3 => .num d.trackE.length
  | 0x3101, 8 => .num d.gam.length
  | 0x3180, 12 => .num (d.gam.countP (fun g => g.kind == 1 && g.binding == k.ent))
  | 0x3181, 6 => .num (d.bindingsBehind k.ent).length
  | 0x40A0, 5 => .num (((d.queueAt (k.ent / 64)).filter (fun q => q.node == some (k.ent % 64))).map (fun q => q.cells)).sum
  | 0x5000, n => d.bufValue .west n
  | 0x5001, n => d.bufValue .east n
  | 0x4200, 6 => .num (d.shaperUser .west k.ent)
  | 0x4201, 6 => .num (d.shaperUser .east k.ent)
  | 0x4200, 7 => .num (ofSigned 32 (d.shaperNow .west k.ent / levelUnit))
  | 0x4201, 7 => .num (ofSigned 32 (d.shaperNow .east k.ent / levelUnit))
  | 0x5100, 3 => .num (bytesOf (d.ring .west))
  | 0x5100, 4 => .num (bytesOf (d.ring .east))
  | 0x5100, 6 => .bytes (d.harvData (Half.ofCode (s.loc Obj.harvReadHalf).toNum))
  | 0x7520, 13 => .num (d.entryState k.ent)
  | 0x7523, 3 => .bytes (recordAt (d.stray.map Stray.bytes) k.ent 64)
  | 0x8000, 6 => .num (d.num { Obj.pmuSnapTime with ent := s.pmuScope })
  | 0x8010, 9 => if d.num (Obj.pmuCtrEvent k.ent) = 0 then .num 0 else .num (ctrHalves (d.num (Obj.pmuCtrEvent k.ent)) (d.num (Obj.pmuCtrQual k.ent))).length
  | 0x8100, 9 => .num ((d.sampleRecs .west).length + (d.sampleRecs .east).length)
  | 0x8110, 3 => .bytes (if k.ent < 4096 then recordAt (d.sampleRecs .west) k.ent 64 else recordAt (d.sampleRecs .east) (k.ent - 4096) 64)
  | 0x9000, 8 => .num (d.aoCount % 2 ^ 64)
  | 0x9001, 1 => .num d.domOn
  | 0x9100, 2 => .num d.perStatusWord
  | 0x9100, 17 => .num (d.runHours % 2 ^ 32)
  | 0x9100, 18 => .num d.per.origin
  | 0x9001, 2 => .num d.domRetained
  | 0xC010, 11 => .num (d.testBits k.ent)
  | 0xC010, 12 => .num (d.testErrors k.ent)
  | 0xC010, 13 => .num (d.testInjected k.ent)
  | 0x3200, n => if n ≤ 2 then .plain else
    match d.gamAt k.ent with
    | some g => .num (g.fieldOf n)
    | none => .plain
  | _, _ => .plain

/-- Indexed records: stations, lanes, partitions, hosts, port schedulers, links, slices, slots. -/
def Dev.derivedIndexed (d : Dev) (k : Key) : Source :=
  if within 0x2080 0x208F k.idx ∧ k.sub = 4 then .num (packBits ((List.range 8).map (fun i => d.dlUp (8 * (k.idx - 0x2080) + i))))
  else if within 0x2200 0x22FF k.idx ∧ k.sub = 1 ∧ d.inTest (k.idx - 0x2200) then .num (d.num (Obj.testLaneRate (k.idx - 0x2200)))
  else if within 0x2200 0x22FF k.idx ∧ k.sub = 2 then .num (d.laneStatusWord (k.idx - 0x2200))
  else if within 0x3000 0x303F k.idx then
    match k.sub with
    | 2 => .num (if d.fabricMode then 0xFF else d.upPort (k.idx - 0x3000))
    | 3 => .num (if d.fabricMode then 0 else d.dspBits (k.idx - 0x3000) 0)
    | 4 => .num (if d.fabricMode then 0 else d.dspBits (k.idx - 0x3000) 64)
    | _ => .plain
  else if within 0x3110 0x314F k.idx then
    match k.sub with
    | 2 => .num (if d.fabricMode then d.upPort (k.idx - 0x3110) else 0xFF)
    | 4 => .num ((d.boundTo (k.idx - 0x3110)).filter (fun b => decide (2 ≤ d.num (Obj.bindState b)))).length
    | _ => .plain
  else if within 0x3400 0x340F k.idx then
    match k.sub with
    | 0x0D => .num (d.heldFrames (k.idx - 0x3400))
    | 0x15 => .num (d.homes.countP (fun e => e.2 == k.idx - 0x3400 && d.num (Obj.grantState e.1) == 1))
    | _ => .plain
  else if within 0x4010 0x408F k.idx ∧ k.sub = 9 then .num ((d.contractsAt (k.idx - 0x4010)).filter (fun e => d.num (Obj.trellisState e) == 1)).length
  else if within 0x6000 0x6FFF k.idx then d.sliceValue (k.idx - 0x6000) k.sub
  else if within 0x7400 0x741F k.idx then d.slotValue (k.idx - 0x7400) k.sub
  else if within 0x7420 0x7423 k.idx then d.groupValue (k.idx - 0x7420) k.sub
  else if within 0x7500 0x751F k.idx ∧ k.sub = 7 then
    .mixed (packBits [(d.slot (k.idx - 0x7500)).present, d.busUp (k.idx - 0x7500), false]) 8
  else .plain

/-- The first source of two that is not plain. -/
def Source.or (a b : Source) : Source := if a = .plain then b else a

/-- Where a session's read of an object takes its value from. -/
def sourceOf (st : State) (s : Session) (k : Key) : Source :=
  ((derivedMgmt st s k).or (st.dev.derivedRecord s k)).or (st.dev.derivedIndexed k)

/-- What a read changes: the word is marked as read (R345), and the reverse turn-off flag covers the time since the last
read ("`slot.status` layout"). -/
def Dev.noteRead (d : Dev) (k : Key) : Dev :=
  if k.idx = 0x7521 ∧ k.sub = 3 then { d with wordsRead := if d.wordsRead.contains k.ent then d.wordsRead else k.ent :: d.wordsRead }
  else if within 0x7400 0x741F k.idx ∧ k.sub = 0x1D then d.modSlot (k.idx - 0x7400) (fun c => { c with reverse := false })
  else d

/-- The stored value that a session reads (R52, R59, R60). -/
def Dev.plainValue (d : Dev) (s : Session) (k : Key) (o : ObjRow) : Val :=
  if o.isLocal then s.loc ⟨k.idx, k.sub, 0⟩
  else if o.cls = .reset then (tabFind d.resetObjs k).getD (d.val k)
  else d.val k

/-- A read of an object (R49, R59): the value, and the device after the read. -/
def readObj (st : State) (s : Session) (k : Key) (o : ObjRow) (staged : Bool) : Dev × Val :=
  let d := st.dev
  if o.access = .wo then (d, o.dflt)
  else
    match if staged ∧ o.cls = .staged then tabFind s.staged k else none with
    | some v => (d, v)
    | none =>
      let w := 2 ^ (8 * o.ty.width)
      match sourceOf st s k with
      | .plain => (d.noteRead k, d.plainValue s k o)
      | .num n => (d.noteRead k, .num (n % w))
      | .bytes b => (d, .bytes b)
      | .free => (d.bump.noteRead k, .num (d.free % w))
      | .mixed n m => (d.bump.noteRead k, .num (n ||| (d.free &&& m)))

/-- Objects whose table default is a value read at the moment (R404): per port, sampled, derived, per ROM, per die, OTP or
factory, and those without one. -/
def readsDefault (k : Key) : Bool :=
  (within 0x2000 0x207F k.idx && (k.sub == 1 || k.sub == 2 || k.sub == 0x0C)) || (within 0x3000 0x303F k.idx && k.sub == 1) ||
    (within 0x3110 0x314F k.idx && k.sub == 1) ||
    [(0x1001, 1), (0x1001, 2), (0x1001, 4), (0x1010, 1), (0x1100, 3), (0x1110, 4), (0x1110, 5), (0x3380, 4), (0x5000, 4), (0x5000, 5), (0x5000, 6),
      (0x5001, 4), (0x5001, 5), (0x5001, 6), (0x9021, 4), (0xB010, 1), (0xB010, 4)].contains (k.idx, k.sub)

/-- The 16 bytes of a DESCRIBE value (R404). -/
def describeBytes (st : State) (s : Session) (k : Key) (o : ObjRow) : List Byte :=
  let dflt := if readsDefault k then (readObj st s k o false).2.toNum else (defaultVal st.dev.objs k).toNum
  beBytes 1 o.ty.code ++ beBytes 1 o.access.code ++ beBytes 1 o.cls.code ++ beBytes 1 o.persist.code ++ zeros 4 ++ beBytes 8 dflt

end Sys2Proof.Machine
end

