-- ==== Sys2Proof/Machine/Writes.lean ====
section
/-!
DEFINITION. Sys2Proof/Machine/Writes.lean: the range of a written value (R7, R54), and what a live write of each object does
(R58 and the rules that the objects' Meaning columns name).
-/
namespace Sys2Proof.Machine

/-! Ranges. -/

/-- A field value as a session's commit would leave it: its staged value, or the value in force. -/
def Dev.stagedNum (d : Dev) (s : Session) (k : Key) : Nat := ((tabFind s.staged k).map Val.toNum).getD (d.num k)

/-- The limits of a slot channel's current thresholds, from the sense resistor and limit that the same set holds (R329). -/
def Dev.clampSlot (d : Dev) (s : Session) (k : Key) (n : Nat) : Nat × Bool :=
  let c := k.idx - 0x7400
  let rs := d.stagedNum s (Obj.slotRsense c)
  if k.sub = 4 then clampTo (ilimitBounds rs) n else clampTo (ifastBounds rs (d.stagedNum s (Obj.slotIlimit c))) n

/-- Ranges that a rule of their own states. -/
def Dev.admitCustom (d : Dev) (s : Session) (k : Key) (c n : Nat) : Option (Nat × Bool) :=
  let ok := fun (b : Bool) => if b then some (n, false) else none
  match c with
  | 1 => ok (decide (n ≤ 5))
  | 2 =>
    if (List.range 5).all (fun i => decide (field n (4 * i) 4 ≤ 10) || field n (4 * i) 4 == 15) then some (n % 2 ^ 20, false) else none
  | 3 =>
    let m := field n 30 2
    if (m != 2 || (decide (10 ≤ field n 24 6) && decide (field n 24 6 ≤ 40))) && (m != 3 || decide (1 ≤ field n 16 8)) then
      some (n / 2 ^ 16 * 2 ^ 16, false) else none
  | 4 => ok (decide (n ≤ 12) || n == 255)
  | 5 => ok (decide (4096 ≤ n) && n % 4096 == 0)
  | 6 => some (d.clampSlot s k n)
  | 7 => ok (eventOk n)
  | _ => ok (n == 0xFF || (decide (n < 128) && Half.ofPort n == Half.ofCode (k.ent / 32)))

/-- The value that a write stores, and whether it was clamped; none where it is refused with S_RANGE (R7, R47, R54). -/
def Dev.admitVal (d : Dev) (s : Session) (r : ObjRec) (k : Key) (o : ObjRow) (v : Val) : Option (Val × Bool) :=
  match v with
  | .bytes b => if o.range.admitLen b.length then some (v, false) else none
  | .num n =>
    if r.isWindow k.sub ∧ k.idx = 0x8010 ∧ d.pmuQuota s.pmuScope ≤ n then none
    else
      (match o.range with
       | .custom c => d.admitCustom s k c n
       | g => g.accept n).map (fun (x : Nat × Bool) => (Val.num x.1, x.2))

/-! Results. -/

abbrev Written := State × WriteResult

/-- The outcome of a write whose effect is on the device alone. -/
def ofDev (st : State) (r : Dev × Nat) : Written := ({ st with dev := r.1 }, .done r.2)

/-- The outcome of a write that may wait. -/
def ofWrite (st : State) (r : Dev × WriteResult) : Written := ({ st with dev := r.1 }, r.2)

/-- A write that only changes the device. -/
def okDev (st : State) (d : Dev) : Written := ofDev st (d, Status.ok)

/-- A refused write. -/
def no (st : State) (status : Nat) : Written := (st, .done status)

/-! Boot, firmware, OTP and the rake. -/

/-- 0x1020:03 `boot.healthy` (R97). -/
def Dev.declareHealth (d : Dev) : Dev × Nat :=
  if d.boot.released && d.elapsed d.boot.releaseClk (sec 60) && d.pa.wdW.running && d.pa.wdE.running then
    let d := ((d.setNum Obj.bootAttempts 0).setNum Obj.bootHealthyState 1).setNum Obj.bootPhase 2
    ((d.takeBaseline.replan .west).replan .east, Status.ok)
  else (d, Status.state)

/-- 0x1020:06 `boot.warm_reset` (R89): the reset follows the answer. -/
def Dev.askWarm (d : Dev) : Dev := { d with boot := { d.boot with warmAsked := true } }

/-- 0x1030:05 `boot.crocus.force` (R102). -/
def Dev.forceCrocus (d : Dev) : Dev := { d with pa := { d.pa with forceFlag := true } }

/-- 0x1030:06 `boot.crocus.exit` (R102). -/
def Dev.exitCrocus (d : Dev) (v : Nat) : Dev × Nat :=
  if !d.crocus then (d, Status.state)
  else
    let d := (d.setNum Obj.bootAttempts 0).setNum Obj.bootCrocusHistory 0
    (({ d with pa := { d.pa with forceFlag := false, skipStore := d.pa.skipStore || v == 2 } } : Dev).askWarm, Status.ok)

/-- 0xB010:02 `fw.otp.commit` (R95). -/
def commitOtp (st : State) : Written :=
  match st.dev.runningCheck .west with
  | some c => if st.dev.flag Obj.bootHealthyState then ({ st with otp := { st.otp with counter := max st.otp.counter c.svn } }, .done Status.ok) else no st Status.state
  | none => no st Status.state

/-- 0xB010:03 `fw.otp.revoke` (R95). -/
def revokeOtp (st : State) (slots : Nat) : Written :=
  let r := st.otp.revoked ||| field slots 0 4
  match st.dev.runningCheck .west with
  | some c =>
    if !st.dev.flag Obj.bootHealthyState || bitOf r c.keySlot || r == 0xF then no st Status.state
    else ({ st with otp := { st.otp with revoked := r } }, .done Status.ok)
  | none => no st Status.state

/-- 0xB040:03 `rake.handover` (R106): it takes effect once the write is answered and no commit runs. -/
def Dev.askHandover (d : Dev) : Dev × Nat :=
  match d.holder with
  | none => (d, Status.state)
  | some h =>
    if (d.watchdog h.other).running && d.romPassed h.other && d.seamUp then
      ({ d with pa := { d.pa with handoverPending := true } }, Status.ok)
    else (d, Status.state)

/-- The slot runs, so that its image may not be written (R94). -/
def Dev.slotRuns (d : Dev) (sl : FwSlot) : Bool := d.num Obj.fwActiveSlot == sl.code

/-- The order of the firmware slots of the two flashes. -/
def slotCode (k : Half × FwSlot) : Nat := 2 * k.1.code + k.2.code

/-- 0xB000:07 and :08, the image of a slot, at its close (R94): both flashes take it, and each half verifies its own copy, West's
result counting first. -/
def writeImage (st : State) (h : Half) (sl : FwSlot) (img : List Byte) : Written :=
  let d := st.dev
  if d.slotRuns sl then no st Status.state
  else if !d.reachesHolder h || !d.farReachable d.holderHalf.other then (st, .wait .farAccess)
  else
    let f := imageFacts img
    let copy := fun (i : Nat) => verifyImage st.otp st.commitLock { f with readError := !Config.flashReads (d.fresh + i) }
    let r := if copy 0 ≠ 0 then copy 0 else copy 1
    let d := (({ d with flash := tabSet slotCode (tabSet slotCode d.flash (.west, sl) img) (.east, sl) img } : Dev).bump.bump).setNum Obj.fwVerifyResult r
    if r = 0 then okDev st ((d.setNum (slotStateKey sl) 1).setNum (slotVersionKey sl) f.version)
    else ofDev st ((d.setNum (slotStateKey sl) 2).setNum (slotVersionKey sl) 0, Status.range)

/-- 0xB040:04 `rake.wd_period` (R58, R98): firmware that runs gives its watchdog the new period. -/
def Dev.setWdPeriods (d : Dev) (n : Nat) : Dev :=
  let f := fun (d : Dev) (h : Half) => if byHalf h d.boot.firmwareW d.boot.firmwareE then d.modWatchdog h (fun w => { w with period := n }) else d
  f (f d .west) .east

/-- Writes of the ranges 0x1000 to 0x10FF and 0xB000 to 0xB0FF. -/
def writeBoot (st : State) (s : Session) (k : Key) (v : Val) : Option Written :=
  let d := st.dev
  let n := v.toNum
  match k.idx, k.sub with
  | 0x1020, 3 => some (ofDev st d.declareHealth)
  | 0x1020, 6 => some (okDev st d.askWarm)
  | 0x1030, 5 => some (okDev st d.forceCrocus)
  | 0x1030, 6 => some (ofDev st (d.exitCrocus n))
  | 0xB000, 7 => some (writeImage st s.half .a v.toBytes)
  | 0xB000, 8 => some (writeImage st s.half .b v.toBytes)
  | 0xB010, 2 => some (commitOtp st)
  | 0xB010, 3 => some (revokeOtp st n)
  | 0xB040, 3 => some (ofDev st d.askHandover)
  | 0xB040, 4 => some (okDev st ((d.wr k v).setWdPeriods n))
  | _, _ => none

/-! Sessions and commits. -/

/-- 0x1120:01 `mgmt.owner.credential`: every other owner session ends; those of policy firmware end only with their cluster
(R57, R405). -/
def Dev.setOwner (d : Dev) (s : Session) (v : Val) : Dev :=
  (d.wr Obj.mgmtOwnerCredential v).endSessions (fun x => x.role == .owner && !x.isFirmware && x.sid != s.sid)

/-- 0x1F00:01 `cfg.commit` (R63, R65). -/
def writeCommit (st : State) (s : Session) (n : Nat) : Written :=
  match n with
  | 1 => ofWrite st (st.dev.askCommit st.commitLock s)
  | 2 => okDev st (st.dev.discardSet s)
  | _ => ofDev st (st.dev.checkSet st.commitLock s)

/-- Writes of the ranges 0x1100 to 0x11FF and 0x1F00. -/
def writeMgmt (st : State) (s : Session) (k : Key) (v : Val) : Option Written :=
  let d := st.dev
  match k.idx, k.sub with
  | 0x1120, 1 => some (ofWrite st (d.storeLive s.half k v (fun d => d.setOwner s v)))
  | 0x1121, 3 => some (ofWrite st (d.storeLive s.half k v (fun d => d.wr k v)))
  | 0x1F00, 1 => some (writeCommit st s v.toNum)
  | 0x1F00, 7 => some ({ st with commitLock := st.commitLock || v.toNum == 1 }, .done Status.ok)
  | _, _ => none

/-! Ports, lanes, fabric, BFL. -/

/-- 0x3181:05 `fport.ready` (R198). The real BARs are those that the port's functions answer, or unchanged where none is
given. A write of 0 leaves the port's bindings unserved, as the loss of the port does. -/
def Dev.writeReady (d : Dev) (p n : Nat) : Dev := if n = 1 then { (d.fportReadyWrite p d.barsFound) with barsFound := [] } else d.fportLost p

/-- 0x3102:05 `fabric.cmd` (R196, R199): a configuration request of the half that serves the session, in IC7. Its tag tells
sessions apart (assumption log 96, DESIGN CHOICE). -/
def Dev.writeFabricCmd (d : Dev) (s : Session) (v : Nat) : Dev × WriteResult :=
  let n := fun k => (s.loc k).toNum
  let rid := n Obj.fabricCfgreqRid
  let size := n Obj.fabricCfgreqSize
  if !d.fabricMode then (d, .done Status.state)
  else if n Obj.fabricCfgreqOffset % size ≠ 0 then (d, .done Status.range)
  else
    match d.portOfBus (rid / 256) with
    | none => (d, .done Status.range)
    | some p =>
      let t : Tlp := { type := if v = 2 then .cfgWrite else .cfgRead, target := rid, addr := n Obj.fabricCfgreqOffset, len := size,
                       data := if v = 2 then leBytes size (n Obj.fabricCfgreqData) else [], requester := 0x00A0 + s.half.code, tag := s.sid % 1024 }
      (d.sendOwn localMgmt s.half p (Half.ofPort p) 7 none { body := .tlp t }, .wait .cfgRequest)

/-- 0x3400:0A `bfl.cmd` (R240, R243). -/
def Dev.writeBflCmd (d : Dev) (s : Session) (i v : Nat) : Dev × WriteResult :=
  if v = 2 then
    match d.startEvac i s.sid with
    | (d, some st) => (d, .done st)
    | (d, none) => (d, .wait (.evacuate i))
  else
    let r := d.requestReset i (v == 0x81)
    (r.1, .done r.2)

/-- Writes of the ranges 0x2000 to 0x34FF and of the lane test array. -/
def writeLinks (st : State) (s : Session) (k : Key) (n : Nat) : Option Written :=
  let d := st.dev
  if within 0x2000 0x207F k.idx ∧ k.sub = 14 then some (ofDev st (d.writePortCmd (k.idx - 0x2000) n))
  else if within 0x2200 0x22FF k.idx ∧ k.sub = 9 then some (ofDev st (d.writeCalCmd (k.idx - 0x2200) n))
  else if within 0x3400 0x340F k.idx ∧ k.sub = 10 then some (ofWrite st (d.writeBflCmd s (k.idx - 0x3400) n))
  else
    match k.idx, k.sub with
    | 0x3181, 5 => some (okDev st (d.writeReady k.ent n))
    | 0x3102, 5 => some (ofWrite st (d.writeFabricCmd s n))
    | 0xC010, 3 => some (ofDev st (d.writeLoopback k.ent n))
    | 0xC010, 5 => some (ofDev st (d.writeGen k.ent n))
    | 0xC010, 7 => some (ofDev st (d.writeTestRate k.ent n))
    | 0xC010, 8 => some (ofDev st (d.writeInject k.ent n))
    | 0xC010, 9 => some (ofDev st (d.writeChk k.ent n))
    | _, _ => none

/-! RME slices, shapers. -/

/-- A live write of one of a shaper's two fields, the other as it stands (R297). -/
def Dev.writeShaperField (d : Dev) (h : Half) (i sub n : Nat) : Dev × Nat :=
  if sub = 3 then d.writeShaper h i n (d.num (Obj.shaperBurst h i)) else d.writeShaper h i (d.num (Obj.shaperRate h i)) n

/-- Writes of slice records and shapers. -/
def writeEngines (st : State) (k : Key) (n : Nat) : Option Written :=
  let d := st.dev
  if within 0x6000 0x6FFF k.idx ∧ k.sub = 0x0C then some (ofDev st (d.sliceCmd (k.idx - 0x6000) n))
  else if within 0x6000 0x6FFF k.idx ∧ k.sub = 0x11 then some (okDev st ((d.setNum k n).underCeiling (k.idx - 0x6000)))
  else if k.idx = 0x4200 ∧ (k.sub = 3 ∨ k.sub = 4) then some (ofDev st (d.writeShaperField .west k.ent k.sub n))
  else if k.idx = 0x4201 ∧ (k.sub = 3 ∨ k.sub = 4) then some (ofDev st (d.writeShaperField .east k.ent k.sub n))
  else none

/-! Slots, sideband and power. -/

/-- Writes of the ranges 0x7400 to 0x75FF and 0x9000 to 0x91FF. -/
def writePower (st : State) (s : Session) (k : Key) (n : Nat) : Option Written :=
  let d := st.dev
  if within 0x7400 0x741F k.idx then
    match k.sub with
    | 2 => some (ofDev st (d.writeSlotEnable (k.idx - 0x7400) n))
    | 0x12 => some (ofDev st (d.writeSlotPerst (k.idx - 0x7400) n))
    | 0x15 => some (ofDev st (d.writeSlotCmd (k.idx - 0x7400) n))
    | _ => none
  else
    match k.idx, k.sub with
    | 0x7521, 3 => some (ofWrite st (d.writeValueWord s.sid k.ent n))
    | 0x7522, 7 => some (ofWrite st (d.writeFarCmd s n))
    | 0x7524, 3 => some (okDev st d.clearStray)
    | 0x9000, 2 => some (ofDev st (d.writeStateReq n))
    | 0x9010, 2 => some (ofDev st (d.writePadRelease n))
    | 0x9100, 0x13 => some (okDev st (d.perCommand n))
    | _, _ => none

/-! Logs, counters, sampling, harvest and test. -/

/-- 0xA000:06 `err.alert_ack` (R303). -/
def Dev.ackAlerts (d : Dev) (seq : Nat) : Dev :=
  let c := seq % 2 ^ 31
  { d with log := if bitOf seq 31 then { d.log with ackE := max d.log.ackE c } else { d.log with ackW := max d.log.ackW c } }

/-- 0xA000:07 `err.plog_clear` (R301). -/
def Dev.clearPlog (d : Dev) : Dev := { d with log := { d.log with persistent := [] } }

/-- 0x8000:05 `pmu.snap` (R378): the latch follows at least 1 µs later, and a second snapshot of the scope replaces the
first. -/
def Dev.askSnap (d : Dev) (s : Session) : Dev :=
  { d with tele := { d.tele with snapAt := tabSet id d.tele.snapAt s.pmuScope (d.time s.half + us 1) } }

/-- A perturbation entry is armed. -/
def Dev.pertArmed (d : Dev) (e : Nat) : Bool := d.test.armed.any (fun x => x.1 == e)

/-- Writes of the ranges 0x5100 to 0x51FF, 0x8000 to 0x81FF, 0xA000 and 0xC000 to 0xC0FF. -/
def writeTelemetry (st : State) (s : Session) (k : Key) (v : Val) : Option Written :=
  let d := st.dev
  let n := v.toNum
  match k.idx, k.sub with
  | 0xA000, 6 => some (okDev st (d.ackAlerts n))
  | 0xA000, 7 => some (okDev st d.clearPlog)
  | 0x8000, 5 => some ({ st with dev := d.askSnap s }, .wait .snapshot)
  | 0x8010, 8 => some (okDev st (d.ctrClear k.ent))
  | 0x8100, 1 => some (okDev st (d.writeSmpEnable (n == 1)))
  | 0x5100, 1 => some (okDev st (d.writeHarvEnable (n == 1)))
  | 0x5100, 7 => some (okDev st d.harvClear)
  | 0xC000, 1 => some (ofDev st (d.writeUnlockReq st.commitLock n))
  | 0xC000, 3 => some (ofDev st (d.unlockResponse st.commitLock (slice v.toBytes 0 1952) (slice v.toBytes 1952 3309)))
  | 0xC020, 9 => some (okDev st (d.writePertArm k.ent n))
  | _, _ => none

/-- What a live write of an admitted value does (R58): the object's own effect, the session's copy, or the value alone. -/
def liveWrite (st : State) (s : Session) (k : Key) (o : ObjRow) (v : Val) : Written :=
  let n := v.toNum
  match writeBoot st s k v <|> writeMgmt st s k v <|> writeLinks st s k n <|> writeEngines st k n <|> writePower st s k n <|> writeTelemetry st s k v with
  | some w => w
  | none =>
    if o.isLocal then okDev st (st.dev.modSes s.sid (fun x => x.setLoc ⟨k.idx, k.sub, 0⟩ v))
    else okDev st (st.dev.wr k v)

/-! Staged and reset writes. -/

/-- Entries of every staging set. -/
def Dev.stagedTotal (d : Dev) : Nat := (d.sessions.map (fun s => s.staged.length)).sum

/-- A write of a staged object (R59, R61). -/
def Dev.stageWrite (d : Dev) (s : Session) (k : Key) (v : Val) : Dev × Nat :=
  if (tabFind s.staged k).isNone ∧ (4096 ≤ s.staged.length ∨ 16384 ≤ d.stagedTotal) then (d, Status.exhausted)
  else (d.modSes s.sid (fun x => { x with staged := tabSet Key.code x.staged k v }), Status.ok)

/-- A write of a reset object: a pending value in both store copies (R57, R60). -/
def Dev.resetWrite (d : Dev) (s : Session) (k : Key) (v : Val) : Dev × WriteResult :=
  d.storeLive s.half k v (fun d => { d with resetObjs := tabSet Key.code d.resetObjs k v })

/-- The effect of a write that has passed every check (R58 to R60). -/
def performWrite (st : State) (s : Session) (k : Key) (o : ObjRow) (v : Val) : Written :=
  match o.cls with
  | .staged => ofDev st (st.dev.stageWrite s k v)
  | .reset => ofWrite st (st.dev.resetWrite s k v)
  | _ => if st.dev.tooFar s k ∧ !o.isLocal then (st, .wait .farAccess) else liveWrite st s k o v

/-! The checks of R53. -/

/-- A write that R62, R136 or R390 locks (check 7). -/
def lockedWrite (st : State) (k : Key) (o : ObjRow) (n : Nat) : Bool :=
  (st.commitLock && (o.access == .rwl || (k.idx == 0x1F00 && k.sub == 7 && n == 0))) ||
    (k.idx == 0xC010 && st.dev.num Obj.testUnlockLevel == 0) || (k.idx == 0xC020 && decide (st.dev.num Obj.testUnlockLevel < 2))

/-- A live write of a PA-die resource, which only the rake holder's half carries (R104, check 9). -/
def paWrite (k : Key) (n : Nat) : Bool :=
  (within 0x7400 0x741F k.idx && [2, 0x12, 0x15].contains k.sub) || (within 0x7500 0x751F k.idx && k.sub == 6) ||
    (k.idx == 0x9010 && k.sub == 2 && n / 2 ^ 16 % 32 != 0) ||
    [(0x7521, 3), (0x7522, 7), (0x7524, 3), (0x9000, 2), (0x9000, 9), (0xB010, 2), (0xB010, 3), (0x1020, 2), (0x1020, 3), (0xB000, 1), (0x1030, 5),
      (0x1030, 6), (0x1F00, 7), (0xA000, 7)].contains (k.idx, k.sub)

/-- A live write that its object's own rules answer with S_STATE, which comes before the range and the rake (R53). -/
def stateRefuses (st : State) (s : Session) (k : Key) (o : ObjRow) (v : Val) : Bool :=
  o.cls == .live && (performWrite st s k o v).2 == .done Status.state

/-- A BLOB whose length its object fixes differs from that length (R46). -/
def wrongLength (o : ObjRow) (v : Val) : Bool :=
  match o.range with
  | .exactly n => decide (v.toBytes.length ≠ n)
  | _ => false

/-- The checks of a write of R53 after the reach: the first failure, or the value to store and whether it was clamped. The
value is none where its length does not match the object's type. -/
def checkWrite (st : State) (s : Session) (r : ObjRec) (k : Key) (o : ObjRow) (type : Nat) (value : Option Val) : Except Nat (Val × Bool) :=
  let d := st.dev
  if !mayWrite s r o k.idx k.sub then .error Status.denied
  else if type ≠ o.ty.code then .error Status.type
  else
    match value with
    | none => .error Status.type
    | some v =>
      if wrongLength o v then .error Status.type
      else if d.modeForbids k true || stateRefuses st s k o v then .error Status.state
      else if lockedWrite st k o v.toNum then .error Status.locked
      else
        match d.admitVal s r k o v with
        | none => .error Status.range
        | some x =>
          if o.cls == .live && paWrite k v.toNum && !d.rakeOk s.half then .error Status.notHolder
          else if k.idx = 0xC020 ∧ 3 ≤ k.sub ∧ k.sub ≠ 9 ∧ d.pertArmed k.ent then .error Status.busy
          else .ok x

end Sys2Proof.Machine
end

