-- ==== Sys2Proof/Machine/Requests.lean ====
section
/-!
DEFINITION. Sys2Proof/Machine/Requests.lean: a received FBP message (R73 to R78, R411): the checks of R53 item by item, the
requests of a session in order of arrival, cached responses, and segmented transfers.
-/
namespace Sys2Proof.Machine

/-! Items. -/

/-- The record, row and key that an item names, within the session's reach (checks 2 and 3 of R53). -/
def locate (st : State) (s : Session) (i : Item) : Except Nat (ObjRec × ObjRow × Key) :=
  match findRec i.idx with
  | none => .error Status.noObject
  | some r =>
    if !st.dev.reaches s r i.idx i.sub then .error Status.noObject
    else
      match r.row i.sub with
      | none => .error Status.noSub
      | some o => .ok (r, o, s.keyFor r i.idx i.sub)

/-- What became of an item. -/
inductive ItemResult where
  | done (i : DoneItem)
  | wait (w : Wait)
  deriving DecidableEq, Repr

/-- An item answered with a status alone. -/
def failed (i : Item) (status : Nat) : ItemResult := .done (answerItem i status)

/-- Bytes that items take in a response. -/
def itemsLength (l : List DoneItem) : Nat := (l.map (fun x => 8 + padded x.data.length)).sum

/-- An item of a response that carries a value: it must fit into one message (R73, R76), and where items follow it, so must
the 8 bytes of the next one, were it refused (assumption log 102, DEDUCED). -/
def withValue (e : Exec) (i : Item) (type : Nat) (data : List Byte) : ItemResult :=
  if 960 < data.length ∨ 1024 < 16 + itemsLength e.done + 8 + padded data.length + (if e.todo.length ≤ 1 then 0 else 8) then failed i Status.range
  else .done (answerItem i Status.ok data type)

/-- `harv.data` is not read while the harvest is enabled (R386). -/
def Dev.harvestBusy (d : Dev) (k : Key) : Bool := k.idx == 0x5100 && k.sub == 6 && d.flag Obj.harvEnable

/-- An item of a READ request (R46, R49, R51, R59). -/
def readItem (st : State) (s : Session) (e : Exec) (i : Item) : State × ItemResult :=
  if 0xF000 ≤ i.idx then
    if i.type ≠ 0 ∧ i.type ≠ ObjType.u32.code then (st, failed i Status.type)
    else if st.dev.modeForbids ⟨i.idx, i.sub, 0⟩ false then (st, failed i Status.state)
    else (st, withValue e i ObjType.u32.code (zeros 4))
  else
    match locate st s i with
    | .error x => (st, failed i x)
    | .ok (_, o, k) =>
      if i.type ≠ 0 ∧ i.type ≠ o.ty.code then (st, failed i Status.type)
      else if st.dev.modeForbids k false || st.dev.harvestBusy k then (st, failed i Status.state)
      else if st.dev.tooFar s k ∧ !o.isLocal ∧ o.access ≠ .const then (st, .wait .farAccess)
      else
        let r := readObj st s k o e.staged
        match withValue e i o.ty.code (encodeVal o.ty r.2) with
        | .done x => if succeeded x.status then ({ st with dev := r.1 }, .done x) else (st, .done x)
        | w => (st, w)

/-- The DESCRIBE value of a reserved diagnostics index (R51). -/
def reservedDescription : List Byte :=
  beBytes 1 ObjType.u32.code ++ beBytes 1 Access.ro.code ++ beBytes 1 CommitClass.none.code ++ beBytes 1 Persist.volatile.code ++ zeros 12

/-- An item of a DESCRIBE request (R404): the value is 16 bytes, of type BLOB. -/
def describeItem (st : State) (s : Session) (e : Exec) (i : Item) : State × ItemResult :=
  if 0xF000 ≤ i.idx then
    if st.dev.modeForbids ⟨i.idx, i.sub, 0⟩ false then (st, failed i Status.state)
    else (st, withValue e i ObjType.blob.code reservedDescription)
  else
    match locate st s i with
    | .error x => (st, failed i x)
    | .ok (_, o, k) =>
      if i.type ≠ 0 ∧ i.type ≠ o.ty.code then (st, failed i Status.type)
      else if st.dev.modeForbids k false then (st, failed i Status.state)
      else if st.dev.tooFar s k ∧ readsDefault k then (st, .wait .farAccess)
      else (st, withValue e i ObjType.blob.code (describeBytes st s k o))

/-- The PA die's reply to a refused write names the holder and the epoch in force (R104). -/
def Dev.paRefuses (d : Dev) (h : Half) : Dev := d.emit (.paRefused h (d.num Obj.rakeHolder) (d.num Obj.rakeEpoch))

/-- A write that passed or failed its checks, as the answer of its item (R54). -/
def writeValue (st : State) (s : Session) (r : ObjRec) (k : Key) (o : ObjRow) (i : Item) (type : Nat) (value : Option Val) : State × ItemResult :=
  match checkWrite st s r k o type value with
  | .error x => (if x = Status.notHolder then { st with dev := st.dev.paRefuses s.half } else st, failed i x)
  | .ok (v, clamped) =>
    match performWrite st s k o v with
    | (st, .wait w) => (st, .wait w)
    | (st, .done x) => (st, failed i (if x = Status.ok ∧ clamped then Status.clamped else x))

/-- An item of a WRITE request. -/
def writeItem (st : State) (s : Session) (i : Item) : State × ItemResult :=
  if 0xF000 ≤ i.idx then (st, failed i Status.denied)
  else
    match locate st s i with
    | .error x => (st, failed i x)
    | .ok (r, o, k) => writeValue st s r k o i i.type (decodeVal o.ty i.data)

/-- An item of a READ, WRITE or DESCRIBE request. -/
def runItem (st : State) (s : Session) (e : Exec) (i : Item) : State × ItemResult :=
  if e.opcode = Opcode.read then readItem st s e i
  else if e.opcode = Opcode.describe then describeItem st s e i
  else writeItem st s i

/-! Requests. -/

/-- A session's request answered, and what waited for the answer happens (R58, R66, R89). -/
def finishRequest (st : State) (sid : Nat) (e : Exec) (status : Nat) : State :=
  { st with dev := (st.dev.finish sid e status).settle }

/-- A session's executing request waits. -/
def Dev.park (d : Dev) (sid : Nat) (e : Exec) : Dev := d.modSes sid (fun s => { s with exec := some e })

/-- Items are processed in order; the first failure ends the request (R74). -/
def runItems (sid : Nat) (e : Exec) (todo : List Item) (st : State) : State :=
  match todo with
  | [] => finishRequest st sid { e with todo := [] } Status.ok
  | i :: rest =>
    match st.dev.ses sid with
    | none => st
    | some s =>
      match runItem st s { e with todo := i :: rest } i with
      | (st, .wait w) => { st with dev := st.dev.park sid { e with todo := i :: rest, wait := w } }
      | (st, .done x) =>
        if succeeded x.status then runItems sid { e with done := e.done ++ [x] } rest st
        else finishRequest st sid { e with done := e.done ++ [x] } x.status

/-! Segmented transfers. -/

/-- Largest BLOB of an object (R76). -/
def blobLimit (o : ObjRow) : Nat :=
  match o.range with
  | .exactly n => n
  | .upTo n => n
  | _ => 960

/-- The value of a BLOB_OPEN response (03, "FBP opcodes"). -/
def openValue (handle total : Nat) : List Byte := beBytes 2 handle ++ beBytes 2 960 ++ beBytes 4 total

/-- A transfer opens, with a handle that the manual leaves to the device (R76; assumption log 1). -/
def openBlob (st : State) (s : Session) (k : Key) (i : Item) (isWrite : Bool) (total : Nat) (data : List Byte) (digest : List Byte) : State × ItemResult :=
  if s.blob.isSome then (st, failed i Status.busy)
  else
    let h := st.dev.free % 2 ^ 16
    let d := st.dev.bump.modSes s.sid (fun x => { x with blob := some ⟨h, k, isWrite, total, data, st.dev.clk⟩ })
    ({ st with dev := d }, .done (answerItem i Status.ok (openValue h total ++ digest) ObjType.blob.code))

/-- The checks of a write transfer at its open, after those of the reach. -/
def checkOpen (st : State) (s : Session) (r : ObjRec) (k : Key) (o : ObjRow) (i : Item) (total : Nat) : Option Nat :=
  let slot := if k.sub = 7 then FwSlot.a else FwSlot.b
  if !mayWrite s r o k.idx k.sub then some Status.denied
  else if o.ty ≠ .blob ∨ i.data.length ≠ 8 then some Status.type
  else if st.dev.modeForbids k true || (k.idx == 0xB000 && st.dev.slotRuns slot) then some Status.state
  else if lockedWrite st k o 1 then some Status.locked
  else if blobLimit o < total then some Status.range
  else none

/-- BLOB_OPEN of an item (R51, R76, R78, R94, R386): no index from 0xF000 on names a BLOB, and none of them is written. -/
def openItem (st : State) (s : Session) (i : Item) : State × ItemResult :=
  match locate st s i with
  | .error x =>
    if 0xF000 ≤ i.idx then (st, failed i (if beNat (slice i.data 4 1) = 1 then Status.denied else Status.type))
    else (st, failed i x)
  | .ok (r, o, k) =>
    let total := beNat (slice i.data 0 4)
    let dir := beNat (slice i.data 4 1)
    if dir = 1 then
      match checkOpen st s r k o i total with
      | some x => (st, failed i x)
      | none => if st.dev.tooFar s k then (st, .wait .farAccess) else openBlob st s k i true total [] []
    else if o.ty ≠ .blob ∨ i.data.length ≠ 8 then (st, failed i Status.type)
    else if st.dev.modeForbids k false || st.dev.harvestBusy k then (st, failed i Status.state)
    else if dir ≠ 0 then (st, failed i Status.range)
    else if st.dev.tooFar s k ∧ !o.isLocal ∧ o.access ≠ .const then (st, .wait .farAccess)
    else
      let v := readObj st s k o false
      let b := v.2.toBytes
      openBlob { st with dev := v.1 } s k i false b.length b (Config.shake256 b 32)

/-- The open transfer that a handle names. -/
def Session.blobOf (s : Session) (data : List Byte) : Option Blob := s.blob.filter (fun b => b.handle == beNat (slice data 0 2))

/-- BLOB_DATA of an item (R77, R78). -/
def dataItem (st : State) (s : Session) (i : Item) : State × ItemResult :=
  let off := beNat (slice i.data 4 4)
  let seg := i.data.drop 8
  if i.data.length < 8 then (st, failed i Status.type)
  else
    match s.blobOf i.data with
    | none => (st, failed i Status.blobSeq)
    | some b =>
      let touch := fun (x : Blob) => { st with dev := st.dev.modSes s.sid (fun y => { y with blob := some { x with lastMsg := st.dev.clk } }) }
      if b.isWrite then
        if off ≠ b.data.length then (touch b, failed i Status.blobSeq)
        else if 960 < seg.length then (touch b, failed i Status.range)
        else (touch { b with data := b.data ++ seg }, failed i Status.ok)
      else if b.total < off then (touch b, failed i Status.blobSeq)
      else (touch b, .done (answerItem i Status.ok (slice b.data off 960) ObjType.blob.code))

/-- A session's transfer ends. -/
def State.endBlob (st : State) (sid : Nat) : State := { st with dev := st.dev.modSes sid (fun x => { x with blob := none }) }

/-- The close of a write transfer: length, then digest, then the write itself (R77). -/
def closeWrite (st : State) (s : Session) (i : Item) (b : Blob) : State × ItemResult :=
  if b.data.length ≠ b.total then (st, failed i Status.range)
  else if Config.shake256 b.data 32 ≠ slice i.data 4 32 then (st, failed i Status.blobDigest)
  else
    match findRec b.key.idx with
    | none => (st, failed i Status.noObject)
    | some r =>
      match r.row b.key.sub with
      | none => (st, failed i Status.noSub)
      | some o => writeValue st s r b.key o i o.ty.code (some (.bytes b.data))

/-- BLOB_CLOSE of an item (R77). A refused close leaves the transfer open, as a refused item changes nothing (R53). The close
of a read transfer answers S_OK whatever digest it carries, which R77 does not say (assumption log 103, DESIGN CHOICE). -/
def closeItem (st : State) (s : Session) (i : Item) : State × ItemResult :=
  if i.data.length ≠ 36 then (st, failed i Status.type)
  else
    match s.blobOf i.data with
    | none => (st, failed i Status.blobSeq)
    | some b =>
      if !b.isWrite then (st.endBlob s.sid, failed i Status.ok)
      else
        match closeWrite st s i b with
        | (t, .done x) => (if succeeded x.status then t.endBlob s.sid else t, .done x)
        | r => r

/-- BLOB_ABORT of an item (R78). -/
def abortItem (st : State) (s : Session) (i : Item) : State × ItemResult :=
  if i.data.length ≠ 4 then (st, failed i Status.type)
  else
    match s.blobOf i.data with
    | none => (st, failed i Status.blobSeq)
    | some _ => (st.endBlob s.sid, failed i Status.ok)

/-- A request of one of the transfer opcodes, which carries one item. -/
def runBlob (sid : Nat) (e : Exec) (items : List Item) (st : State) : State :=
  match items, st.dev.ses sid with
  | [i], some s =>
    let r :=
      if e.opcode = Opcode.blobOpen then openItem st s i
      else if e.opcode = Opcode.blobData then dataItem st s i
      else if e.opcode = Opcode.blobClose then closeItem st s i
      else abortItem st s i
    match r with
    | (st, .wait w) => { st with dev := st.dev.park sid { e with todo := [i], wait := w } }
    | (st, .done x) => finishRequest st sid { e with done := [x] } x.status
  | _, _ => finishRequest st sid e Status.type

/-! Messages. -/

/-- A request begins execution (R75). -/
def execute (st : State) (sid : Nat) (r : FbpRequest) (raw : List Byte) : State :=
  let e : Exec := { rid := r.rid, opcode := r.opcode, staged := r.staged, todo := r.items, done := [], wait := .none, raw := raw }
  let st := { st with dev := st.dev.park sid e }
  if r.opcode = Opcode.ping then finishRequest st sid e Status.ok
  else if r.opcode = Opcode.read ∨ r.opcode = Opcode.write ∨ r.opcode = Opcode.describe then runItems sid e r.items st
  else runBlob sid e r.items st

/-- A message answered without execution, with no items. -/
def Dev.answerNow (d : Dev) (s : Session) (opcode rid status : Nat) : Dev :=
  d.deliver s false rid (encodeResponse opcode rid status [])

/-- The request that a queued message holds. -/
def requestOf (raw : List Byte) : Option FbpRequest :=
  match parseFbp raw with
  | .request r => some r
  | _ => none

/-- Requests that a session has not been answered. -/
def Session.outstanding (s : Session) : List (List Byte) := (s.exec.map (fun e => e.raw)).toList ++ s.queue

/-- A well-formed request of a session (R75). -/
def takeRequest (st : State) (s : Session) (r : FbpRequest) (raw : List Byte) : State :=
  let d := st.dev
  let same := fun (m : List Byte) => (requestOf m).any (fun x => x.rid == r.rid)
  if s.outstanding.contains raw then st
  else if s.outstanding.any same then { st with dev := d.answerNow s r.opcode r.rid Status.reqReuse }
  else
    match s.cache.find? (fun c => c.rid == r.rid) with
    | some c => { st with dev := if c.request = raw then d.deliver s false r.rid c.response else d.answerNow s r.opcode r.rid Status.reqReuse }
    | none =>
      if 4 ≤ s.outstanding.length then { st with dev := d.answerNow s r.opcode r.rid Status.busy }
      else if s.exec.isNone && s.queue.isEmpty then execute st s.sid r raw
      else { st with dev := d.modSes s.sid (fun x => { x with queue := x.queue ++ [raw] }) }

/-- A notification is acknowledged (R79, R411). -/
def Dev.ackNotice (d : Dev) (sid seq : Nat) : Dev := d.modSes sid (fun s => { s with notices := s.notices.filter (fun n => n.seq != seq) })

/-- A message of a session (R73, R411). A datagram of more than 1,280 bytes is not accepted (R80). The S_TYPE and S_RANGE answers
of a message that is no request are not cached, and its REQUEST_ID is not compared with others (assumption log 16,
DESIGN CHOICE). -/
def takeMessage (st : State) (s : Session) (raw : List Byte) : State :=
  if s.keysSpent || (s.isNet && decide (1280 < raw.length + 4)) then st
  else
    let d := st.dev.modSes s.sid (fun x => { x with lastMsg := st.dev.clk, msgs := x.msgs + 1 })
    let st := { st with dev := d }
    let op := beNat (slice raw 1 1)
    match parseFbp raw with
    | .malformed rid => { st with dev := d.answerNow s op rid Status.type }
    | .reserved rid => { st with dev := d.answerNow s op rid Status.range }
    | .response => st
    | .notifyAck rid => { st with dev := d.ackNotice s.sid rid }
    | .request r => takeRequest st s r raw

/-- Session numbers from here name an MCTP requester by its endpoint's node and its EID: 256 × node + EID (R84; assumption
log 40). -/
abbrev mctpBase : Nat := 2 ^ 32

/-- The MCTP requester that a session number names. -/
def mctpOf (sid : Nat) : Option (Nat × Nat) := if sid < mctpBase then none else some ((sid - mctpBase) / 256, (sid - mctpBase) % 256)

/-- The session that a number names. -/
def Dev.resolve (d : Dev) (sid : Nat) : Option Session :=
  match mctpOf sid with
  | none => d.ses sid
  | some (v, eid) => d.sessions.find? (fun s => s.transport == .mctp v eid)

/-- The management endpoint of a node is reached by its host: the node is active, the cluster of its half is at work, and the
dictionary is served in-band (R83, R84, R86, R100, R356). -/
def Dev.endpointServed (d : Dev) (v : Nat) : Bool :=
  decide (v < 64) && d.nodeState v == 2 && !d.crocus && d.num Obj.pwrState != PwrSt.sleep && byHalf (d.endpointHalf v) d.boot.firmwareW d.boot.firmwareE

/-- Role and scope of an endpoint's sessions (03, "Management endpoint mailbox"). -/
def Dev.endpointRole (d : Dev) (v : Nat) : Role × Nat := if d.num Obj.mgmtOwnerPartition = v then (.owner, 0xFFFF) else (.admin, v)

/-- A session over an endpoint opens. -/
def Dev.openEndpoint (d : Dev) (v : Nat) (t : Transport) : Dev :=
  let r := d.endpointRole v
  d.openSession t r.1 r.2 (d.endpointHalf v)

/-- MCTP sessions of an endpoint. -/
def Dev.mctpSessions (d : Dev) (v : Nat) : Nat := d.sessions.countP (fun s => match s.transport with | .mctp w _ => w == v | _ => false)

/-- A message over MCTP from an EID without a session: one opens, and a fifth EID is answered with S_BUSY (R84). -/
def mctpFirst (st : State) (sid v eid : Nat) (raw : List Byte) : State :=
  let d := st.dev
  if !d.endpointServed v then st
  else if 4 ≤ d.mctpSessions v then
    { st with dev := d.emit (.mctp v eid (mctpFbp (encodeResponse (beNat (slice raw 1 1)) (beNat (slice raw 4 4)) Status.busy []))) }
  else
    let st := { st with dev := d.openEndpoint v (.mctp v eid) }
    match st.dev.resolve sid with
    | some s => takeMessage st s raw
    | none => st

/-- A management cluster is at work: firmware runs, or a boot ROM serves Crocus mode. -/
def Dev.served (d : Dev) : Bool := d.boot.firmwareW || d.boot.firmwareE || d.crocus

/-- The field-network port is on (0x1100:05; R100); with neither half in reach of the PA die there is no dictionary on it (R101). -/
def Dev.portOn (d : Dev) : Bool := d.served && !(d.boot.paLostW && d.boot.paLostE) && (d.crocus || d.flag Obj.mgmtT1sEnable)

/-- A received FBP message: for a session, from an MCTP requester, or outside any session, where the answer is S_AUTH (R53
check 1). -/
def receive (st : State) (sid : Nat) (raw : List Byte) : State :=
  match st.dev.resolve sid with
  | some s => takeMessage st s raw
  | none =>
    match mctpOf sid with
    | some (v, eid) => mctpFirst st sid v eid raw
    | none =>
      if st.dev.served then { st with dev := st.dev.emit (.clear (encodeResponse (beNat (slice raw 1 1)) (beNat (slice raw 4 4)) Status.auth [])) }
      else st

/-! Items that waited. -/

/-- The item that a session's executing request waits on is answered, and the request goes on (R74). -/
def answerWait (st : State) (sid status : Nat) : State :=
  match (st.dev.ses sid).bind (fun s => s.exec) with
  | none => st
  | some e =>
    match e.wait, e.todo with
    | .none, _ => st
    | _, [] => st
    | _, i :: rest =>
      let e := { e with done := e.done ++ [answerItem i status], wait := .none }
      if succeeded status then
        if e.opcode = Opcode.write then runItems sid e rest { st with dev := st.dev.park sid { e with todo := rest } }
        else finishRequest st sid e status
      else finishRequest st sid e status

/-- The oldest queued request of a session begins execution once none executes (R75). -/
def nextRequest (st : State) (sid : Nat) : State :=
  match st.dev.resolve sid with
  | none => st
  | some s =>
    match s.exec, s.queue with
    | none, raw :: rest =>
      let st := { st with dev := st.dev.modSes s.sid (fun x => { x with queue := rest }) }
      match requestOf raw with
      | some r => execute st s.sid r raw
      | none => st
    | _, _ => st

/-! Rows that are writes of one object. -/

/-- A WRITE request with several items. -/
def encodeWrites (rid : Nat) (items : List (Nat × Nat × ObjType × Nat)) : List Byte :=
  let body := items.flatMap (fun i => encodeItem ⟨i.1, i.2.1, i.2.2.1.code, 0, beBytes i.2.2.1.width i.2.2.2⟩)
  beBytes 1 16 ++ beBytes 1 Opcode.write ++ beBytes 2 0 ++ beBytes 4 rid ++ beBytes 2 0 ++ beBytes 2 items.length ++
    beBytes 2 body.length ++ beBytes 2 0 ++ body

/-- A session writes a number to an object. -/
def writeObject (st : State) (sid rid idx sub : Nat) (ty : ObjType) (n : Nat) : State := receive st sid (encodeWrites rid [(idx, sub, ty, n)])

/-- A session selects an entry of an ARRAY and writes a number to a field of it, in one request (assumption log 41). -/
def writeEntry (st : State) (sid rid idx e sub : Nat) (ty : ObjType) (n : Nat) : State :=
  receive st sid (encodeWrites rid [(idx, 1, .u32, e), (idx, sub, ty, n)])

end Sys2Proof.Machine
end

