-- ==== Sys2Proof/Machine/Dictionary.lean ====
section
/-!
DEFINITION. Sys2Proof/Machine/Dictionary.lean: FBP messages, commits, notifications, sessions and the transports that carry
them (R63 to R86, R254, R389, R411), and the answers of requests that waited (R23, R64, R199, R243, R349, R378).
-/
namespace Sys2Proof.Machine

/-! FBP messages. -/

/-- READ (R74). -/
def execRead (sid : Nat) (msg : List Byte) (s : State) : Host.Outcome State Fault Refusal := .next (receive s sid msg)

/-- WRITE (R74). -/
def execWrite (sid : Nat) (msg : List Byte) (s : State) : Host.Outcome State Fault Refusal := .next (receive s sid msg)

/-- DESCRIBE (R404). -/
def execDescribe (sid : Nat) (msg : List Byte) (s : State) : Host.Outcome State Fault Refusal := .next (receive s sid msg)

/-- BLOB_OPEN (R76). -/
def execBlobOpen (sid : Nat) (msg : List Byte) (s : State) : Host.Outcome State Fault Refusal := .next (receive s sid msg)

/-- BLOB_DATA (R77). -/
def execBlobData (sid : Nat) (msg : List Byte) (s : State) : Host.Outcome State Fault Refusal := .next (receive s sid msg)

/-- BLOB_CLOSE (R77). -/
def execBlobClose (sid : Nat) (msg : List Byte) (s : State) : Host.Outcome State Fault Refusal := .next (receive s sid msg)

/-- BLOB_ABORT (R78). -/
def execBlobAbort (sid : Nat) (msg : List Byte) (s : State) : Host.Outcome State Fault Refusal := .next (receive s sid msg)

/-- PING (03, "FBP opcodes"). -/
def execPing (sid : Nat) (msg : List Byte) (s : State) : Host.Outcome State Fault Refusal := .next (receive s sid msg)

/-- FBP_RESPONSE_DISCARD (R411). -/
def execFbpResponseDiscard (sid : Nat) (msg : List Byte) (s : State) : Host.Outcome State Fault Refusal := .next (receive s sid msg)

/-- NOTIFY_ACK (R79, R411): a message of kind 0x3. -/
def execNotifyAck (sid requestId : Nat) (s : State) : Host.Outcome State Fault Refusal :=
  .next (receive s sid (encodeFbp 3 Opcode.notify requestId 0 0 []))

/-- REQUEST_EXECUTE (R75). -/
def execRequestExecute (sid : Nat) (s : State) : Host.Outcome State Fault Refusal := .next (nextRequest s sid)

/-- BLOB_TIMEOUT (R78). -/
def execBlobTimeout (sid : Nat) (s : State) : Host.Outcome State Fault Refusal :=
  match (s.dev.resolve sid).bind (fun (x : Session) => x.blob.map (fun b => (x.sid, b.lastMsg))) with
  | none => .next s
  | some (n, t) => .next (State.endBlob { s with dev := s.dev.advanceTo (t + sec 30) } n)

/-- OBJECT_WRITE (R58). -/
def execObjectWrite (sid rid index sub type : Nat) (data : List Byte) (s : State) : Host.Outcome State Fault Refusal :=
  .next (receive s sid (encodeWrite rid index sub type data))

/-! Commits. -/

/-- CFG_COMMIT (R63). -/
def execCfgCommit (sid rid : Nat) (s : State) : Host.Outcome State Fault Refusal := .next (writeObject s sid rid 0x1F00 1 .u8 1)

/-- CFG_DISCARD (R65). -/
def execCfgDiscard (sid rid : Nat) (s : State) : Host.Outcome State Fault Refusal := .next (writeObject s sid rid 0x1F00 1 .u8 2)

/-- CFG_CHECK (R65). -/
def execCfgCheck (sid rid : Nat) (s : State) : Host.Outcome State Fault Refusal := .next (writeObject s sid rid 0x1F00 1 .u8 3)

/-- COMMIT_LOCK_WRITE (R62). -/
def execCommitLockWrite (sid rid v : Nat) (s : State) : Host.Outcome State Fault Refusal := .next (writeObject s sid rid 0x1F00 7 .u8 v)

/-- OWNER_CREDENTIAL_WRITE (R57). -/
def execOwnerCredentialWrite (sid rid : Nat) (hash : List Byte) (s : State) : Host.Outcome State Fault Refusal :=
  .next (receive s sid (encodeWrite rid 0x1120 1 ObjType.blob.code hash))

/-- COMMIT_APPLY (R63 step 6, R64, R216): at the apply instant the set of the running commit takes effect and its session
is answered; so do the pair objects that the twin prepared. -/
def execCommitApply (s : State) : Host.Outcome State Fault Refusal :=
  let s := { s with dev := s.dev.applyTwin }
  match s.dev.commit with
  | none => .next s
  | some c =>
    match c.applyAt with
    | none => .next s
    | some t =>
      let s := answerWait { s with dev := (s.dev.advanceTo t).applyCommit c } c.sid Status.ok
      .next { s with dev := s.dev.settle }

/-! Requests that waited. -/

/-- What the executing request of a session waits for, and its item. -/
def Dev.waitsFor (d : Dev) (sid : Nat) : Option (Wait × Item) :=
  ((d.ses sid).bind (fun s => s.exec)).bind (fun e => e.todo.head?.map (fun i => (e.wait, i)))

/-- Far accesses of a session that the sideband bridge has not begun are dropped. -/
def Dev.dropFar (d : Dev) (sid : Nat) : Dev :=
  { d with sb := d.sb.map (fun e => (e.1, { e.2 with queue := e.2.queue.filter (fun f => f.sid != sid) })) }

/-- FAR_TIMEOUT (R23, R67, R321): a commit that never reached the holder reports it in `cfg.commit_result` too, and an
access to the PA die is logged. An access that the sideband bridge carries has the limit of `sbg.far_timeout` plus 10 ms. -/
def execFarTimeout (sid : Nat) (s : State) : Host.Outcome State Fault Refusal :=
  match s.dev.waitsFor sid with
  | some (.farAccess, i) =>
    let d := if i.idx = 0x1F00 ∧ i.sub = 1 then s.dev.setCommitResult sid Status.farTimeout 0 noEntry else s.dev
    let d := if inPaDie ⟨i.idx, i.sub, 0⟩ then d.logEvent d.holderHalf Scope.device 0 1 0x0602 else d
    .next (answerWait { s with dev := d } sid Status.farTimeout)
  | some (.farWrite, _) => .next (answerWait { s with dev := s.dev.dropFar sid } sid Status.farTimeout)
  | _ => .next s

/-- FABRIC_CFG_COMPLETION (R199). -/
def execFabricCfgCompletion (sid : Nat) (st : CplStatus) (data : Nat) (s : State) : Host.Outcome State Fault Refusal :=
  match s.dev.waitsFor sid with
  | some (.cfgRequest, i) =>
    let d := s.dev.modSes sid (fun x =>
      let x := x.setLoc Obj.fabricCfgreqCplStatus (.num st.code)
      if st = .sc ∧ beNat i.data = 1 then x.setLoc Obj.fabricCfgreqData (.num (data % 2 ^ (8 * (x.loc Obj.fabricCfgreqSize).toNum))) else x)
    .next (answerWait { s with dev := d } sid (if st = .sc then Status.ok else Status.farNak))
  | _ => .next s

/-- FABRIC_CFG_TIMEOUT (R199). -/
def execFabricCfgTimeout (sid : Nat) (s : State) : Host.Outcome State Fault Refusal :=
  match s.dev.waitsFor sid with
  | some (.cfgRequest, _) =>
    let d := s.dev.modSes sid (fun x => x.setLoc Obj.fabricCfgreqCplStatus (.num 0xFF))
    .next (answerWait { s with dev := d } sid Status.farTimeout)
  | _ => .next s

/-- EVAC_REPLY (R243): the frames that the twin has not accepted move to link t. -/
def execEvacReply (t i : Fin 16) (lastSeq inc : Nat) (s : State) : Host.Outcome State Fault Refusal :=
  match (s.dev.link i).evac with
  | none => .next s
  | some (target, sid, mark) =>
    if target = t.val ∧ inc < 2 ^ 16 then .next (answerWait { s with dev := s.dev.evacuate i t mark lastSeq } sid Status.ok)
    else .next s

/-- BFL_EVAC_TIMEOUT (R243): nothing moves. -/
def execBflEvacTimeout (i : Fin 16) (s : State) : Host.Outcome State Fault Refusal :=
  match (s.dev.link i).evac with
  | none => .next s
  | some (_, sid, _) =>
    .next (answerWait { s with dev := s.dev.modLink i (fun x => { x with evac := none }) } sid Status.farTimeout)

/-- PMU_SNAP_LATCH (R378): the counters of the session's scope are latched at the snapshot instant, and every session of
the scope that waits for it is answered. -/
def execPmuSnapLatch (sid : Nat) (s : State) : Host.Outcome State Fault Refusal :=
  match s.dev.waitsFor sid, s.dev.ses sid with
  | some (.snapshot, _), some x =>
    let c := x.pmuScope
    let t := tabGet s.dev.tele.snapAt c (s.dev.time x.half)
    let d := (s.dev.advanceTo (s.dev.clk + (t - s.dev.time x.half))).latchSnap c t
    let d := { d with tele := { d.tele with snapAt := tabDel d.tele.snapAt c } }
    let same := d.sessions.filter (fun y => y.pmuScope == c && y.exec.any (fun e => e.wait == .snapshot))
    .next (same.foldl (fun s y => answerWait s y.sid Status.ok) { s with dev := d })
  | _, _ => .next s

/-- The register bytes of a read-modify-write, with the field replaced (R343). -/
def FarReq.modified (f : FarReq) (data : List Byte) : FarReq :=
  match f.rmw with
  | none => f
  | some (off, w, raw, msb) =>
    let n := setField (if msb then beNat data else leNat data) off w raw
    { f with isWrite := true, rmw := none, data := if msb then beBytes f.len n else leBytes f.len n }

/-- A far access ends; a write changes the destination field of its value word alone (R343, R349, R350). -/
def endFar (s : State) (k : Nat) (f : FarReq) (r : SbResult) : State :=
  let free := fun (s : State) => { s with dev := s.dev.busFree k }
  match r with
  | .ok data =>
    if f.rmw.isSome then { s with dev := s.dev.startTxn k (.far (f.modified data)) }
    else
      let d := match f.word with
        | some (w, off, n, v) => if f.isWrite then s.dev.updateWord w (setField (s.dev.num (Obj.sbvalWord w)) off n v) else s.dev
        | none => if f.isWrite then s.dev else s.dev.modSes f.sid (fun x => x.setLoc Obj.sbfarData (.bytes (padTo f.len data)))
      answerWait (free { s with dev := d }) f.sid Status.ok
  | .nack => answerWait (free { s with dev := s.dev.inc32 (Obj.sbNakCount k) }) f.sid Status.farNak
  | .pecFail _ => answerWait (free s) f.sid Status.farNak

/-- SB_TRANSACTION_END (R339, R342, R346 to R350). -/
def execSbTransactionEnd (k : Fin 32) (r : SbResult) (s : State) : Host.Outcome State Fault Refusal :=
  let d := s.dev
  match (d.sbus k).txn with
  | none => .next s
  | some (.far f) => .next (endFar s k f (d.sbJudged k r))
  | some .alert =>
    match d.sbJudged k r with
    | .ok data => onDev s ((d.endAlert k data).busFree k)
    | .nack => onDev s ((d.inc32 (Obj.sbNakCount k)).busFree k)
    | .pecFail _ => onDev s (d.busFree k)
  | some (.read _ base _ due spanned) =>
    match d.sbJudged k r with
    | .ok data => onDev s ((d.endRead k base due spanned data).busFree k)
    | .nack => onDev s ((due.foldl (fun (x : Dev) e => x.setNum (Obj.sbmapState e) 2) (d.inc32 (Obj.sbNakCount k))).busFree k)
    | .pecFail data => onDev s ((d.endReadPec k base due spanned data).busFree k)

/-! Notifications and sessions. -/

/-- NOTIFY_RESEND (R79): a mailbox keeps its slots, and its vector is sent again (R83). -/
def execNotifyResend (sid : Nat) (s : State) : Host.Outcome State Fault Refusal :=
  match s.dev.resolve sid with
  | none => .next s
  | some x =>
    onDev s (x.notices.foldl (fun (d : Dev) n =>
      match x.transport with
      | .mailbox v => (d.emit (.msix v 0)).emit (.fbp x.sid (encodeNotify n.seq n.cls n.items))
      | _ => d.deliver x true n.seq (encodeNotify n.seq n.cls n.items)) s.dev)

/-- Sessions that end by idling (R84). -/
def Session.idles (s : Session) : Bool :=
  match s.transport with
  | .net => true
  | .mctp _ _ => true
  | _ => false

/-- SESSION_IDLE_TIMEOUT (R84). -/
def execSessionIdleTimeout (sid : Nat) (s : State) : Host.Outcome State Fault Refusal :=
  match s.dev.resolve sid with
  | none => .next s
  | some x =>
    if x.idles then
      onDev s ((s.dev.advanceTo (x.lastMsg + sec (s.dev.num Obj.mgmtSessionIdleTimeout))).endSessions (fun y => y.sid == x.sid))
    else .next s

/-- Role that a field-network requester's key gives (R81, R82). -/
def Dev.keyRole (d : Dev) (hash : List Byte) : Option Role :=
  let owner := d.bytes Obj.mgmtOwnerCredential
  let used := fun (b : List Byte) => !b.all (fun x => x == 0)
  if used owner && hash == owner then some .owner
  else if (List.range 8).any (fun e => used (d.bytes (Obj.mgmtObserverCredential e)) && hash == d.bytes (Obj.mgmtObserverCredential e)) then some .observer
  else none

/-- What becomes of an SPDM message over MCTP: the requester's session, opened by its first message, takes it (R84); a fifth EID
is answered with S_BUSY; an endpoint that is not served does not answer. -/
def Dev.spdmMctp (d : Dev) (v eid : Nat) (f : Dev → Session → Dev) : Dev :=
  if !d.endpointServed v then d
  else
    let mine := fun (x : Session) => x.transport == .mctp v eid
    let d := if d.sessions.any mine ∨ 4 ≤ d.mctpSessions v then d else d.openEndpoint v (.mctp v eid)
    match d.sessions.find? mine with
    | none => d.emit (.spdm 4 [])
    | some x => if x.keysSpent then d else f (d.modSes x.sid (fun y => { y with lastMsg := d.clk, msgs := y.msgs + 1 })) x

/-- The key exchange of an endpoint's requester is accepted: its keys are proved, and where the endpoint's role is the owner's,
it has proved to be the owner (R111). -/
def Dev.endpointKeyOk (d : Dev) (v : Nat) (publicKey : List Byte) (proved : Bool) : Bool :=
  (d.endpointRole v).1 != .owner || (proved && d.keyRole (Config.shake256 publicKey 32) == some .owner)

/-- SPDM_KEY_EXCHANGE (R81, R82, R84, R111): over the field network a session of the owner or of an observer, or an SPDM error;
over an endpoint the requester's session is secured and keeps its role. -/
def execSpdmKeyExchange (offer : KeyOffer) (proved : Bool) (s : State) : Host.Outcome State Fault Refusal :=
  let d := s.dev
  match offer.via with
  | .net =>
    if !d.portOn then .next s
    else if 8 ≤ d.sessions.countP Session.isNet || !proved then onDev s (d.emit (.spdm 0 []))
    else
      match d.keyRole (Config.shake256 offer.publicKey 32) with
      | some r => onDev s ((d.openSession .net r 0xFFFF d.holderHalf).emit (.spdm 1 (beBytes 4 d.nextSid)))
      | none => onDev s (d.emit (.spdm 0 []))
  | .mctp v eid =>
    onDev s (d.spdmMctp v eid (fun d x =>
      if d.endpointKeyOk v offer.publicKey proved then
        (d.modSes x.sid (fun y => { y with secured := true, msgs := 0, sent := 0 })).emit (.spdm 1 (beBytes 4 x.sid))
      else d.emit (.spdm 0 [])))
  | .doe v =>
    if !d.endpointServed v then .next s
    else if d.endpointKeyOk v offer.publicKey proved then
      onDev s (({ d with endpoints := tabMod d.endpoints v {} (fun e => { e with doe := true }) } : Dev).emit (.spdm 1 []))
    else onDev s (d.emit (.spdm 0 []))

/-- SPDM_KEY_UPDATE (R81): of a session that SPDM secures. -/
def execSpdmKeyUpdate (sid : Nat) (s : State) : Host.Outcome State Fault Refusal :=
  match s.dev.resolve sid with
  | none => .next s
  | some x =>
    if x.secured then onDev s ((s.dev.modSes x.sid (fun y => { y with msgs := 0, sent := 0, lastMsg := s.dev.clk })).emit (.spdm 2 []))
    else .next s

/-- A block as the DMTF measurement specification records it (R110): index, specification 0x01, size, then the value's type,
with bit 7 set for a raw value, its size and the value (assumption log 83, PRESUMED). -/
def measurementRecord (s : State) (block : Nat) : List Byte :=
  let v := measurement s block
  let body := beBytes 1 ((if 5 ≤ block then 128 else 0) + Config.measurementType block % 128) ++ leBytes 2 v.length ++ v
  beBytes 1 block ++ [0x01] ++ leBytes 2 body.length ++ body

/-- The blocks that a GET_MEASUREMENTS operation asks for: 0 their number, 0xFF all of them, else one. -/
def measured (s : State) (block : Nat) : Option (List Byte) :=
  if block = 0 then some [8]
  else if block = 0xFF then some ((List.range 8).flatMap (fun b => measurementRecord s (b + 1)))
  else if block ≤ 8 then some (measurementRecord s block)
  else none

/-- The answer of GET_MEASUREMENTS: the blocks, signed with the identity key over blocks and nonce. -/
def measuredAnswer (s : State) (block : Nat) (nonce : List Byte) : Output :=
  match measured s block with
  | some b => .spdm 3 (b ++ Config.mlDsaSign (b ++ nonce))
  | none => .spdm 0 []

/-- GET_MEASUREMENTS (R110): over the field network (R81) or an endpoint (R111). -/
def execGetMeasurements (via : Carrier) (ask : MeasurementAsk) (s : State) : Host.Outcome State Fault Refusal :=
  let o := measuredAnswer s ask.block ask.nonce
  match via with
  | .net => if s.dev.served then onDev s (s.dev.emit o) else .next s
  | .mctp v eid => onDev s (s.dev.spdmMctp v eid (fun d _ => d.emit o))
  | .doe v => if s.dev.endpointServed v then onDev s (s.dev.emit o) else .next s

/-- A datagram is accepted: to the port, not fragmented, at most 1,280 bytes (R80). -/
def datagramTaken (u : Datagram) : Bool := u.port == 47590 && !u.fragmented && decide (4 ≤ u.data.length) && decide (u.data.length ≤ 1280)

/-- FBP_CLEAR_DATAGRAM (R80): an accepted datagram with prefix 0x03 is answered in the clear with S_AUTH; one that is not
accepted, or has a reserved prefix, is discarded. -/
def execFbpClearDatagram (u : Datagram) (s : State) : Host.Outcome State Fault Refusal :=
  let msg := u.data.drop 4
  if s.dev.portOn && datagramTaken u && beNat (u.data.take 1) == 3 then
    onDev s (s.dev.emit (.clear (encodeResponse (beNat (slice msg 1 1)) (beNat (slice msg 4 4)) Status.auth [])))
  else .next s

/-- The IPv6 link-local address: the modified EUI-64 identifier of the MAC address (R80). -/
def linkLocal : Nat :=
  0xFE80 * 2 ^ 112 + Nat.xor (field deviceMac 40 8) 2 * 2 ^ 56 + field deviceMac 24 16 * 2 ^ 40 + 0xFFFE * 2 ^ 24 + field deviceMac 0 24

/-- ICMPV6_NEIGHBOUR_DISCOVERY (R80). -/
def execIcmpv6NeighbourDiscovery (target : Nat) (s : State) : Host.Outcome State Fault Refusal :=
  if s.dev.portOn && target == linkLocal then onDev s (s.dev.emit (.icmp 0 (beBytes 6 deviceMac))) else .next s

/-- ICMPV6_ECHO (R80). -/
def execIcmpv6Echo (data : List Byte) (s : State) : Host.Outcome State Fault Refusal :=
  if s.dev.portOn then onDev s (s.dev.emit (.icmp 1 data)) else .next s

/-! Mailbox and MCTP. -/

/-- The mailbox session of a node, opened by its first request. -/
def Dev.mailboxSession (d : Dev) (v : Nat) : Dev := if d.sessions.any (fun s => s.transport == .mailbox v) then d else d.openEndpoint v (.mailbox v)

/-- MB_GO (R83): ignored while BUSY is 1. -/
def execMbGo (node : Fin 64) (request : List Byte) (s : State) : Host.Outcome State Fault Refusal :=
  let d := s.dev
  if !d.endpointServed node || (d.mailbox node).busy then .next s
  else
    let d := (d.mailboxSession node).modMailbox node (fun m => { m with busy := true, reqLen := request.length, req := request })
    match d.sessions.find? (fun x => x.transport == .mailbox node) with
    | some x => .next (takeMessage { s with dev := d } x request)
    | none => .next s

/-- MB_ABORT (R83): a request that executes runs to completion; one that does not is discarded. -/
def execMbAbort (node : Fin 64) (s : State) : Host.Outcome State Fault Refusal :=
  let d := s.dev
  match d.sessions.find? (fun x => x.transport == .mailbox node) with
  | none => .next s
  | some x =>
    if (d.mailbox node).busy && x.exec.isNone then
      onDev s ((d.modSes x.sid (fun y => { y with queue := [] })).modMailbox node (fun m => { m with busy := false }))
    else .next s

/-- Notification slots from one index up to another, around the ring of 16. An unchanged index acknowledges none, also while all
16 are filled, which R83 does not tell from a move over all of them (assumption log 106, DESIGN CHOICE). -/
def slotsBefore (tail target : Nat) : List Nat := (List.range ((target + 16 - tail) % 16)).map (fun i => (tail + i) % 16)

/-- MB_NTF_TAIL (R83): every slot before the new tail is acknowledged. -/
def execMbNtfTail (node : Fin 64) (tail : Fin 16) (s : State) : Host.Outcome State Fault Refusal :=
  let d := s.dev
  let m := d.mailbox node
  let gone := slotsBefore m.tail tail
  let seqs := (m.slots.filter (fun e => gone.contains e.1)).map (fun e => beNat (e.2.take 4))
  let d := d.modMailbox node (fun m => { m with tail := tail, slots := m.slots.filter (fun e => !gone.contains e.1) })
  match d.sessions.find? (fun x => x.transport == .mailbox node) with
  | none => onDev s d
  | some x => onDev s (seqs.foldl (fun (d : Dev) q => d.ackNotice x.sid q) d)

/-- An MCTP session of an endpoint. -/
def Session.ofMctp (v : Nat) (s : Session) : Bool :=
  match s.transport with
  | .mctp n _ => n == v
  | _ => false

/-- SET_ENDPOINT_ID (R84). -/
def execSetEndpointId (node : Fin 64) (eid : Nat) (s : State) : Host.Outcome State Fault Refusal :=
  let d := s.dev.endSessions (Session.ofMctp node)
  onDev s { d with endpoints := tabMod d.endpoints node {} (fun e => { e with eid := eid % 256 }) }

/-- An SPDM session of an endpoint is open, over DOE or MCTP (R111). -/
def Dev.endpointSecured (d : Dev) (v : Nat) : Bool :=
  (tabGet d.endpoints v {}).doe || d.sessions.any (fun x => x.ofMctp v && x.secured)

/-- IDE_KM (R111): over the endpoint's SPDM session, keys of selective IDE stream 0 are programmed, or activated once
programmed. -/
def execIdeKm (node : Fin 64) (activate : Bool) (key : List Byte) (s : State) : Host.Outcome State Fault Refusal :=
  let d := s.dev
  if !d.endpointServed node || !d.endpointSecured node then .next s
  else
    onDev s { d with endpoints := tabMod d.endpoints node {} (fun e =>
      if activate then { e with ideActive := !e.ideKey.isEmpty } else { e with ideKey := key, ideActive := false }) }

/-! The slice command queue. -/

/-- The newest response to a session among what has left the device since a point. -/
def newResponse (old : Nat) (out : List Output) (sid : Nat) : Option (List Byte) :=
  (out.take (out.length - old)).findSome? (fun o =>
    match o with
    | .fbp n b => if n = sid ∧ b.head? = some 0x11 then some b else none
    | _ => none)

/-- The RME writes a DICT response into its buffer and then the CQE (R254). -/
def Dev.dictAnswer (d : Dev) (n : Nat) (w : Wqe) (rsp : List Byte) : Dev :=
  (d.hostStore n w.operand0 rsp).cmdFinish n Status.ok 0 rsp.length

/-- DICT entries whose request has been answered meanwhile are completed. -/
def Dev.dictGoOn (d : Dev) : Dev :=
  d.rme.slices.foldl (fun d e =>
    if !e.2.dictOpen then d
    else
      match d.sessions.find? (fun s => s.transport == .tenant e.1), d.cmdOf e.1 0x30 with
      | some s, some w => if s.exec.isNone then d.dictAnswer e.1 w ((s.cache.head?.map (fun c => c.response)).getD []) else d
      | _, _ => d) d

/-- DICT (R254): one message of the tenant session; its response completes the command. -/
def execDict (n : Fin 4096) (msg : List Byte) (s : State) : Host.Outcome State Fault Refusal :=
  let d := s.dev
  match d.cmdOf n 0x30, d.sessions.find? (fun x => x.transport == .tenant n) with
  | some w, some x =>
    if (d.slice n).dictOpen then .next s
    else if w.len < 16 ∨ 1024 < w.len ∨ field w.operand1 0 16 < 1024 then onDev s (d.cmdFails n Status.range)
    else
      let t := takeMessage s x (msg.take w.len)
      match newResponse d.out.length t.dev.out x.sid with
      | some b => onDev t (t.dev.dictAnswer n w b)
      | none =>
        if (t.dev.ses x.sid).any (fun y => y.exec.isSome) then onDev t (t.dev.modSlice n (fun y => { y with dictOpen := true }))
        else onDev t (t.dev.cmdFinish n Status.ok 0 0)
  | _, _ => .next s

/-- A fabric time unit passes with no command waiting (assumption log 4). -/
def Dev.idle (d : Dev) : Dev := d.passTime.rmeGoOn.dictGoOn

/-! The other half, and JTAG. -/

/-- The owner's view of the dictionary from a half, as policy firmware and the test equipment have it (R405, R389). -/
def ownerView (h : Half) : Session := { sid := 0, transport := .firmware h, role := .owner, scope := 0xFFFF, half := h }

/-- Entries of a half's buffer for responses of the other half (R194). -/
abbrev seamResponses : Nat := 16

/-- Responses that a half waits for. -/
def Dev.seamPending (d : Dev) (h : Half) : Nat := d.sessions.countP (fun x => x.transport == .seam h)

/-- The item of a management request between the halves. -/
def seamItem (write : Bool) (index sub value : Nat) : Item :=
  let ty := ((findRow index sub).map (fun o => o.ty)).getD .u32
  { idx := index, sub := sub, type := ty.code, data := if write then beBytes ty.width value else [] }

/-- A management request between the halves as the responder executes it. -/
def seamExec (write : Bool) (index sub value : Nat) : Exec :=
  { rid := 0, opcode := if write then Opcode.write else Opcode.read, staged := false, todo := [seamItem write index sub value], done := [], wait := .none, raw := [] }

/-- SEAM_MGMT_REQUEST (R194): half h has room for the response, and the other half's responder serves the request, at once
or when what it waits for has happened. Without room nothing is sent. -/
def execSeamMgmtRequest (h : Half) (write : Bool) (index sub entry value : Nat) (s : State) : Host.Outcome State Fault Refusal :=
  if !s.dev.farReachable h.other || decide (seamResponses ≤ s.dev.seamPending h) then .next s
  else
    let sid := s.dev.nextSid
    let d := (s.dev.openSession (.seam h) .owner 0xFFFF h.other).modSes sid (fun x => x.setLoc ⟨index, 1, 0⟩ (.num entry))
    let e := seamExec write index sub value
    .next (runItems sid e e.todo { s with dev := d.park sid e })

/-- The JTAG paths beyond boundary scan are open at a half: by a JTAG unlock there, or by one of the dictionary (R387, R389;
assumption log 118). -/
def Dev.jtagOpen (d : Dev) (h : Half) : Bool := byHalf h d.test.jtagLevelW d.test.jtagLevelE != 0 || d.flag Obj.testUnlockLevel

/-- JTAG_DICT (R389): while the JTAG paths are open, a read of the Crocus restricted set. -/
def execJtagDict (h : Half) (index sub : Nat) (s : State) : Host.Outcome State Fault Refusal :=
  if !s.dev.jtagOpen h then .next s
  else
    let k : Key := ⟨index, sub, 0⟩
    let e : Exec := { rid := 0, opcode := Opcode.read, staged := false, todo := [], done := [], wait := .none, raw := [] }
    let i : Item := { idx := index, sub := sub, type := 0, data := [] }
    if !inCrocusSet k false then onDev s (s.dev.emit (.jtag h (encodeItem (answerItem i Status.state))))
    else
      match readItem s (ownerView h) e i with
      | (t, .done x) => onDev t (t.dev.emit (.jtag h (encodeItem x)))
      | (t, .wait _) => onDev t (t.dev.emit (.jtag h (encodeItem (answerItem i Status.farTimeout))))

end Sys2Proof.Machine
end

