-- ==== Sys2Proof/Machine/HostView.lean ====
section
/-!
DEFINITION. Sys2Proof/Machine/HostView.lean: a host's configuration requests to bound functions (R204), completions and
waits of tracked requests (R211 to R214).
-/
namespace Sys2Proof.Machine

/-- The device answers a host's configuration request itself (R204). -/
def Dev.answerCfg (d : Dev) (v requester tag completer : Nat) (st : CplStatus) (data : List Byte) : Dev :=
  let p := d.upPort v
  d.sendOwn localMgmt (d.endpointHalf v) p (Half.ofPort p) (d.hostClass v) (some v)
    { body := .tlp { type := .completion, requester := requester, tag := tag, completer := completer, status := st, data := data, len := data.length, byteCount := data.length, headerBytes := 12 } }

/-- The configuration request that reaches a function: its register, and the value and mask of the bits written. -/
def cfgTlp (rid requester tag : Nat) (r : FnReg) (w : Option (Nat × Nat)) : Tlp :=
  { type := if w.isSome then .cfgWrite else .cfgRead, target := rid, len := 4, requester := requester, tag := tag, cfg := some (r, w),
    data := match w with
      | some x => leBytes 4 x.1
      | none => [] }

/-- A host's configuration request to a bound function ends without it (R304, R310). -/
def Dev.endCfg (d : Dev) (b : Nat) (r : FnReg) (w : Option (Nat × Nat)) (requester tag : Nat) (c : EndCause) : Dev :=
  let v := d.num (Obj.bindHost b)
  let h := d.endpointHalf v
  d.endFrame h (d.upPort v) h (d.hostClass v) (some v) { body := .tlp (cfgTlp (d.num (Obj.bindRid b)) requester tag r w) } c (d.trackCompleter b)

/-- A host's configuration request goes to the real function as a tracked request (R204, R211): from its upstream port,
whose credits it returned when it arrived, into the queue of the function's port, where it takes its entry. -/
def Dev.trackedCfg (d : Dev) (b : Nat) (r : FnReg) (w : Option (Nat × Nat)) (requester tag : Nat) : Dev :=
  let v := d.num (Obj.bindHost b)
  let x := cfgTlp (d.num (Obj.bindRid b)) requester tag r w
  let f : Frame := { body := .tlp x }
  let h := d.endpointHalf v
  match d.portOfBinding b with
  | none => d.endCfg b r w requester tag .unsupported
  | some p =>
    match d.unreachable { inPort := d.upPort v, inHalf := h, cls := d.hostClass v, facts := ⟨false, false⟩ } p (Half.ofPort p) with
    | some c => d.endCfg b r w requester tag c
    | none =>
      let t := { trackOf (some v) 0 b (d.hostClass v) 0xFFFF x with due := 4, reg := some (r, w.map (fun y => y.1)) }
      let q := d.newFrame (d.upPort v) h p (Half.ofPort p) (d.hostClass v) (some v) f .pool
      d.sendHeld h { q with qcls := d.queueClass p q.cls q.node f, credited := false, bind := some b, track := some t }

/-- A write of a host-view BAR register: the low half of a listed BAR, or the high half of the 64-bit one below it. -/
def Dev.writeViewBar (d : Dev) (b n v : Nat) : Dev :=
  let set := fun (k off : Nat) => d.modView b (fun x => { x with bars := tabSet id x.bars k (setField (tabGet x.bars k 0) off 32 v) })
  if (d.realBar b n).isSome then (set n 0).refreshMap
  else if 1 ≤ n ∧ (d.realBar b (n - 1)).any RealBar.wide then (set (n - 1) 32).refreshMap
  else d

/-- What a host reads of a host-view BAR register, with the type bits of the real BAR (assumption log 95); an I/O or absent
BAR reads 0. -/
def Dev.readViewBar (d : Dev) (b n : Nat) : Nat :=
  match d.realBar b n with
  | some r => setField (field (d.viewBase b r) 0 32) 0 4 r.low
  | none => if 1 ≤ n then
      match (d.realBar b (n - 1)).filter RealBar.wide with
      | some r => field (d.viewBase b r) 32 32
      | none => 0
    else 0

/-- A host's configuration request to a bound function (R204): trapped registers are answered by the device, every other
access reaches the function as a tracked request. A register of a hidden capability reads 0. -/
def Dev.hostConfig (d : Dev) (b : Nat) (r : FnReg) (write : Option Nat) (requester tag : Nat) : Dev :=
  let v := d.num (Obj.bindHost b)
  match d.hostRid b with
  | none => d.endCfg b r (write.map (fun n => (n, 0xFFFFFFFF))) requester tag .unsupported
  | some rid =>
    if d.dpcSet (d.synthOf b) then d.endCfg b r (write.map (fun n => (n, 0xFFFFFFFF))) requester tag (.dpc (d.synthOf b)) else
    let reply := fun (d : Dev) (n : Nat) => d.answerCfg v requester tag rid .sc (leBytes 4 n)
    let done := fun (d : Dev) => d.answerCfg v requester tag rid .sc []
    let real := fun (d : Dev) (w : Option (Nat × Nat)) => d.trackedCfg b r w requester tag
    match r, write with
    | .vendorDevice, none => if d.num (Obj.bindKind b) = 3 then reply d (d.fnInfo b).idWord else real d none
    | .vendorDevice, some n => if d.num (Obj.bindKind b) = 3 then done d else real d (some (n, 0xFFFFFFFF))
    | .command, none => real d none
    | .command, some n => real d (some (n, 0xFFFC))
    | .headerType, none => real d none
    | .headerType, some n => real d (some (n, 0x7F))
    | .bar n, none => reply d (d.readViewBar b n)
    | .bar n, some x => done (d.writeViewBar b n x)
    | .romBar, none => reply d 0
    | .romBar, some _ => done d
    | .interruptLine, none => reply d (d.view b).intLine
    | .interruptLine, some n => done (d.modView b (fun x => { x with intLine := n % 256 }))
    | .deviceControl, none => real d none
    | .deviceControl, some n =>
      if bitOf n 15 && d.pfShared b true then
        (real d (some (n, 0x0F1F))).logEvent (((d.portOfBinding b).map Half.ofPort).getD .west) Scope.node v 1 0x0401
      else real d (some (n, 0x8F1F))
    | .linkControl, none => real d none
    | .linkControl, some _ => done d
    | .sriovCap, none => if d.pfShared b false then reply d 0 else real d none
    | .sriovCap, some n => if d.pfShared b false then done d else real d (some (n, 0xFFFFFFFF))
    | .rebarCap, none => reply d 0
    | .rebarCap, some _ => done d
    | .other _, none => real d none
    | .other _, some n => real d (some (n, 0xFFFFFFFF))

/-- HOST_CONFIG_REQUEST (R204, R211). -/
def execHostConfigRequest (b : Fin 8192) (r : FnReg) (write : Option Nat) (requester tag : Nat) (s : State) : Host.Outcome State Fault Refusal :=
  if s.dev.num (Obj.bindRid b) ≠ 0 ∧ s.dev.isBound b then onDev s (s.dev.hostConfig b r write requester tag) else .next s

/-- PROXY_COMPLETION (R212): a completion to a proxy RID at the port of the function that it comes from. -/
def execProxyCompletion (t : Tlp) (s : State) : Host.Outcome State Fault Refusal :=
  let d := s.dev
  let f : Frame := { body := .tlp t }
  match d.portOfBus (t.completer / 256) with
  | none => onDev s (d.inc64 Obj.fabricCtlLate)
  | some p =>
    let a : Arrival := { inPort := p, inHalf := Half.ofPort p, cls := d.classOf (.port (Fin.ofNat 128 p)) f, facts := ⟨false, false⟩ }
    onDev s ((d.proxyArrives a t f).getD d)

/-- TRACK_TIMEOUT (R213): `fabric.ctl.track_timeout` has elapsed since an entry's issue. -/
def execTrackTimeout (h : Half) (entry : Fin 262144) (s : State) : Host.Outcome State Fault Refusal :=
  let d := s.dev
  match (d.track h).find? (fun t => t.entry == entry.val) with
  | none => .next s
  | some t =>
    let d := (d.advanceTo (t.issued + us (d.num Obj.fabricCtlTrackTimeout))).endTrack h t false
    onDev s (d.logEvent h Scope.node (t.host.getD (d.num (Obj.bindHost t.binding))) 1 0x0406)

/-- TRACK_WAIT_RESUME (R214): an entry has become free, and the oldest request of the half that fits takes it. -/
def execTrackWaitResume (h : Half) (s : State) : Host.Outcome State Fault Refusal :=
  let d := s.dev
  match (d.buf h).frames.findSome? (fun q => q.track.bind (fun t => (d.takeTrack h q.frame t).map (fun r => (q.id, r.1, r.2)))) with
  | none => .next s
  | some (id', f, d) =>
    onDev s (d.modBuf h (fun b => { b with frames := b.frames.map (fun q => if q.id = id' then { q with frame := f, track := none } else q) }))

end Sys2Proof.Machine
end

