-- ==== Sys2Proof/Machine/ObjectRows.lean ====
section
/-!
DEFINITION. Sys2Proof/Machine/ObjectRows.lean: the rows of the table that are a session's write of one object. Each sends
the WRITE request that spells it, and the object's own rule gives it its effect (R53, R54, R74).
-/
namespace Sys2Proof.Machine

/-! Boot, images and the rake. -/

/-- HEALTHY_DECLARE (R97). -/
def execHealthyDeclare (sid rid : Nat) (s : State) : Host.Outcome State Fault Refusal :=
  .next (writeObject s sid rid 0x1020 3 .u8 1)

/-- WARM_RESET_REQUEST (R89). -/
def execWarmResetRequest (sid rid : Nat) (s : State) : Host.Outcome State Fault Refusal :=
  .next (writeObject s sid rid 0x1020 6 .u8 1)

/-- CROCUS_FORCE (R102). -/
def execCrocusForce (sid rid : Nat) (s : State) : Host.Outcome State Fault Refusal :=
  .next (writeObject s sid rid 0x1030 5 .u8 1)

/-- CROCUS_EXIT (R102). -/
def execCrocusExit (sid rid : Nat) (s : State) : Host.Outcome State Fault Refusal :=
  .next (writeObject s sid rid 0x1030 6 .u8 1)

/-- CROCUS_EXIT_DEFAULTS (R102). -/
def execCrocusExitDefaults (sid rid : Nat) (s : State) : Host.Outcome State Fault Refusal :=
  .next (writeObject s sid rid 0x1030 6 .u8 2)

/-- OTP_COMMIT (R95). -/
def execOtpCommit (sid rid : Nat) (s : State) : Host.Outcome State Fault Refusal :=
  .next (writeObject s sid rid 0xB010 2 .u8 1)

/-- OTP_REVOKE (R95). -/
def execOtpRevoke (sid rid : Nat) (slots : Nat) (s : State) : Host.Outcome State Fault Refusal :=
  .next (writeObject s sid rid 0xB010 3 .u8 slots)

/-- RAKE_HANDOVER (R106). -/
def execRakeHandover (sid rid : Nat) (s : State) : Host.Outcome State Fault Refusal :=
  .next (writeObject s sid rid 0xB040 3 .u8 1)

/-- PAD_HOLD_RELEASE (R42). -/
def execPadHoldRelease (sid rid : Nat) (groups : Nat) (s : State) : Host.Outcome State Fault Refusal :=
  .next (writeObject s sid rid 0x9010 2 .u32 groups)

/-! Lanes. -/

/-- LANE_CAL_BACKGROUND (R128). -/
def execLaneCalBackground (sid rid : Nat) (l : Fin 256) (s : State) : Host.Outcome State Fault Refusal :=
  .next (writeObject s sid rid (0x2200 + l) 9 .u8 1)

/-- LANE_CAL_FULL (R128). -/
def execLaneCalFull (sid rid : Nat) (l : Fin 256) (s : State) : Host.Outcome State Fault Refusal :=
  .next (writeObject s sid rid (0x2200 + l) 9 .u8 2)

/-- LANE_BIST (R128). -/
def execLaneBist (sid rid : Nat) (l : Fin 256) (s : State) : Host.Outcome State Fault Refusal :=
  .next (writeObject s sid rid (0x2200 + l) 9 .u8 3)

/-- LANE_CAL_FULL_FORCED (R129). -/
def execLaneCalFullForced (sid rid : Nat) (l : Fin 256) (s : State) : Host.Outcome State Fault Refusal :=
  .next (writeObject s sid rid (0x2200 + l) 9 .u8 0x82)

/-- LANE_BIST_FORCED (R129). -/
def execLaneBistForced (sid rid : Nat) (l : Fin 256) (s : State) : Host.Outcome State Fault Refusal :=
  .next (writeObject s sid rid (0x2200 + l) 9 .u8 0x83)

/-- TEST_LOOPBACK_SET (R131). -/
def execTestLoopbackSet (sid rid : Nat) (l : Fin 256) (code : Nat) (s : State) : Host.Outcome State Fault Refusal :=
  .next (writeEntry s sid rid 0xC010 l 3 .u8 code)

/-- TEST_GEN_SET (R132). -/
def execTestGenSet (sid rid : Nat) (l : Fin 256) (code : Nat) (s : State) : Host.Outcome State Fault Refusal :=
  .next (writeEntry s sid rid 0xC010 l 5 .u8 code)

/-- TEST_RATE_SET (R133). -/
def execTestRateSet (sid rid : Nat) (l : Fin 256) (code : Nat) (s : State) : Host.Outcome State Fault Refusal :=
  .next (writeEntry s sid rid 0xC010 l 7 .u8 code)

/-- TEST_CHK_SET (R134). -/
def execTestChkSet (sid rid : Nat) (l : Fin 256) (code : Nat) (s : State) : Host.Outcome State Fault Refusal :=
  .next (writeEntry s sid rid 0xC010 l 9 .u8 code)

/-- A value of `test.lane.inject`: mode, k and L (R135). -/
def injectWord (mode k len : Nat) : Nat := mode * 2 ^ 30 + k * 2 ^ 24 + len * 2 ^ 16

/-- TEST_INJECT_SINGLE (R135). -/
def execTestInjectSingle (sid rid : Nat) (l : Fin 256) (s : State) : Host.Outcome State Fault Refusal :=
  .next (writeEntry s sid rid 0xC010 l 8 .u32 (injectWord 1 0 0))

/-- TEST_INJECT_PERIODIC (R135). -/
def execTestInjectPeriodic (sid rid : Nat) (l : Fin 256) (k : Nat) (s : State) : Host.Outcome State Fault Refusal :=
  .next (writeEntry s sid rid 0xC010 l 8 .u32 (injectWord 2 k 0))

/-- TEST_INJECT_BURST (R135). -/
def execTestInjectBurst (sid rid : Nat) (l : Fin 256) (len : Nat) (s : State) : Host.Outcome State Fault Refusal :=
  .next (writeEntry s sid rid 0xC010 l 8 .u32 (injectWord 3 0 len))

/-! Ports and the fabric. -/

/-- PORT_RETRAIN (R148). -/
def execPortRetrain (sid rid : Nat) (p : Fin 128) (s : State) : Host.Outcome State Fault Refusal :=
  .next (writeObject s sid rid (0x2000 + p) 0x0E .u8 1)

/-- PORT_HOT_RESET (R140). -/
def execPortHotReset (sid rid : Nat) (p : Fin 128) (s : State) : Host.Outcome State Fault Refusal :=
  .next (writeObject s sid rid (0x2000 + p) 0x0E .u8 2)

/-- PORT_LINK_DISABLE (R140). -/
def execPortLinkDisable (sid rid : Nat) (p : Fin 128) (s : State) : Host.Outcome State Fault Refusal :=
  .next (writeObject s sid rid (0x2000 + p) 0x0E .u8 3)

/-- FABRIC_CFG_READ (R199). -/
def execFabricCfgRead (sid rid : Nat) (s : State) : Host.Outcome State Fault Refusal :=
  .next (writeObject s sid rid 0x3102 5 .u8 1)

/-- FABRIC_CFG_WRITE (R199). -/
def execFabricCfgWrite (sid rid : Nat) (s : State) : Host.Outcome State Fault Refusal :=
  .next (writeObject s sid rid 0x3102 5 .u8 2)

/-- FPORT_READY_WRITE (R198); `bars` is what the reads behind the port find. -/
def execFportReadyWrite (sid rid : Nat) (p : Fin 128) (bars : List (Nat × List RealBar)) (s : State) : Host.Outcome State Fault Refusal :=
  .next (writeEntry { s with dev := { s.dev with barsFound := bars } } sid rid 0x3181 p 5 .bool 1)

/-- BFL_FULL_RESET (R240). -/
def execBflFullReset (sid rid : Nat) (i : Fin 16) (s : State) : Host.Outcome State Fault Refusal :=
  .next (writeObject s sid rid (0x3400 + i) 0x0A .u8 1)

/-- BFL_FORCED_RESET (R240). -/
def execBflForcedReset (sid rid : Nat) (i : Fin 16) (s : State) : Host.Outcome State Fault Refusal :=
  .next (writeObject s sid rid (0x3400 + i) 0x0A .u8 0x81)

/-- BFL_EVACUATE (R243). -/
def execBflEvacuate (sid rid : Nat) (i : Fin 16) (s : State) : Host.Outcome State Fault Refusal :=
  .next (writeObject s sid rid (0x3400 + i) 0x0A .u8 2)

/-! Slices, shapers and records. -/

/-- SLICE_QUIESCE (R248). -/
def execSliceQuiesce (sid rid : Nat) (n : Fin 4096) (s : State) : Host.Outcome State Fault Refusal :=
  .next (writeObject s sid rid (0x6000 + n) 0x0C .u8 1)

/-- SLICE_RESUME (R248). -/
def execSliceResume (sid rid : Nat) (n : Fin 4096) (s : State) : Host.Outcome State Fault Refusal :=
  .next (writeObject s sid rid (0x6000 + n) 0x0C .u8 2)

/-- SLICE_RELEASE (R248). -/
def execSliceRelease (sid rid : Nat) (n : Fin 4096) (s : State) : Host.Outcome State Fault Refusal :=
  .next (writeObject s sid rid (0x6000 + n) 0x0C .u8 3)

/-- SHAPER_RATE_WRITE (R297). -/
def execShaperRateWrite (sid rid : Nat) (h : Half) (i : Fin 8192) (rate : Nat) (s : State) : Host.Outcome State Fault Refusal :=
  .next (writeEntry s sid rid (0x4200 + h.code) i 3 .u32 rate)

/-- SHAPER_BURST_WRITE (R297). -/
def execShaperBurstWrite (sid rid : Nat) (h : Half) (i : Fin 8192) (burst : Nat) (s : State) : Host.Outcome State Fault Refusal :=
  .next (writeEntry s sid rid (0x4200 + h.code) i 4 .u32 burst)

/-- ALERT_ACK (R303). -/
def execAlertAck (sid rid : Nat) (seq : Nat) (s : State) : Host.Outcome State Fault Refusal :=
  .next (writeObject s sid rid 0xA000 6 .u32 seq)

/-- PLOG_CLEAR (R301). -/
def execPlogClear (sid rid : Nat) (s : State) : Host.Outcome State Fault Refusal :=
  .next (writeObject s sid rid 0xA000 7 .u8 1)

/-! Slots and the sideband. -/

/-- SLOT_ENABLE_WRITE (R330). -/
def execSlotEnableWrite (sid rid : Nat) (k : Fin 32) (v : Nat) (s : State) : Host.Outcome State Fault Refusal :=
  .next (writeObject s sid rid (0x7400 + k) 2 .u8 v)

/-- SLOT_CLEAR_FAULTS (R331). -/
def execSlotClearFaults (sid rid : Nat) (k : Fin 32) (s : State) : Host.Outcome State Fault Refusal :=
  .next (writeObject s sid rid (0x7400 + k) 0x15 .u8 1)

/-- SLOT_CLEAR_ENERGY (R336). -/
def execSlotClearEnergy (sid rid : Nat) (k : Fin 32) (s : State) : Host.Outcome State Fault Refusal :=
  .next (writeObject s sid rid (0x7400 + k) 0x15 .u8 2)

/-- SB_VALUE_WRITE (R349). -/
def execSbValueWrite (sid rid : Nat) (w : Fin 256) (v : Nat) (s : State) : Host.Outcome State Fault Refusal :=
  .next (writeEntry s sid rid 0x7521 w 3 .u32 v)

/-- SB_FAR_READ (R350). -/
def execSbFarRead (sid rid : Nat) (s : State) : Host.Outcome State Fault Refusal :=
  .next (writeObject s sid rid 0x7522 7 .u8 1)

/-- SB_FAR_WRITE (R350). -/
def execSbFarWrite (sid rid : Nat) (s : State) : Host.Outcome State Fault Refusal :=
  .next (writeObject s sid rid 0x7522 7 .u8 2)

/-- SB_STRAY_CLEAR (R351). -/
def execSbStrayClear (sid rid : Nat) (s : State) : Host.Outcome State Fault Refusal :=
  .next (writeObject s sid rid 0x7524 3 .u8 1)

/-! Power. -/

/-- PWR_RUN_REQUEST (R355). -/
def execPwrRunRequest (sid rid : Nat) (s : State) : Host.Outcome State Fault Refusal :=
  .next (writeObject s sid rid 0x9000 2 .u8 0)

/-- PWR_IDLE_ARM (R354). -/
def execPwrIdleArm (sid rid : Nat) (s : State) : Host.Outcome State Fault Refusal :=
  .next (writeObject s sid rid 0x9000 2 .u8 1)

/-- PWR_SLEEP_REQUEST (R355). -/
def execPwrSleepRequest (sid rid : Nat) (s : State) : Host.Outcome State Fault Refusal :=
  .next (writeObject s sid rid 0x9000 2 .u8 2)

/-- PWR_DEEP_SLEEP_REQUEST (R355). -/
def execPwrDeepSleepRequest (sid rid : Nat) (s : State) : Host.Outcome State Fault Refusal :=
  .next (writeObject s sid rid 0x9000 2 .u8 3)

/-- PWR_OFF_REQUEST (R355). -/
def execPwrOffRequest (sid rid : Nat) (s : State) : Host.Outcome State Fault Refusal :=
  .next (writeObject s sid rid 0x9000 2 .u8 4)

/-- PER_MEASURE_NOW (R368). -/
def execPerMeasureNow (sid rid : Nat) (s : State) : Host.Outcome State Fault Refusal :=
  .next (writeObject s sid rid 0x9100 0x13 .u8 1)

/-- PER_REPLAN_NOW (R371). -/
def execPerReplanNow (sid rid : Nat) (s : State) : Host.Outcome State Fault Refusal :=
  .next (writeObject s sid rid 0x9100 0x13 .u8 2)

/-- PER_RETUNE_SEAM (R373). -/
def execPerRetuneSeam (sid rid : Nat) (s : State) : Host.Outcome State Fault Refusal :=
  .next (writeObject s sid rid 0x9100 0x13 .u8 3)

/-! Counters, samples and the harvest. -/

/-- PMU_SNAP (R378). -/
def execPmuSnap (sid rid : Nat) (s : State) : Host.Outcome State Fault Refusal :=
  .next (writeObject s sid rid 0x8000 5 .u8 1)

/-- PMU_CTR_CLEAR (R377). -/
def execPmuCtrClear (sid rid v : Nat) (s : State) : Host.Outcome State Fault Refusal :=
  .next (writeEntry s sid rid 0x8010 v 8 .u8 1)

/-- SAMPLING_ENABLE (R382). -/
def execSamplingEnable (sid rid : Nat) (on : Bool) (s : State) : Host.Outcome State Fault Refusal :=
  .next (writeObject s sid rid 0x8100 1 .bool (b2n on))

/-- HARVEST_ENABLE_WRITE (R386). -/
def execHarvestEnableWrite (sid rid : Nat) (on : Bool) (s : State) : Host.Outcome State Fault Refusal :=
  .next (writeObject s sid rid 0x5100 1 .bool (b2n on))

/-- HARVEST_CLEAR (R386). -/
def execHarvestClear (sid rid : Nat) (s : State) : Host.Outcome State Fault Refusal :=
  .next (writeObject s sid rid 0x5100 7 .u8 1)

/-! Test unlock and perturbation. -/

/-- TEST_UNLOCK_END (R388). -/
def execTestUnlockEnd (sid rid : Nat) (s : State) : Host.Outcome State Fault Refusal :=
  .next (writeObject s sid rid 0xC000 1 .u8 0)

/-- TEST_UNLOCK_LEVEL1 (R387). -/
def execTestUnlockLevel1 (sid rid : Nat) (s : State) : Host.Outcome State Fault Refusal :=
  .next (writeObject s sid rid 0xC000 1 .u8 1)

/-- TEST_UNLOCK_LEVEL2 (R387). -/
def execTestUnlockLevel2 (sid rid : Nat) (s : State) : Host.Outcome State Fault Refusal :=
  .next (writeObject s sid rid 0xC000 1 .u8 2)

/-- TEST_UNLOCK_RESPONSE (R387): the close of a transfer that carried key and signature; a session with another transfer
open is answered with S_BUSY (R78). The handle is one that the device would have given (assumption log 1). -/
def execTestUnlockResponse (sid rid : Nat) (key signature : List Byte) (s : State) : Host.Outcome State Fault Refusal :=
  let data := key ++ signature
  let h := s.dev.free % 2 ^ 16
  let b : Blob := ⟨h, ⟨0xC000, 3, 0⟩, true, data.length, data, s.dev.clk⟩
  let item : DoneItem := ⟨0xC000, 3, ObjType.blob.code, 0, beBytes 2 h ++ zeros 2 ++ Config.shake256 data 32⟩
  match s.dev.resolve sid with
  | none => .next s
  | some x =>
    if x.blob.isSome then .next { s with dev := s.dev.answerNow x Opcode.blobClose rid Status.busy }
    else
      .next (receive { s with dev := s.dev.bump.modSes x.sid (fun y => { y with blob := some b }) } sid
        (encodeFbp 0 Opcode.blobClose rid 0 1 (encodeItem item)))

/-- PERT_ARM (R390). -/
def execPertArm (sid rid : Nat) (e : Fin 32) (s : State) : Host.Outcome State Fault Refusal :=
  .next (writeEntry s sid rid 0xC020 e 9 .bool 1)

/-- PERT_DISARM (R390). -/
def execPertDisarm (sid rid : Nat) (e : Fin 32) (s : State) : Host.Outcome State Fault Refusal :=
  .next (writeEntry s sid rid 0xC020 e 9 .bool 0)

end Sys2Proof.Machine
end

