-- ==== Sys2Proof/Machine/Dispatch.lean ====
section
/-!
DEFINITION. Sys2Proof/Machine/Dispatch.lean: one arm per command, each one direct call of its meaning.
-/
namespace Sys2Proof.Machine

/-- The effect of a command on everything but the queue. -/
def exec (i : Instr) (s : State) : Host.Outcome State Fault Refusal :=
  match i with
  | .vao18Ramp => Sys2Proof.Machine.execVao18Ramp s
  | .aoCrystalStart => Sys2Proof.Machine.execAoCrystalStart s
  | .porstNFall lowNs => Sys2Proof.Machine.execPorstNFall lowNs s
  | .porstNRise => Sys2Proof.Machine.execPorstNRise s
  | .strapSample s1 s2 s3 => Sys2Proof.Machine.execStrapSample s1 s2 s3 s
  | .halvesRelease => Sys2Proof.Machine.execHalvesRelease s
  | .romPass h => Sys2Proof.Machine.execRomPass h s
  | .romSelfcheckRetry h passed => Sys2Proof.Machine.execRomSelfcheckRetry h passed s
  | .rakeClaim h => Sys2Proof.Machine.execRakeClaim h s
  | .rakePrefDelayExpiry => Sys2Proof.Machine.execRakePrefDelayExpiry s
  | .rakeClaimTimeout => Sys2Proof.Machine.execRakeClaimTimeout s
  | .paDieUnreachable h => Sys2Proof.Machine.execPaDieUnreachable h s
  | .seamTrained d m => Sys2Proof.Machine.execSeamTrained d m s
  | .seamTrainTimeout => Sys2Proof.Machine.execSeamTrainTimeout s
  | .qdrTrained stack => Sys2Proof.Machine.execQdrTrained stack s
  | .qdrTrainTimeout stack => Sys2Proof.Machine.execQdrTrainTimeout stack s
  | .imageVerified h slot img => Sys2Proof.Machine.execImageVerified h slot img s
  | .firmwareStart => Sys2Proof.Machine.execFirmwareStart s
  | .bootStageTimeout st h => Sys2Proof.Machine.execBootStageTimeout st h s
  | .bootLaneCalibration failed => Sys2Proof.Machine.execBootLaneCalibration failed s
  | .healthyDeclare sid rid => Sys2Proof.Machine.execHealthyDeclare sid rid s
  | .watchdogKick h => Sys2Proof.Machine.execWatchdogKick h s
  | .watchdogExpiry h => Sys2Proof.Machine.execWatchdogExpiry h s
  | .clusterRejoin h => Sys2Proof.Machine.execClusterRejoin h s
  | .warmResetRequest sid rid => Sys2Proof.Machine.execWarmResetRequest sid rid s
  | .crocusForce sid rid => Sys2Proof.Machine.execCrocusForce sid rid s
  | .crocusExit sid rid => Sys2Proof.Machine.execCrocusExit sid rid s
  | .crocusExitDefaults sid rid => Sys2Proof.Machine.execCrocusExitDefaults sid rid s
  | .otpCommit sid rid => Sys2Proof.Machine.execOtpCommit sid rid s
  | .otpRevoke sid rid slots => Sys2Proof.Machine.execOtpRevoke sid rid slots s
  | .rakeHandover sid rid => Sys2Proof.Machine.execRakeHandover sid rid s
  | .holderDemote h => Sys2Proof.Machine.execHolderDemote h s
  | .farTimeout sid => Sys2Proof.Machine.execFarTimeout sid s
  | .read sid msg => Sys2Proof.Machine.execRead sid msg s
  | .write sid msg => Sys2Proof.Machine.execWrite sid msg s
  | .describe sid msg => Sys2Proof.Machine.execDescribe sid msg s
  | .blobOpen sid msg => Sys2Proof.Machine.execBlobOpen sid msg s
  | .blobData sid msg => Sys2Proof.Machine.execBlobData sid msg s
  | .blobClose sid msg => Sys2Proof.Machine.execBlobClose sid msg s
  | .blobAbort sid msg => Sys2Proof.Machine.execBlobAbort sid msg s
  | .blobTimeout sid => Sys2Proof.Machine.execBlobTimeout sid s
  | .ping sid msg => Sys2Proof.Machine.execPing sid msg s
  | .notifyAck sid requestId => Sys2Proof.Machine.execNotifyAck sid requestId s
  | .fbpResponseDiscard sid msg => Sys2Proof.Machine.execFbpResponseDiscard sid msg s
  | .requestExecute sid => Sys2Proof.Machine.execRequestExecute sid s
  | .objectWrite sid rid index sub type data => Sys2Proof.Machine.execObjectWrite sid rid index sub type data s
  | .cfgCommit sid rid => Sys2Proof.Machine.execCfgCommit sid rid s
  | .cfgDiscard sid rid => Sys2Proof.Machine.execCfgDiscard sid rid s
  | .cfgCheck sid rid => Sys2Proof.Machine.execCfgCheck sid rid s
  | .commitStart => Sys2Proof.Machine.execCommitStart s
  | .commitWaitTimeout sid => Sys2Proof.Machine.execCommitWaitTimeout sid s
  | .commitConfirm part status found => Sys2Proof.Machine.execCommitConfirm part status found s
  | .commitPrepareTimeout part => Sys2Proof.Machine.execCommitPrepareTimeout part s
  | .commitApply => Sys2Proof.Machine.execCommitApply s
  | .storeWriteTimeout => Sys2Proof.Machine.execStoreWriteTimeout s
  | .commitLockWrite sid rid v => Sys2Proof.Machine.execCommitLockWrite sid rid v s
  | .ownerCredentialWrite sid rid hash => Sys2Proof.Machine.execOwnerCredentialWrite sid rid hash s
  | .notifyResend sid => Sys2Proof.Machine.execNotifyResend sid s
  | .sessionIdleTimeout sid => Sys2Proof.Machine.execSessionIdleTimeout sid s
  | .spdmKeyExchange offer proved => Sys2Proof.Machine.execSpdmKeyExchange offer proved s
  | .spdmKeyUpdate sid => Sys2Proof.Machine.execSpdmKeyUpdate sid s
  | .getMeasurements via ask => Sys2Proof.Machine.execGetMeasurements via ask s
  | .fbpClearDatagram u => Sys2Proof.Machine.execFbpClearDatagram u s
  | .icmpv6NeighbourDiscovery target => Sys2Proof.Machine.execIcmpv6NeighbourDiscovery target s
  | .icmpv6Echo data => Sys2Proof.Machine.execIcmpv6Echo data s
  | .mbGo node request => Sys2Proof.Machine.execMbGo node request s
  | .mbAbort node => Sys2Proof.Machine.execMbAbort node s
  | .mbNtfTail node tail => Sys2Proof.Machine.execMbNtfTail node tail s
  | .setEndpointId node eid => Sys2Proof.Machine.execSetEndpointId node eid s
  | .padHoldRelease sid rid groups => Sys2Proof.Machine.execPadHoldRelease sid rid groups s
  | .thermalTrip sensor celsius => Sys2Proof.Machine.execThermalTrip sensor celsius s
  | .vpaLow => Sys2Proof.Machine.execVpaLow s
  | .vpaRecover => Sys2Proof.Machine.execVpaRecover s
  | .laneLolAssert l => Sys2Proof.Machine.execLaneLolAssert l s
  | .laneLolClear l => Sys2Proof.Machine.execLaneLolClear l s
  | .laneLosAssert l announced => Sys2Proof.Machine.execLaneLosAssert l announced s
  | .laneLosDeassert l => Sys2Proof.Machine.execLaneLosDeassert l s
  | .laneRateChange p rate => Sys2Proof.Machine.execLaneRateChange p rate s
  | .laneSleepChange l d level => Sys2Proof.Machine.execLaneSleepChange l d level s
  | .laneWake l d => Sys2Proof.Machine.execLaneWake l d s
  | .bgcalPeriodExpiry l => Sys2Proof.Machine.execBgcalPeriodExpiry l s
  | .bgcalTempTrigger st => Sys2Proof.Machine.execBgcalTempTrigger st s
  | .freeSamplerGrant l => Sys2Proof.Machine.execFreeSamplerGrant l s
  | .samplerSwap l agreed => Sys2Proof.Machine.execSamplerSwap l agreed s
  | .bgcalPassEnd l ok => Sys2Proof.Machine.execBgcalPassEnd l ok s
  | .eyeScan l height width => Sys2Proof.Machine.execEyeScan l height width s
  | .marginCommand l c => Sys2Proof.Machine.execMarginCommand l c s
  | .laneCalBackground sid rid l => Sys2Proof.Machine.execLaneCalBackground sid rid l s
  | .laneCalFull sid rid l => Sys2Proof.Machine.execLaneCalFull sid rid l s
  | .laneBist sid rid l => Sys2Proof.Machine.execLaneBist sid rid l s
  | .laneCalFullForced sid rid l => Sys2Proof.Machine.execLaneCalFullForced sid rid l s
  | .laneBistForced sid rid l => Sys2Proof.Machine.execLaneBistForced sid rid l s
  | .laneCalEnd l o => Sys2Proof.Machine.execLaneCalEnd l o s
  | .testLoopbackSet sid rid l code => Sys2Proof.Machine.execTestLoopbackSet sid rid l code s
  | .testGenSet sid rid l code => Sys2Proof.Machine.execTestGenSet sid rid l code s
  | .testRateSet sid rid l code => Sys2Proof.Machine.execTestRateSet sid rid l code s
  | .testChkSet sid rid l code => Sys2Proof.Machine.execTestChkSet sid rid l code s
  | .checkerLock l => Sys2Proof.Machine.execCheckerLock l s
  | .checkerLockLost l bits errors => Sys2Proof.Machine.execCheckerLockLost l bits errors s
  | .testInjectSingle sid rid l => Sys2Proof.Machine.execTestInjectSingle sid rid l s
  | .testInjectPeriodic sid rid l k => Sys2Proof.Machine.execTestInjectPeriodic sid rid l k s
  | .testInjectBurst sid rid l len => Sys2Proof.Machine.execTestInjectBurst sid rid l len s
  | .portRetrain sid rid p => Sys2Proof.Machine.execPortRetrain sid rid p s
  | .portHotReset sid rid p => Sys2Proof.Machine.execPortHotReset sid rid p s
  | .portLinkDisable sid rid p => Sys2Proof.Machine.execPortLinkDisable sid rid p s
  | .linkUp p f => Sys2Proof.Machine.execLinkUp p f s
  | .linkDown p surprise => Sys2Proof.Machine.execLinkDown p surprise s
  | .replayNumRollover p => Sys2Proof.Machine.execReplayNumRollover p s
  | .speedChange p rate => Sys2Proof.Machine.execSpeedChange p rate s
  | .l0pWidthRequest p own partner => Sys2Proof.Machine.execL0pWidthRequest p own partner s
  | .perstinFall st => Sys2Proof.Machine.execPerstinFall st s
  | .perstinRise st => Sys2Proof.Machine.execPerstinRise st s
  | .hotResetReceived node hot => Sys2Proof.Machine.execHotResetReceived node hot s
  | .hotResetEnd node => Sys2Proof.Machine.execHotResetEnd node s
  | .configWrite f r value => Sys2Proof.Machine.execConfigWrite f r value s
  | .ptmRequest p => Sys2Proof.Machine.execPtmRequest p s
  | .ptmOffsetRefresh node offset => Sys2Proof.Machine.execPtmOffsetRefresh node offset s
  | .stationRefclkSelect st toggles => Sys2Proof.Machine.execStationRefclkSelect st toggles s
  | .mldTrained p lds => Sys2Proof.Machine.execMldTrained p lds s
  | .mldReleaseTimeout p => Sys2Proof.Machine.execMldReleaseTimeout p s
  | .cxlMemUnclaimed node isWrite len => Sys2Proof.Machine.execCxlMemUnclaimed node isWrite len s
  | .frameIngress j f facts => Sys2Proof.Machine.execFrameIngress j f facts s
  | .egressSelect p ecc => Sys2Proof.Machine.execEgressSelect p ecc s
  | .linkCreditUpdate p c => Sys2Proof.Machine.execLinkCreditUpdate p c s
  | .skimEvict h => Sys2Proof.Machine.execSkimEvict h s
  | .tallyScanStart h => Sys2Proof.Machine.execTallyScanStart h s
  | .tallyScanEnd h found => Sys2Proof.Machine.execTallyScanEnd h found s
  | .seamFrameReceive st seq f => Sys2Proof.Machine.execSeamFrameReceive st seq f s
  | .seamAdmission st channel => Sys2Proof.Machine.execSeamAdmission st channel s
  | .seamCrcError d m => Sys2Proof.Machine.execSeamCrcError d m s
  | .seamReplayAck d m => Sys2Proof.Machine.execSeamReplayAck d m s
  | .seamRetrainDone d m => Sys2Proof.Machine.execSeamRetrainDone d m s
  | .seamRetrainTimeout d m => Sys2Proof.Machine.execSeamRetrainTimeout d m s
  | .seamHeartbeatSend h => Sys2Proof.Machine.execSeamHeartbeatSend h s
  | .seamHeartbeatTimeout => Sys2Proof.Machine.execSeamHeartbeatTimeout s
  | .seamTimeExchange => Sys2Proof.Machine.execSeamTimeExchange s
  | .seamMgmtRequest h write index sub entry value => Sys2Proof.Machine.execSeamMgmtRequest h write index sub entry value s
  | .halfHalt h cause => Sys2Proof.Machine.execHalfHalt h cause s
  | .fabricCfgRead sid rid => Sys2Proof.Machine.execFabricCfgRead sid rid s
  | .fabricCfgWrite sid rid => Sys2Proof.Machine.execFabricCfgWrite sid rid s
  | .fabricCfgCompletion sid st data => Sys2Proof.Machine.execFabricCfgCompletion sid st data s
  | .fabricCfgTimeout sid => Sys2Proof.Machine.execFabricCfgTimeout sid s
  | .fportReadyWrite sid rid p bars => Sys2Proof.Machine.execFportReadyWrite sid rid p bars s
  | .hostConfigRequest b r write requester tag => Sys2Proof.Machine.execHostConfigRequest b r write requester tag s
  | .synthSlotPowerOff node devfn => Sys2Proof.Machine.execSynthSlotPowerOff node devfn s
  | .synthSlotPowerOn node devfn => Sys2Proof.Machine.execSynthSlotPowerOn node devfn s
  | .proxyCompletion t => Sys2Proof.Machine.execProxyCompletion t s
  | .trackTimeout h entry => Sys2Proof.Machine.execTrackTimeout h entry s
  | .trackWaitResume h => Sys2Proof.Machine.execTrackWaitResume h s
  | .pairSessionEstablished twinKey twinFabric twinEnable twinTime => Sys2Proof.Machine.execPairSessionEstablished twinKey twinFabric twinEnable twinTime s
  | .pairSessionRefused reason => Sys2Proof.Machine.execPairSessionRefused reason s
  | .pairJoinTimeout => Sys2Proof.Machine.execPairJoinTimeout s
  | .pairRefusedRetry => Sys2Proof.Machine.execPairRefusedRetry s
  | .pairResyncTimeout => Sys2Proof.Machine.execPairResyncTimeout s
  | .pairMismatchTimeout => Sys2Proof.Machine.execPairMismatchTimeout s
  | .pairLossTimeout => Sys2Proof.Machine.execPairLossTimeout s
  | .pairsyncSend => Sys2Proof.Machine.execPairsyncSend s
  | .pairsync node pairState generation digest => Sys2Proof.Machine.execPairsync node pairState generation digest s
  | .pairObjectsTransfer generation sent => Sys2Proof.Machine.execPairObjectsTransfer generation sent s
  | .pairPrepare objs generation => Sys2Proof.Machine.execPairPrepare objs generation s
  | .bflDataFlit j flit => Sys2Proof.Machine.execBflDataFlit j flit s
  | .ack j ackSeq => Sys2Proof.Machine.execAck j ackSeq s
  | .nak j seq cause => Sys2Proof.Machine.execNak j seq cause s
  | .credit j firstPool totals => Sys2Proof.Machine.execCredit j firstPool totals s
  | .heartbeat j linkState hbSeq ackSeq => Sys2Proof.Machine.execHeartbeat j linkState hbSeq ackSeq s
  | .time j tseq txTime echoDelay echoSeq => Sys2Proof.Machine.execTime j tseq txTime echoDelay echoSeq s
  | .resetReq j r => Sys2Proof.Machine.execResetReq j r s
  | .resetAck j r => Sys2Proof.Machine.execResetAck j r s
  | .bflAckDue j => Sys2Proof.Machine.execBflAckDue j s
  | .bflReplayTimeout j => Sys2Proof.Machine.execBflReplayTimeout j s
  | .bflHeartbeatSend j => Sys2Proof.Machine.execBflHeartbeatSend j s
  | .bflTimeSend j => Sys2Proof.Machine.execBflTimeSend j s
  | .bflCreditSend j => Sys2Proof.Machine.execBflCreditSend j s
  | .bflHeartbeatTimeout j => Sys2Proof.Machine.execBflHeartbeatTimeout j s
  | .bflRetrainL0 j width rate => Sys2Proof.Machine.execBflRetrainL0 j width rate s
  | .bflRetrainTimeout j => Sys2Proof.Machine.execBflRetrainTimeout j s
  | .bflResetReqSend j => Sys2Proof.Machine.execBflResetReqSend j s
  | .bflInitTimeout j => Sys2Proof.Machine.execBflInitTimeout j s
  | .bflTrainRetry j => Sys2Proof.Machine.execBflTrainRetry j s
  | .bflFullReset sid rid j => Sys2Proof.Machine.execBflFullReset sid rid j s
  | .bflForcedReset sid rid j => Sys2Proof.Machine.execBflForcedReset sid rid j s
  | .bflEvacuate sid rid j => Sys2Proof.Machine.execBflEvacuate sid rid j s
  | .evacQuery t j inc => Sys2Proof.Machine.execEvacQuery t j inc s
  | .evacReply t j lastSeq inc => Sys2Proof.Machine.execEvacReply t j lastSeq inc s
  | .bflEvacTimeout j => Sys2Proof.Machine.execBflEvacTimeout j s
  | .sqDb n node target index size => Sys2Proof.Machine.execSqDb n node target index size s
  | .rqDb n node target index size => Sys2Proof.Machine.execRqDb n node target index size s
  | .cqDb n node target index size => Sys2Proof.Machine.execCqDb n node target index size s
  | .cqArm n node target index size => Sys2Proof.Machine.execCqArm n node target index size s
  | .cmdDb n node index size => Sys2Proof.Machine.execCmdDb n node index size s
  | .hostReadCompletion r st => Sys2Proof.Machine.execHostReadCompletion r st s
  | .wqeWrite qpn data => Sys2Proof.Machine.execWqeWrite qpn data s
  | .wqeWriteImm qpn data => Sys2Proof.Machine.execWqeWriteImm qpn data s
  | .wqeRead qpn => Sys2Proof.Machine.execWqeRead qpn s
  | .wqeSend qpn data => Sys2Proof.Machine.execWqeSend qpn data s
  | .wqeSendImm qpn data => Sys2Proof.Machine.execWqeSendImm qpn data s
  | .wqeFetchAdd qpn => Sys2Proof.Machine.execWqeFetchAdd qpn s
  | .wqeCompSwap qpn => Sys2Proof.Machine.execWqeCompSwap qpn s
  | .wqeLocalInv qpn => Sys2Proof.Machine.execWqeLocalInv qpn s
  | .wqeRecv qpn => Sys2Proof.Machine.execWqeRecv qpn s
  | .regRegion n => Sys2Proof.Machine.execRegRegion n s
  | .deregRegion n => Sys2Proof.Machine.execDeregRegion n s
  | .createQp n b => Sys2Proof.Machine.execCreateQp n b s
  | .modifyQp n b => Sys2Proof.Machine.execModifyQp n b s
  | .modifyQpReset n b => Sys2Proof.Machine.execModifyQpReset n b s
  | .modifyQpInit n b => Sys2Proof.Machine.execModifyQpInit n b s
  | .modifyQpReady n b => Sys2Proof.Machine.execModifyQpReady n b s
  | .modifyQpError n b => Sys2Proof.Machine.execModifyQpError n b s
  | .destroyQp n => Sys2Proof.Machine.execDestroyQp n s
  | .createCq n => Sys2Proof.Machine.execCreateCq n s
  | .destroyCq n => Sys2Proof.Machine.execDestroyCq n s
  | .dict n msg => Sys2Proof.Machine.execDict n msg s
  | .qpFlushed qpn => Sys2Proof.Machine.execQpFlushed qpn s
  | .packetWrite h p => Sys2Proof.Machine.execPacketWrite h p s
  | .packetWriteImm h p => Sys2Proof.Machine.execPacketWriteImm h p s
  | .packetSend h p => Sys2Proof.Machine.execPacketSend h p s
  | .packetSendImm h p => Sys2Proof.Machine.execPacketSendImm h p s
  | .packetReadReq h p => Sys2Proof.Machine.execPacketReadReq h p s
  | .packetFetchAdd h p => Sys2Proof.Machine.execPacketFetchAdd h p s
  | .packetCompSwap h p => Sys2Proof.Machine.execPacketCompSwap h p s
  | .readResp h p => Sys2Proof.Machine.execReadResp h p s
  | .atomicResp h p => Sys2Proof.Machine.execAtomicResp h p s
  | .rmeAck h p => Sys2Proof.Machine.execRmeAck h p s
  | .rmeSelectiveNak h p => Sys2Proof.Machine.execRmeSelectiveNak h p s
  | .rmeRnrNak h p => Sys2Proof.Machine.execRmeRnrNak h p s
  | .rmeNakRemoteAccess h p => Sys2Proof.Machine.execRmeNakRemoteAccess h p s
  | .rmeNakRemoteInvalid h p => Sys2Proof.Machine.execRmeNakRemoteInvalid h p s
  | .rmeNakKeyGeneration h p => Sys2Proof.Machine.execRmeNakKeyGeneration h p s
  | .skimNotice h p => Sys2Proof.Machine.execSkimNotice h p s
  | .rmeRetxTimeout qpn => Sys2Proof.Machine.execRmeRetxTimeout qpn s
  | .rmeRnrDelayExpiry qpn => Sys2Proof.Machine.execRmeRnrDelayExpiry qpn s
  | .rmeEchoDue qpn => Sys2Proof.Machine.execRmeEchoDue qpn s
  | .rmeCcIncrease qpn => Sys2Proof.Machine.execRmeCcIncrease qpn s
  | .sliceQuiesce sid rid n => Sys2Proof.Machine.execSliceQuiesce sid rid n s
  | .sliceResume sid rid n => Sys2Proof.Machine.execSliceResume sid rid n s
  | .sliceRelease sid rid n => Sys2Proof.Machine.execSliceRelease sid rid n s
  | .sliceQuiesced n => Sys2Proof.Machine.execSliceQuiesced n s
  | .sliceQuiesceBudgetExpiry n => Sys2Proof.Machine.execSliceQuiesceBudgetExpiry n s
  | .shaperRateWrite sid rid h j rate => Sys2Proof.Machine.execShaperRateWrite sid rid h j rate s
  | .shaperBurstWrite sid rid h j burst => Sys2Proof.Machine.execShaperBurstWrite sid rid h j burst s
  | .alertAck sid rid seq => Sys2Proof.Machine.execAlertAck sid rid seq s
  | .plogClear sid rid => Sys2Proof.Machine.execPlogClear sid rid s
  | .creditStallTimeout p => Sys2Proof.Machine.execCreditStallTimeout p s
  | .qdrScrub h region entry res => Sys2Proof.Machine.execQdrScrub h region entry res s
  | .tableScrub h table entry res => Sys2Proof.Machine.execTableScrub h table entry res s
  | .feedGood k f mv => Sys2Proof.Machine.execFeedGood k f mv s
  | .feedBad k f mv => Sys2Proof.Machine.execFeedBad k f mv s
  | .reverseTurnOff k f => Sys2Proof.Machine.execReverseTurnOff k f s
  | .orGateResume k f => Sys2Proof.Machine.execOrGateResume k f s
  | .fastTrip k => Sys2Proof.Machine.execFastTrip k s
  | .limitTimerExpiry k => Sys2Proof.Machine.execLimitTimerExpiry k s
  | .powerGood k => Sys2Proof.Machine.execPowerGood k s
  | .rampTimeout k => Sys2Proof.Machine.execRampTimeout k s
  | .presenceAssert k => Sys2Proof.Machine.execPresenceAssert k s
  | .presenceLoss k => Sys2Proof.Machine.execPresenceLoss k s
  | .insertDelayExpiry k => Sys2Proof.Machine.execInsertDelayExpiry k s
  | .channelStart k => Sys2Proof.Machine.execChannelStart k s
  | .cooldownExpiry k => Sys2Proof.Machine.execCooldownExpiry k s
  | .absenceCountClear k => Sys2Proof.Machine.execAbsenceCountClear k s
  | .slotEnableWrite sid rid k v => Sys2Proof.Machine.execSlotEnableWrite sid rid k v s
  | .slotClearFaults sid rid k => Sys2Proof.Machine.execSlotClearFaults sid rid k s
  | .slotClearEnergy sid rid k => Sys2Proof.Machine.execSlotClearEnergy sid rid k s
  | .perstRelease k => Sys2Proof.Machine.execPerstRelease k s
  | .brakeAssert g => Sys2Proof.Machine.execBrakeAssert g s
  | .brakeRelease g => Sys2Proof.Machine.execBrakeRelease g s
  | .sbBusInit k => Sys2Proof.Machine.execSbBusInit k s
  | .attentionPress k => Sys2Proof.Machine.execAttentionPress k s
  | .sbEntryDue e => Sys2Proof.Machine.execSbEntryDue e s
  | .sbAlertPoll k => Sys2Proof.Machine.execSbAlertPoll k s
  | .sbTransactionStart k => Sys2Proof.Machine.execSbTransactionStart k s
  | .sbTransactionEnd k r => Sys2Proof.Machine.execSbTransactionEnd k r s
  | .sbBusTimeout k => Sys2Proof.Machine.execSbBusTimeout k s
  | .sbValueWrite sid rid w v => Sys2Proof.Machine.execSbValueWrite sid rid w v s
  | .sbFarTimeout sid => Sys2Proof.Machine.execSbFarTimeout sid s
  | .sbFarRead sid rid => Sys2Proof.Machine.execSbFarRead sid rid s
  | .sbFarWrite sid rid => Sys2Proof.Machine.execSbFarWrite sid rid s
  | .sbStrayClear sid rid => Sys2Proof.Machine.execSbStrayClear sid rid s
  | .pwrRunRequest sid rid => Sys2Proof.Machine.execPwrRunRequest sid rid s
  | .pwrIdleArm sid rid => Sys2Proof.Machine.execPwrIdleArm sid rid s
  | .pwrSleepRequest sid rid => Sys2Proof.Machine.execPwrSleepRequest sid rid s
  | .pwrDeepSleepRequest sid rid => Sys2Proof.Machine.execPwrDeepSleepRequest sid rid s
  | .pwrOffRequest sid rid => Sys2Proof.Machine.execPwrOffRequest sid rid s
  | .idleEnter => Sys2Proof.Machine.execIdleEnter s
  | .idleExit => Sys2Proof.Machine.execIdleExit s
  | .pwrEntryDone => Sys2Proof.Machine.execPwrEntryDone s
  | .wakeEvent w => Sys2Proof.Machine.execWakeEvent w s
  | .pwrExitDone => Sys2Proof.Machine.execPwrExitDone s
  | .offWakeRailsGood => Sys2Proof.Machine.execOffWakeRailsGood s
  | .offWakeTimeout => Sys2Proof.Machine.execOffWakeTimeout s
  | .aoCrystalStop => Sys2Proof.Machine.execAoCrystalStop s
  | .aoCrystalResume => Sys2Proof.Machine.execAoCrystalResume s
  | .thermalSample temps => Sys2Proof.Machine.execThermalSample temps s
  | .throttleStep h => Sys2Proof.Machine.execThrottleStep h s
  | .perennialMeasure h ageing slack qdrOk seamOk => Sys2Proof.Machine.execPerennialMeasure h ageing slack qdrOk seamOk s
  | .perennialSummary h => Sys2Proof.Machine.execPerennialSummary h s
  | .perennialReplan h => Sys2Proof.Machine.execPerennialReplan h s
  | .perMeasureNow sid rid => Sys2Proof.Machine.execPerMeasureNow sid rid s
  | .perReplanNow sid rid => Sys2Proof.Machine.execPerReplanNow sid rid s
  | .perRetuneSeam sid rid => Sys2Proof.Machine.execPerRetuneSeam sid rid s
  | .railFollowTimeout h measured => Sys2Proof.Machine.execRailFollowTimeout h measured s
  | .pmuSnap sid rid => Sys2Proof.Machine.execPmuSnap sid rid s
  | .pmuSnapLatch sid => Sys2Proof.Machine.execPmuSnapLatch sid s
  | .pmuCtrClear sid rid v => Sys2Proof.Machine.execPmuCtrClear sid rid v s
  | .samplingEnable sid rid on => Sys2Proof.Machine.execSamplingEnable sid rid on s
  | .sampleSelect h j f out => Sys2Proof.Machine.execSampleSelect h j f out s
  | .harvestRecordWritten h => Sys2Proof.Machine.execHarvestRecordWritten h s
  | .harvestEnableWrite sid rid on => Sys2Proof.Machine.execHarvestEnableWrite sid rid on s
  | .harvestClear sid rid => Sys2Proof.Machine.execHarvestClear sid rid s
  | .testUnlockEnd sid rid => Sys2Proof.Machine.execTestUnlockEnd sid rid s
  | .testUnlockLevel1 sid rid => Sys2Proof.Machine.execTestUnlockLevel1 sid rid s
  | .testUnlockLevel2 sid rid => Sys2Proof.Machine.execTestUnlockLevel2 sid rid s
  | .testUnlockResponse sid rid key signature => Sys2Proof.Machine.execTestUnlockResponse sid rid key signature s
  | .testChallengeExpiry => Sys2Proof.Machine.execTestChallengeExpiry s
  | .testUnlockTimeout => Sys2Proof.Machine.execTestUnlockTimeout s
  | .jtagChallenge h => Sys2Proof.Machine.execJtagChallenge h s
  | .jtagUnlock h level key signature => Sys2Proof.Machine.execJtagUnlock h level key signature s
  | .jtagDict h index sub => Sys2Proof.Machine.execJtagDict h index sub s
  | .pertArm sid rid e => Sys2Proof.Machine.execPertArm sid rid e s
  | .pertDisarm sid rid e => Sys2Proof.Machine.execPertDisarm sid rid e s
  | .vao18Loss => Sys2Proof.Machine.execVao18Loss s
  | .linkRecoveryEntry p => Sys2Proof.Machine.execLinkRecoveryEntry p s
  | .linkRecoveryEnd p r => Sys2Proof.Machine.execLinkRecoveryEnd p r s
  | .stationPllLockLoss st clockAbsent => Sys2Proof.Machine.execStationPllLockLoss st clockAbsent s
  | .ideKm node activate key => Sys2Proof.Machine.execIdeKm node activate key s

end Sys2Proof.Machine
end

