-- ==== Sys2Proof/WellFormed.lean ====
section
/-!
DEFINITION. Sys2Proof/WellFormed.lean: when a command's operands fit the fields that the manual gives them. The meanings are
total: a command that is not well formed has a meaning too, and nothing outside the device can send it.
-/
namespace Sys2Proof

/-- A number fits a field of w bits. -/
def fits (w n : Nat) : Bool := decide (n < 2 ^ w)

/-- A number lies in a closed range. -/
def within (lo hi n : Nat) : Bool := decide (lo ≤ n) && decide (n ≤ hi)

/-- The bytes of an FBP message that the row may carry: at most 1,024, at least the 16 of the header, with the row's opcode
and the kind of a request (R73; 03, "FBP header"). -/
def request (op : Nat) (msg : List Byte) : Bool :=
  within 16 1024 msg.length && (msg.headD 0).toNat % 16 == 0 && ((msg.drop 1).headD 0).toNat == op

/-- The bytes of a response or a notification (R411). -/
def reply (msg : List Byte) : Bool := within 16 1024 msg.length && within 1 2 ((msg.headD 0).toNat % 16)

/-- A packet of an opcode, whose header fields fit (10, "RME header"). -/
def packet (op : RmeOp) (p : RmePacket) : Bool :=
  p.op == op && fits 24 p.destQpn && fits 24 p.srcQpn && fits 24 p.psn && fits 1 p.dnode && fits 1 p.snode && decide (p.payload.length ≤ 4096)

/-- A width in lanes. -/
def linkWidth (w : Nat) : Bool := [1, 2, 4, 8, 16].contains w

/-- The width at which a link comes back from Recovery. -/
def recoveryFits (r : RecoveryEnd) : Bool :=
  match r with
  | .l0 w => w.all linkWidth
  | .linkLost => true

/-- The fields of RESET_REQ and RESET_ACK (09, "Bypass messages"). -/
def resetMessage (r : BflReset) : Bool :=
  fits 1 r.node && fits 4 r.link && within 0 2 r.reason && within 1 3 r.width && within 6 7 r.rate && fits 12 r.nextExpected && fits 16 r.inc && r.tag.length == 8

/-- What a host's read returns has the size of what was read (10, "WQE, 64 bytes"). -/
def readFits (r : HostRead) : Bool :=
  match r with
  | .sqWqe _ data | .rqWqe _ data | .command _ data => data.length == 64
  | .payload _ _ _ => true
  | .readReq _ p data => data.length == p.readLen
  | .atomicOp _ _ v => fits 64 v

/-- A command whose operands fit. -/
def Instr.wellFormed (i : Instr) : Bool :=
  match i with
  | .vao18Ramp => true
  | .aoCrystalStart => true
  | .porstNFall _ => true
  | .porstNRise => true
  | .strapSample s1 s2 s3 => fits 10 s1 && fits 10 s2 && fits 10 s3
  | .halvesRelease => true
  | .romPass _ => true
  | .romSelfcheckRetry _ _ => true
  | .rakeClaim _ => true
  | .rakePrefDelayExpiry => true
  | .rakeClaimTimeout => true
  | .paDieUnreachable _ => true
  | .seamTrained _ _ => true
  | .seamTrainTimeout => true
  | .qdrTrained _ => true
  | .qdrTrainTimeout _ => true
  | .imageVerified _ _ _ => true
  | .firmwareStart => true
  | .bootStageTimeout _ _ => true
  | .bootLaneCalibration _ => true
  | .healthyDeclare _ rid => fits 32 rid
  | .watchdogKick _ => true
  | .watchdogExpiry _ => true
  | .clusterRejoin _ => true
  | .warmResetRequest _ rid => fits 32 rid
  | .crocusForce _ rid => fits 32 rid
  | .crocusExit _ rid => fits 32 rid
  | .crocusExitDefaults _ rid => fits 32 rid
  | .otpCommit _ rid => fits 32 rid
  | .otpRevoke _ rid slots => fits 32 rid && fits 8 slots
  | .rakeHandover _ rid => fits 32 rid
  | .holderDemote _ => true
  | .farTimeout _ => true
  | .read _ msg => request 0x1 msg
  | .write _ msg => request 0x2 msg
  | .describe _ msg => request 0x3 msg
  | .blobOpen _ msg => request 0x10 msg
  | .blobData _ msg => request 0x11 msg
  | .blobClose _ msg => request 0x12 msg
  | .blobAbort _ msg => request 0x13 msg
  | .blobTimeout _ => true
  | .ping _ msg => request 0x30 msg
  | .notifyAck _ requestId => fits 32 requestId
  | .fbpResponseDiscard _ msg => reply msg
  | .requestExecute _ => true
  | .objectWrite _ rid index sub type data => fits 32 rid && fits 16 index && fits 8 sub && fits 8 type && data.length ≤ 960
  | .cfgCommit _ rid => fits 32 rid
  | .cfgDiscard _ rid => fits 32 rid
  | .cfgCheck _ rid => fits 32 rid
  | .commitStart => true
  | .commitWaitTimeout _ => true
  | .commitConfirm _ status _ => fits 16 status
  | .commitPrepareTimeout _ => true
  | .commitApply => true
  | .storeWriteTimeout => true
  | .commitLockWrite _ rid v => fits 32 rid && fits 8 v
  | .ownerCredentialWrite _ rid hash => fits 32 rid && hash.length == 32
  | .notifyResend _ => true
  | .sessionIdleTimeout _ => true
  | .spdmKeyExchange offer _ => offer.publicKey.length == 1952
  | .spdmKeyUpdate _ => true
  | .getMeasurements _ ask => fits 8 ask.block && ask.nonce.length == 32
  | .fbpClearDatagram _ => true
  | .icmpv6NeighbourDiscovery target => fits 128 target
  | .icmpv6Echo _ => true
  | .mbGo _ request => request.length ≤ 1024
  | .mbAbort _ => true
  | .mbNtfTail _ _ => true
  | .setEndpointId _ eid => fits 8 eid
  | .padHoldRelease _ rid groups => fits 32 rid && fits 32 groups
  | .thermalTrip _ _ => true
  | .vpaLow => true
  | .vpaRecover => true
  | .laneLolAssert _ => true
  | .laneLolClear _ => true
  | .laneLosAssert _ _ => true
  | .laneLosDeassert _ => true
  | .laneRateChange _ _ => true
  | .laneSleepChange _ _ _ => true
  | .laneWake _ _ => true
  | .bgcalPeriodExpiry _ => true
  | .bgcalTempTrigger _ => true
  | .freeSamplerGrant _ => true
  | .samplerSwap _ _ => true
  | .bgcalPassEnd _ _ => true
  | .eyeScan _ height width => fits 16 height && fits 16 width
  | .marginCommand _ _ => true
  | .laneCalBackground _ rid _ => fits 32 rid
  | .laneCalFull _ rid _ => fits 32 rid
  | .laneBist _ rid _ => fits 32 rid
  | .laneCalFullForced _ rid _ => fits 32 rid
  | .laneBistForced _ rid _ => fits 32 rid
  | .laneCalEnd _ _ => true
  | .testLoopbackSet _ rid _ code => fits 32 rid && fits 8 code
  | .testGenSet _ rid _ code => fits 32 rid && fits 8 code
  | .testRateSet _ rid _ code => fits 32 rid && fits 8 code
  | .testChkSet _ rid _ code => fits 32 rid && fits 8 code
  | .checkerLock _ => true
  | .checkerLockLost _ _ _ => true
  | .testInjectSingle _ rid _ => fits 32 rid
  | .testInjectPeriodic _ rid _ k => fits 32 rid && within 10 40 k
  | .testInjectBurst _ rid _ len => fits 32 rid && within 1 255 len
  | .portRetrain _ rid _ => fits 32 rid
  | .portHotReset _ rid _ => fits 32 rid
  | .portLinkDisable _ rid _ => fits 32 rid
  | .linkUp _ _ => true
  | .linkDown _ _ => true
  | .replayNumRollover _ => true
  | .speedChange _ _ => true
  | .l0pWidthRequest _ own partner => own.all linkWidth && partner.all linkWidth
  | .perstinFall _ => true
  | .perstinRise _ => true
  | .hotResetReceived _ _ => true
  | .hotResetEnd _ => true
  | .configWrite _ _ value => fits 32 value
  | .ptmRequest _ => true
  | .ptmOffsetRefresh _ offset => fits 64 offset
  | .stationRefclkSelect _ _ => true
  | .mldTrained _ lds => within 0 16 lds
  | .mldReleaseTimeout _ => true
  | .cxlMemUnclaimed _ _ _ => true
  | .frameIngress _ _ _ => true
  | .egressSelect _ _ => true
  | .linkCreditUpdate _ _ => true
  | .skimEvict _ => true
  | .tallyScanStart _ => true
  | .tallyScanEnd _ _ => true
  | .seamFrameReceive _ seq _ => fits 16 seq
  | .seamAdmission _ _ => true
  | .seamCrcError _ _ => true
  | .seamReplayAck _ _ => true
  | .seamRetrainDone _ _ => true
  | .seamRetrainTimeout _ _ => true
  | .seamHeartbeatSend _ => true
  | .seamHeartbeatTimeout => true
  | .seamTimeExchange => true
  | .seamMgmtRequest _ _ index sub entry value => fits 16 index && fits 8 sub && fits 32 entry && fits 64 value
  | .halfHalt _ _ => true
  | .fabricCfgRead _ rid => fits 32 rid
  | .fabricCfgWrite _ rid => fits 32 rid
  | .fabricCfgCompletion _ _ data => fits 32 data
  | .fabricCfgTimeout _ => true
  | .fportReadyWrite _ rid _ _ => fits 32 rid
  | .hostConfigRequest _ _ value requester tag => value.all (fits 32) && fits 16 requester && fits 14 tag
  | .synthSlotPowerOff _ _ => true
  | .synthSlotPowerOn _ _ => true
  | .proxyCompletion _ => true
  | .trackTimeout _ _ => true
  | .trackWaitResume _ => true
  | .pairSessionEstablished _ _ _ _ => true
  | .pairSessionRefused reason => within 1 4 reason
  | .pairJoinTimeout => true
  | .pairRefusedRetry => true
  | .pairResyncTimeout => true
  | .pairMismatchTimeout => true
  | .pairLossTimeout => true
  | .pairsyncSend => true
  | .pairsync node pairState generation digest => fits 1 node && fits 3 pairState && fits 32 generation && digest.length == 8
  | .pairObjectsTransfer generation _ => fits 32 generation
  | .pairPrepare _ generation => fits 32 generation
  | .bflDataFlit _ flit => flit.length == 256
  | .ack _ ackSeq => fits 12 ackSeq
  | .nak _ seq cause => fits 12 seq && within 0 2 cause
  | .credit _ firstPool totals => (firstPool == 0 || firstPool == 7) && totals.length == 7 && totals.all (fits 16)
  | .heartbeat _ linkState hbSeq ackSeq => fits 4 linkState && fits 16 hbSeq && fits 12 ackSeq
  | .time _ tseq txTime echoDelay echoSeq => fits 8 tseq && fits 64 txTime && fits 24 echoDelay && fits 8 echoSeq
  | .resetReq _ r => resetMessage r
  | .resetAck _ r => resetMessage r
  | .bflAckDue _ => true
  | .bflReplayTimeout _ => true
  | .bflHeartbeatSend _ => true
  | .bflTimeSend _ => true
  | .bflCreditSend _ => true
  | .bflHeartbeatTimeout _ => true
  | .bflRetrainL0 _ _ _ => true
  | .bflRetrainTimeout _ => true
  | .bflResetReqSend _ => true
  | .bflInitTimeout _ => true
  | .bflTrainRetry _ => true
  | .bflFullReset _ rid _ => fits 32 rid
  | .bflForcedReset _ rid _ => fits 32 rid
  | .bflEvacuate _ rid _ => fits 32 rid
  | .evacQuery _ _ inc => fits 16 inc
  | .evacReply _ _ lastSeq inc => fits 12 lastSeq && fits 16 inc
  | .bflEvacTimeout _ => true
  | .sqDb _ _ target index size => target.length == 2 && index.length == 2 && size % 8 == 0
  | .rqDb _ _ target index size => target.length == 2 && index.length == 2 && size % 8 == 0
  | .cqDb _ _ target index size => target.length == 2 && index.length == 2 && size % 8 == 0
  | .cqArm _ _ target index size => target.length == 2 && index.length == 2 && size % 8 == 0
  | .cmdDb _ _ index size => index.length == 2 && size % 8 == 0
  | .hostReadCompletion r st => st != .ok || readFits r
  | .wqeWrite qpn _ => fits 24 qpn
  | .wqeWriteImm qpn _ => fits 24 qpn
  | .wqeRead qpn => fits 24 qpn
  | .wqeSend qpn _ => fits 24 qpn
  | .wqeSendImm qpn _ => fits 24 qpn
  | .wqeFetchAdd qpn => fits 24 qpn
  | .wqeCompSwap qpn => fits 24 qpn
  | .wqeLocalInv qpn => fits 24 qpn
  | .wqeRecv qpn => fits 24 qpn
  | .regRegion _ => true
  | .deregRegion _ => true
  | .createQp _ block => block.length == 64
  | .modifyQp _ block => block.length == 64
  | .modifyQpReset _ block => block.length == 64
  | .modifyQpInit _ block => block.length == 64
  | .modifyQpReady _ block => block.length == 64
  | .modifyQpError _ block => block.length == 64
  | .destroyQp _ => true
  | .createCq _ => true
  | .destroyCq _ => true
  | .dict _ msg => within 16 1024 msg.length
  | .qpFlushed qpn => fits 24 qpn
  | .packetWrite _ p => packet .write p
  | .packetWriteImm _ p => packet .writeImm p
  | .packetSend _ p => packet .send p
  | .packetSendImm _ p => packet .sendImm p
  | .packetReadReq _ p => packet .readReq p
  | .packetFetchAdd _ p => packet .fetchAdd p
  | .packetCompSwap _ p => packet .compSwap p
  | .readResp _ p => packet .readResp p
  | .atomicResp _ p => packet .atomicResp p
  | .rmeAck _ p => packet .ack p && p.syndrome == 0
  | .rmeSelectiveNak _ p => packet .ack p && p.syndrome == 1
  | .rmeRnrNak _ p => packet .ack p && p.syndrome == 2
  | .rmeNakRemoteAccess _ p => packet .ack p && p.syndrome == 3
  | .rmeNakRemoteInvalid _ p => packet .ack p && p.syndrome == 4
  | .rmeNakKeyGeneration _ p => packet .ack p && p.syndrome == 5
  | .skimNotice _ p => packet .skimNotice p
  | .rmeRetxTimeout qpn => fits 24 qpn
  | .rmeRnrDelayExpiry qpn => fits 24 qpn
  | .rmeEchoDue qpn => fits 24 qpn
  | .rmeCcIncrease qpn => fits 24 qpn
  | .sliceQuiesce _ rid _ => fits 32 rid
  | .sliceResume _ rid _ => fits 32 rid
  | .sliceRelease _ rid _ => fits 32 rid
  | .sliceQuiesced _ => true
  | .sliceQuiesceBudgetExpiry _ => true
  | .shaperRateWrite _ rid _ _ rate => fits 32 rid && fits 32 rate
  | .shaperBurstWrite _ rid _ _ burst => fits 32 rid && fits 32 burst
  | .alertAck _ rid seq => fits 32 rid && fits 32 seq
  | .plogClear _ rid => fits 32 rid
  | .creditStallTimeout _ => true
  | .qdrScrub _ _ _ _ => true
  | .tableScrub _ _ _ _ => true
  | .feedGood _ _ _ => true
  | .feedBad _ _ _ => true
  | .reverseTurnOff _ _ => true
  | .orGateResume _ _ => true
  | .fastTrip _ => true
  | .limitTimerExpiry _ => true
  | .powerGood _ => true
  | .rampTimeout _ => true
  | .presenceAssert _ => true
  | .presenceLoss _ => true
  | .insertDelayExpiry _ => true
  | .channelStart _ => true
  | .cooldownExpiry _ => true
  | .absenceCountClear _ => true
  | .slotEnableWrite _ rid _ v => fits 32 rid && fits 8 v
  | .slotClearFaults _ rid _ => fits 32 rid
  | .slotClearEnergy _ rid _ => fits 32 rid
  | .perstRelease _ => true
  | .brakeAssert _ => true
  | .brakeRelease _ => true
  | .sbBusInit _ => true
  | .attentionPress _ => true
  | .sbEntryDue _ => true
  | .sbAlertPoll _ => true
  | .sbTransactionStart _ => true
  | .sbTransactionEnd _ _ => true
  | .sbBusTimeout _ => true
  | .sbValueWrite _ rid _ v => fits 32 rid && fits 32 v
  | .sbFarTimeout _ => true
  | .sbFarRead _ rid => fits 32 rid
  | .sbFarWrite _ rid => fits 32 rid
  | .sbStrayClear _ rid => fits 32 rid
  | .pwrRunRequest _ rid => fits 32 rid
  | .pwrIdleArm _ rid => fits 32 rid
  | .pwrSleepRequest _ rid => fits 32 rid
  | .pwrDeepSleepRequest _ rid => fits 32 rid
  | .pwrOffRequest _ rid => fits 32 rid
  | .idleEnter => true
  | .idleExit => true
  | .pwrEntryDone => true
  | .wakeEvent _ => true
  | .pwrExitDone => true
  | .offWakeRailsGood => true
  | .offWakeTimeout => true
  | .aoCrystalStop => true
  | .aoCrystalResume => true
  | .thermalSample temps => temps.length == 28 && temps.all (fits 15)
  | .throttleStep _ => true
  | .perennialMeasure _ _ _ _ _ => true
  | .perennialSummary _ => true
  | .perennialReplan _ => true
  | .perMeasureNow _ rid => fits 32 rid
  | .perReplanNow _ rid => fits 32 rid
  | .perRetuneSeam _ rid => fits 32 rid
  | .railFollowTimeout _ measured => fits 16 measured
  | .pmuSnap _ rid => fits 32 rid
  | .pmuSnapLatch _ => true
  | .pmuCtrClear _ rid v => fits 32 rid && fits 32 v
  | .samplingEnable _ rid _ => fits 32 rid
  | .sampleSelect _ _ _ _ => true
  | .harvestRecordWritten _ => true
  | .harvestEnableWrite _ rid _ => fits 32 rid
  | .harvestClear _ rid => fits 32 rid
  | .testUnlockEnd _ rid => fits 32 rid
  | .testUnlockLevel1 _ rid => fits 32 rid
  | .testUnlockLevel2 _ rid => fits 32 rid
  | .testUnlockResponse _ rid key signature => fits 32 rid && key.length == 1952 && signature.length == 3309
  | .testChallengeExpiry => true
  | .testUnlockTimeout => true
  | .jtagChallenge _ => true
  | .jtagUnlock _ level key signature => within 1 2 level && key.length == 1952 && signature.length == 3309
  | .jtagDict _ index sub => fits 16 index && fits 8 sub
  | .pertArm _ rid _ => fits 32 rid
  | .pertDisarm _ rid _ => fits 32 rid
  | .vao18Loss => true
  | .linkRecoveryEntry _ => true
  | .linkRecoveryEnd _ r => recoveryFits r
  | .stationPllLockLoss _ _ => true
  | .ideKm _ _ _ => true

end Sys2Proof
end

