-- ==== Sys2Proof/Safety.lean ====
section
/-!
DEFINITION. Sys2Proof/Safety.lean: what counts as a safe step, in the terms that the statements use: what may never be
undone in the one-time programmable cells, the commit lock, and the order in which commands leave the queue.
-/
namespace Sys2Proof.Safety
open Sys2Proof.Machine

/-- The OTP cells of R95 as the rules leave them: only the four key slots have revocation bits, and at least one of them
is not revoked. -/
def otpSound (o : Otp) : Prop := o.revoked < 15

/-- Nothing in the OTP cells is taken back (R95): the counter does not fall and no revoked slot comes back. -/
def otpGrows (o o' : Otp) : Prop := o.counter ≤ o'.counter ∧ ∀ k, o.revoked.testBit k = true → o'.revoked.testBit k = true

/-- The commands that may take the commit lock back (R62): a falling edge of PORST_N that lasts at least 10 us (R30). -/
def clearsLock (c : Instr) : Bool :=
  match c with
  | .porstNFall lowNs => decide (10000 ≤ lowNs)
  | _ => false

/-- The commands that stop the machine: a PORST_N pulse whose effect R30 calls undefined. -/
def stops (c : Instr) : Bool :=
  match c with
  | .porstNFall lowNs => decide (1000 ≤ lowNs) && decide (lowNs < 10000)
  | _ => false

/-! When a session's write of an object is taken up: the terms in which the statements about the rows that are writes of
one object name their conditions. -/

/-- One item of a WRITE request: index, subindex, type and number. -/
abbrev WItem := Nat × Nat × ObjType × Nat

/-- The item as it stands in the request (R73). -/
def witem (w : WItem) : Item := ⟨w.1, w.2.1, w.2.2.1.code, beBytes w.2.2.1.width w.2.2.2⟩

/-- A request as its session executes it (R75). -/
def execOf (r : FbpRequest) (m : List Byte) : Exec :=
  { rid := r.rid, opcode := r.opcode, staged := r.staged, todo := r.items, done := [], wait := .none, raw := m }

/-- The session once a message of it has been counted (R81) and its request executes. -/
def takenSes (s : State) (x : Session) (r : FbpRequest) (m : List Byte) : Session :=
  { x with lastMsg := s.dev.clk, msgs := x.msgs + 1, exec := some (execOf r m) }

/-- A message of a session counted (R81, R86). -/
def counted (s : State) (x : Session) : Dev := s.dev.modSes x.sid (fun y => { y with lastMsg := s.dev.clk, msgs := y.msgs + 1 })

/-- The state in which the first item of a request is processed. -/
def taken (s : State) (x : Session) (r : FbpRequest) (m : List Byte) : State := { s with dev := (counted s x).park x.sid (execOf r m) }

/-- A WRITE request of a session, as the rows of the table that write one object spell it. -/
abbrev writeRequest (rid : Nat) (l : List WItem) : FbpRequest := ⟨Opcode.write, false, rid, l.map witem⟩

/-- The request as its session executes it. -/
abbrev requestExec (rid : Nat) (l : List WItem) : Exec := execOf (writeRequest rid l) (encodeWrites rid l)

/-- The session while it executes the request. -/
abbrev begunSes (s : State) (x : Session) (rid : Nat) (l : List WItem) : Session := takenSes s x (writeRequest rid l) (encodeWrites rid l)

/-- The state in which the first item of the request is processed. -/
abbrev begun (s : State) (x : Session) (rid : Nat) (l : List WItem) : State := taken s x (writeRequest rid l) (encodeWrites rid l)

/-- A session of the device that has no request outstanding, may receive a message, and has not used the request number
(R75, R81); and no reset or handover waits for an answer. -/
def ready (s : State) (x : Session) (rid : Nat) : Bool :=
  decide (s.dev.ses x.sid = some x) && decide (x.sid < 2 ^ 32) && decide (rid < 2 ^ 32) && !x.keysSpent && x.exec.isNone &&
    x.queue.isEmpty && x.cache.all (fun c => c.rid != rid) && !s.dev.boot.warmAsked && !s.dev.pa.handoverPending

/-- An item passes every check of R53 with its value as written, and its object can be reached (R23). -/
def passes (st : State) (x : Session) (w : WItem) : Bool :=
  match locate st x (witem w) with
  | .ok (r, o, k) =>
    (match checkWrite st x r k o w.2.2.1.code (decodeVal o.ty (witem w).data) with
      | .ok (v, clamped) => decide (v = .num w.2.2.2) && !clamped
      | .error _ => false) && (o.isLocal || !st.dev.tooFar x k)
  | .error _ => false

/-- A session's write of one object is taken up: the session is ready and the item passes. -/
def accepts (s : State) (x : Session) (rid idx sub : Nat) (ty : ObjType) (n : Nat) : Bool :=
  ready s x rid && passes (begun s x rid [(idx, sub, ty, n)]) (begunSes s x rid [(idx, sub, ty, n)]) (idx, sub, ty, n)

/-- The two items that select an entry of an ARRAY and write a field of it. -/
abbrev entryItems (idx e sub : Nat) (ty : ObjType) (n : Nat) : List WItem := [(idx, 1, .u32, e), (idx, sub, ty, n)]

/-- The state once the entry is selected: the session's window of the array (R47). -/
def selected (s : State) (x : Session) (rid idx e sub : Nat) (ty : ObjType) (n : Nat) : State :=
  let b := begun s x rid (entryItems idx e sub ty n)
  { b with dev := b.dev.modSes x.sid (fun y => y.setLoc ⟨idx, 1, 0⟩ (.num e)) }

/-- A session's write of a field of an ARRAY entry, with its window select first, is taken up. -/
def acceptsEntry (s : State) (x : Session) (rid idx e sub : Nat) (ty : ObjType) (n : Nat) : Bool :=
  let l := entryItems idx e sub ty n
  ready s x rid && passes (begun s x rid l) (begunSes s x rid l) (idx, 1, .u32, e) &&
    passes (selected s x rid idx e sub ty n) ((begunSes s x rid l).setLoc ⟨idx, 1, 0⟩ (.num e)) (idx, sub, ty, n)

/-- The state in which the session's request has been answered with S_OK (R74), after its items have brought the device to
`d`; a warm reset or handover that a write has asked for follows its answer (R58). -/
def answered (s : State) (d : Dev) (x : Session) (rid : Nat) (l : List WItem) : State :=
  finishRequest { s with dev := d } x.sid { requestExec rid l with done := l.map (fun w => answerItem (witem w) Status.ok) } Status.ok

/-- The state in which the session's request waits (R63, R199, R243, R349, R378): the items before its last are done, and
the last has brought the device to `d`. -/
def waiting (s : State) (d : Dev) (x : Session) (rid : Nat) (l : List WItem) (w : Wait) : State :=
  { s with dev := d.park x.sid { requestExec rid l with
      done := l.dropLast.map (fun w => answerItem (witem w) Status.ok), todo := l.getLast?.toList.map witem, wait := w } }

/-- The state after a session's write of one object has had its effect `f` on the device and has been answered. -/
def wrote (s : State) (x : Session) (rid idx sub : Nat) (ty : ObjType) (n : Nat) (f : Dev → Dev) : State :=
  answered s (f (begun s x rid [(idx, sub, ty, n)]).dev) x rid [(idx, sub, ty, n)]

/-- The state in which a session's write of one object has had its effect `f` on the device and waits. -/
def wroteWaits (s : State) (x : Session) (rid idx sub : Nat) (ty : ObjType) (n : Nat) (f : Dev → Dev) (w : Wait) : State :=
  waiting s (f (begun s x rid [(idx, sub, ty, n)]).dev) x rid [(idx, sub, ty, n)] w

/-- The state after a session's write of a field of an ARRAY entry has had its effect `f` and has been answered. -/
def wroteEntry (s : State) (x : Session) (rid idx e sub : Nat) (ty : ObjType) (n : Nat) (f : Dev → Dev) : State :=
  answered s (f (selected s x rid idx e sub ty n).dev) x rid (entryItems idx e sub ty n)

/-- The state in which a session's write of a field of an ARRAY entry has had its effect `f` and waits. -/
def wroteEntryWaits (s : State) (x : Session) (rid idx e sub : Nat) (ty : ObjType) (n : Nat) (f : Dev → Dev) (w : Wait) : State :=
  waiting s (f (selected s x rid idx e sub ty n).dev) x rid (entryItems idx e sub ty n) w

/-- A running commit once one more part has confirmed (R63 step 5). -/
def confirmed (c : RunningCommit) (p : CommitPart) (found : List (Nat × FnInfo)) : RunningCommit :=
  { c with waitFor := c.waitFor.filter (fun y => y != p)
           found := c.found ++ found.filter (fun (f : Nat × FnInfo) => touches c.set (fun k => k.idx == 0x3180 && k.ent == f.1)) }

/-- The row of a request packet's opcode, run on a state, answers a next state: PACKET_WRITE, PACKET_WRITE_IMM,
PACKET_SEND, PACKET_SEND_IMM, PACKET_READ_REQ, PACKET_FETCH_ADD and PACKET_COMP_SWAP each for a packet of its own opcode. -/
def packetGives (s : State) (h : Half) (p : RmePacket) (t : State) : Prop :=
  (p.op = .write → exec (.packetWrite h p) s = .next t) ∧ (p.op = .writeImm → exec (.packetWriteImm h p) s = .next t) ∧
  (p.op = .send → exec (.packetSend h p) s = .next t) ∧ (p.op = .sendImm → exec (.packetSendImm h p) s = .next t) ∧
  (p.op = .readReq → exec (.packetReadReq h p) s = .next t) ∧ (p.op = .fetchAdd → exec (.packetFetchAdd h p) s = .next t) ∧
  (p.op = .compSwap → exec (.packetCompSwap h p) s = .next t)

/-- The state after a request whose one item was refused with a status: answered, and otherwise as it was taken up (R53, R74). -/
def refused (s : State) (x : Session) (r : FbpRequest) (m : List Byte) (i : Item) (status : Nat) : State :=
  finishRequest (taken s x r m) x.sid { execOf r m with done := [answerItem i status] } status

/-- The state after a number of steps, where none of them stops. -/
def runs : Nat → State → Option State
  | 0, s => some s
  | n + 1, s =>
    match step s with
    | .next t => runs n t
    | _ => none

end Sys2Proof.Safety
end

