-- ==== Sys2Proof/Certificates/Slice0/Obligations.lean ====
section
/-!
DEFINITION. Sys2Proof/Certificates/Slice0/Obligations.lean: the statements for the provers. Where a statement gives
the whole next state, that equation is the frame as well: every field it does not name is the one before.
-/
open Sys2Proof Sys2Proof.Machine Sys2Proof.Safety

/-- One step takes the command at the front of the queue and is that command's effect on the state with the queue's rest. With no command waiting, one
fabric time unit passes: that is the model's choice (assumption log 4). -/
def Obligations.StepTakesTheFrontCommand : Prop :=
  (∀ s c rest, s.pending = c :: rest → step s = exec c { s with pending := rest }) ∧
  (∀ s, s.pending = [] → step s = .next { s with dev := s.dev.idle })

/-- Right after reset: nothing waits, at least one key slot is unrevoked, the commit lock is 0, there is no session and no commit, no half holds the rake,
neither half is released, PORST_N is low, the seam is not trained, no QP exists, and `rake.epoch`, `boot.attempts`, `per.life_hours` and
`test.unlock.timeout` read their tables' defaults. That OTP, the lock and the engines start so is the model's choice (R87, R95, R389). The model's
choices in it: assumption log 3. -/
def Obligations.ResetState : Prop :=
  State.reset.pending = [] ∧ otpSound State.reset.otp ∧ State.reset.commitLock = false ∧ State.reset.dev.sessions = [] ∧
  State.reset.dev.commit = none ∧ State.reset.dev.holder = none ∧ State.reset.dev.boot.released = false ∧ State.reset.dev.pins.porstN = false ∧
  State.reset.dev.seamUp = false ∧ State.reset.dev.rme.qps = [] ∧ State.reset.dev.num Obj.rakeEpoch = 0 ∧ State.reset.dev.num Obj.bootAttempts = 0 ∧
  State.reset.dev.num Obj.perLifeHours = 87600 ∧ State.reset.dev.num Obj.testUnlockTimeout = 3600

/-- Every command but the PORST_N pulse that R30 calls undefined is carried out in every state, with every operand, and leaves the commands that wait as
they are. The model's choices in it: assumption log 14. -/
def Obligations.EveryCommandIsCarriedOut : Prop :=
  ∀ c s, stops c = false → ∃ t, exec c s = .next t ∧ t.pending = s.pending

/-- The widths of R30: a PORST_N pulse from 1 us to below 10 us stops the model, whose effect the rule calls undefined; a shorter one changes nothing; one
of at least 10 us takes the commit lock back (R62) and keeps the OTP cells. The model's choices in it: assumption log 86. -/
def Obligations.PorstPulseWidths : Prop :=
  (∀ n s, 1000 ≤ n → n < 10000 → exec (.porstNFall n) s = .fault .undefinedPorstPulse) ∧
  (∀ n s, n < 1000 → exec (.porstNFall n) s = .next s) ∧
  (∀ n s, 10000 ≤ n → ∃ t, exec (.porstNFall n) s = .next t ∧ t.commitLock = false ∧ t.otp = s.otp ∧ t.pending = s.pending)

/-- Commands leave the queue first in, first out: after n steps the first n of them are gone, and no command has put another into the queue. The model's
choices in it: assumption log 7. -/
def Obligations.QueueIsFirstInFirstOut : Prop :=
  ∀ n s t, runs n s = some t → t.pending = s.pending.drop n

/-- OTP is never taken back (R95): over any run the counter does not fall and no revoked key slot comes back, whatever the commands are. -/
def Obligations.OtpIsNeverTakenBack : Prop :=
  ∀ n s t, runs n s = some t → otpGrows s.otp t.otp

/-- At least one key slot stays unrevoked (R95): an invariant of every step, from any state. -/
def Obligations.OtpStaysSound : Prop :=
  ∀ s t, otpSound s.otp → step s = .next t → otpSound t.otp

/-- The commit lock, once set, stays set over any run whose commands hold no PORST_N pulse of at least 10 us (R62, R30). -/
def Obligations.CommitLockStaysSet : Prop :=
  ∀ n s t, runs n s = some t → s.commitLock = true → (∀ c ∈ s.pending.take n, clearsLock c = false) → t.commitLock = true

/-- Supplies and PORST_N: what each event changes, and nothing else where the whole next state is given (R30, R33, R44, R87, R88). The model's choices in
it: assumption log 5, 14, 32. -/
def Obligations.PowerOnEvents : Prop :=
  (∀ s, exec .vao18Ramp s =
    .next { s with dev := { s.dev with pins := { s.dev.pins with vao18 := true }, pa := { s.dev.pa with supervisor := true } } }) ∧
  (∀ s, s.dev.pins.vao18 = true → s.dev.clocks.aoRunning = false → exec .aoCrystalStart s =
    .next { s with dev := { s.dev with clocks := { s.dev.clocks with aoRunning := true, aoSince := s.dev.clk } } }) ∧
  (∀ s n, n < 1000 → exec (.porstNFall n) s = .next s) ∧
  (∀ s n, 10000 ≤ n → (∀ e ∈ s.dev.slots, e.1 < 32) → ∃ t, exec (.porstNFall n) s = .next t ∧ t.pending = s.pending ∧ t.otp = s.otp ∧ t.commitLock = false ∧
    t.dev.pins.porstN = false ∧ t.dev.pins.thermtrip = false ∧ t.dev.sessions = [] ∧ t.dev.commit = none ∧ t.dev.bufW = {} ∧ t.dev.bufE = {} ∧
    t.dev.rme = {} ∧ t.dev.boot = {} ∧ t.dev.storeW = s.dev.storeW ∧ t.dev.storeE = s.dev.storeE ∧ t.dev.clk = s.dev.clk ∧
    t.dev.num Obj.rakeHolder = 2 ∧ t.dev.num Obj.rakeEpoch = 0) ∧
  (∀ s, s.dev.pins.porstN = false → exec .porstNRise s =
    .next { s with dev := { s.dev with pins := { s.dev.pins with porstN := true }, boot := { s.dev.boot with riseClk := s.dev.clk } } }) ∧
  (∀ s a b c, s.dev.pins.porstN = true → s.dev.pa.strapped = false → ∃ t, exec (.strapSample a b c) s = .next t ∧
    t = { s with dev := { (s.dev.advanceTo (s.dev.boot.riseClk + us 66)).setNum Obj.bootStrapValue (strapValue a b c) with
      pa := { s.dev.pa with strapped := true } } } ∧
    t.dev.num Obj.bootStrapValue % 512 = (a &&& b ||| a &&& c ||| b &&& c) % 512) ∧
  (∀ s, ∃ t, exec .vao18Loss s = .next t ∧ t.pending = s.pending ∧ t.otp = s.otp ∧ t.commitLock = s.commitLock ∧
    t.dev.pins = { s.dev.pins with vao18 := false, thermtrip := false } ∧ t.dev.pa = { s.dev.pa with supervisor := false, strapped := false } ∧
    t.dev.num Obj.bootStrapValue = 0 ∧ t.dev.clocks = { s.dev.clocks with aoRunning := false, aoBase := 0 } ∧
    (∀ k, k ≠ Obj.bootStrapValue → tabFind t.dev.objs k = tabFind s.dev.objs k))

/-- The release of the halves, the ROMs' self-checks, QDR training and the time-outs of boot stages (R89, R90, R96, R98). The model's choices in it:
assumption log 5, 28. -/
def Obligations.ReleaseAndRomEvents : Prop :=
  (∀ s, s.dev.pins.porstN = true → s.dev.pa.strapped = true → s.dev.boot.released = false → s.dev.pa.forceFlag = false →
    s.dev.num Obj.bootAttempts < s.dev.num Obj.bootAttemptThreshold → ∃ t, exec .halvesRelease s = .next t ∧
    t.pending = s.pending ∧ t.otp = s.otp ∧ t.commitLock = s.commitLock ∧ t.dev.sessions = s.dev.sessions ∧
    t.dev.boot.released = true ∧ t.dev.num Obj.rakeHolder = 2 ∧ t.dev.num Obj.rakeEpoch = s.dev.num Obj.rakeEpoch ∧
    t.dev.num Obj.bootHealthyState = 0 ∧ t.dev.num Obj.bootAttempts = min 7 (s.dev.num Obj.bootAttempts + 1) ∧
    t.dev.pa.wdW.running = true ∧ t.dev.pa.wdE.running = true ∧ t.dev.pa.wdW.period = 10000 ∧ t.dev.pa.wdE.period = 10000 ∧
    t.dev.clocks.stopped = false) ∧
  (∀ s, s.dev.pins.porstN = true → s.dev.pa.strapped = true → s.dev.boot.released = false → s.dev.pa.forceFlag = true →
    ∃ t, exec .halvesRelease s = .next t ∧ t.dev.num Obj.bootCrocusActive = 1 ∧ t.dev.num Obj.bootCrocusReason = 0x0B ∧
    t.dev.num Obj.bootAttempts = s.dev.num Obj.bootAttempts) ∧
  (∀ s h, s.dev.boot.released = true → s.dev.romStopped h = false → exec (.romPass h) s =
    .next { s with dev := { s.dev with boot := byHalf h { s.dev.boot with romPassW := true } { s.dev.boot with romPassE := true } } }) ∧
  (∀ s h, s.dev.boot.released = true → s.dev.romPassed h = false → s.dev.romStopped h = false →
    exec (.romSelfcheckRetry h true) s =
      .next { s with dev := { s.dev with boot := byHalf h { s.dev.boot with romPassW := true } { s.dev.boot with romPassE := true } } } ∧
    exec (.romSelfcheckRetry h false) s =
      .next { s with dev := { s.dev with boot := byHalf h { s.dev.boot with romStopW := true } { s.dev.boot with romStopE := true } } }) ∧
  (∀ s (k : Fin 4), s.dev.boot.released = true → k.val ∉ s.dev.boot.qdrTrained → exec (.qdrTrained k) s =
    .next { s with dev := { s.dev with boot := { s.dev.boot with qdrTrained := k.val :: s.dev.boot.qdrTrained } } }) ∧
  (∀ s (k : Fin 4), s.dev.boot.released = true → s.dev.crocus = false → k.val ∉ s.dev.boot.qdrTrained → s.dev.boot.slotChosen = false →
    ∃ t, exec (.qdrTrainTimeout k) s = .next t ∧ t.dev.num Obj.bootLastFail = 0x06 ∧ t.dev.boot = { warmPending := true } ∧
    t.dev.num Obj.bootCrocusHistory = (s.dev.num Obj.bootCrocusHistory * 256 + 0x06) % 2 ^ 64 ∧ t.dev.sessions = [] ∧ t.otp = s.otp) ∧
  (∀ s h, s.dev.boot.released = true → s.dev.crocus = false → s.dev.boot.slotChosen = false →
    (∃ t, exec (.bootStageTimeout .verify h) s = .next t ∧ t.dev.num Obj.bootLastFail = 0x04 ∧ t.dev.boot = { warmPending := true }) ∧
    (s.dev.seamUp = false → ∃ t, exec (.bootStageTimeout .seam h) s = .next t ∧ t.dev.num Obj.bootLastFail = 0x05 ∧
      t.dev.boot = { warmPending := true }) ∧
    (s.dev.boot.qdrTrained = [] → ∃ t, exec (.bootStageTimeout .qdr h) s = .next t ∧ t.dev.num Obj.bootLastFail = 0x06 ∧
      t.dev.boot = { warmPending := true }) ∧
    (s.dev.romPassed h = false → exec (.bootStageTimeout .rom h) s = .next { s with dev := { s.dev with
      boot := byHalf h { s.dev.boot with romFailW := true } { s.dev.boot with romFailE := true } } })) ∧
  (∀ s h, s.dev.boot.released = true → s.dev.crocus = false → s.dev.boot.slotChosen = true → s.dev.boot.bootCommitDone = false →
    ∃ t, exec (.bootStageTimeout .bootCommit h) s = .next t ∧ t.dev.num Obj.bootLastFail = 0x09 ∧ t.dev.boot = { warmPending := true })

/-- Claims of the rake and their refusal, the preferred half's delay, the claim time-out, a half without the PA die, and a half that finds it is not the
holder (R100, R101, R103, R104, R105). The model's choices in it: assumption log 5, 25. -/
def Obligations.RakeEvents : Prop :=
  (∀ s h, s.dev.boot.released = true → s.dev.romPassed h = true → s.dev.holder = none → byHalf h s.dev.boot.paLostW s.dev.boot.paLostE = false →
    ∃ t, exec (.rakeClaim h) s = .next t ∧ t.pending = s.pending ∧ t.otp = s.otp ∧ t.commitLock = s.commitLock ∧
    (∀ y ∈ t.dev.sessions, y.isNet = false) ∧
    t.dev.num Obj.rakeHolder = h.code ∧ t.dev.num Obj.rakeEpoch = (s.dev.num Obj.rakeEpoch + 1) % 2 ^ 32 ∧
    t.dev.num Obj.rakeClaimTime = s.dev.time h ∧ t.dev.rakeView h = ⟨true, (s.dev.num Obj.rakeEpoch + 1) % 2 ^ 32⟩) ∧
  (∀ s h w, s.dev.boot.released = true → s.dev.romPassed h = true → s.dev.holder = some w → byHalf h s.dev.boot.paLostW s.dev.boot.paLostE = false →
    exec (.rakeClaim h) s =
    .next { s with dev := (s.dev.setRakeView h ⟨w == h, s.dev.num Obj.rakeEpoch⟩).emit (.paRefused h w.code (s.dev.num Obj.rakeEpoch)) }) ∧
  (∀ s, s.dev.boot.released = true → s.dev.romPassed s.dev.preferred.other = true → s.dev.holder = none →
    byHalf s.dev.preferred.other s.dev.boot.paLostW s.dev.boot.paLostE = false →
    ∃ t, exec .rakePrefDelayExpiry s = .next t ∧ t.dev.num Obj.rakeHolder = s.dev.preferred.other.code ∧
    t.dev.num Obj.rakeEpoch = (s.dev.num Obj.rakeEpoch + 1) % 2 ^ 32 ∧ (∀ y ∈ t.dev.sessions, y.isNet = false)) ∧
  (∀ s, s.dev.boot.released = true → s.dev.holder = none → s.dev.crocus = false → ∃ t, exec .rakeClaimTimeout s = .next t ∧
    t.dev.num Obj.bootCrocusActive = 1 ∧ t.dev.num Obj.bootCrocusReason = 0x08 ∧ t.dev.num Obj.bootLastFail = 0x08 ∧
    t.dev.num Obj.bootCrocusHistory = (s.dev.num Obj.bootCrocusHistory * 256 + 0x08) % 2 ^ 64 ∧
    t.dev.num Obj.bootAttempts = s.dev.num Obj.bootAttempts) ∧
  (∀ s h, s.dev.boot.released = true → s.dev.holder = none → s.dev.boot.paLostW = false → s.dev.boot.paLostE = false →
    ∃ t, exec (.paDieUnreachable h) s = .next t ∧ t.dev.num Obj.bootCrocusActive = 1 ∧ t.dev.num Obj.bootCrocusReason = 0x07 ∧
    t.dev.num Obj.bootCrocusReasonHalf = h.code ∧ t.dev.num Obj.bootLastFail = s.dev.num Obj.bootLastFail) ∧
  (∀ s h, s.dev.boot.released = true → s.dev.holder = some h.other → s.dev.boot.paLostW = false → s.dev.boot.paLostE = false →
    ∃ t, exec (.paDieUnreachable h) s = .next t ∧ t.dev.num Obj.bootCrocusActive = 1 ∧ t.dev.num Obj.bootCrocusReason = 0x07 ∧
    t.dev.num Obj.bootCrocusReasonHalf = h.code ∧ t.dev.num Obj.bootLastFail = 0x07) ∧
  (∀ s h, s.dev.boot.released = true → s.dev.holder = none → byHalf h.other s.dev.boot.paLostW s.dev.boot.paLostE = true →
    ∃ t, exec (.paDieUnreachable h) s = .next t ∧ t.dev.num Obj.bootCrocusActive = 1 ∧ t.dev.num Obj.bootCrocusReason = 0x07 ∧
    t.dev.num Obj.bootCrocusReasonHalf = 2 ∧ t.dev.num Obj.bootLastFail = s.dev.num Obj.bootLastFail) ∧
  (∀ s h, (s.dev.rakeView h).holds = true → s.dev.holder ≠ some h → s.dev.commit = none → s.dev.seamUp = true →
    exec (.holderDemote h) s = .next { s with dev := s.dev.setRakeView h ⟨false, s.dev.num Obj.rakeEpoch⟩ })

/-- Checks of images, the start of firmware on default values, the lane calibration of boot, watchdog kicks and expiries, and a cluster that rejoins (R91,
R92, R98, R99, R107, R317). The model's choices in it: assumption log 5, 18, 26, 28, 98, 99. -/
def Obligations.ImageAndWatchdogEvents : Prop :=
  (∀ s h sl img, s.dev.boot.released = true → s.dev.romPassed h = true → s.dev.holder.isSome = true → s.dev.crocus = false →
    s.dev.boot.slotChosen = false → s.dev.boot.checks = [] → exec (.imageVerified h sl img) s =
    .next { s with dev := ({ s.dev with boot := { s.dev.boot with checks := [⟨h, sl, verifyImage s.otp s.commitLock (s.dev.romFinds h sl img), Config.shake256 (s.dev.romFinds h sl img).header 64, (s.dev.romFinds h sl img).version, (s.dev.romFinds h sl img).svn, (s.dev.romFinds h sl img).keySlot⟩] } } : Dev).noteSlot sl (verifyImage s.otp s.commitLock (s.dev.romFinds h sl img)) (s.dev.romFinds h sl img).version }) ∧
  (∀ s h sl img, s.dev.boot.released = true → s.dev.romPassed h = true → s.dev.holder.isSome = true → s.dev.crocus = false →
    s.dev.boot.slotChosen = false → s.dev.boot.checks = [] → tabFind s.dev.flash (h, sl) = none → img.empty = true → ∃ t, exec (.imageVerified h sl img) s = .next t ∧
    t.dev.num Obj.fwVerifyResult = 0x06 ∧ t.dev.num (slotStateKey sl) = 0 ∧ t.dev.num (slotVersionKey sl) = 0) ∧
  (∀ s d, s.dev.boot.slotChosen = true → s.dev.boot.bootCommitDone = false → s.dev.crocus = false → s.dev.boot.firmwareW = false →
    s.dev.boot.firmwareE = false → s.dev.pa.skipStore = true →
    ((s.dev.imageRuns.clusterStarts .west).clusterStarts .east).applyBoot [] = some d →
    exec .firmwareStart s = .next { s with dev := d.bootDone 1 }) ∧
  (∀ s, s.dev.boot.bootCommitDone = true → s.dev.boot.laneCalDone = false → ∃ t, exec (.bootLaneCalibration []) s = .next t ∧
    t.dev.boot.laneCalDone = true ∧ ∀ l, l < 256 → t.dev.num (Obj.laneCalResult l) = 0) ∧
  (∀ s h, (s.dev.watchdog h).running = true → byHalf h s.dev.boot.haltW s.dev.boot.haltE = false → exec (.watchdogKick h) s =
    .next { s with dev := s.dev.modWatchdog h (fun w => { w with lastKick := s.dev.clk }) }) ∧
  (∀ s h, (s.dev.watchdog h).running = true → (s.dev.watchdog h).suspended = false → s.dev.flag Obj.bootHealthyState = false →
    ∃ t, exec (.watchdogExpiry h) s = .next t ∧ t.dev.num Obj.bootLastFail = 0x04 ∧ t.dev.boot = { warmPending := true } ∧
    t.dev.sessions = [] ∧ t.otp = s.otp) ∧
  (∀ s h, (s.dev.watchdog h).running = true → (s.dev.watchdog h).suspended = false → s.dev.flag Obj.bootHealthyState = true →
    s.dev.holder ≠ some h → ∃ t, exec (.watchdogExpiry h) s = .next t ∧ (t.dev.watchdog h).running = false ∧
    byHalf h t.dev.boot.firmwareW t.dev.boot.firmwareE = false ∧ (∀ x ∈ t.dev.sessions, x.half ≠ h) ∧
    t.dev.num Obj.rakeWdExpiries = (s.dev.num Obj.rakeWdExpiries + 1) % 2 ^ 32 ∧ t.dev.num Obj.rakeHolder = s.dev.num Obj.rakeHolder) ∧
  (∀ s h, s.dev.boot.bootCommitDone = true → byHalf h s.dev.boot.firmwareW s.dev.boot.firmwareE = false →
    byHalf h s.dev.boot.haltW s.dev.boot.haltE = false → ∃ t, exec (.clusterRejoin h) s = .next t ∧
    byHalf h t.dev.boot.firmwareW t.dev.boot.firmwareE = true ∧ (t.dev.watchdog h).running = true ∧
    (t.dev.watchdog h).period = s.dev.num Obj.rakeWdPeriod ∧ t.dev.objs = s.dev.objs ∧ ∃ l, t.dev.sessions = s.dev.sessions ++
      { sid := s.dev.nextSid, transport := .firmware h, role := .owner, scope := 0xFFFF, half := h, lastMsg := s.dev.clk } :: l ∧
      ∀ y ∈ l, y.role = .tenant ∧ y.half = h ∧ Half.ofSlice y.scope = h ∧ y.transport = .tenant y.scope ∧ s.dev.num (Obj.rmeSliceState y.scope) = 1)

/-- A thermal trip, the loss and return of VPA, and the training of seam modules with its time-out (R31, R90, R191, R320, R397). The model's choices in
it: assumption log 5, 14. -/
def Obligations.TripSupplyAndSeamTraining : Prop :=
  (∀ s (n : Fin 28) c, c < 115 → exec (.thermalTrip n c) s = .next s) ∧
  (∀ s (n : Fin 28) c, 115 ≤ c → ∃ t, exec (.thermalTrip n c) s = .next t ∧ t.dev.pins.thermtrip = true ∧
    (∀ e ∈ t.dev.slots, e.2.perstRel = false) ∧ t.pending = s.pending ∧ t.otp = s.otp ∧ t.commitLock = s.commitLock) ∧
  (∀ s, exec .vpaLow s = .next { s with dev := { s.dev with pins := { s.dev.pins with vpa := false }, slots := s.dev.slots.map (fun e => (e.1, { e.2 with gateA := false, gateB := false, gateH := false, aux := false, perstRel := false, pg := false, brake := false })) } }) ∧
  (∀ s, s.dev.pins.vpa = false → exec .vpaRecover s = .next { s with dev := ({ s.dev with pins := { s.dev.pins with vpa := true } } : Dev).allSlotsShut.followAllFeeds }) ∧
  (∀ s x (m : Fin 8), (s.dev.seamMod x m).st = .training → s.dev.seam.lost = false → s.dev.holder.isSome = true →
    exec (.seamTrained x m) s = .next { s with dev := ((s.dev.modSeamMod x m (fun y => { y with st := .active })).setNum (seamBits x) (setBit (s.dev.num (seamBits x)) m true)).refreshSeam }) ∧
  (∀ s, s.dev.holder.isSome = true → s.dev.crocus = false → s.dev.seam.lost = false → s.dev.untrained .we ++ s.dev.untrained .ew ≠ [] →
    exec .seamTrainTimeout s =
      (let d := (s.dev.untrained .we).foldl (fun d m => d.retireModule .we m) (s.dev.advanceTo (s.dev.boot.claimClk + ms 20))
       let d := (d.untrained .ew).foldl (fun d m => d.retireModule .ew m) d
       let bad := fun x => (d.retiredMods x).contains 0 || decide (4 < (d.retiredMods x).length)
       .next { s with dev := if (bad .we || bad .ew) && !d.boot.slotChosen then d.failAttempt 0x05 (if bad .we then 0 else 1) else d }))

/-- A request of one item that passes its checks is carried out and answered: PING, READ, DESCRIBE, and writes of staged and live objects; a response is
discarded, a notification acknowledged, and a queued request begun (R46, R53, R74, R75, R79, R404, R411). The model's choices in it: assumption log
16, 24, 80, 102, 104. -/
def Obligations.RequestsAreAnswered : Prop :=
  (∀ s x m r, ready s x r.rid = true → parseFbp m = .request r → r.opcode = Opcode.ping → exec (.ping x.sid m) s =
    .next (finishRequest (taken s x r m) x.sid (execOf r m) Status.ok)) ∧
  (∀ s x m r i q o k, ready s x r.rid = true → parseFbp m = .request r → r.opcode = Opcode.read → r.items = [i] → i.idx < 0xF000 →
    locate (taken s x r m) (takenSes s x r m) i = .ok (q, o, k) → (i.type = 0 ∨ i.type = o.ty.code) →
    (taken s x r m).dev.modeForbids k false = false → (taken s x r m).dev.harvestBusy k = false →
    (taken s x r m).dev.tooFar (takenSes s x r m) k = false →
    (encodeVal o.ty (readObj (taken s x r m) (takenSes s x r m) k o r.staged).2).length ≤ 960 →
    exec (.read x.sid m) s = .next (finishRequest
      { taken s x r m with dev := (readObj (taken s x r m) (takenSes s x r m) k o r.staged).1 } x.sid
      { execOf r m with done := [answerItem i Status.ok (encodeVal o.ty (readObj (taken s x r m) (takenSes s x r m) k o r.staged).2) o.ty.code] }
      Status.ok)) ∧
  (∀ s x m r i q o k, ready s x r.rid = true → parseFbp m = .request r → r.opcode = Opcode.describe → r.items = [i] → i.idx < 0xF000 →
    locate (taken s x r m) (takenSes s x r m) i = .ok (q, o, k) → (i.type = 0 ∨ i.type = o.ty.code) →
    (taken s x r m).dev.modeForbids k false = false → (taken s x r m).dev.tooFar (takenSes s x r m) k = false →
    exec (.describe x.sid m) s = .next (finishRequest (taken s x r m) x.sid
      { execOf r m with done := [answerItem i Status.ok (describeBytes (taken s x r m) (takenSes s x r m) k o) ObjType.blob.code] } Status.ok)) ∧
  (∀ s x m r i q o k v, ready s x r.rid = true → parseFbp m = .request r → r.opcode = Opcode.write → r.items = [i] → i.idx < 0xF000 →
    locate (taken s x r m) (takenSes s x r m) i = .ok (q, o, k) →
    checkWrite (taken s x r m) (takenSes s x r m) q k o i.type (decodeVal o.ty i.data) = .ok (v, false) → o.cls = .staged →
    (taken s x r m).dev.stageWrite (takenSes s x r m) k v = ((taken s x r m).dev.modSes x.sid (fun y =>
      { y with staged := tabSet Key.code y.staged k v }), Status.ok) →
    exec (.write x.sid m) s = .next (finishRequest { taken s x r m with dev := (taken s x r m).dev.modSes x.sid (fun y =>
      { y with staged := tabSet Key.code y.staged k v }) } x.sid { execOf r m with done := [answerItem i Status.ok] } Status.ok)) ∧
  (∀ s x rid idx sub ty n q o, accepts s x rid idx sub ty n = true → idx < 0xF000 → sub < 256 → findRec idx = some q → q.row sub = some o →
    o.cls = .staged → (begunSes s x rid [(idx, sub, ty, n)]).staged.length < 4096 → (begun s x rid [(idx, sub, ty, n)]).dev.stagedTotal < 16384 →
    exec (.objectWrite x.sid rid idx sub ty.code (beBytes ty.width n)) s =
      .next (answered (begun s x rid [(idx, sub, ty, n)]) ((begun s x rid [(idx, sub, ty, n)]).dev.modSes x.sid (fun y =>
        { y with staged := tabSet Key.code y.staged (x.keyFor q idx sub) (.num n) })) x rid [(idx, sub, ty, n)])) ∧
  (∀ s x m, s.dev.ses x.sid = some x → x.sid < 2 ^ 32 → x.keysSpent = false → parseFbp m = .response →
    exec (.fbpResponseDiscard x.sid m) s = .next { s with dev := counted s x }) ∧
  (∀ s x n, s.dev.ses x.sid = some x → x.sid < 2 ^ 32 → x.keysSpent = false → n < 2 ^ 32 → exec (.notifyAck x.sid n) s =
    .next { s with dev := (counted s x).modSes x.sid (fun y => { y with notices := y.notices.filter (fun a => a.seq != n) }) }) ∧
  (∀ s x raw rest r, s.dev.ses x.sid = some x → x.sid < 2 ^ 32 → x.exec = none → x.queue = raw :: rest → requestOf raw = some r →
    exec (.requestExecute x.sid) s =
      .next (execute { s with dev := s.dev.modSes x.sid (fun y => { y with queue := rest }) } x.sid r raw))

/-- The rows of a segmented transfer (R76, R77, R78). The model's choices in it: assumption log 5, 17, 103. -/
def Obligations.TransferRequests : Prop :=
  (∀ s x m r i q o k, ready s x r.rid = true → parseFbp m = .request r → r.opcode = Opcode.blobOpen → r.items = [i] → x.blob = none →
    locate (taken s x r m) (takenSes s x r m) i = .ok (q, o, k) → o.ty = .blob → i.data.length = 8 → beNat (slice i.data 4 1) = 0 →
    (taken s x r m).dev.modeForbids k false = false → (taken s x r m).dev.harvestBusy k = false →
    (taken s x r m).dev.tooFar (takenSes s x r m) k = false →
    exec (.blobOpen x.sid m) s =
      (let v := readObj (taken s x r m) (takenSes s x r m) k o false
       let h := v.1.free % 2 ^ 16
       let b : Blob := ⟨h, k, false, v.2.toBytes.length, v.2.toBytes, v.1.clk⟩
       .next (finishRequest { s with dev := v.1.bump.modSes x.sid (fun y => { y with blob := some b }) } x.sid
         { execOf r m with done := [answerItem i Status.ok (openValue h b.total ++ Config.shake256 b.data 32) ObjType.blob.code] } Status.ok))) ∧
  (∀ s x m r i q o k, ready s x r.rid = true → parseFbp m = .request r → r.opcode = Opcode.blobOpen → r.items = [i] → x.blob = none →
    locate (taken s x r m) (takenSes s x r m) i = .ok (q, o, k) → beNat (slice i.data 4 1) = 1 →
    checkOpen (taken s x r m) (takenSes s x r m) q k o i (beNat (slice i.data 0 4)) = none →
    (taken s x r m).dev.tooFar (takenSes s x r m) k = false →
    exec (.blobOpen x.sid m) s =
      (let h := s.dev.free % 2 ^ 16
       let b : Blob := ⟨h, k, true, beNat (slice i.data 0 4), [], s.dev.clk⟩
       .next (finishRequest { s with dev := (taken s x r m).dev.bump.modSes x.sid (fun y => { y with blob := some b }) } x.sid
         { execOf r m with done := [answerItem i Status.ok (openValue h b.total) ObjType.blob.code] } Status.ok))) ∧
  (∀ s x m r i b, ready s x r.rid = true → parseFbp m = .request r → r.opcode = Opcode.blobData → r.items = [i] → x.blobOf i.data = some b →
    8 ≤ i.data.length → b.isWrite = false → beNat (slice i.data 4 4) ≤ b.total →
    exec (.blobData x.sid m) s = .next (finishRequest
      { s with dev := (taken s x r m).dev.modSes x.sid (fun y => { y with blob := some { b with lastMsg := s.dev.clk } }) } x.sid
      { execOf r m with done := [answerItem i Status.ok (slice b.data (beNat (slice i.data 4 4)) 960) ObjType.blob.code] } Status.ok)) ∧
  (∀ s x m r i b, ready s x r.rid = true → parseFbp m = .request r → r.opcode = Opcode.blobData → r.items = [i] → x.blobOf i.data = some b →
    8 ≤ i.data.length → b.isWrite = true → beNat (slice i.data 4 4) = b.data.length → i.data.length ≤ 968 →
    exec (.blobData x.sid m) s = .next (finishRequest
      { s with dev := (taken s x r m).dev.modSes x.sid (fun y => { y with blob := some { b with data := b.data ++ i.data.drop 8, lastMsg := s.dev.clk } }) }
      x.sid { execOf r m with done := [answerItem i Status.ok] } Status.ok)) ∧
  (∀ s x m r i b, ready s x r.rid = true → parseFbp m = .request r → r.opcode = Opcode.blobClose → r.items = [i] → x.blobOf i.data = some b →
    i.data.length = 36 → b.isWrite = false →
    exec (.blobClose x.sid m) s = .next (finishRequest
      { s with dev := (taken s x r m).dev.modSes x.sid (fun y => { y with blob := none }) } x.sid
      { execOf r m with done := [answerItem i Status.ok] } Status.ok)) ∧
  (∀ s x m r i b q o st', ready s x r.rid = true → parseFbp m = .request r → r.opcode = Opcode.blobClose → r.items = [i] →
    x.blobOf i.data = some b → i.data.length = 36 → b.isWrite = true → b.data.length = b.total →
    findRec b.key.idx = some q → q.row b.key.sub = some o →
    checkWrite (taken s x r m) (takenSes s x r m) q b.key o o.ty.code (some (.bytes b.data)) = .ok (.bytes b.data, false) →
    performWrite (taken s x r m) (takenSes s x r m) b.key o (.bytes b.data) = (st', .done Status.ok) →
    exec (.blobClose x.sid m) s = .next (if Config.shake256 b.data 32 = slice i.data 4 32 then
        finishRequest (st'.endBlob x.sid) x.sid { execOf r m with done := [answerItem i Status.ok] } Status.ok
      else finishRequest (taken s x r m) x.sid { execOf r m with done := [answerItem i Status.blobDigest] } Status.blobDigest)) ∧
  (∀ s x m r i b, ready s x r.rid = true → parseFbp m = .request r → r.opcode = Opcode.blobAbort → r.items = [i] → x.blobOf i.data = some b →
    i.data.length = 4 → exec (.blobAbort x.sid m) s = .next (finishRequest
      { s with dev := (taken s x r m).dev.modSes x.sid (fun y => { y with blob := none }) } x.sid
      { execOf r m with done := [answerItem i Status.ok] } Status.ok)) ∧
  (∀ s x b, s.dev.ses x.sid = some x → x.sid < 2 ^ 32 → x.blob = some b → exec (.blobTimeout x.sid) s =
    .next { s with dev := (s.dev.advanceTo (b.lastMsg + sec 30)).modSes x.sid (fun y => { y with blob := none }) })

/-- Opening, idling and keys of sessions, notifications, measurements, and what the field network answers outside sessions (R79, R80, R81, R82, R84,
R110). The model's choices in it: assumption log 5, 16, 40, 44, 83. -/
def Obligations.SessionsAndTransports : Prop :=
  (∀ s x, s.dev.ses x.sid = some x → x.sid < 2 ^ 32 → (∀ v, x.transport ≠ .mailbox v) → exec (.notifyResend x.sid) s =
    .next { s with dev := x.notices.foldl (fun (d : Dev) n => d.deliver x true n.seq (encodeNotify n.seq n.cls n.items)) s.dev }) ∧
  (∀ s x, s.dev.ses x.sid = some x → x.sid < 2 ^ 32 → x.idles = true → exec (.sessionIdleTimeout x.sid) s =
    .next { s with dev := (s.dev.advanceTo (x.lastMsg + sec (s.dev.num Obj.mgmtSessionIdleTimeout))).endSessions (fun y => y.sid == x.sid) }) ∧
  (∀ s key, s.dev.portOn = true → s.dev.sessions.countP Session.isNet < 8 → exec (.spdmKeyExchange ⟨.net, key⟩ true) s =
    .next { s with dev := match s.dev.keyRole (Config.shake256 key 32) with
      | some r => (s.dev.openSession .net r 0xFFFF s.dev.holderHalf).emit (.spdm 1 (beBytes 4 s.dev.nextSid))
      | none => s.dev.emit (.spdm 0 []) }) ∧
  (∀ s (v : Fin 64) key proved, s.dev.endpointServed v = true → exec (.spdmKeyExchange ⟨.doe v, key⟩ proved) s =
    .next { s with dev := if s.dev.endpointKeyOk v key proved
      then ({ s.dev with endpoints := tabMod s.dev.endpoints v {} (fun e => { e with doe := true }) } : Dev).emit (.spdm 1 []) else s.dev.emit (.spdm 0 []) }) ∧
  (∀ s (v : Fin 64) (eid : Fin 256) key proved x, s.dev.endpointServed v = true →
    s.dev.sessions.find? (fun y => y.transport == .mctp v eid) = some x → x.keysSpent = false → exec (.spdmKeyExchange ⟨.mctp v eid, key⟩ proved) s =
    (let d := s.dev.modSes x.sid (fun y => { y with lastMsg := s.dev.clk, msgs := y.msgs + 1 })
     .next { s with dev := if d.endpointKeyOk v key proved
      then (d.modSes x.sid (fun y => { y with secured := true, msgs := 0, sent := 0 })).emit (.spdm 1 (beBytes 4 x.sid)) else d.emit (.spdm 0 []) })) ∧
  (∀ s x, s.dev.ses x.sid = some x → x.sid < 2 ^ 32 → x.secured = true → exec (.spdmKeyUpdate x.sid) s =
    .next { s with dev := (s.dev.modSes x.sid (fun y => { y with msgs := 0, sent := 0, lastMsg := s.dev.clk })).emit (.spdm 2 []) }) ∧
  (∀ s b nonce l, s.dev.served = true → measured s b = some l → exec (.getMeasurements .net ⟨b, nonce⟩) s =
    .next { s with dev := s.dev.emit (.spdm 3 (l ++ Config.mlDsaSign (l ++ nonce))) }) ∧
  (∀ s (v : Fin 64) b nonce l, s.dev.endpointServed v = true → measured s b = some l → exec (.getMeasurements (.doe v) ⟨b, nonce⟩) s =
    .next { s with dev := s.dev.emit (.spdm 3 (l ++ Config.mlDsaSign (l ++ nonce))) }) ∧
  (∀ s (v : Fin 64) (eid : Fin 256) b nonce l x, s.dev.endpointServed v = true → measured s b = some l →
    s.dev.sessions.find? (fun y => y.transport == .mctp v eid) = some x → x.keysSpent = false → exec (.getMeasurements (.mctp v eid) ⟨b, nonce⟩) s =
    .next { s with dev := (s.dev.modSes x.sid (fun y => { y with lastMsg := s.dev.clk, msgs := y.msgs + 1 })).emit (.spdm 3 (l ++ Config.mlDsaSign (l ++ nonce))) }) ∧
  (∀ s (u : Datagram), s.dev.portOn = true → u.port = 47590 → u.fragmented = false → 4 ≤ u.data.length → u.data.length ≤ 1280 → beNat (u.data.take 1) = 3 →
    exec (.fbpClearDatagram u) s =
    .next { s with dev := s.dev.emit (.clear (encodeResponse (beNat (slice (u.data.drop 4) 1 1)) (beNat (slice (u.data.drop 4) 4 4)) Status.auth [])) }) ∧
  (∀ s, s.dev.portOn = true → exec (.icmpv6NeighbourDiscovery linkLocal) s = .next { s with dev := s.dev.emit (.icmp 0 (beBytes 6 deviceMac)) }) ∧
  (∀ s data, s.dev.portOn = true → exec (.icmpv6Echo data) s = .next { s with dev := s.dev.emit (.icmp 1 data) })

/-- The mailbox of a management endpoint, its endpoint ID and the keys of IDE (R83, R84, R111). The model's choices in it: assumption log 43. -/
def Obligations.EndpointEvents : Prop :=
  (∀ s (v : Fin 64) x m, s.dev.endpointServed v = true → (s.dev.mailbox v).busy = false →
    s.dev.sessions.find? (fun y => y.transport == .mailbox v) = some x → exec (.mbGo v m) s =
    .next (takeMessage { s with dev := s.dev.modMailbox v (fun b => { b with busy := true, reqLen := m.length, req := m }) } x m)) ∧
  (∀ s (v : Fin 64) x, s.dev.sessions.find? (fun y => y.transport == .mailbox v) = some x → (s.dev.mailbox v).busy = true → x.exec = none →
    exec (.mbAbort v) s = .next { s with dev := (s.dev.modSes x.sid (fun y => { y with queue := [] })).modMailbox v (fun m => { m with busy := false }) }) ∧
  (∀ s (v : Fin 64) (t : Fin 16) x, s.dev.sessions.find? (fun y => y.transport == .mailbox v) = some x → exec (.mbNtfTail v t) s =
    (let m := s.dev.mailbox v
     let gone := slotsBefore m.tail t
     let d := s.dev.modMailbox v (fun m => { m with tail := t, slots := m.slots.filter (fun e => !gone.contains e.1) })
     .next { s with dev := ((m.slots.filter (fun e => gone.contains e.1)).map (fun e => beNat (e.2.take 4))).foldl (fun (d : Dev) q => d.ackNotice x.sid q) d })) ∧
  (∀ s (v : Fin 64) eid, exec (.setEndpointId v eid) s =
    (let d := s.dev.endSessions (Session.ofMctp v)
     .next { s with dev := { d with endpoints := tabMod d.endpoints v {} (fun e => { e with eid := eid % 256 }) } })) ∧
  (∀ s (v : Fin 64) key, s.dev.endpointServed v = true → s.dev.endpointSecured v = true → exec (.ideKm v false key) s =
    .next { s with dev := { s.dev with endpoints := tabMod s.dev.endpoints v {} (fun e => { e with ideKey := key, ideActive := false }) } }) ∧
  (∀ s (v : Fin 64) key, s.dev.endpointServed v = true → s.dev.endpointSecured v = true → exec (.ideKm v true key) s =
    .next { s with dev := { s.dev with endpoints := tabMod s.dev.endpoints v {} (fun e => { e with ideActive := !e.ideKey.isEmpty }) } })

/-- FAR_TIMEOUT, the answers and time-outs of configuration requests and evacuations, and the latch of a snapshot end the request that waits for them
(R23, R199, R243, R378). The model's choices in it: assumption log 24, 56, 60, 73, 96. -/
def Obligations.WaitingRequestsEnd : Prop :=
  (∀ s n i, s.dev.waitsFor n = some (.farAccess, i) → ¬ (i.idx = 0x1F00 ∧ i.sub = 1) → inPaDie ⟨i.idx, i.sub, 0⟩ = false →
    exec (.farTimeout n) s = .next (answerWait s n Status.farTimeout)) ∧
  (∀ s n i, s.dev.waitsFor n = some (.farAccess, i) → i.idx = 0x1F00 → i.sub = 1 → inPaDie ⟨i.idx, i.sub, 0⟩ = false → exec (.farTimeout n) s =
    .next (answerWait { s with dev := s.dev.setCommitResult n Status.farTimeout 0 noEntry } n Status.farTimeout)) ∧
  (∀ s n i, s.dev.waitsFor n = some (.farAccess, i) → i.idx ≠ 0x1F00 → inPaDie ⟨i.idx, i.sub, 0⟩ = true → exec (.farTimeout n) s =
    .next (answerWait { s with dev := s.dev.logEvent s.dev.holderHalf Scope.device 0 1 0x0602 } n Status.farTimeout)) ∧
  (∀ s n i data, s.dev.waitsFor n = some (.cfgRequest, i) → beNat i.data = 1 → exec (.fabricCfgCompletion n .sc data) s =
    .next (answerWait { s with dev := s.dev.modSes n (fun x => (x.setLoc Obj.fabricCfgreqCplStatus (.num 0)).setLoc Obj.fabricCfgreqData
      (.num (data % 2 ^ (8 * ((x.setLoc Obj.fabricCfgreqCplStatus (.num 0)).loc Obj.fabricCfgreqSize).toNum)))) } n Status.ok)) ∧
  (∀ s n i st data, s.dev.waitsFor n = some (.cfgRequest, i) → st ≠ .sc → exec (.fabricCfgCompletion n st data) s =
    .next (answerWait { s with dev := s.dev.modSes n (fun x => x.setLoc Obj.fabricCfgreqCplStatus (.num st.code)) } n Status.farNak)) ∧
  (∀ s n i, s.dev.waitsFor n = some (.cfgRequest, i) → exec (.fabricCfgTimeout n) s =
    .next (answerWait { s with dev := s.dev.modSes n (fun x => x.setLoc Obj.fabricCfgreqCplStatus (.num 0xFF)) } n Status.farTimeout)) ∧
  (∀ s (t i : Fin 16) q inc n mark, (s.dev.link i).evac = some (t.val, n, mark) → inc < 2 ^ 16 → exec (.evacReply t i q inc) s =
    .next (answerWait { s with dev := s.dev.evacuate i t mark q } n Status.ok)) ∧
  (∀ s (i : Fin 16) t n mark, (s.dev.link i).evac = some (t, n, mark) → exec (.bflEvacTimeout i) s =
    .next (answerWait { s with dev := s.dev.modLink i (fun x => { x with evac := none }) } n Status.farTimeout)) ∧
  (∀ s n x i t, s.dev.waitsFor n = some (.snapshot, i) → s.dev.ses n = some x → tabFind s.dev.tele.snapAt x.pmuScope = some t →
    exec (.pmuSnapLatch n) s =
    (let d := (s.dev.advanceTo (s.dev.clk + (t - s.dev.time x.half))).latchSnap x.pmuScope t
     let d := { d with tele := { d.tele with snapAt := tabDel d.tele.snapAt x.pmuScope } }
     .next ((d.sessions.filter (fun y => y.pmuScope == x.pmuScope && y.exec.any (fun e => e.wait == .snapshot))).foldl
       (fun s y => answerWait s y.sid Status.ok) { s with dev := d })))

/-- A session's request that waited for its one item is answered by the status of that item (R74), and executes no more (R74, R75). -/
def Obligations.AWaitEndsOnce : Prop :=
  ∀ s n e i rest st, (s.dev.ses n).bind (fun x => x.exec) = some e → e.wait ≠ .none → e.todo = i :: rest → succeeded st = false →
    answerWait s n st = finishRequest s n { e with done := e.done ++ [answerItem i st], wait := .none } st

/-- The rows that write objects of boot, firmware slots, OTP, the rake and the pad holds: each is performed and answered (R42, R89, R95, R97, R102, R106).
The model's choices in it: assumption log 25, 26, 107. -/
def Obligations.BootRequests : Prop :=
  (∀ s x rid, accepts s x rid 0x1020 3 .u8 1 = true → s.dev.boot.released = true → s.dev.elapsed s.dev.boot.releaseClk (sec 60) = true →
    s.dev.pa.wdW.running = true → s.dev.pa.wdE.running = true → exec (.healthyDeclare x.sid rid) s = .next (wrote s x rid 0x1020 3 .u8 1 (fun d =>
      ((((d.setNum Obj.bootAttempts 0).setNum Obj.bootHealthyState 1).setNum Obj.bootPhase 2).takeBaseline.replan .west).replan .east))) ∧
  (∀ s x rid, accepts s x rid 0x1020 6 .u8 1 = true → exec (.warmResetRequest x.sid rid) s =
    .next (wrote s x rid 0x1020 6 .u8 1 (fun d => { d with boot := { d.boot with warmAsked := true } }))) ∧
  (∀ s x rid, accepts s x rid 0x1030 5 .u8 1 = true → exec (.crocusForce x.sid rid) s =
    .next (wrote s x rid 0x1030 5 .u8 1 (fun d => { d with pa := { d.pa with forceFlag := true } }))) ∧
  (∀ s x rid, accepts s x rid 0x1030 6 .u8 1 = true → s.dev.crocus = true → exec (.crocusExit x.sid rid) s =
    .next (wrote s x rid 0x1030 6 .u8 1 (fun d =>
      let d := (d.setNum Obj.bootAttempts 0).setNum Obj.bootCrocusHistory 0
      { d with pa := { d.pa with forceFlag := false }, boot := { d.boot with warmAsked := true } }))) ∧
  (∀ s x rid, accepts s x rid 0x1030 6 .u8 2 = true → s.dev.crocus = true → exec (.crocusExitDefaults x.sid rid) s =
    .next (wrote s x rid 0x1030 6 .u8 2 (fun d =>
      let d := (d.setNum Obj.bootAttempts 0).setNum Obj.bootCrocusHistory 0
      { d with pa := { d.pa with forceFlag := false, skipStore := true }, boot := { d.boot with warmAsked := true } }))) ∧
  (∀ s x rid c, accepts s x rid 0xB010 2 .u8 1 = true → s.dev.runningCheck .west = some c → s.dev.flag Obj.bootHealthyState = true →
    exec (.otpCommit x.sid rid) s = .next (wrote { s with otp := { s.otp with counter := max s.otp.counter c.svn } } x rid 0xB010 2 .u8 1 id)) ∧
  (∀ s x rid c n, accepts s x rid 0xB010 3 .u8 n = true → s.dev.runningCheck .west = some c → s.dev.flag Obj.bootHealthyState = true →
    bitOf (s.otp.revoked ||| field n 0 4) c.keySlot = false → s.otp.revoked ||| field n 0 4 ≠ 15 →
    exec (.otpRevoke x.sid rid n) s = .next (wrote { s with otp := { s.otp with revoked := s.otp.revoked ||| field n 0 4 } } x rid 0xB010 3 .u8 n id)) ∧
  (∀ s x rid h, accepts s x rid 0xB040 3 .u8 1 = true → s.dev.holder = some h → (s.dev.watchdog h.other).running = true →
    s.dev.romPassed h.other = true → s.dev.seamUp = true → exec (.rakeHandover x.sid rid) s =
    .next (wrote s x rid 0xB040 3 .u8 1 (fun d => { d with pa := { d.pa with handoverPending := true } }))) ∧
  (∀ s x rid n, accepts s x rid 0x9010 2 .u32 n = true →
    (∀ g ∈ bitsSet 23 (s.dev.num Obj.pwrPadHoldHeld &&& n), s.dev.groupAwake g = true) →
    exec (.padHoldRelease x.sid rid n) s = .next (wrote s x rid 0x9010 2 .u32 n (fun d =>
      d.setNum Obj.pwrPadHoldHeld (d.num Obj.pwrPadHoldHeld - (d.num Obj.pwrPadHoldHeld &&& n)))))

/-- Writes of `lane.cal_cmd`: full calibration and self-test (R128, R129). The model's choices in it: assumption log 34. -/
def Obligations.LaneCommands : Prop :=
  (∀ s x rid (l : Fin 256), accepts s x rid (0x2200 + l) 9 .u8 1 = true → s.dev.calBusy l = false → s.dev.rxActive l = true →
    exec (.laneCalBackground x.sid rid l) s = .next (wrote s x rid (0x2200 + l) 9 .u8 1 (fun d => d.setNum (Obj.laneCalStatus l) Cal.pending))) ∧
  (∀ s x rid (l : Fin 256), accepts s x rid (0x2200 + l) 9 .u8 2 = true → s.dev.inTest l = false → s.dev.calBusy l = false →
    s.dev.lanePortDown l = true → exec (.laneCalFull x.sid rid l) s = .next (wrote s x rid (0x2200 + l) 9 .u8 2 (fun d => d.startRun l 2 false))) ∧
  (∀ s x rid (l : Fin 256), accepts s x rid (0x2200 + l) 9 .u8 3 = true → s.dev.inTest l = false → s.dev.calBusy l = false →
    s.dev.lanePortDown l = true → exec (.laneBist x.sid rid l) s = .next (wrote s x rid (0x2200 + l) 9 .u8 3 (fun d => d.startRun l 3 false))) ∧
  (∀ s x rid (l : Fin 256), accepts s x rid (0x2200 + l) 9 .u8 0x82 = true → s.dev.inTest l = false → s.dev.calBusy l = false →
    s.dev.lanePortDown l = true → exec (.laneCalFullForced x.sid rid l) s =
      .next (wrote s x rid (0x2200 + l) 9 .u8 0x82 (fun d => d.startRun l 2 false))) ∧
  (∀ s x rid (l : Fin 256) p, accepts s x rid (0x2200 + l) 9 .u8 0x82 = true → s.dev.inTest l = false → s.dev.calBusy l = false →
    s.dev.lanePortDown l = false → s.dev.portOfLane l = some p → exec (.laneCalFullForced x.sid rid l) s =
      .next (wrote s x rid (0x2200 + l) 9 .u8 0x82 (fun d => (d.portDown p Ltssm.disabled DownCause.test).startRun l 2 true))) ∧
  (∀ s x rid (l : Fin 256) p, accepts s x rid (0x2200 + l) 9 .u8 0x83 = true → s.dev.inTest l = false → s.dev.calBusy l = false →
    s.dev.lanePortDown l = false → s.dev.portOfLane l = some p → exec (.laneBistForced x.sid rid l) s =
      .next (wrote s x rid (0x2200 + l) 9 .u8 0x83 (fun d => (d.portDown p Ltssm.disabled DownCause.test).startRun l 3 true))) ∧
  (∀ s x rid (l : Fin 256), accepts s x rid (0x2200 + l) 9 .u8 0x83 = true → s.dev.inTest l = false → s.dev.calBusy l = false →
    s.dev.lanePortDown l = true → exec (.laneBistForced x.sid rid l) s =
      .next (wrote s x rid (0x2200 + l) 9 .u8 0x83 (fun d => d.startRun l 3 false)))

/-- Writes of `port.cmd`, `bfl.cmd`, `fabric.cmd` and `rme.slice.cmd` (R140, R148, R199, R240, R243, R248). The model's choices in it: assumption log 56,
61. -/
def Obligations.PortLinkAndSliceCommands : Prop :=
  (∀ s x rid (p : Fin 128), accepts s x rid (0x2000 + p) 0x0E .u8 1 = true → s.dev.flag (Obj.portEnable p) = true → exec (.portRetrain x.sid rid p) s =
    .next (wrote s x rid (0x2000 + p) 0x0E .u8 1 (fun d => if s.dev.num (Obj.pstLtssm p) = Ltssm.l0 then d.enterRecovery p else d.endDisable p))) ∧
  (∀ s x rid (p : Fin 128), accepts s x rid (0x2000 + p) 0x0E .u8 2 = true → s.dev.flag (Obj.portEnable p) = true →
    s.dev.num (Obj.portRole p) = 0 → s.dev.num (Obj.pstLtssm p) ≠ Ltssm.recovery → exec (.portHotReset x.sid rid p) s =
    .next (wrote s x rid (0x2000 + p) 0x0E .u8 2 (fun d => (d.endDisable p).hotResetPort p))) ∧
  (∀ s x rid (p : Fin 128), accepts s x rid (0x2000 + p) 0x0E .u8 2 = true → s.dev.flag (Obj.portEnable p) = true →
    s.dev.num (Obj.portRole p) = 0 → s.dev.num (Obj.pstLtssm p) = Ltssm.recovery → exec (.portHotReset x.sid rid p) s =
    .next (wrote s x rid (0x2000 + p) 0x0E .u8 2 (fun d => d.modPort p (fun y => { y with afterRecovery := 2 })))) ∧
  (∀ s x rid (p : Fin 128), accepts s x rid (0x2000 + p) 0x0E .u8 3 = true → s.dev.flag (Obj.portEnable p) = true →
    exec (.portLinkDisable x.sid rid p) s = .next (wrote s x rid (0x2000 + p) 0x0E .u8 3 (fun d =>
      if s.dev.num (Obj.pstLtssm p) = Ltssm.recovery then d.modPort p (fun y => { y with afterRecovery := 3 }) else d.disablePort p))) ∧
  (∀ s x rid p off size, accepts s x rid 0x3102 5 .u8 1 = true → s.dev.fabricMode = true →
    s.dev.portOfBus ((x.loc Obj.fabricCfgreqRid).toNum / 256) = some p → (x.loc Obj.fabricCfgreqOffset).toNum = off →
    (x.loc Obj.fabricCfgreqSize).toNum = size → off % size = 0 → exec (.fabricCfgRead x.sid rid) s = .next (wroteWaits s x rid 0x3102 5 .u8 1
      (fun d => d.sendOwn localMgmt x.half p (Half.ofPort p) 7 none { body := .tlp { type := .cfgRead, target := (x.loc Obj.fabricCfgreqRid).toNum, addr := off, len := size, data := [], requester := 0x00A0 + x.half.code, tag := x.sid % 1024 } }) .cfgRequest)) ∧
  (∀ s x rid p off size, accepts s x rid 0x3102 5 .u8 2 = true → s.dev.fabricMode = true →
    s.dev.portOfBus ((x.loc Obj.fabricCfgreqRid).toNum / 256) = some p → (x.loc Obj.fabricCfgreqOffset).toNum = off →
    (x.loc Obj.fabricCfgreqSize).toNum = size → off % size = 0 → exec (.fabricCfgWrite x.sid rid) s = .next (wroteWaits s x rid 0x3102 5 .u8 2
      (fun d => d.sendOwn localMgmt x.half p (Half.ofPort p) 7 none { body := .tlp { type := .cfgWrite, target := (x.loc Obj.fabricCfgreqRid).toNum, addr := off, len := size, data := leBytes size (x.loc Obj.fabricCfgreqData).toNum, requester := 0x00A0 + x.half.code, tag := x.sid % 1024 } }) .cfgRequest)) ∧
  (∀ s x rid (i : Fin 16), accepts s x rid (0x3400 + i) 10 .u8 1 = true → s.dev.linkSt i = LinkSt.active →
    ¬ (s.dev.num Obj.pairState = PairSt.formed ∧ s.dev.activeLinks.length = 1) → exec (.bflFullReset x.sid rid i) s =
    .next (wrote s x rid (0x3400 + i) 10 .u8 1 (fun d =>
      let lim := d.linkLimits i
      (d.modLink i (fun y => { y with resetReq := some (1, lim.1, lim.2), selfAcked := false })).bypass i [.reset false (d.resetMsg i 1 lim.1 lim.2)]))) ∧
  (∀ s x rid (i : Fin 16), accepts s x rid (0x3400 + i) 10 .u8 0x81 = true → s.dev.linkSt i = LinkSt.active → exec (.bflForcedReset x.sid rid i) s =
    .next (wrote s x rid (0x3400 + i) 10 .u8 0x81 (fun d =>
      let lim := d.linkLimits i
      (d.modLink i (fun y => { y with resetReq := some (1, lim.1, lim.2), selfAcked := false })).bypass i [.reset false (d.resetMsg i 1 lim.1 lim.2)]))) ∧
  (∀ s x rid (i : Fin 16), accepts s x rid (0x3400 + i) 10 .u8 2 = true → (s.dev.link i).evac = none → s.dev.linkSt i = LinkSt.held →
    s.dev.num (Obj.bflEvacTarget i) < 16 → s.dev.linkSt (s.dev.num (Obj.bflEvacTarget i)) = LinkSt.active → s.dev.num (Obj.bflEvacTarget i) ≠ i →
    s.dev.num Obj.pairState = PairSt.formed → exec (.bflEvacuate x.sid rid i) s =
    .next (wroteWaits s x rid (0x3400 + i) 10 .u8 2 (fun d =>
      let d := d.sendControl (s.dev.num (Obj.bflEvacTarget i)) 1 i 0 (s.dev.num (Obj.bflIncarnation i))
      d.modLink i (fun y => { y with evac := some (s.dev.num (Obj.bflEvacTarget i), x.sid, d.nextFrame) })) (.evacuate i))) ∧
  (∀ s x rid (n : Fin 4096), accepts s x rid (0x6000 + n) 12 .u8 1 = true → s.dev.num (Obj.rmeSliceState n) = SliceSt.active →
    exec (.sliceQuiesce x.sid rid n) s = .next (wrote s x rid (0x6000 + n) 12 .u8 1 (fun d =>
      ((d.sliceTo n SliceSt.quiescing).modSlice n (fun y => { y with quiesceSince := d.clk })).quiesceCheck n))) ∧
  (∀ s x rid (n : Fin 4096), accepts s x rid (0x6000 + n) 12 .u8 2 = true → s.dev.num (Obj.rmeSliceState n) = SliceSt.quiesced →
    s.dev.flag (Obj.rmeSliceLostHost n) = false → exec (.sliceResume x.sid rid n) s = .next (wrote s x rid (0x6000 + n) 12 .u8 2 (fun d =>
      let d := d.sliceTo n SliceSt.active
      ((d.qpsOfSlice n).foldl (fun d k => d.fetch k) d).fetchCmd n))) ∧
  (∀ s x rid (n : Fin 4096), accepts s x rid (0x6000 + n) 12 .u8 3 = true → s.dev.num (Obj.rmeSliceState n) = SliceSt.quiesced →
    exec (.sliceRelease x.sid rid n) s = .next (wrote s x rid (0x6000 + n) 12 .u8 3 (fun d => d.releaseSlice n)))

/-- Writes of `cfg.commit`, of the commit lock and of the owner credential (R57, R62, R63, R65). The model's choices in it: assumption log 18, 19, 30,
105. -/
def Obligations.CommitRequests : Prop :=
  (∀ s x rid, accepts s x rid 0x1F00 1 .u8 1 = true → s.dev.commit = none → s.dev.commitQueue = [] → s.dev.xspiHeld = false →
    s.dev.reachesHolder x.half = true →
    (begun s x rid [(0x1F00, 1, .u8, 1)]).dev.commitChecks s.commitLock (begunSes s x rid [(0x1F00, 1, .u8, 1)]) = none →
    s.dev.pairRefusesSet x.staged = none → exec (.cfgCommit x.sid rid) s =
    .next (wroteWaits s x rid 0x1F00 1 .u8 1 (fun d => d.prepare (begunSes s x rid [(0x1F00, 1, .u8, 1)])) .commit)) ∧
  (∀ s x rid, accepts s x rid 0x1F00 1 .u8 2 = true → exec (.cfgDiscard x.sid rid) s = .next (wrote s x rid 0x1F00 1 .u8 2 (fun d =>
    d.modSes x.sid (fun y => ({ y with staged := [] } : Session).setLoc Obj.cfgCommitResult (.num Status.ok))))) ∧
  (∀ s x rid, accepts s x rid 0x1F00 1 .u8 3 = true →
    (begun s x rid [(0x1F00, 1, .u8, 3)]).dev.commitChecks s.commitLock (begunSes s x rid [(0x1F00, 1, .u8, 3)]) = none →
    exec (.cfgCheck x.sid rid) s = .next (wrote s x rid 0x1F00 1 .u8 3 (fun d => d.setCommitResult x.sid Status.ok 0 noEntry))) ∧
  (∀ s x rid v, accepts s x rid 0x1F00 7 .u8 v = true → exec (.commitLockWrite x.sid rid v) s =
    .next (wrote { s with commitLock := s.commitLock || v == 1 } x rid 0x1F00 7 .u8 v id)) ∧
  (∀ s x rid hash q o k, (let i : Item := ⟨0x1120, 1, ObjType.blob.code, hash⟩
     let m := encodeWrite rid 0x1120 1 ObjType.blob.code hash
     let r : FbpRequest := ⟨Opcode.write, false, rid, [i]⟩
     let t := taken s x r m
     let y := takenSes s x r m
     ready s x rid = true → hash.length ≤ 960 → locate t y i = .ok (q, o, k) → k = ⟨0x1120, 1, 0⟩ → o.cls = .live →
     t.dev.tooFar y k = false → checkWrite t y q k o ObjType.blob.code (decodeVal o.ty hash) = .ok (.bytes hash, false) → s.dev.xspiHeld = false →
     s.dev.reachesHolder x.half = true → s.dev.farReachable s.dev.holderHalf.other = true → exec (.ownerCredentialWrite x.sid rid hash) s =
     .next (finishRequest { t with dev := (t.dev.setOwner y (.bytes hash)).storeValue k (.bytes hash) } x.sid
       { execOf r m with done := [answerItem i Status.ok] } Status.ok)))

/-- The rows by which a commit starts, is confirmed, is applied or ends without effect (R56, R63, R66). The model's choices in it: assumption log 5, 18,
30, 97. -/
def Obligations.CommitEvents : Prop :=
  (∀ s w rest x, s.dev.commit = none → s.dev.commitQueue = w :: rest → ({ s.dev with commitQueue := rest } : Dev).ses w.sid = some x →
    s.dev.xspiHeld = false → s.dev.reachesHolder x.half = true → ({ s.dev with commitQueue := rest } : Dev).commitChecks s.commitLock x = none →
    s.dev.pairRefusesSet x.staged = none → exec .commitStart s =
    .next { s with dev := (({ s.dev with commitQueue := rest } : Dev).prepare x).modSes w.sid (fun y => { y with exec := y.exec.map (fun e => { e with wait := .commit }) }) }) ∧
  (∀ s n w, s.dev.commitQueue.find? (fun w => w.sid == n) = some w → exec (.commitWaitTimeout n) s =
    .next { s with dev := (s.dev.advanceTo (w.arrived + sec 2)).commitNotRun n Status.busy }) ∧
  (∀ s c p found, s.dev.commit = some c → c.applyAt = none → c.waitFor.contains p = true → ¬ (p = .paDie ∧ s.dev.rakeOk c.half = false) →
    (c.waitFor.filter (fun y => y != p)) ≠ [] → exec (.commitConfirm p Status.ok found) s =
    .next { s with dev := { s.dev with commit := some (confirmed c p found) } }) ∧
  (∀ s c p found, s.dev.commit = some c → c.applyAt = none → c.waitFor.contains p = true → ¬ (p = .paDie ∧ s.dev.rakeOk c.half = false) →
    c.waitFor.filter (fun y => y != p) = [] →
    s.dev.headerCheck (confirmed c p found) = none → exec (.commitConfirm p Status.ok found) s =
      .next { s with dev := { s.dev with commit := some { confirmed c p found with applyAt := some (s.dev.clk + us 2) } } }) ∧
  (∀ s c p, s.dev.commit = some c → c.applyAt = none → c.waitFor.contains p = true → exec (.commitPrepareTimeout p) s =
    .next { s with dev := (s.dev.advanceTo (c.startClk + ms 10)).commitEnds Status.farTimeout 0 noEntry }) ∧
  (∀ s c t, s.dev.applyTwin.commit = some c → c.applyAt = some t → exec .commitApply s =
    (let s := answerWait { s with dev := (s.dev.applyTwin.advanceTo t).applyCommit c } c.sid Status.ok
     .next { s with dev := s.dev.settle })) ∧
  (∀ s g, s.dev.storeWrite = some g → exec .storeWriteTimeout s = .next { s with dev := { s.dev.writeHolderCopy with storeWrite := none } })

/-- The rows that write shapers, acknowledge alerts, clear the persistent log, and write counters, the sampler and the harvest: each is performed and
answered (R288, R297, R301, R303, R377, R378, R382, R386). The model's choices in it: assumption log 41, 50, 75. -/
def Obligations.ShaperAndRecordRequests : Prop :=
  (∀ s x rid h (i : Fin 8192) n, acceptsEntry s x rid (0x4200 + h.code) i 3 .u32 n = true → s.dev.shaperUser h i ≠ 3 →
    exec (.shaperRateWrite x.sid rid h i n) s = .next (wroteEntry s x rid (0x4200 + h.code) i 3 .u32 n (fun d =>
      d.reshape h i n (d.num (Obj.shaperBurst h i))))) ∧
  (∀ s x rid h (i : Fin 8192) n, acceptsEntry s x rid (0x4200 + h.code) i 4 .u32 n = true → s.dev.shaperUser h i ≠ 3 →
    exec (.shaperBurstWrite x.sid rid h i n) s = .next (wroteEntry s x rid (0x4200 + h.code) i 4 .u32 n (fun d =>
      d.reshape h i (d.num (Obj.shaperRate h i)) n))) ∧
  (∀ s x rid n, accepts s x rid 0xA000 6 .u32 n = true → exec (.alertAck x.sid rid n) s = .next (wrote s x rid 0xA000 6 .u32 n (fun d =>
    { d with log := if bitOf n 31 then { d.log with ackE := max d.log.ackE (n % 2 ^ 31) } else { d.log with ackW := max d.log.ackW (n % 2 ^ 31) } }))) ∧
  (∀ s x rid, accepts s x rid 0xA000 7 .u8 1 = true → exec (.plogClear x.sid rid) s = .next (wrote s x rid 0xA000 7 .u8 1 (fun d =>
    { d with log := { d.log with persistent := [] } }))) ∧
  (∀ s x rid, accepts s x rid 0x8000 5 .u8 1 = true → exec (.pmuSnap x.sid rid) s = .next (wroteWaits s x rid 0x8000 5 .u8 1 (fun d =>
    { d with tele := { d.tele with snapAt := tabSet id d.tele.snapAt x.pmuScope (d.time x.half + us 1) } }) .snapshot)) ∧
  (∀ s x rid v, acceptsEntry s x rid 0x8010 v 8 .u8 1 = true → exec (.pmuCtrClear x.sid rid v) s =
    .next (wroteEntry s x rid 0x8010 v 8 .u8 1 (fun d => d.setNum (Obj.pmuCtrValue (256 * x.pmuScope + v)) 0))) ∧
  (∀ s x rid, accepts s x rid 0x8100 1 .bool 1 = true → s.dev.flag Obj.smpEnable = false → exec (.samplingEnable x.sid rid true) s =
    .next (wrote s x rid 0x8100 1 .bool 1 (fun d => (let d := d.setNum Obj.smpEnable 1
      let seed := d.num Obj.smpSeed
      let every := d.num Obj.smpInterval
      { d with tele := { d.tele with seqW := 0, seqE := 0, recsW := [], recsE := [], openSamples := [], lfsrW := seed, lfsrE := seed,
                                     countW := every, countE := every } })))) ∧
  (∀ s x rid, accepts s x rid 0x8100 1 .bool 0 = true → exec (.samplingEnable x.sid rid false) s =
    .next (wrote s x rid 0x8100 1 .bool 0 (fun d => d.setNum Obj.smpEnable 0))) ∧
  (∀ s x rid, accepts s x rid 0x5100 1 .bool 1 = true → exec (.harvestEnableWrite x.sid rid true) s =
    .next (wrote s x rid 0x5100 1 .bool 1 (fun d => d.setNum Obj.harvEnable 1))) ∧
  (∀ s x rid, accepts s x rid 0x5100 1 .bool 0 = true → exec (.harvestEnableWrite x.sid rid false) s =
    .next (wrote s x rid 0x5100 1 .bool 0 (fun d => (d.tele.writerW ++ d.tele.writerE).foldl (fun (d : Dev) (y : Option Nat × List Byte) => y.1.elim d d.releaseStall)
      (d.setNum Obj.harvEnable 0)))) ∧
  (∀ s x rid, accepts s x rid 0x5100 7 .u8 1 = true → exec (.harvestClear x.sid rid) s = .next (wrote s x rid 0x5100 7 .u8 1 (fun d =>
    { d with tele := { d.tele with ringW := [], ringE := [], harvSeqW := 0, harvSeqE := 0, droppedW := 0, droppedE := 0 } })))

/-- The rows that write slot channels, sideband objects, the power state and Perennial: each is performed and answered (R330, R331, R336, R350, R351,
R355, R368, R371). The model's choices in it: assumption log 41, 69, 78. -/
def Obligations.SlotSidebandAndPowerRequests : Prop :=
  (∀ s x rid (k : Fin 32) v, accepts s x rid (0x7400 + k) 2 .u8 v = true → v ≠ 2 ∨ (s.dev.fabricMode = false ∧ (s.dev.portOfSlot k).isSome = true) →
    exec (.slotEnableWrite x.sid rid k v) s = .next (wrote s x rid (0x7400 + k) 2 .u8 v (fun d => (d.setNum (Obj.slotEnable k) v).slotRecheck k))) ∧
  (∀ s x rid (k : Fin 32), accepts s x rid (0x7400 + k) 0x15 .u8 1 = true → exec (.slotClearFaults x.sid rid k) s =
    .next (wrote s x rid (0x7400 + k) 0x15 .u8 1 (fun d => (let d := d.setNum (Obj.slotFaultCount k) 0
      if s.dev.num (Obj.slotState k) = SlotSt.locked then (d.modSlot k (fun c => { c with readyAt := d.clk })).slotTo k SlotSt.ready else d)))) ∧
  (∀ s x rid (k : Fin 32), accepts s x rid (0x7400 + k) 0x15 .u8 2 = true → exec (.slotClearEnergy x.sid rid k) s =
    .next (wrote s x rid (0x7400 + k) 0x15 .u8 2 (fun d =>
      ((d.modSlot k (fun c => { c with metered := c.gateH })).setNum (Obj.slotMeasEnergy k) 0).setNum (Obj.slotMeasPeak k) 0))) ∧
  (∀ s x rid (w : Fin 256) v e, acceptsEntry s x rid 0x7521 w 3 .u32 v = true → s.dev.writeEntry w = some e → s.dev.busUp (s.dev.mapE e).slot = true →
    (s.dev.sbus (s.dev.mapE e).slot).queue.length < 4 → exec (.sbValueWrite x.sid rid w v) s = .next (wroteEntryWaits s x rid 0x7521 w 3 .u32 v (fun d =>
      d.modSb (s.dev.mapE e).slot (fun b => { b with queue := b.queue ++ [s.dev.farOfWord x.sid e v] })) .farWrite)) ∧
  (∀ s x rid n, accepts s x rid 0x7522 7 .u8 1 = true → (x.loc Obj.sbfarSlot).toNum = n → s.dev.busUp n = true → (s.dev.sbus n).queue.length < 4 →
    exec (.sbFarRead x.sid rid) s = .next (wroteWaits s x rid 0x7522 7 .u8 1 (fun d => d.modSb n (fun b => { b with queue := b.queue ++
      [{ sid := x.sid, isWrite := false, addr := (x.loc Obj.sbfarAddr).toNum, reg := (x.loc Obj.sbfarReg).toNum,
         reg16 := bitOf (x.loc Obj.sbfarFlags).toNum 0, len := (x.loc Obj.sbfarLen).toNum, data := [], word := none, rmw := none,
         since := s.dev.clk }] })) .farWrite)) ∧
  (∀ s x rid n, accepts s x rid 0x7522 7 .u8 2 = true → (x.loc Obj.sbfarSlot).toNum = n → s.dev.busUp n = true → (s.dev.sbus n).queue.length < 4 →
    exec (.sbFarWrite x.sid rid) s = .next (wroteWaits s x rid 0x7522 7 .u8 2 (fun d => d.modSb n (fun b => { b with queue := b.queue ++
      [{ sid := x.sid, isWrite := true, addr := (x.loc Obj.sbfarAddr).toNum, reg := (x.loc Obj.sbfarReg).toNum,
         reg16 := bitOf (x.loc Obj.sbfarFlags).toNum 0, len := (x.loc Obj.sbfarLen).toNum,
         data := padTo (x.loc Obj.sbfarLen).toNum (x.loc Obj.sbfarData).toBytes, word := none, rmw := none, since := s.dev.clk }] })) .farWrite)) ∧
  (∀ s x rid, accepts s x rid 0x7524 3 .u8 1 = true → exec (.sbStrayClear x.sid rid) s =
    .next (wrote s x rid 0x7524 3 .u8 1 (fun d => { d with stray := [] }))) ∧
  (∀ s x rid, accepts s x rid 0x9000 2 .u8 0 = true → s.dev.num Obj.pwrState = PwrSt.run ∨ s.dev.num Obj.pwrState = PwrSt.idle →
    exec (.pwrRunRequest x.sid rid) s = .next (wrote s x rid 0x9000 2 .u8 0 (fun d => (d.setNum Obj.pwrIdleArmed 0).setNum Obj.pwrState PwrSt.run))) ∧
  (∀ s x rid, accepts s x rid 0x9000 2 .u8 0 = true → s.dev.num Obj.pwrState = PwrSt.sleep → exec (.pwrRunRequest x.sid rid) s =
    .next (wrote s x rid 0x9000 2 .u8 0 (fun d =>
      { (d.setNum Obj.pwrState PwrSt.exiting) with pwr := { d.pwr with wakeAt := s.dev.clk, exitFrom := PwrSt.sleep, byWakeN := false } }))) ∧
  (∀ s x rid, accepts s x rid 0x9000 2 .u8 1 = true → s.dev.num Obj.pwrState = PwrSt.run ∨ s.dev.num Obj.pwrState = PwrSt.idle →
    exec (.pwrIdleArm x.sid rid) s = .next (wrote s x rid 0x9000 2 .u8 1 (fun d => d.setNum Obj.pwrIdleArmed 1))) ∧
  (∀ s x rid, accepts s x rid 0x9000 2 .u8 2 = true → s.dev.num Obj.pwrState = PwrSt.run ∨ s.dev.num Obj.pwrState = PwrSt.idle →
    s.dev.sleepCheck 2 = Status.ok → exec (.pwrSleepRequest x.sid rid) s = .next (wrote s x rid 0x9000 2 .u8 2 (fun d =>
      let leds := (List.range 32).map (fun k => (k, d.leds k))
      let d := (d.setNum Obj.pwrState PwrSt.entering).setNum Obj.pwrPadHoldHeld (d.num Obj.pwrPadHoldHeld ||| 0x7FFFFF)
      let d := (List.range 32).foldl (fun d k => d.busDown k) { d with pwr := { d.pwr with leds := leds } }
      { d with pwr := { d.pwr with target := 2 } }))) ∧
  (∀ s x rid, accepts s x rid 0x9000 2 .u8 3 = true → s.dev.num Obj.pwrState = PwrSt.run ∨ s.dev.num Obj.pwrState = PwrSt.idle →
    s.dev.sleepCheck 3 = Status.ok → exec (.pwrDeepSleepRequest x.sid rid) s = .next (wrote s x rid 0x9000 2 .u8 3 (fun d =>
      let d := (d.setNum Obj.pwrState PwrSt.entering).setNum Obj.pwrPadHoldHeld (d.num Obj.pwrPadHoldHeld ||| 0x60FFFF)
      { d with pwr := { d.pwr with target := 3 } }))) ∧
  (∀ s x rid, accepts s x rid 0x9000 2 .u8 4 = true → s.dev.num Obj.pwrState = PwrSt.run ∨ s.dev.num Obj.pwrState = PwrSt.idle →
    s.dev.sleepCheck 4 = Status.ok → exec (.pwrOffRequest x.sid rid) s = .next (wrote s x rid 0x9000 2 .u8 4 (fun d =>
      let d := (d.setNum Obj.pwrState PwrSt.entering).setNum Obj.pwrPadHoldHeld (d.num Obj.pwrPadHoldHeld)
      { d with pwr := { d.pwr with target := 4 } }))) ∧
  (∀ s x rid, accepts s x rid 0x9100 0x13 .u8 1 = true → s.dev.flag Obj.perEnable = true → exec (.perMeasureNow x.sid rid) s =
    .next (wrote s x rid 0x9100 0x13 .u8 1 (fun d => d.perBit 1 true))) ∧
  (∀ s x rid, accepts s x rid 0x9100 0x13 .u8 2 = true → exec (.perReplanNow x.sid rid) s =
    .next (wrote s x rid 0x9100 0x13 .u8 2 (fun d => (d.replan .west).replan .east))) ∧
  (∀ s x rid, accepts s x rid 0x9100 0x13 .u8 3 = true → s.dev.seamUp = true → s.dev.seam.retune = none → exec (.perRetuneSeam x.sid rid) s =
    .next (wrote s x rid 0x9100 0x13 .u8 3 (fun d => d.retuneNext 0)))

/-- The rows that write the test objects, and the write of `fport.ready`: each is performed and answered once its checks pass (R131, R132, R133, R134,
R135, R136, R198, R387, R388, R390). The model's choices in it: assumption log 23, 41, 76, 109, 110. -/
def Obligations.TestRequests : Prop :=
  (∀ s x rid (l : Fin 256) c, acceptsEntry s x rid 0xC010 l 3 .u8 c = true → c = 0 ∨ s.dev.testMayStart l = true →
    c ≠ 3 ∨ s.dev.flag (Obj.testLaneGen l) = false → exec (.testLoopbackSet x.sid rid l c) s =
    .next (wroteEntry s x rid 0xC010 l 3 .u8 c (fun d => ((d.settleTest l).setNum (Obj.testLaneLoopback l) c).followTest l))) ∧
  (∀ s x rid (l : Fin 256) c, acceptsEntry s x rid 0xC010 l 5 .u8 c = true → c = 0 ∨ (s.dev.testMayStart l = true ∧
    s.dev.num (Obj.testLaneLoopback l) ≠ 3) → needsPam4 c = false ∨ 6 ≤ s.dev.num (Obj.testLaneRate l) → exec (.testGenSet x.sid rid l c) s =
    .next (wroteEntry s x rid 0xC010 l 5 .u8 c (fun d => (let e := (d.settleTest l).setNum (Obj.testLaneGen l) c
      (if c != 0 && !s.dev.flag (Obj.testLaneGen l) then (e.setNum (Obj.testLaneInjected l) 0).modLane l (fun y => { y with injRem := 0 }) else e).followTest l)))) ∧
  (∀ s x rid (l : Fin 256) c, acceptsEntry s x rid 0xC010 l 7 .u8 c = true → exec (.testRateSet x.sid rid l c) s =
    .next (wroteEntry s x rid 0xC010 l 7 .u8 c (fun d => ((d.settleTest l).setNum (Obj.testLaneRate l) c).rehunt l))) ∧
  (∀ s x rid (l : Fin 256) c, acceptsEntry s x rid 0xC010 l 9 .u8 c = true → c = 0 ∨ s.dev.testMayStart l = true →
    needsPam4 c = false ∨ 6 ≤ s.dev.num (Obj.testLaneRate l) → exec (.testChkSet x.sid rid l c) s =
    .next (wroteEntry s x rid 0xC010 l 9 .u8 c (fun d =>
      (((d.settleTest l).setNum (Obj.testLaneChk l) c).setNum (Obj.testLaneChkStatus l) (if c = 0 then 0 else 1)).followTest l))) ∧
  (∀ s x rid (l : Fin 256), acceptsEntry s x rid 0xC010 l 8 .u32 (2 ^ 30) = true → s.dev.flag (Obj.testLaneGen l) = true →
    exec (.testInjectSingle x.sid rid l) s = .next (wroteEntry s x rid 0xC010 l 8 .u32 (2 ^ 30) (fun d =>
      (((d.settleTest l).modLane l (fun y => { y with injRem := 0 })).setNum (Obj.testLaneInject l) 0).injectBits l 1))) ∧
  (∀ s x rid (l : Fin 256) k, k < 64 → acceptsEntry s x rid 0xC010 l 8 .u32 (2 * 2 ^ 30 + k * 2 ^ 24) = true →
    s.dev.flag (Obj.testLaneGen l) = true → exec (.testInjectPeriodic x.sid rid l k) s =
    .next (wroteEntry s x rid 0xC010 l 8 .u32 (2 * 2 ^ 30 + k * 2 ^ 24) (fun d =>
      ((d.settleTest l).modLane l (fun y => { y with injRem := 0 })).setNum (Obj.testLaneInject l) (2 * 2 ^ 30 + k * 2 ^ 24)))) ∧
  (∀ s x rid (l : Fin 256) n, n < 256 → acceptsEntry s x rid 0xC010 l 8 .u32 (3 * 2 ^ 30 + n * 2 ^ 16) = true →
    s.dev.flag (Obj.testLaneGen l) = true → exec (.testInjectBurst x.sid rid l n) s =
    .next (wroteEntry s x rid 0xC010 l 8 .u32 (3 * 2 ^ 30 + n * 2 ^ 16) (fun d =>
      (((d.settleTest l).modLane l (fun y => { y with injRem := 0 })).setNum (Obj.testLaneInject l) (n * 2 ^ 16)).injectBits l n))) ∧
  (∀ s x rid (p : Fin 128) bars, (let s' := { s with dev := { s.dev with barsFound := bars } }
    acceptsEntry s' x rid 0x3181 p 5 .bool 1 = true → exec (.fportReadyWrite x.sid rid p bars) s =
    .next (wroteEntry s' x rid 0x3181 p 5 .bool 1 (fun d => { d.fportReadyWrite p bars with barsFound := [] })))) ∧
  (∀ s x rid, accepts s x rid 0xC000 1 .u8 0 = true → exec (.testUnlockEnd x.sid rid) s =
    .next (wrote s x rid 0xC000 1 .u8 0 (fun d => d.unlockEnd))) ∧
  (∀ s x rid, accepts s x rid 0xC000 1 .u8 1 = true → exec (.testUnlockLevel1 x.sid rid) s =
    .next (wrote s x rid 0xC000 1 .u8 1 (fun d => (let c := padTo 32 (Config.freeBytes d.fresh 32)
      { (d.bump.setBytes Obj.testUnlockChallenge c) with test := { d.test with challenge := some (c, 1, d.clk + sec 60) } })))) ∧
  (∀ s x rid, accepts s x rid 0xC000 1 .u8 2 = true → s.commitLock = false → exec (.testUnlockLevel2 x.sid rid) s =
    .next (wrote s x rid 0xC000 1 .u8 2 (fun d => (let c := padTo 32 (Config.freeBytes d.fresh 32)
      { (d.bump.setBytes Obj.testUnlockChallenge c) with test := { d.test with challenge := some (c, 2, d.clk + sec 60) } })))) ∧
  (∀ s x rid (e : Fin 32), acceptsEntry s x rid 0xC020 e 9 .bool 1 = true → exec (.pertArm x.sid rid e) s =
    .next (wroteEntry s x rid 0xC020 e 9 .bool 1 (fun d => (let p : Pert := ⟨d.num (Obj.testPertKind e), d.num (Obj.testPertTarget e),
        d.num (Obj.testPertClassMask e), d.num (Obj.testPertP1 e), d.num (Obj.testPertP2 e), if d.num (Obj.testPertKind e) = 4 then d.num (Obj.testPertRepeat e) else 1⟩
      let d := (d.setNum (Obj.testPertArm e) 1).setNum (Obj.testPertFired e) 0
      ({ d with test := { d.test with armed := d.test.armed.filter (fun (y : Nat × Pert) => y.1 != e) ++ [(e.val, p)] } }).logEvent d.holderHalf Scope.device 0 3 0x0607
        (beBytes 1 e ++ beBytes 1 p.kind ++ beBytes 1 (field p.p2 0 8)))))) ∧
  (∀ s x rid (e : Fin 32), acceptsEntry s x rid 0xC020 e 9 .bool 0 = true → exec (.pertDisarm x.sid rid e) s =
    .next (wroteEntry s x rid 0xC020 e 9 .bool 0 (fun d =>
      { (d.setNum (Obj.testPertArm e) 0) with test := { d.test with armed := d.test.armed.filter (fun (y : Nat × Pert) => y.1 != e) } })))

/-- Loss of signal and of lock, sleep and wake of a lane, and the lock of its test checker (R115, R116, R117, R118, R119, R134). The model's choices in
it: assumption log 34, 35, 108. -/
def Obligations.LaneEvents : Prop :=
  (∀ s (l : Fin 256), s.dev.laneLevel l .rx = 0 → s.dev.laneBit l LaneBit.los = false → s.dev.laneBit l LaneBit.lol = false →
    exec (.laneLolAssert l) s = .next { s with dev :=
      ((((s.dev.setLaneBit l LaneBit.lol true).inc32 (Obj.laneLolCount l)).logEvent (Half.ofLane l) Scope.lane l 0 0x0102).laneEvent l) }) ∧
  (∀ s (l : Fin 256), exec (.laneLolClear l) s = .next { s with dev := s.dev.setLaneBit l LaneBit.lol false }) ∧
  (∀ s (l : Fin 256) a, s.dev.laneBit l LaneBit.los = false → s.dev.losExpected l a = false → exec (.laneLosAssert l a) s =
    .next { s with dev :=
      (((s.dev.setLaneBit l LaneBit.los true).inc32 (Obj.laneLosCount l)).logEvent (Half.ofLane l) Scope.lane l 0 0x0101).laneEvent l }) ∧
  (∀ s (l : Fin 256) a, s.dev.laneBit l LaneBit.los = false → s.dev.losExpected l a = true → exec (.laneLosAssert l a) s =
    .next { s with dev := s.dev.setLaneBit l LaneBit.los true }) ∧
  (∀ s (l : Fin 256), exec (.laneLosDeassert l) s = .next { s with dev := s.dev.setLaneBit l LaneBit.los false }) ∧
  (∀ s (l : Fin 256) level p, s.dev.portOfLane l = some p → s.dev.laneMaySleep p l = true → exec (.laneSleepChange l .tx level) s =
    .next { s with dev := (s.dev.setNum (Obj.laneStatus l) (setField (s.dev.num (Obj.laneStatus l)) 2 2
      (if level = .deep ∧ field (s.dev.linkField p (Obj.portLpm p)) 1 2 = 0 then 1 else level.code))).followSleep p }) ∧
  (∀ s (l : Fin 256) level p, s.dev.portOfLane l = some p → s.dev.laneMaySleep p l = true → exec (.laneSleepChange l .rx level) s =
    .next { s with dev := ((s.dev.setNum (Obj.laneStatus l) (setField (s.dev.num (Obj.laneStatus l)) 4 2
      (if level = .deep ∧ field (s.dev.linkField p (Obj.portLpm p)) 1 2 = 0 then 1 else level.code))).followReceiver l).followSleep p }) ∧
  (∀ s (l : Fin 256) x, exec (.laneWake l x) s = (let d := s.dev.setLevel l x 0
    .next { s with dev := (d.portOfLane l).elim d d.followSleep })) ∧
  (∀ s (l : Fin 256), s.dev.num (Obj.testLaneChkStatus l) = 1 → exec (.checkerLock l) s =
    .next { s with dev := ((((s.dev.setNum (Obj.testLaneChkStatus l) 2).setNum (Obj.testLaneBits l) 0).setNum (Obj.testLaneErrors l) 0).modLane l
      (fun x => { x with lockAt := s.dev.clk })) }) ∧
  (∀ s (l : Fin 256) b e, s.dev.num (Obj.testLaneChkStatus l) = 2 → exec (.checkerLockLost l b e) s =
    .next { s with dev := ((((s.dev.settleTest l).setNum (Obj.testLaneChkStatus l) 3).setNum (Obj.testLaneBits l) (b % 2 ^ 64)).setNum
      (Obj.testLaneErrors l) (e % 2 ^ 64)) })

/-- What starts a calibration pass, who gets the free sampler, and how a pass, an eye scan and a full run end (R122, R123, R124, R125, R126, R127, R128,
R129). The model's choices in it: assumption log 1, 34. -/
def Obligations.CalibrationEvents : Prop :=
  (∀ s (l : Fin 256), s.dev.rxActive l = true → s.dev.num (Obj.laneCalStatus l) ≠ Cal.pending → s.dev.num (Obj.laneCalStatus l) ≠ Cal.running →
    exec (.bgcalPeriodExpiry l) s = .next { s with dev :=
      (((s.dev.advanceTo (s.dev.clk + (s.dev.num (Obj.laneBgcalLast l) + ms (s.dev.num (Obj.laneBgcalPeriod l)) - s.dev.time (Half.ofLane l)))).modLane l
        (fun x => { x with passDue := true })).setNum (Obj.laneCalStatus l) Cal.pending) }) ∧
  (∀ s (g : Fin 16), exec (.bgcalTempTrigger g) s = .next { s with dev := ((List.range 16).map (fun i => 16 * g.val + i)).foldl (fun d l => d.passDue l) s.dev }) ∧
  (∀ s (l : Fin 256), s.dev.num (Obj.laneCalStatus l) = Cal.pending ∨ (s.dev.lane l).run = 1 → s.dev.rxActive l = true → s.dev.samplerForPass l = true →
    exec (.freeSamplerGrant l) s = .next { s with dev := (((s.dev.setNum (Obj.laneCalStatus l) Cal.running).setLaneBit l LaneBit.bgcal true).modLane l
      (fun x => { x with run := 1, samplerUser := 3 })) }) ∧
  (∀ s (l : Fin 256), (s.dev.lane l).run = 1 → (s.dev.lane l).samplerUser = 3 → s.dev.rxActive l = true → exec (.samplerSwap l true) s =
    .next { s with dev := s.dev.setLaneBit l LaneBit.sampler (!s.dev.laneBit l LaneBit.sampler) }) ∧
  (∀ s (l : Fin 256), (s.dev.lane l).run = 1 → (s.dev.lane l).samplerUser = 3 → s.dev.rxActive l = true → exec (.samplerSwap l false) s =
    .next { s with dev := s.dev.inc32 (Obj.laneSwapAbandoned l) }) ∧
  (∀ s (l : Fin 256) ok, (s.dev.lane l).run = 1 → (s.dev.lane l).samplerUser = 3 → exec (.bgcalPassEnd l ok) s =
    (let user := if s.dev.laneBit l LaneBit.margining then 2 else 0
     let d := s.dev.modLane l (fun x => { x with run := 0, passDue := false, samplerUser := user })
     let d := (d.setLaneBit l LaneBit.bgcal false).setLaneBit l LaneBit.degraded (!ok)
     let d := (d.setNum (Obj.laneBgcalLast l) (d.time (Half.ofLane l))).inc32 (Obj.laneBgcalCount l)
     .next { s with dev := if ok then (d.setNum (Obj.laneCalStatus l) Cal.passed).setNum (Obj.laneCalResult l) 0
       else (d.setNum (Obj.laneCalStatus l) Cal.degraded).logEvent (Half.ofLane l) Scope.lane l 0 0x0103 })) ∧
  (∀ s (l : Fin 256) h w, s.dev.rxActive l = true → (s.dev.lane l).samplerUser = 0 → s.dev.num (Obj.laneCalStatus l) ≠ Cal.pending →
    s.dev.flag Obj.perEnable = true → exec (.eyeScan l h w) s = .next { s with dev :=
      (let d := (s.dev.setNum (Obj.laneEyeHeight l) (h % 2 ^ 16)).setNum (Obj.laneEyeWidth l) (w % 2 ^ 16)
       d.setNum (Obj.laneEyeTime l) (s.dev.time (Half.ofLane l))) }) ∧
  (∀ s (l : Fin 256) right n, s.dev.rxActive l = true → n ≤ 32 → exec (.marginCommand l (.timing right n)) s = .next { s with dev :=
    ((s.dev.setLaneBit l LaneBit.margining true).bump.modLane l (fun x => { x with samplerUser := if s.dev.passHolds l && s.dev.passFirst l then 3 else 2 })).emit (.marginStep l (.timing right n) (n * 500000 / 32) s.dev.free) }) ∧
  (∀ s (l : Fin 256) up n, s.dev.rxActive l = true → n ≤ 64 → exec (.marginCommand l (.voltage up n)) s = .next { s with dev :=
    ((s.dev.setLaneBit l LaneBit.margining true).bump.modLane l (fun x => { x with samplerUser := if s.dev.passHolds l && s.dev.passFirst l then 3 else 2 })).emit (.marginStep l (.voltage up n) (n * (if 6 ≤ s.dev.num (Obj.laneRate l) then 120000 else 250000) / 64) s.dev.free) }) ∧
  (∀ s (l : Fin 256), exec (.marginCommand l .stop) s = .next { s with dev := (s.dev.setLaneBit l LaneBit.margining false).modLane l (fun x =>
    { x with samplerUser := if x.samplerUser = 2 then (if x.run = 1 then 3 else 0) else x.samplerUser }) }) ∧
  (∀ s (l : Fin 256) o, 2 ≤ (s.dev.lane l).run → (s.dev.lane l).forced = false → exec (.laneCalEnd l o) s =
    .next { s with dev := (s.dev.runEnds l (s.dev.lane l).run o).modLane l (fun x => { x with run := 0, forced := false }) }) ∧
  (∀ s (l : Fin 256) o, 2 ≤ (s.dev.lane l).run → (s.dev.lane l).forced = true → exec (.laneCalEnd l o) s =
    (let d := (s.dev.runEnds l (s.dev.lane l).run o).modLane l (fun x => { x with run := 0, forced := false })
     .next { s with dev := (d.portOfLane l).elim d d.backToDetect }))

/-- A pass clears the mark of a failed lane; a failure sets it and is recorded (R127, R128). The model's choices in it: assumption log 34. -/
def Obligations.CalibrationOutcome : Prop :=
  (∀ (d : Dev) l, (d.runEnds l 2 .pass).num (Obj.laneCalStatus l) = Cal.passed) ∧
  (∀ (d : Dev) l o, o ≠ CalOutcome.pass → (d.runEnds l 2 o).num (Obj.laneCalStatus l) = Cal.failed)

/-- Training, replay, retrain and retirement of seam modules, heartbeats, the time exchange, admission and receipt of frames, and the halt of a half
(R188, R189, R190, R191, R192, R193, R318). The model's choices in it: assumption log 5, 51, 52, 70, 93. -/
def Obligations.SeamEvents : Prop :=
  (∀ s x (m : Fin 8), s.dev.seam.lost = false → (s.dev.seamMod x m).st = .active → exec (.seamCrcError x m) s =
    .next { s with dev := ((s.dev.modSeamMod x m (fun y => { y with st := .retry, fails := 0 })).inc64 Obj.coreSeamRetries).emit (.seamReplay x m) }) ∧
  (∀ s x (m : Fin 8), s.dev.seam.lost = false → (s.dev.seamMod x m).st = .retry → (s.dev.seamMod x m).fails ≠ 3 → exec (.seamCrcError x m) s =
    .next { s with dev := ((s.dev.modSeamMod x m (fun y => { y with fails := y.fails + 1 })).inc64 Obj.coreSeamRetries).emit (.seamReplay x m) }) ∧
  (∀ s x (m : Fin 8), s.dev.seam.lost = false → (s.dev.seamMod x m).st = .retry → (s.dev.seamMod x m).fails = 3 → exec (.seamCrcError x m) s =
    .next { s with dev := s.dev.modSeamMod x m (fun y => { y with st := .retrain, fails := 0, since := s.dev.clk }) }) ∧
  (∀ s x (m : Fin 8), (s.dev.seamMod x m).st = .retry → exec (.seamReplayAck x m) s =
    .next { s with dev := s.dev.modSeamMod x m (fun y => { y with st := .active, fails := 0 }) }) ∧
  (∀ s x (m : Fin 8), s.dev.seam.lost = false → (s.dev.seamMod x m).st = .retrain → exec (.seamRetrainDone x m) s =
    (let d := s.dev.inc32 Obj.coreSeamRetrains
     let recent := d.clk :: (s.dev.seamMod x m).retrains.filter (fun t => decide (d.clk < t + sec 1))
     let d := d.modSeamMod x m (fun y => { y with retrains := recent })
     .next { s with dev := ((if recent.length < d.num Obj.coreSeamRetireLimit then
         ((d.modSeamMod x m (fun y => { y with st := .active })).seamEvent 0 0x0509).emit (.seamReplay x m)
       else d.retireModule x m).retuneAfter x m) })) ∧
  (∀ s x (m : Fin 8), s.dev.seam.lost = false → (s.dev.seamMod x m).st = .retrain → exec (.seamRetrainTimeout x m) s =
    .next { s with dev := ((s.dev.advanceTo ((s.dev.seamMod x m).since + us 50)).retireModule x m).retuneAfter x m }) ∧
  (∀ s h, s.dev.controlUp (SeamDir.ofSender h) = true → exec (.seamHeartbeatSend h) s =
    .next { s with dev := s.dev.heartbeatFrom h }) ∧
  (∀ s, s.dev.seamUp = true → exec .seamHeartbeatTimeout s =
    .next { s with dev := ((s.dev.advanceTo (min s.dev.seam.hbW s.dev.seam.hbE + us 100)).inc32 Obj.coreSeamHeartbeatLost).seamLost }) ∧
  (∀ s, s.dev.controlUp .we = true → s.dev.controlUp .ew = true → exec .seamTimeExchange s =
    (let w := s.dev.clocks.west
     let e := s.dev.clocks.east
     let d := s.dev.setNum Obj.coreSeamTimeOffset (ofSigned 32 ((e : Int) - (w : Int)))
     .next { s with dev := { d with clocks := { d.clocks with eastSlew := if w < e then -1 else if e < w then 1 else 0 } } })) ∧
  (∀ s (st : Fin 16) (c : Fin 5) m f a, s.dev.seamOpen = true → s.dev.stationModule st = some m → s.dev.seamHead st c = some f →
    (s.dev.seamMod (SeamDir.ofSender (Half.ofStation st)) m).st = .active → (s.dev.seamMod (SeamDir.ofSender (Half.ofStation st)) m).credit c = true →
    s.dev.seamTurn m st = true → s.dev.uncreditedAccount (Half.ofStation st).other f.q.outPort f.q.qcls f.q.cells = some a → exec (.seamAdmission st c) s =
    (let h := Half.ofStation st
     let x := SeamDir.ofSender h
     let seq := tabGet s.dev.seam.txSeq st 0
     let g := { f with sent := some (seq, m), admitted := a, q := { f.q with account := .pool } }
     let d := s.dev.leaveAccount f.q
     let d := { d with seam := { d.seam with txSeq := tabSet id d.seam.txSeq st ((seq + 1) % 65536) } }
     let d := d.modBuf h (fun b => { b with seamQueue := b.seamQueue.map (fun y => if y.q.id = f.q.id then g else y) })
     let d := (d.useCredit x m f.channel (fun n => n + 1)).modSeamMod x m (fun y => { y with last := st.val % 8 })
     .next { s with dev := (((d.notePool h.other).count Ev.seamFrames h.code).emit (.seamFlit x m g)).admitHeld h })) ∧
  (∀ s (st : Fin 16) q fr f m, s.dev.seamOpen = true → q < 65536 → tabGet s.dev.seam.rxSeq st.val 0 = q →
    (s.dev.buf (Half.ofStation st)).seamQueue.find? (fun f => f.station == st.val && f.sent.any (fun x => x.1 == q) && f.q.frame == fr) = some f →
    f.sent = some (q, m) → exec (.seamFrameReceive st q fr) s =
    (let h := Half.ofStation st
     let d := s.dev.modBuf h (fun b => { b with seamQueue := b.seamQueue.filter (fun y => !(y.station == st.val && y.sent == some (q, m))) })
     let d := d.useCredit (SeamDir.ofSender h) m f.channel (fun n => n - 1)
     let d := { d with seam := { d.seam with rxSeq := tabSet id d.seam.rxSeq st ((q + 1) % 65536) } }
     let g : QFrame := { f.q with account := f.admitted, crossed := true }
     .next { s with dev := if f.gone then d.admitHeld h.other else if g.outPort < 128 then d.enqueueAt h.other g else d.atLocal h.other g })) ∧
  (∀ s (st : Fin 16) q fr, s.dev.seamOpen = true → q < 65536 → tabGet s.dev.seam.rxSeq st.val 0 ≠ q →
    (tabGet s.dev.seam.rxSeq st.val 0 + 65536 - q) % 65536 ≤ 32768 → exec (.seamFrameReceive st q fr) s =
    .next { s with dev := s.dev.inc32 Obj.coreSeamDuplicates }) ∧
  (∀ s h write idx sub ent v t x y, (let sid := s.dev.nextSid
     let e := seamExec write idx sub v
     let o : State := { s with dev := ((s.dev.openSession (.seam h) .owner 0xFFFF h.other).modSes sid (fun x => x.setLoc ⟨idx, 1, 0⟩ (.num ent))).park sid e }
     s.dev.farReachable h.other = true → s.dev.seamPending h < 16 → o.dev.ses sid = some x → runItem o x e (seamItem write idx sub v) = (t, .done y) →
     exec (.seamMgmtRequest h write idx sub ent v) s = .next (if succeeded y.status then finishRequest t sid { e with todo := [], done := [y] } Status.ok
       else finishRequest t sid { e with done := [y] } y.status))) ∧
  (∀ s h c, s.dev.boot.released = true → s.dev.halted h = false → s.dev.num Obj.errPolHalfFatalAction = 0 → exec (.halfHalt h c) s =
    (let d := { s.dev with boot := byHalf h { s.dev.boot with haltW := true } { s.dev.boot with haltE := true } }
     let d := d.logEvent h Scope.half h.code 2 0x050D (beBytes 1 c.code)
     .next { s with dev := (portsOfHalf h).foldl (fun d p => d.portDown p Ltssm.detect 0) d }))

/-- LINK_UP and LINK_DOWN, Recovery, replays, changes of rate and L0p width (R140, R142, R145, R146, R147, R148, R149). The model's choices in it:
assumption log 1, 33, 36, 37, 108, 111. -/
def Obligations.LinkEvents : Prop :=
  (∀ s (p : Fin 128) f, s.dev.num (Obj.pstLtssm p) ≠ Ltssm.hotReset → s.dev.mayTrain p = true → s.dev.linkFits p f = true →
    exec (.linkUp p f) s = .next { s with dev := s.dev.portUp p f }) ∧
  (∀ s (p : Fin 128) f, s.dev.num (Obj.pstLtssm p) = Ltssm.hotReset →
    (let d := (s.dev.setNum (Obj.pstLtssm p) Ltssm.detect).modPort p (fun x => { x with kept := [] })
     d.mayTrain p = true → d.linkFits p f = true → exec (.linkUp p f) s = .next { s with dev := d.portUp p f })) ∧
  (∀ s (p : Fin 128) f i, s.dev.num (Obj.pstLtssm p) ≠ Ltssm.hotReset → s.dev.mayTrain p = true → s.dev.linkFits p f = false → s.dev.num (Obj.portRole p) = 2 →
    s.dev.linkOfPort p = some i → f.width < 4 → s.dev.linkSt i = LinkSt.training → exec (.linkUp p f) s = .next { s with dev := s.dev.initFails i 6 }) ∧
  (∀ s (p : Fin 128), s.dev.dlUp p = true → exec (.linkDown p true) s = .next { s with dev := s.dev.surpriseDown p }) ∧
  (∀ s (p : Fin 128), s.dev.dlUp p = true → exec (.linkDown p false) s = .next { s with dev := s.dev.portDown p Ltssm.detect 0 }) ∧
  (∀ s (p : Fin 128), s.dev.num (Obj.pstLtssm p) = Ltssm.l0 → exec (.linkRecoveryEntry p) s = .next { s with dev := s.dev.enterRecovery p }) ∧
  (∀ s (p : Fin 128), s.dev.num (Obj.pstLtssm p) = Ltssm.l0 → exec (.replayNumRollover p) s =
    .next { s with dev := ((s.dev.logEvent (Half.ofPort p) Scope.port p 0 0x0202).aerCor p AerCor.rollover).enterRecovery p }) ∧
  (∀ s (p : Fin 128), s.dev.num (Obj.pstLtssm p) = Ltssm.recovery → (s.dev.port p).afterRecovery = 0 → exec (.linkRecoveryEnd p (.l0 none)) s =
    .next { s with dev := (((s.dev.modPort p (fun x => { x with afterRecovery := 0 })).setNum (Obj.pstLtssm p) Ltssm.l0).replayUnacked p).contractsFollow p }) ∧
  (∀ s (p : Fin 128) w, s.dev.num (Obj.pstLtssm p) = Ltssm.recovery → (s.dev.port p).afterRecovery = 0 → exec (.linkRecoveryEnd p (.l0 (some w))) s =
    .next { s with dev := ((((s.dev.modPort p (fun x => { x with afterRecovery := 0 })).setNum (Obj.pstLtssm p) Ltssm.l0).upconfigure p w).replayUnacked p).contractsFollow p }) ∧
  (∀ s (p : Fin 128), s.dev.num (Obj.pstLtssm p) = Ltssm.recovery → (s.dev.port p).afterRecovery = 0 → exec (.linkRecoveryEnd p .linkLost) s =
    .next { s with dev := (s.dev.modPort p (fun x => { x with afterRecovery := 0 })).surpriseDown p }) ∧
  (∀ s (p : Fin 128) r, s.dev.num (Obj.pstLtssm p) = Ltssm.recovery → (s.dev.port p).afterRecovery = 2 → exec (.linkRecoveryEnd p r) s =
    .next { s with dev := (s.dev.modPort p (fun x => { x with afterRecovery := 0 })).hotResetPort p }) ∧
  (∀ s (p : Fin 128) r, s.dev.num (Obj.pstLtssm p) = Ltssm.recovery → (s.dev.port p).afterRecovery = 3 → exec (.linkRecoveryEnd p r) s =
    .next { s with dev := (s.dev.modPort p (fun x => { x with afterRecovery := 0 })).disablePort p }) ∧
  (∀ s (p : Fin 128) (r : Fin 8), s.dev.dlUp p = true → s.dev.linkRateFits p (s.dev.num (Obj.pstProtocol p)) r (s.dev.flag (Obj.pstFlit p)) = true →
    exec (.laneRateChange p r) s = .next { s with dev := s.dev.setRate p r }) ∧
  (∀ s (p : Fin 128) (r : Fin 8), s.dev.num (Obj.portRole p) = 0 → s.dev.num (Obj.pstLtssm p) = Ltssm.l0 → s.dev.dlUp p = true →
    s.dev.linkRateFits p (s.dev.num (Obj.pstProtocol p)) r (s.dev.flag (Obj.pstFlit p)) = true → exec (.speedChange p r) s =
    .next { s with dev := (s.dev.enterRecovery p).emit (.linkTrain p r) }) ∧
  (∀ s (p : Fin 128) w, s.dev.num (Obj.pstLtssm p) = Ltssm.l0 → s.dev.dlUp p = true → s.dev.flag (Obj.pstFlit p) = true →
    bitOf (s.dev.linkField p (Obj.portLpm p)) 0 = true → s.dev.num (Obj.portRole p) ≠ 2 → [1, 2, 4, 8, 16].contains w = true → w ≤ s.dev.num (Obj.pstWidth p) →
    exec (.l0pWidthRequest p none (some w)) s = .next { s with dev := ((s.dev.setNum (Obj.pstL0pWidth p) w).l0pLanes p w).contractsFollow p }) ∧
  (∀ s (p : Fin 128) w, s.dev.num (Obj.pstLtssm p) = Ltssm.l0 → s.dev.dlUp p = true → s.dev.flag (Obj.pstFlit p) = true →
    bitOf (s.dev.linkField p (Obj.portLpm p)) 0 = true → s.dev.num (Obj.portRole p) ≠ 2 → [1, 2, 4, 8, 16].contains w = true → w ≤ s.dev.num (Obj.pstWidth p) →
    (s.dev.port p).l0pRetry = none → exec (.l0pWidthRequest p (some w) none) s =
    .next { s with dev := (((s.dev.modPort p (fun x => { x with l0pRetry := none })).setNum (Obj.pstL0pWidth p) w).l0pLanes p w).contractsFollow p }) ∧
  (∀ s (p : Fin 128) w u, s.dev.num (Obj.pstLtssm p) = Ltssm.l0 → s.dev.dlUp p = true → s.dev.flag (Obj.pstFlit p) = true →
    bitOf (s.dev.linkField p (Obj.portLpm p)) 0 = true → s.dev.num (Obj.portRole p) = 1 → [1, 2, 4, 8, 16].contains w = true → w ≤ s.dev.num (Obj.pstWidth p) →
    (s.dev.port p).l0pRetry = none → [1, 2, 4, 8, 16].contains u = true → u ≤ s.dev.num (Obj.pstWidth p) → exec (.l0pWidthRequest p (some w) (some u)) s =
    .next { s with dev := (((s.dev.modPort p (fun x => { x with l0pRetry := some (w, s.dev.clk + us 10) })).setNum (Obj.pstL0pWidth p) u).l0pLanes p u).contractsFollow p })

/-- PERSTIN_N, hot resets, configuration writes, PTM, station clocks and logical devices of an MLD (R138, R150, R153, R157, R158, R160, R161, R168). The
model's choices in it: assumption log 8, 31, 38, 42. -/
def Obligations.NodeAndStationEvents : Prop :=
  (∀ s (st : Fin 16), exec (.perstinFall st) s =
    (let d := { s.dev with pins := { s.dev.pins with perstN := setBit s.dev.pins.perstN st false } }
     .next { s with dev := (d.perstNodes st).foldl (fun d v => if d.nodeState v = 0 then d else d.nodeEnterReset v 1) d })) ∧
  (∀ s (st : Fin 16), exec (.perstinRise st) s =
    (let d := { s.dev with pins := { s.dev.pins with perstN := setBit s.dev.pins.perstN st true } }
     .next { s with dev := (d.perstNodes st).foldl (fun d v => if d.nodeState v = 3 ∧ (d.node v).resetBy = 1 then d.nodeLeaveReset v else d) d })) ∧
  (∀ s (v : Fin 64), s.dev.nodeState v = 2 → exec (.hotResetReceived v true) s = .next { s with dev := s.dev.nodeEnterReset v 2 }) ∧
  (∀ s (v : Fin 64), s.dev.nodeState v = 2 → exec (.hotResetReceived v false) s = .next { s with dev := s.dev.nodeEnterReset v 3 }) ∧
  (∀ s (v : Fin 64), s.dev.nodeState v = 3 → (s.dev.node v).resetBy = 2 → exec (.hotResetEnd v) s = .next { s with dev := s.dev.nodeLeaveReset v }) ∧
  (∀ s (v : Fin 64), s.dev.nodeState v = 3 → (s.dev.node v).resetBy = 3 → (s.dev.upstreamOf v).all s.dev.perstHigh = true → exec (.hotResetEnd v) s =
    .next { s with dev := s.dev.nodeLeaveReset v }) ∧
  (∀ s f r n, s.dev.funcExists f = true → exec (.configWrite f r n) s = .next { s with dev := s.dev.configWrite f r n }) ∧
  (∀ s (p : Fin 128) v, s.dev.num (Obj.portPartition p) = v → s.dev.dlUp p = true → s.dev.num (Obj.portRole p) = 0 →
    s.dev.portOf p v = true → bitOf (s.dev.cfgReg (usp v) .ptmControl) 0 = true → s.dev.ptmValid v = true → exec (.ptmRequest p) s =
    .next { s with dev := s.dev.emit (.ptm p ((s.dev.time (Half.ofPort p) + (s.dev.node v).ptmOffset) % 2 ^ 64)) }) ∧
  (∀ s (v : Fin 64) n, s.dev.nodeEnabled v = true → s.dev.nodeState v = 2 → bitOf (s.dev.cfgReg (usp v) .ptmControl) 0 = true → exec (.ptmOffsetRefresh v n) s =
    .next { s with dev := (s.dev.modNode v (fun x => { x with ptmOffset := n % 2 ^ 64 })).setPtmValid v 1 }) ∧
  (∀ s (st : Fin 16), field (strapOf s.dev.objs) 3 2 = 1 → exec (.stationRefclkSelect st false) s =
    .next { s with dev := ((s.dev.setNum (Obj.staRefclk st) 2).logEvent (Half.ofStation st) Scope.station st 2 0x0301).stationDown st }) ∧
  (∀ s (st : Fin 16), field (strapOf s.dev.objs) 3 2 = 1 → exec (.stationRefclkSelect st true) s =
    (let hold := fun (d : Dev) p => if d.flag (Obj.portEnable p) && d.clockHeld p && !(d.port p).clockHeldLogged then
        (d.modPort p (fun x => { x with clockHeldLogged := true })).logEvent (Half.ofPort p) Scope.port p 1 0x0211
      else d
     .next { s with dev := (portsOfStation st).foldl hold (s.dev.setNum (Obj.staRefclk st) 1) })) ∧
  (∀ s (st : Fin 16), exec (.stationPllLockLoss st true) s =
    .next { s with dev := ((s.dev.logEvent (Half.ofStation st) Scope.station st 2 0x0301).stationDown st).setNum (Obj.staRefclk st) 2 }) ∧
  (∀ s (st : Fin 16), exec (.stationPllLockLoss st false) s = .next { s with dev := ((portsOfStation st).foldl (fun (d : Dev) p =>
      d.modPort p (fun x => { x with pllLost := true })) ((s.dev.logEvent (Half.ofStation st) Scope.station st 2 0x0302).stationDown st)) }) ∧
  (∀ s (p : Fin 128) n, s.dev.dlUp p = true → (s.dev.port p).isMld = true → n ≤ 16 → s.dev.fabricMode = false →
    (s.dev.ldUsed.filter (fun e => s.dev.num (Obj.cxlLdPort e) == p.val)) = [] → s.dev.ldUsed.length + n ≤ 256 → exec (.mldTrained p n) s =
    (let freeEntries := ((List.range 256).filter (fun e => !s.dev.ldUsed.contains e)).take n
     let d := ((List.range n).zip freeEntries).foldl (fun (d : Dev) e =>
       ((d.setNum (Obj.cxlLdPort e.2) p).setNum (Obj.cxlLdLdId e.2) e.1).setNum (Obj.cxlLdState e.2) 1) s.dev
     .next { s with dev := d.modPort p (fun x => { x with lds := freeEntries }) })) ∧
  (∀ s (p : Fin 128) n, s.dev.dlUp p = true → (s.dev.port p).isMld = true → n ≤ 16 → s.dev.fabricMode = false →
    (s.dev.ldUsed.filter (fun e => s.dev.num (Obj.cxlLdPort e) == p.val)) = [] → 256 < s.dev.ldUsed.length + n → exec (.mldTrained p n) s =
    .next { s with dev := (s.dev.modPort p (fun x => { x with cxlMem := false })).logEvent (Half.ofPort p) Scope.port p 3 0x020E }) ∧
  (∀ s (p : Fin 128), (s.dev.port p).isMld = true → s.dev.dlUp p = false → exec (.mldReleaseTimeout p) s =
    (let d := s.dev.advanceTo ((s.dev.port p).downSince + sec 1)
     let d := (s.dev.port p).lds.foldl (fun (d : Dev) e =>
       let bound := d.num (Obj.cxlLdPartition e) != 0xFF
       let d := if bound then d.ldUnbound e else d
       (((d.setNum (Obj.cxlLdPort e) 0xFF).setNum (Obj.cxlLdLdId e) 0).setNum (Obj.cxlLdPartition e) 0xFF).setNum (Obj.cxlLdState e) (if bound then 3 else 0)) d
     .next { s with dev := (d.modPort p (fun x => { x with lds := [], isMld := false })).countLds })) ∧
  (∀ s (v : Fin 64) w n, s.dev.upPort v < 128 → exec (.cxlMemUnclaimed v w n) s =
    .next { s with dev := (s.dev.logEvent (Half.ofPort (s.dev.upPort v)) Scope.port (s.dev.upPort v) 1 0x0210).emit (.cxlResponse v (!w)) })

/-- Completions to proxies, tracking time-outs and waits, host configuration requests, and synthetic slot power (R198, R200, R203, R204, R205, R211, R213,
R214). The model's choices in it: assumption log 1, 53, 54, 55, 94, 95. -/
def Obligations.FabricEvents : Prop :=
  (∀ s (t : Tlp), s.dev.portOfBus (t.completer / 256) = none → exec (.proxyCompletion t) s = .next { s with dev := s.dev.inc64 Obj.fabricCtlLate }) ∧
  (∀ s (t : Tlp) p, s.dev.portOfBus (t.completer / 256) = some p →
    ((s.dev.track (Half.ofCode (field t.requester 4 1))).find? (fun x => x.entry == 16384 * field t.requester 0 4 + t.tag)).all
      (fun x => t.completer != s.dev.num (Obj.bindRid x.binding)) = true → exec (.proxyCompletion t) s =
    (let f : Frame := { body := .tlp t }
     let a : Arrival := { inPort := p, inHalf := Half.ofPort p, cls := s.dev.classOf (.port (Fin.ofNat 128 p)) f, facts := ⟨false, false⟩ }
     .next { s with dev := (s.dev.inc64 Obj.fabricCtlLate).arrivalOver a f noPort .green })) ∧
  (∀ s (t : Tlp) p x, s.dev.portOfBus (t.completer / 256) = some p →
    (s.dev.track (Half.ofCode (field t.requester 4 1))).find? (fun x => x.entry == 16384 * field t.requester 0 4 + t.tag) = some x →
    t.completer = s.dev.num (Obj.bindRid x.binding) → exec (.proxyCompletion t) s =
    (let f : Frame := { body := .tlp t }
     let a : Arrival := { inPort := p, inHalf := Half.ofPort p, cls := s.dev.classOf (.port (Fin.ofNat 128 p)) f, facts := ⟨false, false⟩ }
     let h := Half.ofCode (field t.requester 4 1)
     let last := (t.len == 0 || decide (t.byteCount ≤ t.len)) || t.status != .sc
     let rest := (s.dev.track h).filter (fun y => y.entry != 16384 * field t.requester 0 4 + t.tag)
     let d := s.dev.setTrack h (if last then rest else rest ++ [{ x with due := x.due - t.len }])
     let c : Tlp := { t with data := d.patchCfg x t.data }
     let d := if last then d.cfgReturned x else d
     let g := d.trackTarget x { c with completer := (d.hostRid x.binding).getD 0 }
     .next { s with dev := if x.host.isSome && (d.hostRid x.binding).isNone then d.blockFrame a x.host 0 false f
       else if g.1 < 128 then (d.carry a g.1 (Half.ofPort g.1) g.2.1 g.2.2).getD s.dev else d.arrivalOver a f noPort .green })) ∧
  (∀ s h (e : Fin 262144) t, (s.dev.track h).find? (fun t => t.entry == e.val) = some t → exec (.trackTimeout h e) s =
    (let d := (s.dev.advanceTo (t.issued + us (s.dev.num Obj.fabricCtlTrackTimeout))).endTrack h t false
     .next { s with dev := d.logEvent h Scope.node (t.host.getD (d.num (Obj.bindHost t.binding))) 1 0x0406 })) ∧
  (∀ s h i f d, (s.dev.buf h).frames.findSome? (fun q => q.track.bind (fun t => (s.dev.takeTrack h q.frame t).map (fun r => (q.id, r.1, r.2)))) = some (i, f, d) →
    exec (.trackWaitResume h) s = .next { s with dev := d.modBuf h (fun b =>
      { b with frames := b.frames.map (fun q => if q.id = i then { q with frame := f, track := none } else q) }) }) ∧
  (∀ s (v : Fin 64) (k : Fin 256) b0 bs, (s.dev.boundTo v).filter (fun b => s.dev.num (Obj.bindVdsp b) == k.val && s.dev.num (Obj.bindState b) == 2) = b0 :: bs →
    exec (.synthSlotPowerOff v k) s =
    (let d := s.dev.setCfg (.synthetic v k) .slotControl (setBit (s.dev.cfgReg (.synthetic v k) .slotControl) 10 true)
     .next { s with dev := ((((b0 :: bs).foldl (fun d b => d.bindTo b 3) d).refreshMap).notify 2
      (fun x => x.deviceWide || (x.role == .admin && x.scope == v.val)) (fun _ => [numItem (Obj.bindState b0) .u8 3])) })) ∧
  (∀ s (v : Fin 64) (k : Fin 256) b0 bs, (s.dev.boundTo v).filter (fun b => s.dev.num (Obj.bindVdsp b) == k.val && s.dev.num (Obj.bindState b) == 3) = b0 :: bs →
    exec (.synthSlotPowerOn v k) s =
    (let d := s.dev.setCfg (.synthetic v k) .slotControl (setBit (s.dev.cfgReg (.synthetic v k) .slotControl) 10 false)
     .next { s with dev := ((b0 :: bs).foldl (fun d b => d.bindTo b 2) d).refreshMap })) ∧
  (∀ s (b : Fin 8192) n w r t rid, s.dev.num (Obj.bindRid b) ≠ 0 → s.dev.isBound b = true → s.dev.hostRid b = some rid → s.dev.dpcSet (s.dev.synthOf b) = false →
    exec (.hostConfigRequest b (.bar n) (some w) r t) s =
    .next { s with dev := (s.dev.writeViewBar b n w).answerCfg (s.dev.num (Obj.bindHost b)) r t rid .sc [] }) ∧
  (∀ s (b : Fin 8192) n r t rid, s.dev.num (Obj.bindRid b) ≠ 0 → s.dev.isBound b = true → s.dev.hostRid b = some rid → s.dev.dpcSet (s.dev.synthOf b) = false →
    exec (.hostConfigRequest b (.bar n) none r t) s =
    .next { s with dev := s.dev.answerCfg (s.dev.num (Obj.bindHost b)) r t rid .sc (leBytes 4 (s.dev.readViewBar b n)) }) ∧
  (∀ s (b : Fin 8192) r t rid, s.dev.num (Obj.bindRid b) ≠ 0 → s.dev.isBound b = true → s.dev.hostRid b = some rid → s.dev.dpcSet (s.dev.synthOf b) = false →
    s.dev.num (Obj.bindKind b) = 3 → exec (.hostConfigRequest b .vendorDevice none r t) s =
    .next { s with dev := s.dev.answerCfg (s.dev.num (Obj.bindHost b)) r t rid .sc (leBytes 4 (s.dev.fnInfo b).idWord) }) ∧
  (∀ s (b : Fin 8192) n r t rid, s.dev.num (Obj.bindRid b) ≠ 0 → s.dev.isBound b = true → s.dev.hostRid b = some rid → s.dev.dpcSet (s.dev.synthOf b) = false →
    exec (.hostConfigRequest b .command (some n) r t) s = .next { s with dev := s.dev.trackedCfg b .command (some (n, 0xFFFC)) r t }) ∧
  (∀ s (b : Fin 8192) k n r t rid, s.dev.num (Obj.bindRid b) ≠ 0 → s.dev.isBound b = true → s.dev.hostRid b = some rid → s.dev.dpcSet (s.dev.synthOf b) = false →
    exec (.hostConfigRequest b (.other k) n r t) s = .next { s with dev := s.dev.trackedCfg b (.other k) (n.map (fun n => (n, 0xFFFFFFFF))) r t }) ∧
  (∀ s (b : Fin 8192) r n q t rid, s.dev.num (Obj.bindRid b) ≠ 0 → s.dev.isBound b = true → s.dev.hostRid b = some rid → s.dev.dpcSet (s.dev.synthOf b) = true →
    exec (.hostConfigRequest b r n q t) s = .next { s with dev := s.dev.endCfg b r (n.map (fun n => (n, 0xFFFFFFFF))) q t (.dpc (s.dev.synthOf b)) }) ∧
  (∀ s (b : Fin 8192) r w q t, s.dev.num (Obj.bindRid b) ≠ 0 → s.dev.isBound b = true → s.dev.hostRid b = none →
    exec (.hostConfigRequest b r w q t) s = .next { s with dev := s.dev.endCfg b r (w.map (fun n => (n, 0xFFFFFFFF))) q t .unsupported })

/-- A frame enters, is selected at an egress port, is skimmed, waits for credits or a tally scan (R164, R167, R178, R182, R185, R186, R187, R290, R316).
The model's choices in it: assumption log 11, 46, 47, 48, 90, 114. -/
def Obligations.CoreEvents : Prop :=
  (∀ s i f facts d, s.dev.sourceOpen i f = true → f.bytes ≤ s.dev.num Obj.schedFrameMax →
    s.dev.enter { inPort := i.number, inHalf := i.half, cls := s.dev.classOf i f, facts := facts } f (s.dev.route i (s.dev.classOf i f) f) = some d →
    exec (.frameIngress i f facts) s = .next { s with dev := d }) ∧
  (∀ s (p : Fin 128) ecc q, s.dev.pertAt 1 p = none → s.dev.select p = some q → exec (.egressSelect p ecc) s =
    (let d := (s.dev.modPort p (fun x => { x with slotNo := x.slotNo + 1 })).dropFrame (Half.ofPort p) q.id
     .next { s with dev := match d.readCells (Half.ofPort p) q ecc with
       | (none, d) => (d.sampleQueued (Half.ofPort p) q false).admitHeld (Half.ofPort p)
       | (some q, d) => (d.sendOut p q false).admitHeld (Half.ofPort p) })) ∧
  (∀ s (p : Fin 128) ecc, s.dev.pertAt 1 p = none → s.dev.select p = none → exec (.egressSelect p ecc) s =
    .next { s with dev := s.dev.modPort p (fun x => { x with slotNo := x.slotNo + 1 }) }) ∧
  (∀ s (p : Fin 128) c, s.dev.dlUp p = true → exec (.linkCreditUpdate p c) s =
    .next { s with dev := s.dev.modPort p (fun x => { x with credits := x.credits.plus c, stallLogged := false }) }) ∧
  (∀ s (p : Fin 128) q, s.dev.dlUp p = true → (s.dev.port p).stallLogged = false → q ∈ s.dev.queueAt p → s.dev.eligible p q = true → s.dev.linkReady p q = false →
    s.dev.num (Obj.portRole p) ≠ 0 → exec (.creditStallTimeout p) s =
    .next { s with dev := (s.dev.logEvent (Half.ofPort p) Scope.port p 1 0x0209).modPort p (fun x => { x with stallLogged := true }) }) ∧
  (∀ s h, exec (.skimEvict h) s = .next { s with dev := s.dev.skim h }) ∧
  (∀ s h, s.dev.flag Obj.coreTallyEnable = true → (s.dev.buf h).scanning = false → exec (.tallyScanStart h) s =
    (let d := s.dev.advanceTo (if (s.dev.buf h).lastScan = 0 then s.dev.clk else (s.dev.buf h).lastScan + ms (s.dev.num Obj.coreTallyPeriod))
     .next { s with dev := d.modBuf h (fun b => { b with scanning := true, lastScan := d.clk, judged := b.judged + b.lostCells, lostCells := 0 }) })) ∧
  (∀ s h n, (s.dev.buf h).scanning = true → exec (.tallyScanEnd h n) s = .next { s with dev := s.dev.tallyEnd h n })

/-- The session between twins, its refusal and time-outs, PAIRSYNC, object transfer and pair prepare (R214, R215, R216, R217, R218, R219, R220). The
model's choices in it: assumption log 2, 57. -/
def Obligations.PairEvents : Prop :=
  (∀ s key fab en t, s.dev.num Obj.pairState = PairSt.joining → s.dev.activeLinks ≠ [] → exec (.pairSessionEstablished key fab en t) s =
    .next { s with dev := if Config.shake256 key 32 ≠ padTo 32 (s.dev.bytes Obj.pairTwinKeyHash) then s.dev.pairRefused 1
      else if fab = false then s.dev.pairRefused 3
      else if en = false then s.dev.pairRefused 4
      else (s.dev.stepForward t).pairTo PairSt.resync }) ∧
  (∀ s r, s.dev.num Obj.pairState = PairSt.joining → 1 ≤ r → r ≤ 4 → exec (.pairSessionRefused r) s = .next { s with dev := s.dev.pairRefused r }) ∧
  (∀ s t, s.dev.num Obj.pairState = PairSt.joining → s.dev.pair.joinSince = some t → exec .pairJoinTimeout s =
    .next { s with dev := (s.dev.advanceTo (t + sec 1)).pairRefused 5 }) ∧
  (∀ s, s.dev.num Obj.pairState = PairSt.refused → s.dev.flag Obj.pairEnable = true → exec .pairRefusedRetry s =
    .next { s with dev := (s.dev.advanceTo (s.dev.pair.refusedAt + sec 10)).pairTo PairSt.joining }) ∧
  (∀ s, s.dev.num Obj.pairState = PairSt.resync → exec .pairResyncTimeout s =
    .next { s with dev := ((s.dev.advanceTo (s.dev.pair.resyncSince + ms 100)).setNum Obj.pairRefuseReason 6).pairTo PairSt.joining }) ∧
  (∀ s t, s.dev.num Obj.pairState = PairSt.formed → s.dev.pair.genDiffSince = some t → exec .pairMismatchTimeout s =
    .next { s with dev := (s.dev.advanceTo (t + ms 10)).pairTo PairSt.resync }) ∧
  (∀ s t, s.dev.num Obj.pairState = PairSt.formed → s.dev.pair.genDiffSince = none → s.dev.pair.digestDiffSince = some t → exec .pairMismatchTimeout s =
    .next { s with dev := (s.dev.advanceTo (t + us 300)).pairTo PairSt.resync }) ∧
  (∀ s, s.dev.num Obj.pairState = PairSt.formed ∨ s.dev.num Obj.pairState = PairSt.resync → s.dev.activeLinks ≠ [] → exec .pairLossTimeout s =
    .next { s with dev := (s.dev.advanceTo (s.dev.pair.lastSync + ms (s.dev.num Obj.pairLossTime))).twinLost }) ∧
  (∀ s t, s.dev.num Obj.pairState = PairSt.formed ∨ s.dev.num Obj.pairState = PairSt.resync → s.dev.activeLinks = [] →
    s.dev.pair.linksLostAt = some t → exec .pairLossTimeout s =
    .next { s with dev := (s.dev.advanceTo (t + ms (s.dev.num Obj.pairLossTime))).twinLost }) ∧
  (∀ s, s.dev.num Obj.pairState = PairSt.formed ∨ s.dev.num Obj.pairState = PairSt.resync → s.dev.activeLinks ≠ [] → exec .pairsyncSend s =
    .next { s with dev := s.dev.bypass (s.dev.activeLinks.headD 0) [.pairSync s.dev.ownNode (s.dev.num Obj.pairState) (s.dev.num Obj.pairGeneration) s.dev.pairDigest] }) ∧
  (∀ s node st g dig, s.dev.num Obj.pairState = PairSt.formed ∨ s.dev.num Obj.pairState = PairSt.resync → node ≠ s.dev.ownNode →
    exec (.pairsync node st g dig) s = .next { s with dev := s.dev.pairSynced g dig }) ∧
  (∀ s g objs revoked, s.dev.num Obj.pairState = PairSt.resync →
    (let d := revoked.foldl (fun (d : Dev) (e : Fin 4096) => d.setNum (Obj.grantSrcBinding e) 0xFFFF) s.dev
     exec (.pairObjectsTransfer g ⟨objs, revoked⟩) s = .next { s with dev := if d.authoritative g then d.syncGam
       else ((d.replacePair objs).setNum Obj.pairGeneration (g % 2 ^ 32)).syncGam.pairForms })) ∧
  (∀ s objs g o, s.dev.num Obj.pairState = PairSt.formed → s.dev.pair.ownPrepare = false → s.dev.twinFault objs = some o → exec (.pairPrepare objs g) s =
    .next { s with dev := s.dev.emit (.pairPrepared o.status) }) ∧
  (∀ s objs g, s.dev.num Obj.pairState = PairSt.formed → s.dev.pair.ownPrepare = true → s.dev.ownNode ≠ 0 →
    (let d := (({ s.dev with pair := { s.dev.pair with ownPrepare := false } } : Dev).commitFails Status.busy 0 noEntry).settle
     d.twinFault objs = none → exec (.pairPrepare objs g) s =
     .next { s with dev := ({ d with pair := { d.pair with twinPrepared := some (g, objs) } } : Dev).emit (.pairPrepared Status.ok) })) ∧
  (∀ s objs g, s.dev.num Obj.pairState = PairSt.formed → s.dev.pair.ownPrepare = false → s.dev.twinFault objs = none → exec (.pairPrepare objs g) s =
    .next { s with dev := ({ s.dev with pair := { s.dev.pair with twinPrepared := some (g, objs) } } : Dev).emit (.pairPrepared Status.ok) }) ∧
  (∀ s objs g, s.dev.num Obj.pairState = PairSt.formed → s.dev.pair.ownPrepare = true → s.dev.ownNode = 0 → exec (.pairPrepare objs g) s =
    .next { s with dev := s.dev.emit (.pairPrepared Status.busy) }) ∧
  (∀ s objs g, s.dev.num Obj.pairState ≠ PairSt.formed → exec (.pairPrepare objs g) s =
    .next { s with dev := s.dev.emit (.pairPrepared Status.farTimeout) })

/-- Data flits, ACK, NAK, CREDIT, HEARTBEAT, TIME and their timers (R227, R228, R229, R230, R231, R232, R233). The model's choices in it: assumption log
52, 58, 89, 91, 92. -/
def Obligations.BflMessages : Prop :=
  (∀ s (i : Fin 16) q rest, s.dev.linkSt i = LinkSt.active → s.dev.armed 4 0x0B i = none → (s.dev.link i).replay.any (fun f => f.seq == q) = true →
    ((s.dev.link i).replay.dropWhile (fun f => f.seq != q)).drop 1 = rest → exec (.ack i q) s =
    .next { s with dev := s.dev.modLink i (fun x => { x with replay := rest, timerOn := !rest.isEmpty, timerAt := s.dev.clk }) }) ∧
  (∀ s (i : Fin 16) q f t, s.dev.linkSt i = LinkSt.active → s.dev.armed 4 0x0B i = none → (s.dev.link i).replay = f :: t →
    (f :: t).any (fun f => f.seq == q) = false → q ≠ (f.seq + 4095) % 4096 → exec (.ack i q) s = .next { s with dev := s.dev.inc32 (Obj.bflAcksIgnored i) }) ∧
  (∀ s (i : Fin 16) q c, s.dev.linkSt i = LinkSt.active → c ≤ 2 → s.dev.armed 4 0x0B i = none → (s.dev.link i).inSpan q = true → exec (.nak i q c) s =
    .next { s with dev := (s.dev.ackTo i q).replayDue i }) ∧
  (∀ s (i : Fin 16) q c, s.dev.linkSt i = LinkSt.active → c ≤ 2 → s.dev.armed 4 0x0B i = none → (s.dev.link i).inSpan q = false → exec (.nak i q c) s =
    .next { s with dev := s.dev.inc32 (Obj.bflAcksIgnored i) }) ∧
  (∀ s (i : Fin 16), s.dev.linkSt i = LinkSt.active → (s.dev.link i).timerOn = true → exec (.bflReplayTimeout i) s =
    .next { s with dev := (s.dev.advanceTo ((s.dev.link i).timerAt + ns (s.dev.num (Obj.bflReplayTimer i)))).replayDue i }) ∧
  (∀ s (i : Fin 16) b fs part, (let h := readHeader b
     let l := s.dev.link i
     s.dev.linkSt i = LinkSt.active → flitCrcOk b = true → h.vc ≤ 7 → l.partnerInc = some h.inc → h.seq = l.rxSeq →
     readPayload l.part h.cont (flitPayload b) = some (fs, part) → exec (.bflDataFlit i b) s =
     (let d := (s.dev.setReturned i h.crPool h.crTotal).modLink i (fun x =>
        { x with rxSeq := (l.rxSeq + 1) % 4096, nakFor := none, sinceAck := l.sinceAck + 1, part := part })
      let d := if 16 ≤ l.sinceAck + 1 then d.sendAck i else d
      .next { s with dev := fs.foldl (fun d e => d.bflDeliver i h.vc (Frame.readBfl e.1 e.2.2) e.2.1) d }))) ∧
  (∀ s (i : Fin 16) b, s.dev.linkSt i = LinkSt.active → flitCrcOk b = false → (s.dev.link i).lastCrcNak = none → exec (.bflDataFlit i b) s =
    (let d := s.dev.inc64 (Obj.bflCrcErrors i)
     .next { s with dev := (d.sendNak i 0).modLink i (fun x => { x with lastCrcNak := some s.dev.clk }) })) ∧
  (∀ s (i : Fin 16) b, (let h := readHeader b
     s.dev.linkSt i = LinkSt.active → flitCrcOk b = true → h.vc = 15 → (s.dev.link i).partnerInc = some h.inc → exec (.bflDataFlit i b) s =
     .next { s with dev := (bypassMessages (flitPayload b)).foldl (fun d m => d.bypassIn i m) (s.dev.setReturned i h.crPool h.crTotal) })) ∧
  (∀ s (i : Fin 16) b, (let h := readHeader b
     s.dev.linkSt i ≠ LinkSt.down → s.dev.linkSt i ≠ LinkSt.active → flitCrcOk b = true → h.vc = 15 → exec (.bflDataFlit i b) s =
     .next { s with dev := (bypassMessages (flitPayload b)).foldl (fun d m => d.bypassIn i m) s.dev })) ∧
  (∀ s (i : Fin 16), s.dev.linkSt i = LinkSt.active → 0 < (s.dev.link i).sinceAck → exec (.bflAckDue i) s =
    .next { s with dev := (s.dev.bypass i [.ack (s.dev.link i).lastAccepted]).modLink i (fun x => { x with sinceAck := 0 }) }) ∧
  (∀ s (i : Fin 16) p l, s.dev.linkSt i = LinkSt.active → p = 0 ∨ p = 7 → exec (.credit i p l) s =
    .next { s with dev := ((List.range 7).zip l).foldl (fun d e => d.setReturned i (p + e.1) e.2) s.dev }) ∧
  (∀ s (i : Fin 16), s.dev.linkSt i = LinkSt.active → exec (.bflCreditSend i) s =
    (let g := fun k => tabGet (s.dev.link i).given k 0
     .next { s with dev := s.dev.bypass i [.credit 0 ((List.range 7).map g), .credit 7 [g 7, g 8, 0, 0, 0, 0, 0]] })) ∧
  (∀ s (i : Fin 16) a b q, s.dev.linkSt i = LinkSt.active ∨ s.dev.linkSt i = LinkSt.retrain → exec (.heartbeat i a b q) s =
    .next { s with dev := (s.dev.modLink i (fun x => { x with lastHb := s.dev.clk })).ackTo i q }) ∧
  (∀ s (i : Fin 16), s.dev.linkSt i ≠ LinkSt.down → s.dev.dlUp (s.dev.num (Obj.bflPort i)) = true → exec (.bflHeartbeatSend i) s =
    (let l := s.dev.link i
     .next { s with dev := (s.dev.bypass i [.heartbeat i (s.dev.linkSt i) l.hbSeq l.lastAccepted]).modLink i (fun x => { x with hbSeq := (l.hbSeq + 1) % 65536 }) })) ∧
  (∀ s (i : Fin 16) q at', s.dev.linkSt i = LinkSt.active → (s.dev.link i).lastTime = some (q, at') → exec (.bflTimeSend i) s =
    (let l := s.dev.link i
     let t := s.dev.time (s.dev.linkHalf i)
     .next { s with dev := (s.dev.bypass i [.time l.tseq t ((t - at') % 2 ^ 24) q]).modLink i (fun x =>
       { x with tseq := (l.tseq + 1) % 256, txTimes := ((l.tseq, t) :: x.txTimes).take 16 }) })) ∧
  (∀ s (i : Fin 16) a b c q, s.dev.linkSt i = LinkSt.active → exec (.time i a b c q) s = .next { s with dev := s.dev.timeMessage i a b c q })

/-- Retrains, initialisation, resets and evacuation of a BFL link (R234, R235, R236, R237, R238, R239, R240, R243). The model's choices in it: assumption
log 14, 36, 58, 59, 60, 112. -/
def Obligations.BflLinkEvents : Prop :=
  (∀ s (i : Fin 16), s.dev.linkSt i = LinkSt.active → exec (.bflHeartbeatTimeout i) s =
    .next { s with dev := (s.dev.advanceTo (max (s.dev.link i).lastHb (s.dev.link i).activeSince + us 100)).bflEvent i }) ∧
  (∀ s (i : Fin 16), s.dev.linkSt i = LinkSt.retrain → exec (.bflRetrainL0 i (s.dev.num (Obj.bflWidth i)) (s.dev.num (Obj.bflRate i))) s =
    .next { s with dev := (((s.dev.inc32 (Obj.bflRetrains i)).setNum (Obj.pstLtssm (s.dev.num (Obj.bflPort i))) Ltssm.l0).linkActive i).replayAll i }) ∧
  (∀ s (i : Fin 16) w r, s.dev.linkSt i = LinkSt.retrain → ¬ (w = s.dev.num (Obj.bflWidth i) ∧ r = s.dev.num (Obj.bflRate i)) →
    exec (.bflRetrainL0 i w r) s = .next { s with dev := s.dev.linkHeld i }) ∧
  (∀ s (i : Fin 16), s.dev.linkSt i = LinkSt.retrain → exec (.bflRetrainTimeout i) s =
    .next { s with dev := (s.dev.advanceTo ((s.dev.link i).retrainSince + ms 2)).linkHeld i }) ∧
  (∀ s (i : Fin 16) r, s.dev.initialising i = true → r.reason = 0 → s.dev.resetCheck i r = 0 → exec (.resetReq i r) s =
    (let p := s.dev.num (Obj.bflPort i)
     let d := s.dev.bypass i [.reset true (s.dev.resetMsg i 0 (widthCode (s.dev.num (Obj.pstWidth p))) (s.dev.num (Obj.pstRate p)))]
     .next { s with dev := (d.modLink i (fun x => { x with partnerAcked := true, peer := some (r.inc, r.nextExpected) })).initDone i })) ∧
  (∀ s (i : Fin 16) r, s.dev.initialising i = true → r.reason = 0 → s.dev.resetCheck i r ≠ 0 → exec (.resetReq i r) s =
    .next { s with dev := s.dev.initFails i (s.dev.resetCheck i r) }) ∧
  (∀ s (i : Fin 16) r, s.dev.linkSt i = LinkSt.active → r.reason ≠ 0 → s.dev.resetCheck i r ≠ 0 → exec (.resetReq i r) s = .next s) ∧
  (∀ s (i : Fin 16) r, s.dev.linkSt i = LinkSt.active → r.reason ≠ 0 → s.dev.resetCheck i r = 0 → (s.dev.link i).resetReq = none ∨ s.dev.ownNode ≠ 1 → exec (.resetReq i r) s =
    (let lim := s.dev.linkLimits i
     let w := min r.width lim.1
     let rate := min r.rate lim.2
     .next { s with dev := (s.dev.bypass i [.reset true (s.dev.resetMsg i r.reason w rate)]).linkResets i w rate })) ∧
  (∀ s (i : Fin 16) r q, s.dev.linkSt i = LinkSt.active → r.reason ≠ 0 → (s.dev.link i).resetReq = some q → s.dev.ownNode = 1 → exec (.resetReq i r) s = .next s) ∧
  (∀ s (i : Fin 16) r, s.dev.initialising i = true → r.reason = 0 → exec (.resetAck i r) s =
    .next { s with dev := (s.dev.modLink i (fun x => { x with selfAcked := true, peer := some (r.inc, r.nextExpected) })).initDone i }) ∧
  (∀ s (i : Fin 16) r q, s.dev.linkSt i = LinkSt.active → r.reason ≠ 0 → (s.dev.link i).resetReq = some q → q.1 = r.reason → exec (.resetAck i r) s =
    .next { s with dev := s.dev.linkResets i r.width r.rate }) ∧
  (∀ s (i : Fin 16) r w b, (s.dev.link i).resetReq = some (r, w, b) → (s.dev.link i).selfAcked = false → exec (.bflResetReqSend i) s =
    .next { s with dev := s.dev.bypass i [.reset false (s.dev.resetMsg i r w b)] }) ∧
  (∀ s (i : Fin 16), s.dev.initialising i = true → (s.dev.link i).selfAcked = false → exec (.bflInitTimeout i) s =
    .next { s with dev := (s.dev.advanceTo ((s.dev.link i).initSince + ms 1)).initFails i 7 }) ∧
  (∀ s (i : Fin 16), (s.dev.link i).needFullTrain = true → exec (.bflTrainRetry i) s =
    .next { s with dev := (s.dev.modLink i (fun x => { x with needFullTrain := false })).portDown (s.dev.num (Obj.bflPort i)) Ltssm.detect 0 }) ∧
  (∀ s (t i : Fin 16) n, s.dev.linkSt t = LinkSt.active → t ≠ i → exec (.evacQuery t i n) s =
    (let d := if s.dev.linkSt i = LinkSt.held ∨ s.dev.linkSt i = LinkSt.down then s.dev else s.dev.linkHeld i
     let d := d.modLink i (fun x => { x with part := none })
     .next { s with dev := (d.sendControl t 2 i (d.link i).lastAccepted (d.num (Obj.bflIncarnation i))).newIncarnation i }))

/-- SQ_DB, RQ_DB, CQ_DB, CQ_ARM and CMD_DB: where they act, and that they do nothing elsewhere (R250, R253, R254). The model's choices in it: assumption
log 61. -/
def Obligations.Doorbells : Prop :=
  (∀ s (n : Fin 4096) (node : Fin 64) a b q x, s.dev.qp (halfKey (Half.ofSlice n) (dbField a)) = some q → q.slice = n.val →
    newProducer q.sqFetched q.sqSize (dbField b) = some x → s.dev.num (Obj.rmeSliceState n) = 1 → s.dev.num (Obj.rmeSliceOwner n) = node.val →
    exec (.sqDb n node a b 32) s = .next { s with dev :=
      ((s.dev.modQp (halfKey (Half.ofSlice n) (dbField a)) (fun q => { q with sqProd := x, sqAsked := min q.sqAsked x })).fetch (halfKey (Half.ofSlice n) (dbField a))) }) ∧
  (∀ s (n : Fin 4096) (node : Fin 64) a b q x, s.dev.qp (halfKey (Half.ofSlice n) (dbField a)) = some q → q.slice = n.val → q.rqLog ≠ 0 →
    newProducer q.rqFetched q.rqSize (dbField b) = some x → s.dev.num (Obj.rmeSliceState n) = 1 → s.dev.num (Obj.rmeSliceOwner n) = node.val →
    exec (.rqDb n node a b 32) s = .next { s with dev :=
      ((s.dev.modQp (halfKey (Half.ofSlice n) (dbField a)) (fun q => { q with rqProd := x, rqAsked := min q.rqAsked x })).fetch (halfKey (Half.ofSlice n) (dbField a))) }) ∧
  (∀ s (n : Fin 4096) (node : Fin 64) a b c x, tabFind s.dev.rme.cqs (halfKey (Half.ofSlice n) (dbField a)) = some c → c.slice = n.val → c.overflow = false →
    newConsumer c.cons c.prod (dbField b) = some x → s.dev.num (Obj.rmeSliceState n) = 1 → s.dev.num (Obj.rmeSliceOwner n) = node.val →
    exec (.cqDb n node a b 32) s = .next { s with dev := s.dev.modCq (halfKey (Half.ofSlice n) (dbField a)) (fun c => { c with cons := x }) } ∧
    exec (.cqArm n node a b 32) s = .next { s with dev := s.dev.modCq (halfKey (Half.ofSlice n) (dbField a)) (fun c => { c with armed := true }) }) ∧
  (∀ s (n : Fin 4096) (node : Fin 64) b p, (s.dev.slice n).stopped = false →
    newProducer (s.dev.slice n).cmdFetched (2 ^ s.dev.num (Obj.rmeSliceCmdqLog n)) (dbField b) = some p →
    s.dev.num (Obj.rmeSliceState n) = 1 → s.dev.num (Obj.rmeSliceOwner n) = node.val →
    exec (.cmdDb n node b 32) s = .next { s with dev := (s.dev.modSlice n (fun x => { x with cmdProd := p })).fetchCmd n }) ∧
  (∀ s (n : Fin 4096) (node : Fin 64) a b q, s.dev.qp (halfKey (Half.ofSlice n) (dbField a)) = some q →
    (newProducer q.sqFetched q.sqSize (dbField b) = none → exec (.sqDb n node a b 32) s = .next { s with dev := s.dev.dropDoorbell n }) ∧
    (newProducer q.rqFetched q.rqSize (dbField b) = none → exec (.rqDb n node a b 32) s = .next { s with dev := s.dev.dropDoorbell n })) ∧
  (∀ s (n : Fin 4096) (node : Fin 64) a b z, z ≠ 32 ∨ s.dev.num (Obj.rmeSliceState n) ≠ 1 ∨ s.dev.num (Obj.rmeSliceOwner n) ≠ node.val →
    let t := { s with dev := s.dev.dropDoorbell n }
    exec (.sqDb n node a b z) s = .next t ∧ exec (.rqDb n node a b z) s = .next t ∧ exec (.cqDb n node a b z) s = .next t ∧
      exec (.cqArm n node a b z) s = .next t ∧ exec (.cmdDb n node b z) s = .next t)

/-- Each form of a work queue entry, once fetched, starts its message or fails (R252, R256, R257, R258, R259). The model's choices in it: assumption log
62. -/
def Obligations.RequesterEntries : Prop :=
  (∀ s qpn q w data, s.dev.qpByNumber qpn = some q → q.st = .ready → w.wqe.len ≤ 2 ^ 30 → data.length = w.wqe.len →
    (0 < w.wqe.len → s.dev.localCheck q.slice w.wqe.localKey w.wqe.localAddr w.wqe.len false = none ∧ s.dev.hostOpen q.slice = true) →
    let t := { s with dev := (s.dev.hostLoad q.slice w.wqe.localAddr w.wqe.len).beginWqe (qpnKey qpn) w data }
    (q.turn 1 = some w → exec (.wqeWrite qpn data) s = .next t) ∧ (q.turn 2 = some w → exec (.wqeWriteImm qpn data) s = .next t) ∧
      (q.turn 4 = some w → exec (.wqeSend qpn data) s = .next t) ∧ (q.turn 5 = some w → exec (.wqeSendImm qpn data) s = .next t)) ∧
  (∀ s qpn q w data st, s.dev.qpByNumber qpn = some q → q.st = .ready → w.wqe.len ≤ 2 ^ 30 → 0 < w.wqe.len →
    s.dev.localCheck q.slice w.wqe.localKey w.wqe.localAddr w.wqe.len false = some st →
    let t := { s with dev := s.dev.qpFails (qpnKey qpn) (some w) st }
    (q.turn 1 = some w → exec (.wqeWrite qpn data) s = .next t) ∧ (q.turn 2 = some w → exec (.wqeWriteImm qpn data) s = .next t) ∧
      (q.turn 4 = some w → exec (.wqeSend qpn data) s = .next t) ∧ (q.turn 5 = some w → exec (.wqeSendImm qpn data) s = .next t)) ∧
  (∀ s qpn q w, s.dev.qpByNumber qpn = some q → q.st = .ready → q.turn 3 = some w → w.wqe.len ≤ 2 ^ 30 → 0 < w.wqe.len →
    s.dev.localCheck q.slice w.wqe.localKey w.wqe.localAddr w.wqe.len true = none →
    exec (.wqeRead qpn) s = .next { s with dev := s.dev.beginWqe (qpnKey qpn) w [] }) ∧
  (∀ s qpn q w, s.dev.qpByNumber qpn = some q → q.st = .ready → s.dev.localCheck q.slice w.wqe.localKey w.wqe.localAddr 8 true = none →
    (q.turn 6 = some w → exec (.wqeFetchAdd qpn) s = .next { s with dev := s.dev.beginWqe (qpnKey qpn) w [] }) ∧
    (q.turn 7 = some w → exec (.wqeCompSwap qpn) s = .next { s with dev := s.dev.beginWqe (qpnKey qpn) w [] })) ∧
  (∀ s qpn q w st, s.dev.qpByNumber qpn = some q → q.st = .ready → s.dev.localCheck q.slice w.wqe.localKey w.wqe.localAddr 8 true = some st →
    (q.turn 6 = some w → exec (.wqeFetchAdd qpn) s = .next { s with dev := s.dev.qpFails (qpnKey qpn) (some w) st }) ∧
    (q.turn 7 = some w → exec (.wqeCompSwap qpn) s = .next { s with dev := s.dev.qpFails (qpnKey qpn) (some w) st })) ∧
  (∀ s qpn q w ws e, s.dev.qpByNumber qpn = some q → q.st = .ready → q.sq = w :: ws → w.wqe.opcode = 8 → w.started = false →
    s.dev.keyOf (keyHalf (qpnKey qpn)) w.wqe.imm = some e → e.valid = true → e.slice = q.slice → e.generation = keyGen w.wqe.imm →
    exec (.wqeLocalInv qpn) s = .next { s with dev := (((s.dev.setKey (keyHalf (qpnKey qpn)) (keyEntry w.wqe.imm) { e with valid := false }).completeSend
      (qpnKey qpn) w 0).sendOn (qpnKey qpn)) }) ∧
  (∀ s qpn q w ws, s.dev.qpByNumber qpn = some q → q.st = .ready → q.sq = w :: ws → w.wqe.opcode = 8 → w.started = false →
    s.dev.keyOf (keyHalf (qpnKey qpn)) w.wqe.imm = none →
    exec (.wqeLocalInv qpn) s = .next { s with dev := s.dev.qpFails (qpnKey qpn) (some w) 2 })

/-- ACK, the NAKs, READ and atomic responses, skim notices, the retransmission and RNR timers, and the increase of the rate (R260, R261, R264, R270, R273,
R274). The model's choices in it: assumption log 50, 62, 65. -/
def Obligations.RequesterResponses : Prop :=
  (∀ s h p k q, s.dev.stepOne h p = some (k, q) → q.st = .ready → p.op = .ack →
    (p.syndrome = 0 → exec (.rmeAck h p) s = .next { s with dev := (s.dev.ackBase k p).sendOn k }) ∧
    (p.syndrome = 1 → exec (.rmeSelectiveNak h p) s = .next { s with dev :=
      ((((s.dev.count Ev.rmeSnakRx q.slice).ackBase k p).modQp k (fun x => { x with
        snaks := x.snaks.filter (fun y => y.1 != p.nakPsn) ++ [(p.nakPsn, p.psn)] })).sendOn k) }) ∧
    (p.syndrome = 2 → exec (.rmeRnrNak h p) s = .next { s with dev := s.dev.rnrNak k p }) ∧
    (p.syndrome = 3 → exec (.rmeNakRemoteAccess h p) s = .next { s with dev :=
      ((s.dev.ackBase k p).qpFails k ((s.dev.ackBase k p).wqeOfPsn k p.nakPsn) 3) }) ∧
    (p.syndrome = 4 → exec (.rmeNakRemoteInvalid h p) s = .next { s with dev :=
      ((s.dev.ackBase k p).qpFails k ((s.dev.ackBase k p).wqeOfPsn k p.nakPsn) 4) }) ∧
    (p.syndrome = 5 → exec (.rmeNakKeyGeneration h p) s = .next { s with dev :=
      ((s.dev.ackBase k p).qpFails k ((s.dev.ackBase k p).wqeOfPsn k p.nakPsn) 8) })) ∧
  (∀ s h p k q, s.dev.stepOne h p = some (k, q) → q.st = .ready →
    (p.op = .readResp → exec (.readResp h p) s = .next { s with dev := s.dev.placeRead k p }) ∧
    (p.op = .atomicResp → exec (.atomicResp h p) s = .next { s with dev := s.dev.placeAtomic k p })) ∧
  (∀ s h p k q, (s.dev.inc64 Obj.rmeStatSkimNotices).stepOne h p = some (k, q) → q.st = .ready → p.op = .skimNotice →
    q.unacked.any (fun x => x.pkt.psn == p.psn) = true →
    exec (.skimNotice h p) s = .next { s with dev := ((s.dev.inc64 Obj.rmeStatSkimNotices).resendPsn k p.psn).echo k p.path 32 }) ∧
  (∀ s h p, s.dev.stepOne h p = none →
    (p.op = .readResp → exec (.readResp h p) s = .next { s with dev := s.dev.inc64 Obj.rmeStatDropStale }) ∧
    (p.op = .ack → p.syndrome = 0 → exec (.rmeAck h p) s = .next { s with dev := s.dev.inc64 Obj.rmeStatDropStale })) ∧
  (∀ s qpn q, s.dev.qpByNumber qpn = some q → q.st = .ready → q.timerOn = true → s.dev.pathOpen q = true →
    s.dev.num Obj.rmeRetryLimit < q.expiries + 1 →
    exec (.rmeRetxTimeout qpn) s = .next { s with dev := ((s.dev.advanceTo (q.timerAt + us (s.dev.num Obj.rmeRetxTimeout))).qpFails (qpnKey qpn)
      ((s.dev.advanceTo (q.timerAt + us (s.dev.num Obj.rmeRetxTimeout))).oldestSend (qpnKey qpn)) 5) }) ∧
  (∀ s qpn q, s.dev.qpByNumber qpn = some q → q.st = .ready → q.timerOn = true → s.dev.pathOpen q = true →
    q.expiries + 1 ≤ s.dev.num Obj.rmeRetryLimit →
    exec (.rmeRetxTimeout qpn) s = .next { s with dev :=
      (((s.dev.advanceTo (q.timerAt + us (s.dev.num Obj.rmeRetxTimeout))).modQp (qpnKey qpn) (fun x => { x with
        expiries := x.expiries + 1, snaks := [], timerAt := (s.dev.advanceTo (q.timerAt + us (s.dev.num Obj.rmeRetxTimeout))).clk })).resendFrom (qpnKey qpn)
        ((q.unacked.head?.map (fun x => x.pkt.psn)).getD q.psn) true) }) ∧
  (∀ s qpn q t, s.dev.qpByNumber qpn = some q → q.rnrWait = some t → q.st = .ready →
    exec (.rmeRnrDelayExpiry qpn) s = .next { s with dev :=
      ((((s.dev.advanceTo (t + us (s.dev.num Obj.rmeRnrDelay))).modQp (qpnKey qpn) (fun x => { x with rnrWait := none })).resendFrom (qpnKey qpn)
        q.rnrPsn false).sendOn (qpnKey qpn)) }) ∧
  (∀ s qpn q, s.dev.qpByNumber qpn = some q → q.st = .ready →
    exec (.rmeCcIncrease qpn) s = .next { s with dev :=
      (let d := s.dev.advanceTo (q.lastEcho + us (s.dev.num Obj.rmeCcIncreasePeriod))
       (((d.modQp (qpnKey qpn) (fun x => { x with
          lastEcho := d.clk, weights := if d.remoteTwin q then relaxWeights q.weights (uniformWeights d.activeLinks) else q.weights })).setQpRate
        (qpnKey qpn) (min (d.rateCeiling q.slice) (q.rate + d.num Obj.rmeCcIncreaseStep))).sendOn (qpnKey qpn))) })

/-- The end of a flush, of a quiesce, and of the quiesce budget (R248, R276). The model's choices in it: assumption log 14, 61, 62. -/
def Obligations.QueueDrains : Prop :=
  (∀ s qpn q, s.dev.qpByNumber qpn = some q → exec (.qpFlushed qpn) s = .next { s with dev := (s.dev.flushQp (qpnKey qpn)).quiesceCheck q.slice }) ∧
  (∀ s (n : Fin 4096), s.dev.num (Obj.rmeSliceState n) = 2 → (s.dev.slice n).cmd = none → (s.dev.slice n).cmdFetched = (s.dev.slice n).cmdDone →
    (∀ k ∈ s.dev.qpsOfSlice n, ∀ q, s.dev.qp k = some q → (q.st = .reset ∨ q.st = .flushed) ∧ q.staged = []) →
    exec (.sliceQuiesced n) s = .next { s with dev := s.dev.sliceTo n 3 }) ∧
  (∀ s (n : Fin 4096), s.dev.num (Obj.rmeSliceState n) ≠ 2 → exec (.sliceQuiesced n) s = .next s ∧ exec (.sliceQuiesceBudgetExpiry n) s = .next s) ∧
  (∀ s (n : Fin 4096), s.dev.num (Obj.rmeSliceState n) = 2 → exec (.sliceQuiesceBudgetExpiry n) s = .next { s with dev :=
    (let d := (s.dev.advanceTo ((s.dev.slice n).quiesceSince + us (s.dev.num Obj.rmeRetxTimeout * (s.dev.num Obj.rmeRetryLimit + 1)) + ms 1)).sliceTo n 3
     (d.qpsOfSlice n).foldl (fun (d : Dev) k =>
       match d.qp k with
       | some q =>
         if q.st = .reset ∨ q.st = .flushed ∨ q.lost then d
         else if q.st = .error then (d.fetch k).flushQp k
         else ((d.qpFails k (d.oldestSend k) 5).fetch k).flushQp k
       | none => d) d) })

/-- Each kind of request packet at the expected PSN, beyond it, before it and in another QP state, and an echo that falls due (R262, R263, R265, R267,
R269, R272). The model's choices in it: assumption log 63, 64. -/
def Obligations.ResponderPackets : Prop :=
  (∀ s h p, s.dev.stepOne h p = none → packetGives s h p { s with dev := s.dev.inc64 Obj.rmeStatDropStale }) ∧
  (∀ s h p k q, s.dev.stepOne h p = some (k, q) → q.st ≠ .ready → q.lastNak4 = none →
    packetGives s h p { s with dev := (s.dev.modQp k (fun x => { x with lastNak4 := some s.dev.clk })).sendRmeAck k p.path 4 p.psn }) ∧
  (∀ s h p k q t, s.dev.stepOne h p = some (k, q) → q.st ≠ .ready → q.lastNak4 = some t → s.dev.elapsed t (us 10) = false → packetGives s h p s) ∧
  (∀ s h p k q, s.dev.stepOne h p = some (k, q) → q.st = .ready → 2 ^ 23 ≤ psnDiff p.psn (psnAdd q.completed 1) → p.ce = false →
    packetGives s h p { s with dev := s.dev.rxDuplicate k q p }) ∧
  (∀ s h p k q, s.dev.stepOne h p = some (k, q) → q.st = .ready → psnDiff p.psn (psnAdd q.completed 1) < 2 ^ 23 →
    512 ≤ psnDiff p.psn (psnAdd q.completed 1) → p.ce = false → packetGives s h p { s with dev := s.dev.inc64 Obj.rmeStatBeyondWindow }) ∧
  (∀ s h p k q, s.dev.stepOne h p = some (k, q) → q.st = .ready → psnDiff p.psn (psnAdd q.completed 1) < 512 → p.ce = false →
    q.window.contains p.psn = true → packetGives s h p { s with dev := s.dev.inc64 Obj.rmeStatDuplicates }) ∧
  (∀ s h p k q, s.dev.stepOne h p = some (k, q) → q.st = .ready → psnDiff p.psn (psnAdd q.completed 1) < 512 → p.ce = false →
    q.window.contains p.psn = false → q.opcodeOk p = false → packetGives s h p { s with dev := s.dev.rxNak k p 4 }) ∧
  (∀ s h p k q syn, s.dev.stepOne h p = some (k, q) → q.st = .ready → psnDiff p.psn (psnAdd q.completed 1) < 512 → p.ce = false →
    q.window.contains p.psn = false → q.opcodeOk p = true → s.dev.keyCheck k q p = some syn → packetGives s h p { s with dev := s.dev.rxNak k p syn }) ∧
  (∀ s h p k q, s.dev.stepOne h p = some (k, q) → q.st = .ready → psnDiff p.psn (psnAdd q.completed 1) = 0 → p.ce = false →
    q.window.contains p.psn = false → q.opcodeOk p = true → s.dev.keyCheck k q p = none →
    packetGives s h p { s with dev := (s.dev.rxExecute k p).rxGoOn k }) ∧
  (∀ s h p k q, s.dev.stepOne h p = some (k, q) → q.st = .ready → 0 < psnDiff p.psn (psnAdd q.completed 1) →
    psnDiff p.psn (psnAdd q.completed 1) < 512 → p.ce = false → q.window.contains p.psn = false → q.opcodeOk p = true →
    s.dev.keyCheck k q p = none → packetGives s h p { s with dev := s.dev.stagePacket k q p }) ∧
  (∀ s h p k q, s.dev.stepOne h p = some (k, q) → q.st = .ready → psnDiff p.psn (psnAdd q.completed 1) = 0 → p.ce = true →
    q.window.contains p.psn = false → q.opcodeOk p = true →
    (let d := s.dev.modQp k (fun x => { x with marks := tabMod x.marks p.path 0 (fun c => c + 1) })
     d.keyCheck k q p = none → packetGives s h p { s with dev := (d.rxExecute k p).rxGoOn k })) ∧
  (∀ s qpn q, s.dev.qpByNumber qpn = some q → exec (.rmeEchoDue qpn) s = .next { s with dev :=
    (q.marks.foldl (fun (d : Dev) e => d.sendRmeAck (qpnKey qpn) e.1 0 0) s.dev) }) ∧
  (∀ s qpn q, s.dev.qpByNumber qpn = some q →
    (q.rq = [] → exec (.wqeRecv qpn) s = .next { s with dev := s.dev.fetch (qpnKey qpn) }) ∧
    (q.rq ≠ [] → exec (.wqeRecv qpn) s = .next { s with dev := (s.dev.fetch (qpnKey qpn)).rxResume (qpnKey qpn) }))

/-- A host read returns an entry of a queue, a command, payload or an atomic result, or fails (R251, R252, R254, R265). The model's choices in it:
assumption log 63, 64, 72. -/
def Obligations.HostReads : Prop :=
  (∀ s n w, (s.dev.slice n).cmdDone < (s.dev.slice n).cmdFetched → s.dev.flag (Obj.rmeSliceLostHost n) = false → (s.dev.slice n).cmd = none →
    exec (.hostReadCompletion (.command n w) .ok) s = .next { s with dev := s.dev.cmdArrives n (Wqe.ofBytes w) }) ∧
  (∀ s n w st, (s.dev.slice n).cmdDone < (s.dev.slice n).cmdFetched → s.dev.flag (Obj.rmeSliceLostHost n) = false → st ≠ .ok →
    exec (.hostReadCompletion (.command n w) st) s = .next { s with dev := s.dev.cmdReadFails n }) ∧
  (∀ s qpn q w, s.dev.qpByNumber qpn = some q → q.sqFetched < q.sqAsked → q.st = .ready →
    exec (.hostReadCompletion (.sqWqe qpn w) .ok) s = .next { s with dev := ((s.dev.modQp (qpnKey qpn) (fun y => { y with
      sqFetched := q.sqFetched + 1, sq := y.sq ++ [{ index := q.sqFetched, wqe := Wqe.ofBytes w }] })).sendOn (qpnKey qpn)) }) ∧
  (∀ s qpn q w st, s.dev.qpByNumber qpn = some q → q.sqFetched < q.sqAsked → q.st = .ready → st ≠ .ok →
    exec (.hostReadCompletion (.sqWqe qpn w) st) s = .next { s with dev := ((s.dev.bump.modQp (qpnKey qpn) (fun y => { y with
      sqFetched := q.sqFetched + 1, sq := y.sq ++ [s.dev.unreadWqe q.sqFetched] })).qpFails (qpnKey qpn) (some (s.dev.unreadWqe q.sqFetched)) 2) }) ∧
  (∀ s qpn q w, s.dev.qpByNumber qpn = some q → q.rqFetched < q.rqAsked → q.st = .ready →
    exec (.hostReadCompletion (.rqWqe qpn w) .ok) s = .next { s with dev := ((s.dev.modQp (qpnKey qpn) (fun y => { y with
      rqFetched := q.rqFetched + 1, rq := y.rq ++ [{ index := q.rqFetched, wqe := Wqe.ofBytes w }] })).rxResume (qpnKey qpn)) }) ∧
  (∀ s qpn psn data q w st, s.dev.qpByNumber qpn = some q → q.st = .ready → st ≠ .ok → s.dev.wqeOfPsn (qpnKey qpn) psn = some w →
    exec (.hostReadCompletion (.payload qpn psn data) st) s = .next { s with dev := s.dev.qpFails (qpnKey qpn) (some w) 2 }) ∧
  (∀ s qpn p data q, s.dev.qpByNumber qpn = some q → q.st = .ready → data.length = p.readLen → q.busy = some p →
    exec (.hostReadCompletion (.readReq qpn p data) .ok) s =
    .next { s with dev := ((s.dev.replyRead (qpnKey qpn) q p data).rxDone (qpnKey qpn) p).rxGoOn (qpnKey qpn) }) ∧
  (∀ s qpn p v q, s.dev.qpByNumber qpn = some q → q.st = .ready → q.busy = some p →
    exec (.hostReadCompletion (.atomicOp qpn p v) .ok) s = .next { s with dev := ((((s.dev.modQp (qpnKey qpn) (fun x => { x with
      atomics := ((p.psn, v % 2 ^ 64) :: x.atomics).take 16 })).replyAtomic (qpnKey qpn) q p v).rxDone (qpnKey qpn) p).rxGoOn (qpnKey qpn)) }) ∧
  (∀ s qpn p v q st, s.dev.qpByNumber qpn = some q → q.st = .ready → q.busy = some p → st ≠ .ok →
    exec (.hostReadCompletion (.atomicOp qpn p v) st) s = .next { s with dev := s.dev.rxNak (qpnKey qpn) p 4 })

/-- REG_REGION, DEREG_REGION, CREATE_CQ, DESTROY_CQ: the free key or index is a free value (R254, R257). The model's choices in it: assumption log 1, 64. -/
def Obligations.RegionAndCqCommands : Prop :=
  (∀ s (n : Fin 4096) w e, s.dev.cmdOf n 0x20 = some w → 0 < w.len → w.len ≤ 2 ^ 30 → s.dev.boundOk n w = true → w.remoteKey = 0 →
    s.dev.keysUsed n < s.dev.num (Obj.rmeSliceKeyQuota n) → s.dev.freeKey (Half.ofSlice n) = some e →
    exec (.regRegion n) s = .next { s with dev :=
      (let g := nextGen (tabGet s.dev.rme.keys (entryKey (Half.ofSlice n) e) {}).generation
       (s.dev.bump.setKey (Half.ofSlice n) e (regionEntry n w g)).cmdFinish n 0 (keyNumber (Half.ofSlice n) e g) 0 true) }) ∧
  (∀ s (n : Fin 4096) w x, s.dev.cmdOf n 0x20 = some w → 0 < w.len → w.len ≤ 2 ^ 30 → s.dev.boundOk n w = true → w.remoteKey ≠ 0 →
    s.dev.keyOf (Half.ofSlice n) w.remoteKey = some x → x.allocated = true → x.slice = n.val → x.generation = keyGen w.remoteKey → x.valid = false →
    exec (.regRegion n) s = .next { s with dev :=
      ((s.dev.setKey (Half.ofSlice n) (keyEntry w.remoteKey) (regionEntry n w (nextGen x.generation))).cmdFinish n 0
        (keyNumber (Half.ofSlice n) (keyEntry w.remoteKey) (nextGen x.generation)) 0 true) }) ∧
  (∀ s (n : Fin 4096) w, s.dev.cmdOf n 0x20 = some w → w.len = 0 ∨ 2 ^ 30 < w.len ∨ s.dev.boundOk n w = false →
    exec (.regRegion n) s = .next { s with dev := s.dev.cmdFinish n Status.range 0 0 }) ∧
  (∀ s (n : Fin 4096) w, s.dev.cmdOf n 0x20 = some w → 0 < w.len → w.len ≤ 2 ^ 30 → s.dev.boundOk n w = true → w.remoteKey = 0 →
    s.dev.num (Obj.rmeSliceKeyQuota n) ≤ s.dev.keysUsed n → exec (.regRegion n) s = .next { s with dev := s.dev.cmdFinish n Status.exhausted 0 0 }) ∧
  (∀ s (n : Fin 4096) w x, s.dev.cmdOf n 0x21 = some w → s.dev.keyOf (Half.ofSlice n) w.remoteKey = some x → x.allocated = true → x.slice = n.val →
    x.generation = keyGen w.remoteKey → (x.qpBound = true → ∀ q, s.dev.qp (halfKey (Half.ofSlice n) x.boundQp) = some q → q.slice = n.val → q.st = .reset) →
    exec (.deregRegion n) s = .next { s with dev :=
      ((s.dev.setKey (Half.ofSlice n) (keyEntry w.remoteKey) { x with valid := false, allocated := false }).cmdFinish n 0 0 0) }) ∧
  (∀ s (n : Fin 4096) w x q, s.dev.cmdOf n 0x21 = some w → s.dev.keyOf (Half.ofSlice n) w.remoteKey = some x → x.allocated = true → x.slice = n.val →
    x.generation = keyGen w.remoteKey → x.qpBound = true → s.dev.qp (halfKey (Half.ofSlice n) x.boundQp) = some q → q.slice = n.val → q.st ≠ .reset →
    exec (.deregRegion n) s = .next { s with dev := s.dev.cmdFinish n Status.state 0 0 }) ∧
  (∀ s (n : Fin 4096) w i, s.dev.cmdOf n 0x25 = some w → cqSizeOk w.len = true → s.dev.num (Obj.rmeSliceMsixBase n) ≤ field w.imm 0 16 →
    field w.imm 0 16 < s.dev.num (Obj.rmeSliceMsixBase n) + s.dev.num (Obj.rmeSliceMsixCount n) →
    (s.dev.cqsOfSlice n).length < s.dev.num (Obj.rmeSliceCqQuota n) → s.dev.cqsOfHalf (Half.ofSlice n) < 65536 →
    firstFree (fun i => (tabFind s.dev.rme.cqs (halfKey (Half.ofSlice n) i)).isSome) 65536 (s.dev.rme.cqs.length + 1) (s.dev.free % 65536) = some i →
    exec (.createCq n) s = .next { s with dev :=
      (let d := s.dev.bump
       let c : Cq := { slice := n, base := w.localAddr, size := w.len, vector := field w.imm 0 16 }
       ({ d with rme := { d.rme with cqs := tabSet id s.dev.rme.cqs (halfKey (Half.ofSlice n) i) c } }).cmdFinish n 0 i 0 true) }) ∧
  (∀ s (n : Fin 4096) w, s.dev.cmdOf n 0x25 = some w → cqSizeOk w.len = false →
    exec (.createCq n) s = .next { s with dev := s.dev.cmdFinish n Status.range 0 0 }) ∧
  (∀ s (n : Fin 4096) w, s.dev.cmdOf n 0x26 = some w → w.imm < 65536 → (s.dev.cqOf n w.imm).isSome = true →
    (s.dev.qpsOfCq (halfKey (Half.ofSlice n) w.imm) = [] → exec (.destroyCq n) s = .next { s with dev :=
      (let d := s.dev
       ({ d with rme := { d.rme with cqs := tabDel d.rme.cqs (halfKey (Half.ofSlice n) w.imm) } }).cmdFinish n 0 0 0) }) ∧
    (s.dev.qpsOfCq (halfKey (Half.ofSlice n) w.imm) ≠ [] → exec (.destroyCq n) s = .next { s with dev := s.dev.cmdFinish n Status.state 0 0 }))

/-- CREATE_QP, the forms of MODIFY_QP and DESTROY_QP (R254, R255, R414). The model's choices in it: assumption log 1, 62, 64. -/
def Obligations.QueuePairCommands : Prop :=
  (∀ s (n : Fin 4096) y b w i, b = QpBlock.ofBytes y → s.dev.cmdOf n 0x22 = some w → s.dev.blockOk n b = true → (∀ c, s.dev.cqOf n b.sendCq = some c → c.overflow = false) →
    (∀ c, s.dev.cqOf n b.recvCq = some c → c.overflow = false) → (s.dev.qpsOfSlice n).length < s.dev.num (Obj.rmeSliceQpQuota n) →
    s.dev.qpsOfHalf (Half.ofSlice n) < 65536 →
    firstFree (fun i => !s.dev.indexReady (Half.ofSlice n) i) 65536 (min 65536 (s.dev.rme.qps.length + s.dev.rme.qpHist.length + 1)) 0 = some i →
    exec (.createQp n y) s = .next { s with dev :=
      (let d := s.dev
       let k := halfKey (Half.ofSlice n) i
       let q : Qp :=
         { slice := n, incarnation := ((tabGet d.rme.qpHist k (0, none)).1 + 1) % 128, mtu := b.mtu, sqLog := b.sqLog, rqLog := b.rqLog,
           sqBase := b.sqBase, rqBase := b.rqBase, sendCq := b.sendCq, recvCq := b.recvCq, remote := field b.remote 0 25, remoteSet := true,
           sendPsn := field b.sendPsn 0 24, sendSet := true, recvPsn := field b.recvPsn 0 24, recvSet := true, rights := field b.rights 0 3 }
       ({ d with rme := { d.rme with qps := tabSet id d.rme.qps k q } }).cmdFinish n 0 (qpnOf k q) 0 true) }) ∧
  (∀ s (n : Fin 4096) y b w, b = QpBlock.ofBytes y → s.dev.cmdOf n 0x22 = some w → s.dev.blockOk n b = false →
    exec (.createQp n y) s = .next { s with dev := s.dev.cmdFinish n Status.range 0 0 }) ∧
  (∀ s (n : Fin 4096) y b w k q, b = QpBlock.ofBytes y → s.dev.cmdOf n 0x23 = some w → s.dev.qpOfCmd n w = some (k, q) → q.lost = false → (bitOf b.mask 1 = true → b.mtu ≤ 2) →
    q.st = .reset → bitOf b.mask 0 = true → b.state = 1 →
    exec (.modifyQpInit n y) s = .next { s with dev := ((s.dev.modQp k (fun _ => { giveAttrs q b with st := .init })).fetch k).cmdFinish n 0 0 0 }) ∧
  (∀ s (n : Fin 4096) y b w k q, b = QpBlock.ofBytes y → s.dev.cmdOf n 0x23 = some w → s.dev.qpOfCmd n w = some (k, q) → q.lost = false → (bitOf b.mask 1 = true → b.mtu ≤ 2) →
    q.st = .init → bitOf b.mask 0 = true → b.state = 2 → (giveAttrs q b).remoteSet = true → (giveAttrs q b).sendSet = true → (giveAttrs q b).recvSet = true →
    exec (.modifyQpReady n y) s = .next { s with dev := ((s.dev.modQp k (fun _ => giveAttrs q b)).readyQp k).cmdFinish n 0 0 0 }) ∧
  (∀ s (n : Fin 4096) y b w k q, b = QpBlock.ofBytes y → s.dev.cmdOf n 0x23 = some w → s.dev.qpOfCmd n w = some (k, q) → q.lost = false →
    (bitOf b.mask 1 = true → b.mtu ≤ 2) → q.st = .reset ∨ q.st = .init ∨ (q.st = .ready ∧ bitOf b.mask 1 = false ∧
      bitOf b.mask 2 = false ∧ bitOf b.mask 3 = false ∧ bitOf b.mask 4 = false) → bitOf b.mask 0 = true → b.state = 3 →
    exec (.modifyQpError n y) s = .next { s with dev := (((s.dev.modQp k (fun _ => giveAttrs q b)).qpToError k).fetch k).cmdFinish n 0 0 0 }) ∧
  (∀ s (n : Fin 4096) y b w k q, b = QpBlock.ofBytes y → s.dev.cmdOf n 0x23 = some w → s.dev.qpOfCmd n w = some (k, q) → q.lost = false →
    bitOf b.mask 1 = false → bitOf b.mask 2 = false → bitOf b.mask 3 = false → bitOf b.mask 4 = false →
    q.st = .error ∨ q.st = .flushed → bitOf b.mask 0 = true → b.state = 0 →
    exec (.modifyQpReset n y) s = .next { s with dev := (s.dev.modQp k (fun _ => if bitOf b.mask 5 then { resetQp q with rights := field b.rights 0 3 } else resetQp q)).cmdFinish n 0 0 0 }) ∧
  (∀ s (n : Fin 4096) y b w k q, b = QpBlock.ofBytes y → s.dev.cmdOf n 0x23 = some w → s.dev.qpOfCmd n w = some (k, q) → q.lost = false → (bitOf b.mask 1 = true → b.mtu ≤ 2) →
    q.st = .reset ∨ q.st = .init → bitOf b.mask 0 = false →
    exec (.modifyQp n y) s = .next { s with dev := (s.dev.modQp k (fun _ => giveAttrs q b)).cmdFinish n 0 0 0 }) ∧
  (∀ s (n : Fin 4096) y b w k q, b = QpBlock.ofBytes y → s.dev.cmdOf n 0x23 = some w → s.dev.qpOfCmd n w = some (k, q) → q.lost = false → bitOf b.mask 1 = false →
    bitOf b.mask 2 = true ∨ bitOf b.mask 3 = true ∨ bitOf b.mask 4 = true → q.st ≠ .reset → q.st ≠ .init → bitOf b.mask 0 = false →
    exec (.modifyQp n y) s = .next { s with dev := s.dev.cmdFinish n Status.state 0 0 }) ∧
  (∀ s (n : Fin 4096) w k q, s.dev.cmdOf n 0x24 = some w → s.dev.qpOfCmd n w = some (k, q) →
    exec (.destroyQp n) s = .next { s with dev := (s.dev.dropQp k).cmdFinish n 0 0 0 }) ∧
  (∀ s (n : Fin 4096) w, s.dev.cmdOf n 0x24 = some w → s.dev.qpOfCmd n w = none →
    exec (.destroyQp n) s = .next { s with dev := s.dev.cmdFinish n Status.range 0 0 })

/-- A word that a scrubber reads, clean, corrected or uncorrectable, with no forced error armed (R391) (R313, R314, R315). The model's choices in it:
assumption log 13, 14, 65, 67. -/
def Obligations.ScrubberReads : Prop :=
  (∀ s h r e, s.dev.test.armed = [] → exec (.qdrScrub h r e .clean) s = .next s) ∧
  (∀ s h r e, s.dev.test.armed = [] → exec (.qdrScrub h r e .corrected) s = .next { s with dev := s.dev.logEvent h Scope.half h.code 0 0x0503 }) ∧
  (∀ s h e, s.dev.test.armed = [] →
    let d := fun (r : QdrRegion) => s.dev.logEvent h Scope.half h.code 1 0x0504 (beBytes 1 r.code ++ beBytes 3 0 ++ beBytes 4 e)
    (∀ x, tabFind s.dev.rme.keys (entryKey h e) = some x → exec (.qdrScrub h .keys e .uncorrectable) s =
      .next { s with dev := (d .keys).setKey h e { x with valid := false } }) ∧
    exec (.qdrScrub h .qpContext e .uncorrectable) s = .next { s with dev := (d .qpContext).loseQp h e } ∧
    exec (.qdrScrub h .reorder e .uncorrectable) s = .next { s with dev := (d .reorder).loseQp h e } ∧
    exec (.qdrScrub h .atomicCache e .uncorrectable) s = .next { s with dev := (d .atomicCache).loseAtomic h e } ∧
    exec (.qdrScrub h .cqContext e .uncorrectable) s = .next { s with dev := (d .cqContext).cqOverflow (halfKey h e) } ∧
    exec (.qdrScrub h .tracking e .uncorrectable) s = .next { s with dev := (d .tracking).retireTrack h e } ∧
    exec (.qdrScrub h .sliceContext e .uncorrectable) s = .next { s with dev :=
      (((d .sliceContext).loseHost (2048 * h.code + e % 2048)).setNum (Obj.rmeSliceLostHost (2048 * h.code + e % 2048)) 1) }) ∧
  (∀ s h t e, s.dev.test.armed = [] → exec (.tableScrub h t e .clean) s = .next s ∧
    exec (.tableScrub h t e .corrected) s = .next { s with dev := s.dev.logEvent h Scope.half h.code 0 0x0505 } ∧
    exec (.tableScrub h t e .uncorrectable) s = .next { s with dev := (s.dev.logEvent h Scope.half h.code 1 0x0506).restoreEntry h t e })

/-- Feeds that become good or bad, reverse turn-off, the return of an OR gate, and trips (R323, R324, R325, R326, R327). The model's choices in it:
assumption log 5, 14. -/
def Obligations.FeedAndTripEvents : Prop :=
  (∀ s (k : Fin 32) f mv, s.dev.num (Obj.slotUv k) ≤ mv → mv ≤ s.dev.num (Obj.slotOv k) → exec (.feedGood k f mv) s = .next { s with dev :=
    (((s.dev.modSlot k (fun c => setGood c f true)).followFeeds k).setNum (vinKey k f) mv) }) ∧
  (∀ s (k : Fin 32) f mv, mv < s.dev.num (Obj.slotUv k) ∨ s.dev.num (Obj.slotOv k) < mv → exec (.feedGood k f mv) s = .next s) ∧
  (∀ s (k : Fin 32) f mv, feedGood (s.dev.slot k) f = true → mv + 200 < s.dev.num (Obj.slotUv k) ∨ s.dev.num (Obj.slotOv k) + 200 < mv →
    exec (.feedBad k f mv) s = .next { s with dev :=
      (let mode := s.dev.num (Obj.slotFeedMode k)
       let d := ((s.dev.modSlot k (fun c => setGood c f false)).followFeeds k).setNum (vinKey k f) mv
       let d := d.logEvent d.holderHalf Scope.slot k 1 0x0703
       if d.slotLive k && !usablePower mode (d.slot k) then d.slotToReady k else d) }) ∧
  (∀ s (k : Fin 32) f mv, s.dev.num (Obj.slotUv k) ≤ mv + 200 → mv ≤ s.dev.num (Obj.slotOv k) + 200 → exec (.feedBad k f mv) s = .next s) ∧
  (∀ s (k : Fin 32) f, exec (.reverseTurnOff k f) s = .next { s with dev :=
    (let d := s.dev.modSlot k (fun c => { setReverse (setGate c f false) f true with reverse := true })
     d.logEvent d.holderHalf Scope.slot k 0 0x0704) }) ∧
  (∀ s (k : Fin 32) f, feedGood (s.dev.slot k) f = true →
    exec (.orGateResume k f) s = .next { s with dev := (s.dev.modSlot k (fun c => setReverse c f false)).followFeeds k }) ∧
  (∀ s (k : Fin 32) f, feedGood (s.dev.slot k) f = false → exec (.orGateResume k f) s = .next s) ∧
  (∀ s (k : Fin 32), s.dev.num (Obj.slotState k) = SlotSt.ramp ∨ s.dev.num (Obj.slotState k) = SlotSt.on →
    exec (.fastTrip k) s = .next { s with dev := s.dev.slotFault k 1 } ∧ exec (.limitTimerExpiry k) s = .next { s with dev := s.dev.slotFault k 2 }) ∧
  (∀ s (k : Fin 32), s.dev.num (Obj.slotState k) ≠ SlotSt.ramp → s.dev.num (Obj.slotState k) ≠ SlotSt.on →
    exec (.fastTrip k) s = .next s ∧ exec (.limitTimerExpiry k) s = .next s)

/-- Presence, insertion, start, cooldown, PERST_N and the brake of a channel (R328, R330, R331, R332, R333, R334). The model's choices in it: assumption
log 5, 14. -/
def Obligations.SlotChannelEvents : Prop :=
  (∀ s (k : Fin 32), s.dev.num (Obj.slotState k) = SlotSt.ramp → exec (.powerGood k) s = .next { s with dev :=
    (let d := if (s.dev.slot k).aux then s.dev else s.dev.busDown k
     let braked := (List.range 8).any (fun i => d.num (Obj.slotState (8 * (k.val / 8) + i)) == SlotSt.on && (d.slot (8 * (k.val / 8) + i)).brake)
     (d.modSlot k (fun c => { c with pg := true, aux := c.aux || !d.padHeld (16 + k.val / 8), brake := braked && !d.padHeld 20, onSince := s.dev.clk })).slotTo k SlotSt.on) }) ∧
  (∀ s (k : Fin 32), s.dev.num (Obj.slotState k) = SlotSt.ramp → exec (.rampTimeout k) s = .next { s with dev :=
    ((s.dev.advanceTo ((s.dev.slot k).rampSince + ms (s.dev.num (Obj.slotRampTimeout k)))).slotFault k 3) }) ∧
  (∀ s (k : Fin 32), (s.dev.slot k).present = false → exec (.presenceAssert k) s = .next { s with dev :=
    (((s.dev.modSlot k (fun c => { c with present := true, insertSince := s.dev.clk })).slotStatusBits k
      (slotStPresenceChanged ||| slotStPresence)).slotTo k SlotSt.inserting) }) ∧
  (∀ s (k : Fin 32), (s.dev.slot k).present = true → exec (.presenceLoss k) s = .next { s with dev :=
    (let d := (s.dev.modSlot k (fun c => { slotDark c with present := false, absentSince := s.dev.clk })).slotStatusBits k slotStPresenceChanged
     let d := match d.portOfSlot k with
       | some p => d.setCfg (dsp p) .slotStatus (setBit (d.cfgReg (dsp p) .slotStatus) 6 false)
       | none => d
     (d.slotTo k SlotSt.absent).busDown k) }) ∧
  (∀ s (k : Fin 32), s.dev.num (Obj.slotState k) = SlotSt.inserting → exec (.insertDelayExpiry k) s = .next { s with dev :=
    (let d := s.dev.advanceTo ((s.dev.slot k).insertSince + ms (s.dev.num (Obj.slotInsertDelay k)))
     (d.modSlot k (fun c => { c with readyAt := d.clk })).slotTo k SlotSt.ready) }) ∧
  (∀ s (k : Fin 32), s.dev.mayStart k = true → s.dev.firstToStart k = true → s.dev.ramping (k.val / 8) < s.dev.num (Obj.sgrpRampMax (k.val / 8)) →
    exec (.channelStart k) s = .next { s with dev :=
      ((s.dev.modSlot k (fun c => { c with gateH := true, metered := true, pg := false, rampSince := s.dev.clk })).slotTo k SlotSt.ramp) }) ∧
  (∀ s (k : Fin 32), s.dev.mayStart k = false ∨ s.dev.num (Obj.sgrpRampMax (k.val / 8)) ≤ s.dev.ramping (k.val / 8) → exec (.channelStart k) s = .next s) ∧
  (∀ s (k : Fin 32) t, (s.dev.slot k).cooldownEnd = some t → s.dev.num (Obj.slotState k) = SlotSt.cooldown →
    exec (.cooldownExpiry k) s = .next { s with dev :=
      (let d := (s.dev.advanceTo t).modSlot k (fun c => { c with cooldownEnd := none, readyAt := (s.dev.advanceTo t).clk })
       d.slotTo k (if s.dev.num (Obj.slotFaultCount k) < s.dev.num (Obj.slotFaultLimit k) then SlotSt.ready else SlotSt.locked)) }) ∧
  (∀ s (k : Fin 32), s.dev.num (Obj.slotState k) = SlotSt.absent → exec (.absenceCountClear k) s = .next { s with dev :=
    ((s.dev.advanceTo ((s.dev.slot k).absentSince + ms (s.dev.num (Obj.slotCooldown k)) + 1)).setNum (Obj.slotFaultCount k) 0) }) ∧
  (∀ s (k : Fin 32), s.dev.num (Obj.slotState k) = SlotSt.on → s.dev.num (Obj.slotPerst k) = 1 → s.dev.slotNodeInReset k = false → s.dev.padHeld 20 = false →
    exec (.perstRelease k) s = .next { s with dev :=
      ((s.dev.advanceTo ((s.dev.slot k).onSince + ms (s.dev.num (Obj.slotPerstDelay k)))).modSlot k (fun c => { c with perstRel := true })) }) ∧
  (∀ s (k : Fin 32), s.dev.num (Obj.slotState k) ≠ SlotSt.on ∨ s.dev.num (Obj.slotPerst k) ≠ 1 ∨ s.dev.slotNodeInReset k = true ∨ s.dev.padHeld 20 = true →
    exec (.perstRelease k) s = .next s) ∧
  (∀ s (g : Fin 4), s.dev.num (Obj.sgrpBrakeMw g) ≠ 0 → s.dev.padHeld 20 = false → exec (.brakeAssert g) s = .next { s with dev :=
    ((List.range 8).foldl (fun (d : Dev) i => if d.num (Obj.slotState (8 * g.val + i)) = SlotSt.on then
      d.modSlot (8 * g.val + i) (fun c => { c with brake := true }) else d) s.dev) }) ∧
  (∀ s (g : Fin 4), s.dev.num (Obj.sgrpBrakeMw g) = 0 ∨ s.dev.padHeld 20 = true → exec (.brakeAssert g) s = .next s) ∧
  (∀ s (g : Fin 4), s.dev.padHeld 20 = false → exec (.brakeRelease g) s = .next { s with dev :=
    ((List.range 8).foldl (fun (d : Dev) i => d.modSlot (8 * g.val + i) (fun c => { c with brake := false })) s.dev) }) ∧
  (∀ s (g : Fin 4), s.dev.padHeld 20 = true → exec (.brakeRelease g) s = .next s)

/-- Initialisation of a bus, presses, due entries, polls, and the start and ends of transactions (R337, R339, R340, R342, R346, R347, R348, R349, R350).
The model's choices in it: assumption log 5, 14, 69. -/
def Obligations.SidebandEvents : Prop :=
  (∀ s (k : Fin 32), s.dev.busMayRun k = true → (s.dev.sbus k).busUp = false → exec (.sbBusInit k) s = .next { s with dev :=
    (let due := (s.dev.entriesOf k).filter (fun e => !(s.dev.mapE e).isWrite)
     let d := s.dev.modSb k (fun b => { b with busUp := true, due := due })
     if d.num (Obj.sbMode k) ≤ 2 then d.emit (.sbRecovery k) else d.emit (.sbI3cInit k)) }) ∧
  (∀ s (k : Fin 32), (s.dev.slot k).present = true → exec (.attentionPress k) s = .next { s with dev :=
    (let d := (s.dev.inc32 (Obj.sbAttnCount k)).notifySlot k
     if s.dev.fabricMode then d else d.slotStatusBits k slotStAttention) }) ∧
  (∀ s (k : Fin 32), (s.dev.slot k).present = false → exec (.attentionPress k) s = .next s) ∧
  (∀ s (e : Fin 512), (s.dev.mapE e).slot < 32 → (s.dev.mapE e).isWrite = false → s.dev.busUp (s.dev.mapE e).slot = true →
    (s.dev.mapE e).demand = false ∨ s.dev.wordsRead.contains (s.dev.mapE e).word = true → exec (.sbEntryDue e) s = .next { s with dev :=
    (s.dev.modSb (s.dev.mapE e).slot (fun b => { b with due := if b.due.contains e.val then b.due else b.due ++ [e.val] })) }) ∧
  (∀ s (k : Fin 32), s.dev.busUp k = true → s.dev.num (Obj.sbAlertPoll k) ≠ 0 →
    exec (.sbAlertPoll k) s = .next { s with dev := s.dev.modSb k (fun b => { b with alertDue := true }) }) ∧
  (∀ s (k : Fin 32), s.dev.busUp k = true → (s.dev.sbus k).txn = none →
    (∀ f q, (s.dev.sbus k).queue = f :: q → exec (.sbTransactionStart k) s = .next { s with dev :=
      ((s.dev.modSb k (fun b => { b with queue := q })).startTxn k (.far f)) }) ∧
    ((s.dev.sbus k).queue = [] → (s.dev.sbus k).alertDue = true → exec (.sbTransactionStart k) s = .next { s with dev :=
      ((s.dev.modSb k (fun b => { b with alertDue := false })).startTxn k .alert) }) ∧
    (∀ e t a r l ds sp, (s.dev.sbus k).queue = [] → (s.dev.sbus k).alertDue = false → (s.dev.sbus k).due = e :: t →
      s.dev.readTxn k e (e :: t) = .read a r l ds sp → exec (.sbTransactionStart k) s = .next { s with dev :=
      ((s.dev.modSb k (fun b => { b with due := b.due.filter (fun x => !ds.contains x) })).startTxn k (.read a r l ds sp)) }) ∧
    ((s.dev.sbus k).queue = [] → (s.dev.sbus k).alertDue = false → (s.dev.sbus k).due = [] → exec (.sbTransactionStart k) s = .next s)) ∧
  (∀ s (k : Fin 32) data, s.dev.pecUsed k = false → exec (.sbTransactionEnd k (.pecFail data)) s = exec (.sbTransactionEnd k (.ok data)) s) ∧
  (∀ s (k : Fin 32) a b l due sp, (s.dev.sbus k).txn = some (.read a b l due sp) →
    (∀ data, exec (.sbTransactionEnd k (.ok data)) s = .next { s with dev := (s.dev.endRead k b due sp data).busFree k }) ∧
    exec (.sbTransactionEnd k .nack) s = .next { s with dev :=
      ((due.foldl (fun (x : Dev) e => x.setNum (Obj.sbmapState e) 2) (s.dev.inc32 (Obj.sbNakCount k))).busFree k) } ∧
    (∀ data, s.dev.pecUsed k = true → exec (.sbTransactionEnd k (.pecFail data)) s = .next { s with dev := (s.dev.endReadPec k b due sp data).busFree k }) ∧
    exec (.sbBusTimeout k) s = .next { s with dev :=
      ((due.foldl (fun (x : Dev) e => x.setNum (Obj.sbmapState e) 3)
        (((s.dev.inc32 (Obj.sbTimeoutCount k)).inc32 (Obj.sbRecoveries k)).emit (.sbRecovery k))).busFree k) }) ∧
  (∀ s (k : Fin 32), (s.dev.sbus k).txn = some .alert →
    (∀ data, exec (.sbTransactionEnd k (.ok data)) s = .next { s with dev := (s.dev.endAlert k data).busFree k }) ∧
    exec (.sbTransactionEnd k .nack) s = .next { s with dev := (s.dev.inc32 (Obj.sbNakCount k)).busFree k } ∧
    (∀ data, s.dev.pecUsed k = true → exec (.sbTransactionEnd k (.pecFail data)) s = .next { s with dev := s.dev.busFree k })) ∧
  (∀ s (k : Fin 32) f, (s.dev.sbus k).txn = some (.far f) →
    (∀ data, f.rmw ≠ none → exec (.sbTransactionEnd k (.ok data)) s = .next { s with dev := s.dev.startTxn k (.far (f.modified data)) }) ∧
    (∀ data w off n v, f.rmw = none → f.isWrite = true → f.word = some (w, off, n, v) → exec (.sbTransactionEnd k (.ok data)) s =
      .next (answerWait { s with dev := (s.dev.updateWord w (setField (s.dev.num (Obj.sbvalWord w)) off n v)).busFree k } f.sid Status.ok)) ∧
    (∀ data, f.rmw = none → f.isWrite = false → f.word = none → exec (.sbTransactionEnd k (.ok data)) s =
      .next (answerWait { s with dev := (s.dev.modSes f.sid (fun x => x.setLoc Obj.sbfarData (.bytes (padTo f.len data)))).busFree k } f.sid Status.ok)) ∧
    exec (.sbTransactionEnd k .nack) s = .next (answerWait { s with dev := (s.dev.inc32 (Obj.sbNakCount k)).busFree k } f.sid Status.farNak) ∧
    (∀ data, s.dev.pecUsed k = true → exec (.sbTransactionEnd k (.pecFail data)) s = .next (answerWait { s with dev := s.dev.busFree k } f.sid Status.farNak)) ∧
    exec (.sbBusTimeout k) s = .next { s with dev :=
      (((((s.dev.inc32 (Obj.sbTimeoutCount k)).inc32 (Obj.sbRecoveries k)).emit (.sbRecovery k)).failWaiting f.sid Status.farTimeout).busFree k) }) ∧
  (∀ s sid x e, s.dev.ses sid = some x → x.exec = some e → e.wait = .farWrite → exec (.sbFarTimeout sid) s = .next { s with dev :=
    (let d := s.dev
     let sb := d.sb.map (fun (b : Nat × Sb) => (b.1, { b.2 with
       queue := b.2.queue.filter (fun f => f.sid != sid), txn := b.2.txn.map (fun t => t.orphan sid) }))
     ({ d with sb := sb }).failWaiting sid Status.farTimeout) })

/-- Idle, the ends of entries and exits, wake events and Off (R354, R355, R356, R357, R358, R359, R360, R364). The model's choices in it: assumption log
5, 9, 14, 82. -/
def Obligations.PowerStateEvents : Prop :=
  (∀ s, s.dev.num Obj.pwrState = 0 → s.dev.flag Obj.pwrIdleArmed = true → s.dev.quiet = true →
    exec .idleEnter s = .next { s with dev := s.dev.setNum Obj.pwrState 1 }) ∧
  (∀ s, s.dev.quiet = false → exec .idleEnter s = .next s) ∧
  (∀ s, s.dev.num Obj.pwrState = 1 → exec .idleExit s = .next { s with dev := s.dev.setNum Obj.pwrState 0 }) ∧
  (∀ s, s.dev.num Obj.pwrState = 5 → s.dev.pwr.target = 2 → exec .pwrEntryDone s = .next { s with dev :=
    (let d := s.dev.stopTime
     let d := (d.unlockEnd.endSessions (fun x => !x.isNet && !x.isPolicy)).suspendWatchdogs d.holder
     (d.setNum Obj.pwrState 2).receiversFollow (List.range 256)) }) ∧
  (∀ s, s.dev.num Obj.pwrState = 5 → s.dev.pwr.target = 3 → exec .pwrEntryDone s = .next { s with dev :=
    (let d := s.dev.stopTime
     let d := ((d.unlockEnd.endSessions (fun x => !x.isPolicy)).suspendWatchdogs none).allSlotsShut.orGatesOff
     let d := { d with rme := {}, seam := {}, boot := { d.boot with qdrTrained := [], laneCalDone := false } }
     ((d.setNum Obj.coreSeamState 1).setNum Obj.pwrState 3).receiversFollow (List.range 256)) }) ∧
  (∀ s, s.dev.num Obj.pwrState = 5 → s.dev.pwr.target = 4 → exec .pwrEntryDone s = .next { s with dev :=
    (let d := (s.dev.stopTime.unlockEnd.halvesReset.allSlotsShut.orGatesOff).keepAlarm s.dev.stopTime
     { (d.setNum Obj.pwrState 4) with boot := {}, pwr := { d.pwr with off := true } }) }) ∧
  (∀ s w, s.dev.num Obj.pwrState = 2 ∨ s.dev.num Obj.pwrState = 3 → wakeActs w (s.dev.num Obj.pwrState) = true → s.dev.wakeEnabled w = true →
    exec (.wakeEvent w) s = .next { s with dev :=
      (let d := s.dev.setNum Obj.pwrWakeCause (2 ^ w.bit)
       { (d.setNum Obj.pwrState 6) with pwr := { d.pwr with wakeAt := s.dev.clk, exitFrom := s.dev.num Obj.pwrState, byWakeN := w == .wakeN } }) }) ∧
  (∀ s w, s.dev.num Obj.pwrState = 5 → wakeActs w s.dev.pwr.target = true → s.dev.wakeEnabled w = true →
    exec (.wakeEvent w) s = .next { s with dev :=
      (let d := (s.dev.setNum Obj.pwrWakeCause (2 ^ w.bit)).inc32 Obj.pwrAborted
       { (d.setNum Obj.pwrState 6) with pwr := { d.pwr with wakeAt := s.dev.clk, exitFrom := s.dev.num Obj.pwrState, byWakeN := w == .wakeN } }) }) ∧
  (∀ s w, s.dev.num Obj.pwrState = 4 → wakeActs w (s.dev.num Obj.pwrState) = true → s.dev.wakeEnabled w = true →
    exec (.wakeEvent w) s = .next { s with dev :=
      (let d := s.dev.setNum Obj.pwrWakeCause (2 ^ w.bit)
       { d with pwr := { d.pwr with wakeAt := s.dev.clk, exitFrom := s.dev.num Obj.pwrState, byWakeN := w == .wakeN } }) }) ∧
  (∀ s w, s.dev.wakeEnabled w = false ∨ wakeActs w (if s.dev.num Obj.pwrState = 5 then s.dev.pwr.target else s.dev.num Obj.pwrState) = false →
    exec (.wakeEvent w) s = .next s) ∧
  (∀ s, s.dev.num Obj.pwrState = 6 → exec .pwrExitDone s = .next { s with dev :=
    (let d := s.dev
     let wasStopped := d.clocks.stopped
     let d := d.stepTime
     let d := if wasStopped then d.ptmInvalid else d
     let re := fun (w : Watchdog) => if w.suspended then { w with suspended := false, lastKick := d.clk } else w
     let d := { d with pa := { d.pa with wdW := re d.pa.wdW, wdE := re d.pa.wdE } }
     let d := if d.boot.firmwareW then d.openFirmware .west else d
     let d := if d.boot.firmwareE then d.openFirmware .east else d
     let d := if wasStopped then (List.range 256).foldl (fun (d : Dev) l => d.modLane l (fun x => { x with passDue := true })) d else d
     let d := if wasStopped then (d.setNum Obj.pwrState 0).receiversFollow (List.range 256) else d
     let d := ((d.setNum Obj.pwrState 0).followAllFeeds.setNum Obj.pwrIdleArmed 0).setNum Obj.pwrExitTime ((d.clk - d.pwr.wakeAt) / us 1 % 2 ^ 32)
     let pulse := !d.pwr.byWakeN && d.flag Obj.pwrWakePulse
     { d with pwr := { d.pwr with target := 0, exitFrom := 0 }, pins := { d.pins with wakePulseEnd := if pulse then d.clk + ms 10 else d.pins.wakePulseEnd } }) }) ∧
  (∀ s, s.dev.pwr.off = true → s.dev.pwr.exitFrom = 4 → exec .offWakeRailsGood s = .next { s with dev :=
    (({ (s.dev.setNum Obj.pwrState 0) with pwr := {} } : Dev).release).followAllFeeds }) ∧
  (∀ s, s.dev.pwr.off = true → s.dev.pwr.exitFrom = 4 → exec .offWakeTimeout s = .next { s with dev :=
    (let d := (s.dev.advanceTo (s.dev.pwr.wakeAt + sec 1)).inc32 Obj.pwrAborted
     { d with pwr := { d.pwr with exitFrom := 0 } }) })

/-- Loss and return of the crystal, throttle steps, measurements, summaries and re-plans (R363, R364, R366, R368, R369, R370, R371, R372, R373). The
model's choices in it: assumption log 2, 5, 14, 77, 81. -/
def Obligations.ThermalAndPerennialEvents : Prop :=
  (∀ s, s.dev.clocks.aoRunning = true → s.dev.num Obj.pwrAoSource = 0 → exec .aoCrystalStop s = .next { s with dev :=
    (let d := { s.dev with clocks := { s.dev.clocks with aoBase := s.dev.aoCount, aoSince := s.dev.clk } }
     (d.setNum Obj.pwrAoSource 1).logEvent d.holderHalf Scope.device 0 1 0x0605) }) ∧
  (∀ s, s.dev.num Obj.pwrAoSource = 1 → exec .aoCrystalResume s = .next { s with dev :=
    (let d := { s.dev with clocks := { s.dev.clocks with aoBase := s.dev.aoCount, aoSince := s.dev.clk } }
     d.setNum Obj.pwrAoSource 0) }) ∧
  (∀ s (temps : List Nat), exec (.thermalSample temps) s = .next { s with dev :=
    (let d := (List.range 28).foldl (fun (d : Dev) i =>
       match temps[i]? with
       | some t => d.setNum (Obj.pwrSensorTemp i) (t * 65536 % 2 ^ 32)
       | none => d) s.dev
     let hot := maxOf ((List.range 28).map (fun i => d.num (Obj.pwrSensorTemp i)))
     (((d.setNum Obj.pwrThermMax hot).setNum Obj.pwrThermMaxSeen (max hot (d.num Obj.pwrThermMaxSeen))).thermalWarn .west).thermalWarn .east) }) ∧
  (∀ s h, s.dev.num Obj.pwrThermThrottle * 65536 ≤ s.dev.hottest h → byHalf h s.dev.pwr.throttleW s.dev.pwr.throttleE = 0 →
    exec (.throttleStep h) s = .next { s with dev := s.dev.setThrottle h 1 }) ∧
  (∀ s h, s.dev.num Obj.pwrThermThrottle * 65536 ≤ s.dev.hottest h → 0 < byHalf h s.dev.pwr.throttleW s.dev.pwr.throttleE →
    exec (.throttleStep h) s = .next { s with dev := ((s.dev.inc64 Obj.pwrThermThrottleTime 1000).setThrottle h
      (min 4 (byHalf h s.dev.pwr.throttleW s.dev.pwr.throttleE + 1))) }) ∧
  (∀ s h, s.dev.hottest h < s.dev.num Obj.pwrThermThrottle * 65536 - 3 * 65536 → 0 < byHalf h s.dev.pwr.throttleW s.dev.pwr.throttleE →
    exec (.throttleStep h) s = .next { s with dev := ((s.dev.inc64 Obj.pwrThermThrottleTime 10000).setThrottle h
      (byHalf h s.dev.pwr.throttleW s.dev.pwr.throttleE - 1)) }) ∧
  (∀ s h a k q m, s.dev.flag Obj.perEnable = true → s.dev.num Obj.pwrState = 0 → exec (.perennialMeasure h a k q m) s = .next { s with dev :=
    (((((s.dev.setNum (ageingKey h) (a % 2 ^ 32)).setNum (slackKey h) (k % 2 ^ 32)).perBit 1 false).perBit 5 (!q)).perBit 6 (!m)) }) ∧
  (∀ s h a k q m, s.dev.flag Obj.perEnable = false → exec (.perennialMeasure h a k q m) s = .next s) ∧
  (∀ s h, s.dev.per.baselineTaken = true → exec (.perennialSummary h) s = .next { s with dev :=
    (let d := s.dev
     let hours := d.lastHours h + 24
     let eye := (lanesOfHalf h).foldl (fun a l => let e := d.num (Obj.laneEyeHeight l); if e = 0 then a else if a = 0 then e else min a e) 0
     let prev := match d.per.ring with
       | [] => (d.per.baseline).getD []
       | r :: _ => r.bytes
     let r : Summary := ⟨h, hours, d.num (ageingKey h), d.num (slackKey h), d.num (requestKey h), eye, Config.shake256 prev 32⟩
     ({ d with per := { d.per with ring := (r :: d.per.ring).take 3968 } } : Dev).projectHalf h hours) }) ∧
  (∀ s h, s.dev.per.baselineTaken = true → s.dev.flag Obj.perEnable = true → exec (.perennialReplan h) s = .next { s with dev :=
    (let d := s.dev
     let pts := d.ageingPoints h
     let p : Int := toSigned 32 (Config.ageingLoss pts d.runHours (d.num Obj.perReplanPeriod))
     let margin : Int := toSigned 32 (d.num Obj.perVddMargin)
     let old := d.num (requestKey h)
     let u := replanUp 31 (toSigned 32 (d.num (slackKey h))) p margin old
     let w := replanDown 31 u.1 p margin u.2
     let d := d.setNum (requestKey h) w.2
     let d := d.setNum Obj.perExhaustHours (Config.exhaustHours pts d.runHours (d.num Obj.perLifeHours) % 2 ^ 32)
     let d := if w.2 = old then d else (d.emit (.rail h w.2)).notifyPerennial
     if w.1 - p < margin then ((d.perBit 3 true).logEvent h Scope.half h.code 3 0x0512 [1]).notifyPerennial else d.perBit 3 false) }) ∧
  (∀ s h, s.dev.per.baselineTaken = false ∨ s.dev.flag Obj.perEnable = false → exec (.perennialReplan h) s = .next s) ∧
  (∀ s h m, (let d := s.dev.setNum (measuredKey h) (m % 2 ^ 16)
     d.num (requestKey h) + 10 < m ∨ m + 10 < d.num (requestKey h)) → exec (.railFollowTimeout h m) s = .next { s with dev :=
    (let d := s.dev.setNum (measuredKey h) (m % 2 ^ 16)
     ((d.perBit 2 true).logEvent h Scope.half h.code 1 0x0511 (beBytes 2 (d.num (requestKey h)))).emit (.rail h (d.num (requestKey h)))) }) ∧
  (∀ s h m, (let d := s.dev.setNum (measuredKey h) (m % 2 ^ 16)
     m ≤ d.num (requestKey h) + 10 ∧ d.num (requestKey h) ≤ m + 10) → exec (.railFollowTimeout h m) s = .next { s with dev :=
    ((s.dev.setNum (measuredKey h) (m % 2 ^ 16)).perBit 2 false) })

/-- The selection of a sample, a harvest record that is written, and the DICT command of a slice (R254, R382, R383, R385). The model's choices in it:
assumption log 14, 71, 75, 115. -/
def Obligations.TelemetryEvents : Prop :=
  (∀ s h i f out, s.dev.flag Obj.smpEnable = true → i.half = h → s.dev.sampleCandidate i f out = true →
    exec (.sampleSelect h i f out) s = .next { s with dev := s.dev.sampleSelect h i f }) ∧
  (∀ s h i f out, s.dev.flag Obj.smpEnable = false ∨ i.half ≠ h ∨ s.dev.sampleCandidate i f out = false → exec (.sampleSelect h i f out) s = .next s) ∧
  (∀ s h held r rest, s.dev.writer h = (held, r) :: rest → s.dev.num Obj.harvMode ≠ 1 → exec (.harvestRecordWritten h) s = .next { s with dev :=
    (let d := s.dev.setWriter h rest
     let d := match held with
       | some id => d.releaseStall id
       | none => d
     let n := byHalf h d.tele.harvSeqW d.tele.harvSeqE
     let r := sealRecord r (h.code * 2 ^ 31 + n % 2 ^ 31) (d.dropped h)
     let d := (d.setRing h (dropOldest (ringBytes - r.length) (d.ring h) ++ [r])).setDropped h 0
     { d with tele := byHalf h { d.tele with harvSeqW := n + 1 } { d.tele with harvSeqE := n + 1 } }) }) ∧
  (∀ s h, s.dev.writer h = [] → exec (.harvestRecordWritten h) s = .next s) ∧
  (∀ s (n : Fin 4096) msg w x b, s.dev.cmdOf n 0x30 = some w → s.dev.sessions.find? (fun x => x.transport == .tenant n) = some x →
    (s.dev.slice n).dictOpen = false → 16 ≤ w.len → w.len ≤ 1024 → 1024 ≤ field w.operand1 0 16 →
    (let t := takeMessage s x (msg.take w.len)
     (newResponse s.dev.out.length t.dev.out x.sid = some b → exec (.dict n msg) s = .next { t with dev := (t.dev.hostStore n w.operand0 b).cmdFinish n 0 0 b.length }) ∧
     (newResponse s.dev.out.length t.dev.out x.sid = none → (t.dev.ses x.sid).any (fun y => y.exec.isSome) = true →
       exec (.dict n msg) s = .next { t with dev := t.dev.modSlice n (fun y => { y with dictOpen := true }) }))) ∧
  (∀ s (n : Fin 4096) msg w x, s.dev.cmdOf n 0x30 = some w → s.dev.sessions.find? (fun x => x.transport == .tenant n) = some x →
    (s.dev.slice n).dictOpen = false → w.len < 16 ∨ 1024 < w.len ∨ field w.operand1 0 16 < 1024 →
    exec (.dict n msg) s = .next { s with dev := s.dev.cmdFinish n Status.range 0 0 })

/-- Expiry of the challenge and of the unlock, the response that unlocks, and the JTAG instructions (R387, R388, R389). The model's choices in it:
assumption log 5, 14, 17, 20. -/
def Obligations.UnlockEvents : Prop :=
  (∀ s c l e, s.dev.test.challenge = some (c, l, e) → exec .testChallengeExpiry s = .next { s with dev := (s.dev.advanceTo e).dropChallenge }) ∧
  (∀ s, s.dev.unlocked = true → exec .testUnlockTimeout s = .next { s with dev :=
    ((s.dev.advanceTo (s.dev.test.grantedAt + sec (s.dev.num Obj.testUnlockTimeout))).unlockEnd) }) ∧
  (∀ s, s.dev.unlocked = false → exec .testUnlockTimeout s = .next s) ∧
  (∀ s h, exec (.jtagChallenge h) s = .next { s with dev :=
    (let c := padTo 32 (Config.freeBytes s.dev.fresh 32)
     let d := s.dev.bump
     ({ d with test := byHalf h { d.test with jtagChallengeW := some c } { d.test with jtagChallengeE := some c } }).emit (.jtag h c)) }) ∧
  (∀ s h level key sig c, byHalf h s.dev.test.jtagChallengeW s.dev.test.jtagChallengeE = some c → exec (.jtagUnlock h level key sig) s = .next { s with dev :=
    (let d := { s.dev with test := byHalf h { s.dev.test with jtagChallengeW := none } { s.dev.test with jtagChallengeE := none } }
     let owner := (tabGet (d.store h).content Obj.mgmtOwnerCredential (.bytes [])).toBytes
     let known := if owner.all (fun b => b == 0) then
         (List.range 4).any (fun i => !bitOf s.otp.revoked i && Config.otpKeyHash i == Config.shake256 key 32)
       else owner == Config.shake256 key 32
     if (level = 1 ∨ level = 2 ∧ s.commitLock = false) ∧ known ∧ Config.mlDsaVerify key (unlockMessage c level) testContext sig then
       ({ d with test := byHalf h { d.test with grantedAt := d.clk, jtagLevelW := max level d.test.jtagLevelW } { d.test with grantedAt := d.clk, jtagLevelE := max level d.test.jtagLevelE } }).logEvent
         h Scope.device 0 3 0x0606 (beBytes 1 level) true
     else d) }) ∧
  (∀ s h level key sig, byHalf h s.dev.test.jtagChallengeW s.dev.test.jtagChallengeE = none → exec (.jtagUnlock h level key sig) s = .next s) ∧
  (∀ s h idx sub, s.dev.jtagOpen h = false → exec (.jtagDict h idx sub) s = .next s) ∧
  (∀ s h idx sub, s.dev.jtagOpen h = true → inCrocusSet ⟨idx, sub, 0⟩ false = false →
    exec (.jtagDict h idx sub) s = .next { s with dev := s.dev.emit (.jtag h (encodeItem ⟨idx, sub, 0, Status.state, []⟩)) }) ∧
  (∀ s h idx sub t x, s.dev.jtagOpen h = true → inCrocusSet ⟨idx, sub, 0⟩ false = true →
    readItem s (ownerView h) { rid := 0, opcode := Opcode.read, staged := false, todo := [], done := [], wait := .none, raw := [] }
      { idx := idx, sub := sub, type := 0, data := [] } = (t, .done x) →
    exec (.jtagDict h idx sub) s = .next { t with dev := t.dev.emit (.jtag h (encodeItem x)) }) ∧
  (∀ s x rid key sig, s.dev.ses x.sid = some x → x.sid < 2 ^ 32 → x.blob ≠ none →
    exec (.testUnlockResponse x.sid rid key sig) s = .next { s with dev := s.dev.answerNow x Opcode.blobClose rid Status.busy }) ∧
  (∀ s x rid key sig, s.dev.ses x.sid = some x → x.blob = none → key.length = 1952 → sig.length = 3309 →
    (let b : Blob := ⟨s.dev.free % 2 ^ 16, Obj.testUnlockResponse, true, 5261, key ++ sig, s.dev.clk⟩
     let i : DoneItem := ⟨0xC000, 3, ObjType.blob.code, 0, beBytes 2 b.handle ++ zeros 2 ++ Config.shake256 (key ++ sig) 32⟩
     let s1 := { s with dev := s.dev.bump.modSes x.sid (fun y => { y with blob := some b }) }
     let x1 := { x with blob := some b }
     let m := encodeFbp 0 Opcode.blobClose rid 0 1 (encodeItem i)
     let r : FbpRequest := ⟨Opcode.blobClose, false, rid, [⟨i.idx, i.sub, i.type, i.data⟩]⟩
     let t := taken s1 x1 r m
     ready s1 x1 rid = true → rid < 2 ^ 32 → x.role = .owner → t.dev.modeForbids Obj.testUnlockResponse true = false → t.dev.tooFar (takenSes s1 x1 r m) Obj.testUnlockResponse = false →
     exec (.testUnlockResponse x.sid rid key sig) s =
       .next (finishRequest (if succeeded (t.dev.unlockResponse s.commitLock key sig).2 then ({ t with dev := (t.dev.unlockResponse s.commitLock key sig).1 } : State).endBlob x.sid else { t with dev := (t.dev.unlockResponse s.commitLock key sig).1 }) x.sid
         { execOf r m with done := [answerItem ⟨i.idx, i.sub, i.type, i.data⟩ (t.dev.unlockResponse s.commitLock key sig).2] } (t.dev.unlockResponse s.commitLock key sig).2)))

/-- The indexes from 0xF000 (R51): a write is refused with S_DENIED, a read returns a U32 of 0, and a DESCRIBE a read-only volatile U32 with no commit
class and default 0, whatever the subindex. A mode whose rule answers every object outside its set with S_STATE (R71, R356) answers these reads so:
that is the model's reading (assumption log 21). -/
def Obligations.ReservedIndexes : Prop :=
  ∀ s x m r i, ready s x r.rid = true → parseFbp m = .request r → r.items = [i] → 0xF000 ≤ i.idx →
    (r.opcode = Opcode.write → exec (.write x.sid m) s = .next (refused s x r m i Status.denied)) ∧
    (r.opcode = Opcode.read → i.type = 0 ∨ i.type = ObjType.u32.code → s.dev.modeForbids ⟨i.idx, i.sub, 0⟩ false = false →
      exec (.read x.sid m) s = .next (finishRequest (taken s x r m) x.sid
        { execOf r m with done := [answerItem i Status.ok [0, 0, 0, 0] ObjType.u32.code] } Status.ok)) ∧
    (r.opcode = Opcode.describe → s.dev.modeForbids ⟨i.idx, i.sub, 0⟩ false = false →
      exec (.describe x.sid m) s = .next (finishRequest (taken s x r m) x.sid
        { execOf r m with done := [answerItem i Status.ok
          (beBytes 1 ObjType.u32.code ++ [0x00, 0x03, 0x02] ++ zeros 4 ++ beBytes 8 0) ObjType.blob.code] } Status.ok)) ∧
    (s.dev.modeForbids ⟨i.idx, i.sub, 0⟩ false = true →
      (r.opcode = Opcode.read → i.type = 0 ∨ i.type = ObjType.u32.code → exec (.read x.sid m) s = .next (refused s x r m i Status.state)) ∧
      (r.opcode = Opcode.describe → exec (.describe x.sid m) s = .next (refused s x r m i Status.state)))

/-- The restricted set of Crocus mode (R71): an access to an object outside it, of any kind, is answered with S_STATE, and so is any write to
`cfg.commit`, once the checks that R53 puts first have passed. The set itself is `inCrocusSet`; that the window selects of 0xB030, 0xA010 and 0xA011
belong to it is the model's reading (assumption log 21). -/
def Obligations.CrocusRestrictedSet : Prop :=
  ∀ s x m r i q o k, ready s x r.rid = true → parseFbp m = .request r → r.items = [i] → i.idx < 0xF000 → s.dev.crocus = true →
    locate (taken s x r m) (takenSes s x r m) i = .ok (q, o, k) →
    (inCrocusSet k false = false →
      (r.opcode = Opcode.read → i.type = 0 ∨ i.type = o.ty.code → exec (.read x.sid m) s = .next (refused s x r m i Status.state)) ∧
      (r.opcode = Opcode.describe → i.type = 0 ∨ i.type = o.ty.code → exec (.describe x.sid m) s = .next (refused s x r m i Status.state)) ∧
      (r.opcode = Opcode.blobOpen → beNat (slice i.data 4 1) = 0 → o.ty = .blob → i.data.length = 8 →
        exec (.blobOpen x.sid m) s = .next (refused s x r m i Status.state))) ∧
    (inCrocusSet k true = false ∨ k.idx = 0x1F00 ∧ k.sub = 1 → mayWrite (takenSes s x r m) q o k.idx k.sub = true →
      (∀ v, r.opcode = Opcode.write → i.type = o.ty.code → decodeVal o.ty i.data = some v → wrongLength o v = false →
        exec (.write x.sid m) s = .next (refused s x r m i Status.state)) ∧
      (r.opcode = Opcode.blobOpen → beNat (slice i.data 4 1) = 1 → o.ty = .blob → i.data.length = 8 →
        exec (.blobOpen x.sid m) s = .next (refused s x r m i Status.state)))

/-- A refused WRITE item changes nothing but the request's answer, and the first failing check names the status. Stated are the checks for the reserved
indexes, for an index without a record, for the access, for the type, for the mode's restricted sets and for the commit lock, each with the earlier
ones passed (R51, R53, R62, R71). The model's choices in it: assumption log 24. -/
def Obligations.RefusedWrites : Prop :=
  ∀ s x m r i, ready s x r.rid = true → parseFbp m = .request r → r.opcode = Opcode.write → r.items = [i] →
    (0xF000 ≤ i.idx → exec (.write x.sid m) s = .next (refused s x r m i Status.denied)) ∧
    (i.idx < 0xF000 → findRec i.idx = none → exec (.write x.sid m) s = .next (refused s x r m i Status.noObject)) ∧
    (∀ q o k, i.idx < 0xF000 → locate (taken s x r m) (takenSes s x r m) i = .ok (q, o, k) →
      (mayWrite (takenSes s x r m) q o k.idx k.sub = false → exec (.write x.sid m) s = .next (refused s x r m i Status.denied)) ∧
      (mayWrite (takenSes s x r m) q o k.idx k.sub = true → i.type ≠ o.ty.code → exec (.write x.sid m) s = .next (refused s x r m i Status.type)) ∧
      (∀ v, mayWrite (takenSes s x r m) q o k.idx k.sub = true → i.type = o.ty.code → decodeVal o.ty i.data = some v → wrongLength o v = false →
        (s.dev.modeForbids k true = true → exec (.write x.sid m) s = .next (refused s x r m i Status.state)) ∧
        (s.dev.modeForbids k true = false → o.cls = .staged → s.commitLock = true → o.access = .rwl →
          exec (.write x.sid m) s = .next (refused s x r m i Status.locked))))

/-- The limits of staging sets (R61): a write of a staged object that passes its checks is kept in the session's set, or beyond 4,096 entries of the
session or 16,384 of the device refused with S_EXHAUSTED, every entry kept. -/
def Obligations.StagingLimits : Prop :=
  ∀ s x m r i q o k v, ready s x r.rid = true → parseFbp m = .request r → r.opcode = Opcode.write → r.items = [i] → i.idx < 0xF000 →
    locate (taken s x r m) (takenSes s x r m) i = .ok (q, o, k) →
    checkWrite (taken s x r m) (takenSes s x r m) q k o i.type (decodeVal o.ty i.data) = .ok (v, false) → o.cls = .staged →
    (tabFind x.staged k = none → 4096 ≤ x.staged.length ∨ 16384 ≤ (taken s x r m).dev.stagedTotal →
      exec (.write x.sid m) s = .next (refused s x r m i Status.exhausted)) ∧
    (tabFind x.staged k ≠ none ∨ (x.staged.length < 4096 ∧ (taken s x r m).dev.stagedTotal < 16384) →
      exec (.write x.sid m) s = .next (finishRequest { taken s x r m with dev := (taken s x r m).dev.modSes x.sid (fun y =>
        { y with staged := tabSet Key.code y.staged k v }) } x.sid { execOf r m with done := [answerItem i Status.ok] } Status.ok))

/-- A half's thermal warning (R365): at or above `pwr.therm.warn` the device logs event 0x0604 with severity 3 and raises class [3], at most once per
minute. -/
def Obligations.ThermalWarnings : Prop :=
  (∀ (d : Dev) h, d.hottest h < d.num Obj.pwrThermWarn * 65536 → d.thermalWarn h = d) ∧
  (∀ (d : Dev) h t, byHalf h d.pwr.warnW d.pwr.warnE = some t → d.elapsed t (sec 60) = false → d.thermalWarn h = d) ∧
  (∀ (d : Dev) h, d.num Obj.pwrThermWarn * 65536 ≤ d.hottest h →
    (∀ t, byHalf h d.pwr.warnW d.pwr.warnE = some t → d.elapsed t (sec 60) = true) →
    d.thermalWarn h =
      (let e := ({ d with pwr := byHalf h { d.pwr with warnW := some d.clk } { d.pwr with warnE := some d.clk } }).logEvent h Scope.device 0 3 0x0604
       e.notify 3 Session.notTenant (fun _ => [numItem Obj.pwrThermMax .fx32 (e.num Obj.pwrThermMax)]))) ∧
  (∀ s temps, ∃ e : Dev, (∀ h, e.hottest h = maxOf ((List.range 13).map (fun i => e.num (Obj.pwrSensorTemp (13 * h.code + i))))) ∧
    exec (.thermalSample temps) s = .next { s with dev := (e.thermalWarn .west).thermalWarn .east })

/-- An echo moves weight between paths and loses none (R274): the sum of a QP's path weights is the same after it, and the rule's example comes out. -/
def Obligations.PathWeightsKeepTheirSum : Prop :=
  (∀ (l : List (Nat × Nat)) p c, (l.map (fun e => e.1)).Nodup → ((shiftWeights l p c).map (fun e => e.2)).sum = (l.map (fun e => e.2)).sum) ∧
  (∀ (l : List (Nat × Nat)) p c, (shiftWeights l p c).map (fun e => e.1) = l.map (fun e => e.1)) ∧
  shiftWeights [(0, 21846), (1, 21845), (2, 21845)] 0 8 = [(0, 19116), (1, 23210), (2, 23210)]
end

