-- ==== Sys2Proof/Laws/Store.lean ====
section
/-!
SUPPORT. Sys2Proof/Laws/Store.lean: keyed tables and the object store: what is read after a write, of the same object
and of another. Proofs bring every read to `numOf` over the store, so that they unfold no record update.
-/
namespace Sys2Proof.Machine

/-! Keyed tables. -/

theorem tabFind_tabSet_self {κ ν : Type} [DecidableEq κ] (code : κ → Nat) (l : List (κ × ν)) (k : κ) (v : ν) :
    tabFind (tabSet code l k v) k = some v := by
  induction l with
  | nil => simp [tabSet, tabFind]
  | cons e t ih =>
    obtain ⟨k', v'⟩ := e
    by_cases h : k' = k
    · simp [tabSet, tabFind, h]
    · by_cases hc : code k < code k' <;> simp [tabSet, tabFind, h, hc, ih]

theorem tabFind_tabSet_ne {κ ν : Type} [DecidableEq κ] (code : κ → Nat) (l : List (κ × ν)) (k j : κ) (v : ν) (hj : j ≠ k) :
    tabFind (tabSet code l k v) j = tabFind l j := by
  induction l with
  | nil => simp [tabSet, tabFind, Ne.symm hj]
  | cons e t ih =>
    obtain ⟨k', v'⟩ := e
    by_cases h : k' = k
    · subst h
      simp [tabSet, tabFind, Ne.symm hj]
    · by_cases hc : code k < code k'
      · simp [tabSet, tabFind, h, hc, Ne.symm hj]
      · by_cases h2 : k' = j
        · subst h2
          simp [tabSet, tabFind, h, hc]
        · simp [tabSet, tabFind, h, hc, ih, h2]

theorem tabGet_tabSet_self {κ ν : Type} [DecidableEq κ] (code : κ → Nat) (l : List (κ × ν)) (k : κ) (v d : ν) :
    tabGet (tabSet code l k v) k d = v := by
  simp [tabGet, tabFind_tabSet_self]

theorem tabGet_tabSet_ne {κ ν : Type} [DecidableEq κ] (code : κ → Nat) (l : List (κ × ν)) (k j : κ) (v d : ν) (hj : j ≠ k) :
    tabGet (tabSet code l k v) j d = tabGet l j d := by
  simp [tabGet, tabFind_tabSet_ne code l k j v hj]

theorem tabFind_filter {κ ν : Type} [DecidableEq κ] (l : List (κ × ν)) (p : κ → Bool) (k : κ) :
    tabFind (l.filter (fun e => p e.1)) k = if p k then tabFind l k else none := by
  induction l with
  | nil => simp [tabFind]
  | cons e t ih =>
    obtain ⟨k', v'⟩ := e
    by_cases hp : p k' = true
    · by_cases hk : k' = k
      · subst hk
        simp [tabFind, hp]
      · simp [tabFind, hp, hk, ih]
    · by_cases hk : k' = k
      · subst hk
        simp [hp, ih]
      · simp [tabFind, hp, hk, ih]

/-! The object store. -/

/-- The number that an object holds in a store. -/
def numOf (objs : List (Key × Val)) (k : Key) : Nat := ((tabFind objs k).getD (defaultVal objs k)).toNum

theorem Dev.num_eq (d : Dev) (k : Key) : d.num k = numOf d.objs k := rfl

theorem Dev.flag_eq (d : Dev) (k : Key) : d.flag k = (numOf d.objs k != 0) := rfl

theorem numOf_congr (o o' : List (Key × Val)) (k : Key) (h : tabFind o' k = tabFind o k)
    (hs : tabFind o' Obj.bootStrapValue = tabFind o Obj.bootStrapValue) : numOf o' k = numOf o k := by
  unfold numOf
  rw [h]
  have : defaultVal o' k = defaultVal o k := by
    unfold defaultVal strapOf tabGet
    rw [hs]
  rw [this]

theorem numOf_set_self (o : List (Key × Val)) (k : Key) (n : Nat) : numOf (tabSet Key.code o k (.num n)) k = n := by
  simp [numOf, tabFind_tabSet_self, Val.toNum]

theorem numOf_set_ne (o : List (Key × Val)) (k j : Key) (v : Val) (hj : j ≠ k) (hk : k ≠ Obj.bootStrapValue) :
    numOf (tabSet Key.code o k v) j = numOf o j :=
  numOf_congr _ _ _ (tabFind_tabSet_ne _ _ _ _ _ hj) (tabFind_tabSet_ne _ _ _ _ _ (Ne.symm hk))

@[simp] theorem Dev.num_setNum_self (d : Dev) (k : Key) (n : Nat) : (d.setNum k n).num k = n := numOf_set_self _ _ _

theorem Dev.num_setNum_ne (d : Dev) (k j : Key) (n : Nat) (hj : j ≠ k) (hk : k ≠ Obj.bootStrapValue) :
    (d.setNum k n).num j = d.num j := numOf_set_ne _ _ _ _ hj hk

@[simp] theorem Dev.setNum_objs (d : Dev) (k : Key) (n : Nat) : (d.setNum k n).objs = tabSet Key.code d.objs k (.num n) := rfl

@[simp] theorem Dev.wr_objs (d : Dev) (k : Key) (v : Val) : (d.wr k v).objs = tabSet Key.code d.objs k v := rfl

@[simp] theorem Dev.emit_objs (d : Dev) (o : Output) : (d.emit o).objs = d.objs := rfl

@[simp] theorem Dev.modSes_objs (d : Dev) (sid : Nat) (f : Session → Session) : (d.modSes sid f).objs = d.objs := rfl

@[simp] theorem Dev.modMailbox_objs (d : Dev) (v : Nat) (f : Mailbox → Mailbox) : (d.modMailbox v f).objs = d.objs := rfl

/-- Time that passes moves the clock, the fabric time counters and the pair's slew alone. -/
theorem Dev.pass_same (d : Dev) (n : Nat) :
    d.pass n = { d with clk := d.clk + n, pair := (d.pass n).pair, clocks := (d.pass n).clocks } := by
  unfold Dev.pass
  split <;> rfl

@[simp] theorem Dev.pass_clk (d : Dev) (n : Nat) : (d.pass n).clk = d.clk + n := by rw [Dev.pass_same]

@[simp] theorem Dev.pass_objs (d : Dev) (n : Nat) : (d.pass n).objs = d.objs := by rw [Dev.pass_same]

/-- A device that waits for an instant reaches it. -/
theorem Dev.advanceTo_clk (d : Dev) (t : Nat) : (d.advanceTo t).clk = max d.clk t := by
  rw [Dev.advanceTo, Dev.pass_clk]
  omega

@[simp] theorem Dev.advanceTo_objs (d : Dev) (t : Nat) : (d.advanceTo t).objs = d.objs := Dev.pass_objs _ _

@[simp] theorem Dev.modBuf_objs (d : Dev) (h : Half) (f : Buffer → Buffer) : (d.modBuf h f).objs = d.objs := by cases h <;> rfl

@[simp] theorem Dev.setTrack_objs (d : Dev) (h : Half) (l : List Track) : (d.setTrack h l).objs = d.objs := by cases h <;> rfl

@[simp] theorem Dev.modWatchdog_objs (d : Dev) (h : Half) (f : Watchdog → Watchdog) : (d.modWatchdog h f).objs = d.objs := by
  cases h <;> rfl

@[simp] theorem Dev.setRakeView_objs (d : Dev) (h : Half) (v : RakeView) : (d.setRakeView h v).objs = d.objs := by cases h <;> rfl

@[simp] theorem Dev.setStore_objs (d : Dev) (h : Half) (c : StoreCopy) : (d.setStore h c).objs = d.objs := by cases h <;> rfl

@[simp] theorem Dev.modPort_objs (d : Dev) (p : Nat) (f : Port → Port) : (d.modPort p f).objs = d.objs := rfl

@[simp] theorem Dev.modLane_objs (d : Dev) (l : Nat) (f : Lane → Lane) : (d.modLane l f).objs = d.objs := rfl

@[simp] theorem Dev.modNode_objs (d : Dev) (v : Nat) (f : Node → Node) : (d.modNode v f).objs = d.objs := rfl

@[simp] theorem Dev.modSlot_objs (d : Dev) (k : Nat) (f : Slot → Slot) : (d.modSlot k f).objs = d.objs := rfl

@[simp] theorem Dev.orGatesOff_objs (d : Dev) : d.orGatesOff.objs = d.objs := rfl

@[simp] theorem Dev.modSb_objs (d : Dev) (k : Nat) (f : Sb → Sb) : (d.modSb k f).objs = d.objs := rfl

@[simp] theorem Dev.modLink_objs (d : Dev) (i : Nat) (f : BflLink → BflLink) : (d.modLink i f).objs = d.objs := rfl

@[simp] theorem Dev.endSessions_objs (d : Dev) (p : Session → Bool) : (d.endSessions p).objs = d.objs := rfl

@[simp] theorem Dev.openSession_objs (d : Dev) (t : Transport) (r : Role) (n : Nat) (h : Half) :
    (d.openSession t r n h).objs = d.objs := rfl

/-! Messages, notifications and responses leave every object as it is. -/

@[simp] theorem Dev.deliver_objs (d : Dev) (s : Session) (b : Bool) (n : Nat) (m : List Byte) : (d.deliver s b n m).objs = d.objs := by
  unfold Dev.deliver
  split
  · rfl
  · split
    · split <;> rfl
    all_goals rfl

@[simp] theorem Dev.notifyOne_objs (d : Dev) (s : Session) (c : Nat) (l : List DoneItem) : (d.notifyOne s c l).objs = d.objs := by
  simp [Dev.notifyOne]

/-- What each step of a fold keeps, the fold keeps. -/
theorem foldl_keeps {α β : Type} (f : β → α → β) (p : β → Prop) (hf : ∀ b a, p b → p (f b a)) (l : List α) (b : β) (hb : p b) :
    p (l.foldl f b) := by
  induction l generalizing b with
  | nil => exact hb
  | cons a t ih => exact ih _ (hf _ _ hb)

theorem Dev.foldl_objs {α : Type} (f : Dev → α → Dev) (hf : ∀ d a, (f d a).objs = d.objs) (l : List α) (d : Dev) :
    (l.foldl f d).objs = d.objs := by
  induction l generalizing d with
  | nil => rfl
  | cons a t ih => simp [ih, hf]

@[simp] theorem Dev.notify_objs (d : Dev) (c : Nat) (who : Session → Bool) (items : Session → List DoneItem) :
    (d.notify c who items).objs = d.objs := by
  unfold Dev.notify
  apply Dev.foldl_objs
  intro d a
  split <;> simp

@[simp] theorem Dev.notifyLink_objs (d : Dev) (p : Nat) : (d.notifyLink p).objs = d.objs := by simp [Dev.notifyLink]

@[simp] theorem Dev.notifySlot_objs (d : Dev) (k : Nat) : (d.notifySlot k).objs = d.objs := by simp [Dev.notifySlot]

@[simp] theorem Dev.rakeChanged_objs (d : Dev) : d.rakeChanged.objs = d.objs := by simp [Dev.rakeChanged]

/-- An update of a session that keeps its transport keeps every session's. -/
theorem Dev.modSes_transports (d : Dev) (sid : Nat) (f : Session → Session) (hf : ∀ s, (f s).transport = s.transport) :
    (d.modSes sid f).sessions.map Session.transport = d.sessions.map Session.transport := by
  unfold Dev.modSes
  rw [List.map_map]
  apply List.map_congr_left
  intro s _
  simp only [Function.comp]
  split
  · exact hf s
  · rfl

@[simp] theorem Dev.deliver_transports (d : Dev) (s : Session) (b : Bool) (n : Nat) (m : List Byte) :
    (d.deliver s b n m).sessions.map Session.transport = d.sessions.map Session.transport := by
  unfold Dev.deliver
  split
  · rfl
  · split
    · split <;> rfl
    · exact Dev.modSes_transports _ _ _ (fun _ => rfl)
    · exact Dev.modSes_transports _ _ _ (fun _ => rfl)
    · rfl

/-- Notifications open and end no session. -/
@[simp] theorem Dev.notify_transports (d : Dev) (c : Nat) (who : Session → Bool) (items : Session → List DoneItem) :
    (d.notify c who items).sessions.map Session.transport = d.sessions.map Session.transport := by
  unfold Dev.notify
  refine foldl_keeps _ (fun e : Dev => e.sessions.map Session.transport = d.sessions.map Session.transport) ?_ _ _ rfl
  intro e s h
  split
  · unfold Dev.notifyOne
    dsimp only
    rw [Dev.deliver_transports, Dev.modSes_transports _ _ _ ?_]
    · exact h
    · intro x
      split <;> rfl
  · exact h

@[simp] theorem Dev.respond_objs (d : Dev) (sid rid : Nat) (raw rsp : List Byte) : (d.respond sid rid raw rsp).objs = d.objs := by
  unfold Dev.respond
  split <;> simp

@[simp] theorem Dev.finish_objs (d : Dev) (sid : Nat) (e : Exec) (st : Nat) : (d.finish sid e st).objs = d.objs := by
  unfold Dev.finish
  split
  · rfl
  · exact Dev.respond_objs _ _ _ _ _

/-- A logged event leaves every object but the lost-record count and the last record of its node. -/
theorem Dev.logEvent_num (d : Dev) (h : Half) (sc id sev ev : Nat) (det : List Byte) (al : Bool) (k : Key)
    (h1 : k ≠ Obj.errLogLost) (h2 : ∀ v, k ≠ Obj.errNodeLastSeq v) :
    numOf (d.logEvent h sc id sev ev det al).objs k = numOf d.objs k := by
  unfold Dev.logEvent
  simp only []
  split
  · rfl
  · simp only [Dev.notify_objs]
    split
    · rw [Dev.setNum_objs, numOf_set_ne _ _ _ _ (h2 _) (by simp)]
      split
      · simp only [Dev.inc32, Dev.setNum_objs]
        rw [numOf_set_ne _ _ _ _ h1 (by simp)]
      · rfl
    · split
      · simp only [Dev.inc32, Dev.setNum_objs]
        rw [numOf_set_ne _ _ _ _ h1 (by simp)]
      · rfl

/-! Many objects set at once. -/

theorem Dev.foldl_setNum {α : Type} (f : α → Key) (g : α → Nat) (l : List α) (d : Dev) :
    l.foldl (fun d a => d.setNum (f a) (g a)) d =
      { d with objs := l.foldl (fun o a => tabSet Key.code o (f a) (.num (g a))) d.objs } := by
  induction l generalizing d with
  | nil => rfl
  | cons a t ih => simp only [List.foldl_cons, ih]; rfl

theorem numOf_foldl_ne {α : Type} (f : α → Key) (g : α → Val) (l : List α) (o : List (Key × Val)) (j : Key)
    (h : ∀ a ∈ l, j ≠ f a ∧ f a ≠ Obj.bootStrapValue) : numOf (l.foldl (fun o a => tabSet Key.code o (f a) (g a)) o) j = numOf o j := by
  induction l generalizing o with
  | nil => rfl
  | cons a t ih =>
    have ha := h a (by simp)
    rw [List.foldl_cons, ih _ (fun b hb => h b (by simp [hb])), numOf_set_ne _ _ _ _ ha.1 ha.2]

theorem numOf_none (o : List (Key × Val)) (k : Key) (h : tabFind o k = none) : numOf o k = (defaultVal o k).toNum := by
  simp [numOf, h]

/-! What a notification, a response and a logged event may touch at all. -/

/-- Two devices that differ at most in their sessions, mailboxes and outputs. -/
def SameButTalk (d e : Dev) : Prop := e = { d with sessions := e.sessions, mailboxes := e.mailboxes, out := e.out }

theorem SameButTalk.refl (d : Dev) : SameButTalk d d := rfl

theorem SameButTalk.trans {a b c : Dev} (h1 : SameButTalk a b) (h2 : SameButTalk b c) : SameButTalk a c := by
  unfold SameButTalk at *
  rw [h2, h1]

theorem Dev.deliver_same (d : Dev) (s : Session) (b : Bool) (n : Nat) (m : List Byte) : SameButTalk d (d.deliver s b n m) := by
  unfold Dev.deliver SameButTalk
  split
  · rfl
  · split
    · split <;> rfl
    all_goals rfl

theorem Dev.notifyOne_same (d : Dev) (s : Session) (c : Nat) (l : List DoneItem) : SameButTalk d (d.notifyOne s c l) :=
  SameButTalk.trans (b := d.modSes s.sid _) rfl (Dev.deliver_same _ _ _ _ _)

theorem Dev.notify_same (d : Dev) (c : Nat) (who : Session → Bool) (items : Session → List DoneItem) :
    SameButTalk d (d.notify c who items) := by
  unfold Dev.notify
  refine foldl_keeps _ (SameButTalk d) ?_ _ _ (SameButTalk.refl d)
  intro e s h
  split
  · exact h.trans (Dev.notifyOne_same _ _ _ _)
  · exact h

theorem Dev.respond_same (d : Dev) (sid rid : Nat) (raw rsp : List Byte) : SameButTalk d (d.respond sid rid raw rsp) := by
  unfold Dev.respond
  split
  · exact SameButTalk.refl d
  · exact SameButTalk.trans (b := d.modSes sid _) rfl (Dev.deliver_same _ _ _ _ _)

/-- Two devices that differ at most in objects, logs, sessions, mailboxes and outputs. -/
def SameButLog (d e : Dev) : Prop :=
  e = { d with objs := e.objs, log := e.log, sessions := e.sessions, mailboxes := e.mailboxes, out := e.out }

theorem SameButLog.refl (d : Dev) : SameButLog d d := rfl

theorem SameButLog.trans {a b c : Dev} (h1 : SameButLog a b) (h2 : SameButLog b c) : SameButLog a c := by
  unfold SameButLog at *
  rw [h2, h1]

theorem SameButTalk.log {a b : Dev} (h : SameButTalk a b) : SameButLog a b := by
  unfold SameButTalk at h
  unfold SameButLog
  rw [h]

theorem Dev.setNum_sameLog (d : Dev) (k : Key) (n : Nat) : SameButLog d (d.setNum k n) := rfl

/-- A logged event changes the log, two of its own objects, and what sessions are told. -/
theorem Dev.logEvent_same (d : Dev) (h : Half) (sc id sev ev : Nat) (det : List Byte) (al : Bool) :
    SameButLog d (d.logEvent h sc id sev ev det al) := by
  unfold Dev.logEvent
  simp only []
  split
  · exact rfl
  · refine SameButLog.trans ?_ (Dev.notify_same _ _ _ _).log
    split
    · refine SameButLog.trans ?_ (Dev.setNum_sameLog _ _ _)
      split <;> exact rfl
    · split <;> exact rfl

@[simp] theorem Dev.logEvent_pins (d : Dev) (h : Half) (sc id sev ev : Nat) (det : List Byte) (al : Bool) :
    (d.logEvent h sc id sev ev det al).pins = d.pins := by
  rw [Dev.logEvent_same d h sc id sev ev det al]

@[simp] theorem Dev.logEvent_pa (d : Dev) (h : Half) (sc id sev ev : Nat) (det : List Byte) (al : Bool) :
    (d.logEvent h sc id sev ev det al).pa = d.pa := by
  rw [Dev.logEvent_same d h sc id sev ev det al]

@[simp] theorem Dev.logEvent_boot (d : Dev) (h : Half) (sc id sev ev : Nat) (det : List Byte) (al : Bool) :
    (d.logEvent h sc id sev ev det al).boot = d.boot := by
  rw [Dev.logEvent_same d h sc id sev ev det al]

@[simp] theorem Dev.logEvent_clocks (d : Dev) (h : Half) (sc id sev ev : Nat) (det : List Byte) (al : Bool) :
    (d.logEvent h sc id sev ev det al).clocks = d.clocks := by
  rw [Dev.logEvent_same d h sc id sev ev det al]

@[simp] theorem Dev.logEvent_clk (d : Dev) (h : Half) (sc id sev ev : Nat) (det : List Byte) (al : Bool) :
    (d.logEvent h sc id sev ev det al).clk = d.clk := by
  rw [Dev.logEvent_same d h sc id sev ev det al]

@[simp] theorem Dev.logEvent_lanes (d : Dev) (h : Half) (sc id sev ev : Nat) (det : List Byte) (al : Bool) :
    (d.logEvent h sc id sev ev det al).lanes = d.lanes := by
  rw [Dev.logEvent_same d h sc id sev ev det al]

@[simp] theorem Dev.logEvent_ports (d : Dev) (h : Half) (sc id sev ev : Nat) (det : List Byte) (al : Bool) :
    (d.logEvent h sc id sev ev det al).ports = d.ports := by
  rw [Dev.logEvent_same d h sc id sev ev det al]

@[simp] theorem Dev.logEvent_nodes (d : Dev) (h : Half) (sc id sev ev : Nat) (det : List Byte) (al : Bool) :
    (d.logEvent h sc id sev ev det al).nodes = d.nodes := by
  rw [Dev.logEvent_same d h sc id sev ev det al]

@[simp] theorem Dev.logEvent_cfg (d : Dev) (h : Half) (sc id sev ev : Nat) (det : List Byte) (al : Bool) :
    (d.logEvent h sc id sev ev det al).cfg = d.cfg := by
  rw [Dev.logEvent_same d h sc id sev ev det al]

@[simp] theorem Dev.logEvent_bufW (d : Dev) (h : Half) (sc id sev ev : Nat) (det : List Byte) (al : Bool) :
    (d.logEvent h sc id sev ev det al).bufW = d.bufW := by
  rw [Dev.logEvent_same d h sc id sev ev det al]

@[simp] theorem Dev.logEvent_bufE (d : Dev) (h : Half) (sc id sev ev : Nat) (det : List Byte) (al : Bool) :
    (d.logEvent h sc id sev ev det al).bufE = d.bufE := by
  rw [Dev.logEvent_same d h sc id sev ev det al]

@[simp] theorem Dev.logEvent_seam (d : Dev) (h : Half) (sc id sev ev : Nat) (det : List Byte) (al : Bool) :
    (d.logEvent h sc id sev ev det al).seam = d.seam := by
  rw [Dev.logEvent_same d h sc id sev ev det al]

@[simp] theorem Dev.logEvent_slots (d : Dev) (h : Half) (sc id sev ev : Nat) (det : List Byte) (al : Bool) :
    (d.logEvent h sc id sev ev det al).slots = d.slots := by
  rw [Dev.logEvent_same d h sc id sev ev det al]

@[simp] theorem Dev.logEvent_sb (d : Dev) (h : Half) (sc id sev ev : Nat) (det : List Byte) (al : Bool) :
    (d.logEvent h sc id sev ev det al).sb = d.sb := by
  rw [Dev.logEvent_same d h sc id sev ev det al]

@[simp] theorem Dev.logEvent_pwr (d : Dev) (h : Half) (sc id sev ev : Nat) (det : List Byte) (al : Bool) :
    (d.logEvent h sc id sev ev det al).pwr = d.pwr := by
  rw [Dev.logEvent_same d h sc id sev ev det al]

@[simp] theorem Dev.logEvent_per (d : Dev) (h : Half) (sc id sev ev : Nat) (det : List Byte) (al : Bool) :
    (d.logEvent h sc id sev ev det al).per = d.per := by
  rw [Dev.logEvent_same d h sc id sev ev det al]

@[simp] theorem Dev.logEvent_tele (d : Dev) (h : Half) (sc id sev ev : Nat) (det : List Byte) (al : Bool) :
    (d.logEvent h sc id sev ev det al).tele = d.tele := by
  rw [Dev.logEvent_same d h sc id sev ev det al]

@[simp] theorem Dev.logEvent_test (d : Dev) (h : Half) (sc id sev ev : Nat) (det : List Byte) (al : Bool) :
    (d.logEvent h sc id sev ev det al).test = d.test := by
  rw [Dev.logEvent_same d h sc id sev ev det al]

@[simp] theorem Dev.logEvent_rme (d : Dev) (h : Half) (sc id sev ev : Nat) (det : List Byte) (al : Bool) :
    (d.logEvent h sc id sev ev det al).rme = d.rme := by
  rw [Dev.logEvent_same d h sc id sev ev det al]

@[simp] theorem Dev.logEvent_bfl (d : Dev) (h : Half) (sc id sev ev : Nat) (det : List Byte) (al : Bool) :
    (d.logEvent h sc id sev ev det al).bfl = d.bfl := by
  rw [Dev.logEvent_same d h sc id sev ev det al]

@[simp] theorem Dev.logEvent_pair (d : Dev) (h : Half) (sc id sev ev : Nat) (det : List Byte) (al : Bool) :
    (d.logEvent h sc id sev ev det al).pair = d.pair := by
  rw [Dev.logEvent_same d h sc id sev ev det al]

@[simp] theorem Dev.logEvent_gam (d : Dev) (h : Half) (sc id sev ev : Nat) (det : List Byte) (al : Bool) :
    (d.logEvent h sc id sev ev det al).gam = d.gam := by
  rw [Dev.logEvent_same d h sc id sev ev det al]

@[simp] theorem Dev.logEvent_trackW (d : Dev) (h : Half) (sc id sev ev : Nat) (det : List Byte) (al : Bool) :
    (d.logEvent h sc id sev ev det al).trackW = d.trackW := by
  rw [Dev.logEvent_same d h sc id sev ev det al]

@[simp] theorem Dev.logEvent_trackE (d : Dev) (h : Half) (sc id sev ev : Nat) (det : List Byte) (al : Bool) :
    (d.logEvent h sc id sev ev det al).trackE = d.trackE := by
  rw [Dev.logEvent_same d h sc id sev ev det al]

@[simp] theorem Dev.logEvent_views (d : Dev) (h : Half) (sc id sev ev : Nat) (det : List Byte) (al : Bool) :
    (d.logEvent h sc id sev ev det al).views = d.views := by
  rw [Dev.logEvent_same d h sc id sev ev det al]

@[simp] theorem Dev.logEvent_commit (d : Dev) (h : Half) (sc id sev ev : Nat) (det : List Byte) (al : Bool) :
    (d.logEvent h sc id sev ev det al).commit = d.commit := by
  rw [Dev.logEvent_same d h sc id sev ev det al]

@[simp] theorem Dev.logEvent_commitQueue (d : Dev) (h : Half) (sc id sev ev : Nat) (det : List Byte) (al : Bool) :
    (d.logEvent h sc id sev ev det al).commitQueue = d.commitQueue := by
  rw [Dev.logEvent_same d h sc id sev ev det al]

@[simp] theorem Dev.logEvent_storeWrite (d : Dev) (h : Half) (sc id sev ev : Nat) (det : List Byte) (al : Bool) :
    (d.logEvent h sc id sev ev det al).storeWrite = d.storeWrite := by
  rw [Dev.logEvent_same d h sc id sev ev det al]

@[simp] theorem Dev.logEvent_storeW (d : Dev) (h : Half) (sc id sev ev : Nat) (det : List Byte) (al : Bool) :
    (d.logEvent h sc id sev ev det al).storeW = d.storeW := by
  rw [Dev.logEvent_same d h sc id sev ev det al]

@[simp] theorem Dev.logEvent_storeE (d : Dev) (h : Half) (sc id sev ev : Nat) (det : List Byte) (al : Bool) :
    (d.logEvent h sc id sev ev det al).storeE = d.storeE := by
  rw [Dev.logEvent_same d h sc id sev ev det al]

@[simp] theorem Dev.logEvent_fresh (d : Dev) (h : Half) (sc id sev ev : Nat) (det : List Byte) (al : Bool) :
    (d.logEvent h sc id sev ev det al).fresh = d.fresh := by
  rw [Dev.logEvent_same d h sc id sev ev det al]

@[simp] theorem Dev.logEvent_nextFrame (d : Dev) (h : Half) (sc id sev ev : Nat) (det : List Byte) (al : Bool) :
    (d.logEvent h sc id sev ev det al).nextFrame = d.nextFrame := by
  rw [Dev.logEvent_same d h sc id sev ev det al]

end Sys2Proof.Machine
end

