-- ==== Sys2Proof/Laws/Reset.lean ====
section
/-!
SUPPORT. Sys2Proof/Laws/Reset.lean: which objects the operations that several chapters share leave alone: events, slot
channels shut, the end of the unlock, warm reset, failed attempts and Crocus mode.
-/
namespace Sys2Proof.Machine

/-- Objects of the slot channels. -/
def slotKey (k : Key) : Bool := decide (0x7400 ≤ k.idx) && decide (k.idx < 0x7420)

/-- Objects of the test arrays and the unlock level. -/
def testKey (k : Key) : Bool := k == Obj.testUnlockLevel || k == Obj.testUnlockChallenge || k.idx == 0xC010 || k.idx == 0xC020

/-- Records of the ports' state. -/
def portStateKey (k : Key) : Bool := decide (0x2100 ≤ k.idx) && decide (k.idx < 0x2180)

/-- Objects that neither an event, nor a slot channel, nor the end of an unlock touches. -/
def steady (k : Key) : Bool := k != Obj.errLogLost && !slotKey k && !testKey k && !portStateKey k && k != Obj.bootStrapValue

theorem steady_iff (k : Key) : steady k = true ↔
    k ≠ Obj.errLogLost ∧ slotKey k = false ∧ testKey k = false ∧ portStateKey k = false ∧ k ≠ Obj.bootStrapValue := by
  simp [steady, and_assoc]

/-- An event of another scope than a node's leaves every object but the lost-record count. -/
theorem Dev.logEvent_num' (d : Dev) (h : Half) (sc id sev ev : Nat) (det : List Byte) (al : Bool) (k : Key)
    (h1 : k ≠ Obj.errLogLost) (h2 : sc ≠ Scope.node) :
    numOf (d.logEvent h sc id sev ev det al).objs k = numOf d.objs k := by
  unfold Dev.logEvent
  simp only []
  split
  · rfl
  · simp only [Dev.notify_objs, h2, if_false]
    split
    · simp only [Dev.inc32, Dev.setNum_objs]
      rw [numOf_set_ne _ _ _ _ h1 (by simp)]
    · rfl

/-! Slot channels. -/

theorem Dev.slotTo_num (d : Dev) (c st : Nat) (k : Key) (h : k ≠ Obj.slotState c) (hs : c < 32) :
    numOf (d.slotTo c st).objs k = numOf d.objs k := by
  unfold Dev.slotTo
  split
  · rfl
  · simp only [Dev.notifySlot_objs, Dev.emit_objs, Dev.setNum_objs]
    rw [numOf_set_ne _ _ _ _ h (by simp; omega)]

/-- A channel's state after a change of state. -/
theorem Dev.slotTo_state (d : Dev) (c st : Nat) : (d.slotTo c st).num (Obj.slotState c) = st := by
  unfold Dev.slotTo
  split
  · assumption
  · rw [Dev.num_eq]
    simp only [Dev.notifySlot_objs, Dev.emit_objs, Dev.setNum_objs, numOf_set_self]

theorem Dev.slotShut_num (d : Dev) (c : Nat) (k : Key) (h : slotKey k = false) (hs : c < 32) :
    numOf (d.slotShut c).objs k = numOf d.objs k := by
  have hk : ∀ sub, k ≠ ⟨0x7400 + c, sub, 0⟩ := by
    rintro sub rfl
    simp [slotKey] at h
    omega
  unfold Dev.slotShut
  simp only []
  rw [Dev.slotTo_num _ _ _ _ (hk _) hs]
  simp only [Dev.setNum_objs, Dev.modSlot_objs]
  rw [numOf_set_ne _ _ _ _ (hk _) (by simp <;> omega)]

theorem Dev.allSlotsShut_num (d : Dev) (k : Key) (h : slotKey k = false) : numOf d.allSlotsShut.objs k = numOf d.objs k := by
  have : ∀ (l : List Nat) (d : Dev), (∀ c ∈ l, c < 32) → numOf (l.foldl Dev.slotShut d).objs k = numOf d.objs k := by
    intro l
    induction l with
    | nil => intro d _; rfl
    | cons c t ih =>
      intro d hc
      rw [List.foldl_cons, ih _ (fun x hx => hc x (by simp [hx])), Dev.slotShut_num _ _ _ h (hc c (by simp))]
  exact this _ _ (by simp)

/-- Two devices that differ at most in what `SameButLog` names and in the slot channels. -/
def SameButSlots (d e : Dev) : Prop :=
  e = { d with objs := e.objs, log := e.log, slots := e.slots, sessions := e.sessions, mailboxes := e.mailboxes, out := e.out }

theorem SameButSlots.refl (d : Dev) : SameButSlots d d := rfl

theorem SameButSlots.trans {a b c : Dev} (h1 : SameButSlots a b) (h2 : SameButSlots b c) : SameButSlots a c := by
  unfold SameButSlots at *
  rw [h2, h1]

theorem SameButLog.slots {a b : Dev} (h : SameButLog a b) : SameButSlots a b := by
  unfold SameButLog at h
  unfold SameButSlots
  rw [h]

theorem Dev.slotTo_same (d : Dev) (c st : Nat) : SameButLog d (d.slotTo c st) := by
  unfold Dev.slotTo
  split
  · exact SameButLog.refl d
  · exact SameButLog.trans (b := (d.setNum (Obj.slotState c) st).emit (.event c)) rfl (Dev.notify_same _ _ _ _).log

theorem Dev.slotShut_same (d : Dev) (c : Nat) : SameButSlots d (d.slotShut c) := by
  unfold Dev.slotShut
  exact SameButSlots.trans (b := (d.modSlot c slotDark).setNum (Obj.slotEnable c) 0) rfl (Dev.slotTo_same _ _ _).slots

theorem Dev.allSlotsShut_same (d : Dev) : SameButSlots d d.allSlotsShut :=
  foldl_keeps _ (SameButSlots d) (fun _ c h => h.trans (Dev.slotShut_same _ c)) _ _ (SameButSlots.refl d)

/-! The end of an unlock. -/

theorem portOfLane_lt (d : Dev) (l p : Nat) (hl : l < 256) (h : d.portOfLane l = some p) : p < 128 := by
  unfold Dev.portOfLane at h
  have := List.mem_of_find?_eq_some h
  simp only [List.mem_map, List.mem_range] at this
  obtain ⟨i, hi, rfl⟩ := this
  omega

theorem Dev.backToDetect_num (d : Dev) (p : Nat) (k : Key) (hp : p < 128) (h : portStateKey k = false) :
    numOf (d.backToDetect p).objs k = numOf d.objs k := by
  unfold Dev.backToDetect
  split
  · rw [Dev.setNum_objs, numOf_set_ne]
    · rintro rfl
      simp [portStateKey] at h
      omega
    · simp; omega
  · rfl

theorem numOf_filter (o : List (Key × Val)) (p : Key → Bool) (k : Key) (h : p k = true) (hs : p Obj.bootStrapValue = true) :
    numOf (o.filter (fun e => p e.1)) k = numOf o k :=
  numOf_congr _ _ _ (by rw [tabFind_filter]; simp [h]) (by rw [tabFind_filter]; simp [hs])

theorem Dev.unlockEnd_num (d : Dev) (k : Key) (h : steady k = true) : numOf d.unlockEnd.objs k = numOf d.objs k := by
  obtain ⟨h1, -, h3, h4, -⟩ := (steady_iff k).1 h
  unfold Dev.unlockEnd
  split
  · rfl
  · simp only []
    have hf : ∀ (l : List Nat) (d : Dev), (∀ c ∈ l, c < 128) → numOf (l.foldl Dev.backToDetect d).objs k = numOf d.objs k := by
      intro l
      induction l with
      | nil => intro d _; rfl
      | cons c t ih =>
        intro d hc
        rw [List.foldl_cons, ih _ (fun x hx => hc x (by simp [hx])), Dev.backToDetect_num _ _ _ (hc c (by simp)) h4]
    rw [hf]
    · simp only [Dev.clearObjs]
      rw [numOf_filter _ (fun k => !(k == Obj.testUnlockLevel || k == Obj.testUnlockChallenge || k.idx == 0xC010 || k.idx == 0xC020)) _
        (by simpa [testKey] using h3) rfl]
      exact Dev.logEvent_num' _ _ _ _ _ _ _ _ _ h1 (by decide)
    · intro c hc
      simp only [List.mem_filterMap, List.mem_filter, List.mem_range] at hc
      obtain ⟨l, ⟨hl, -⟩, hp⟩ := hc
      exact portOfLane_lt _ _ _ hl hp

/-! Resets and failed attempts. -/

/-- A warm reset leaves the objects that the PA die holds (R89), but for the power state, the pad holds and the rake. -/
theorem Dev.warmReset_num (d : Dev) (k : Key) (h : steady k = true) (hk : keepsWarm k = true) (h1 : k ≠ Obj.pwrPadHoldHeld)
    (h2 : k ≠ Obj.pwrState) (h3 : k ≠ Obj.pwrIdleArmed) (h4 : k ≠ Obj.rakeHolder) : d.warmReset.num k = d.num k := by
  rw [Dev.num_eq, Dev.num_eq]
  unfold Dev.warmReset
  simp only [Dev.setNum_objs]
  rw [numOf_set_ne _ _ _ _ h4 (by simp), numOf_set_ne _ _ _ _ h3 (by simp), numOf_set_ne _ _ _ _ h2 (by simp),
    numOf_set_ne _ _ _ _ h1 (by simp)]
  simp only [Dev.halvesReset]
  rw [numOf_filter _ keepsWarm _ hk (by decide), Dev.unlockEnd_num _ _ h]

theorem Dev.recordFail_num (d : Dev) (r half : Nat) (k : Key) (h1 : k ≠ Obj.bootLastFail) (h2 : k ≠ Obj.bootCrocusHistory) :
    (d.recordFail r half).num k = d.num k := by
  simp only [Dev.recordFail, Dev.num_eq, Dev.setNum_objs]
  rw [numOf_set_ne _ _ _ _ h2 (by simp), numOf_set_ne _ _ _ _ h1 (by simp)]

theorem Dev.recordFail_last (d : Dev) (r half : Nat) : (d.recordFail r half).num Obj.bootLastFail = r := by
  simp only [Dev.recordFail, Dev.num_eq, Dev.setNum_objs]
  rw [numOf_set_ne _ _ _ _ (by simp) (by simp), numOf_set_self]

theorem Dev.recordFail_history (d : Dev) (r half : Nat) :
    (d.recordFail r half).num Obj.bootCrocusHistory = (d.num Obj.bootCrocusHistory * 256 + r) % 2 ^ 64 := by
  simp only [Dev.recordFail, Dev.num_eq, Dev.setNum_objs]
  rw [numOf_set_self]

/-- A failed attempt records its reason, shifts the history and requests a warm reset (R98, R408). -/
theorem Dev.failAttempt_spec (d : Dev) (r half : Nat) :
    (d.failAttempt r half).num Obj.bootLastFail = r ∧
    (d.failAttempt r half).num Obj.bootCrocusHistory = (d.num Obj.bootCrocusHistory * 256 + r) % 2 ^ 64 ∧
    (d.failAttempt r half).boot = { warmPending := true } ∧ (d.failAttempt r half).sessions = [] ∧
    (d.failAttempt r half).num Obj.bootAttempts = d.num Obj.bootAttempts := by
  refine ⟨?_, ?_, rfl, rfl, ?_⟩
  · rw [Dev.failAttempt, Dev.warmReset_num _ _ rfl (by decide) (by simp) (by simp) (by simp) (by simp), Dev.recordFail_last]
  · rw [Dev.failAttempt, Dev.warmReset_num _ _ rfl (by decide) (by simp) (by simp) (by simp) (by simp), Dev.recordFail_history]
  · rw [Dev.failAttempt, Dev.warmReset_num _ _ rfl (by decide) (by simp) (by simp) (by simp) (by simp),
      Dev.recordFail_num _ _ _ _ (by simp) (by simp)]

/-! Crocus mode. -/

theorem Dev.wrAll_num (l : List (Key × Val)) (d : Dev) (k : Key) (h : ∀ e ∈ l, k ≠ e.1 ∧ e.1 ≠ Obj.bootStrapValue) :
    numOf (d.wrAll l).objs k = numOf d.objs k := by
  induction l generalizing d with
  | nil => rfl
  | cons e t ih =>
    have he := h e (by simp)
    have : d.wrAll (e :: t) = (d.wr e.1 e.2).wrAll t := rfl
    rw [this, ih _ (fun x hx => h x (by simp [hx])), Dev.wr_objs, numOf_set_ne _ _ _ _ he.1 he.2]

/-- Objects that the Crocus boot loads from the store copy. -/
theorem Dev.loadCrocus_num (d : Dev) (k : Key) (h : k.idx < 0x1100 ∨ 0x1200 ≤ k.idx) (h1 : k ≠ Obj.cfgGeneration)
    (h2 : k ≠ Obj.cfgStoreGeneration) : numOf d.loadCrocus.objs k = numOf d.objs k := by
  unfold Dev.loadCrocus
  split
  · rfl
  · simp only [Dev.setNum_objs]
    rw [numOf_set_ne _ _ _ _ h2 (by simp), numOf_set_ne _ _ _ _ h1 (by simp), Dev.wrAll_num]
    intro e he
    simp only [List.mem_filter, Bool.and_eq_true, decide_eq_true_eq] at he
    constructor
    · rintro rfl; omega
    · intro hs
      have := he.2.1
      rw [hs] at this
      simp at this

theorem Dev.enterCrocus_num (d : Dev) (r half : Nat) (k : Key) (h : k.idx < 0x1100 ∨ 0x1200 ≤ k.idx) (h0 : slotKey k = false)
    (h1 : k ≠ Obj.cfgGeneration) (h2 : k ≠ Obj.cfgStoreGeneration) (h3 : k ≠ Obj.bootCrocusActive) (h4 : k ≠ Obj.bootCrocusReason)
    (h5 : k ≠ Obj.bootCrocusReasonHalf) (h6 : k ≠ Obj.bootPhase) : (d.enterCrocus r half).num k = d.num k := by
  rw [Dev.num_eq, Dev.num_eq, Dev.enterCrocus]
  simp only []
  rw [Dev.loadCrocus_num _ _ h h1 h2, Dev.orGatesOff_objs, Dev.allSlotsShut_num _ _ h0]
  simp only [Dev.setNum_objs]
  rw [numOf_set_ne _ _ _ _ h6 (by simp), numOf_set_ne _ _ _ _ h5 (by simp), numOf_set_ne _ _ _ _ h4 (by simp),
    numOf_set_ne _ _ _ _ h3 (by simp)]

/-- What the entry into Crocus mode records (R100). -/
theorem Dev.enterCrocus_spec (d : Dev) (r half : Nat) :
    (d.enterCrocus r half).num Obj.bootCrocusActive = 1 ∧ (d.enterCrocus r half).num Obj.bootCrocusReason = r ∧
    (d.enterCrocus r half).num Obj.bootCrocusReasonHalf = half ∧ (d.enterCrocus r half).num Obj.bootPhase = 3 := by
  simp only [Dev.num_eq, Dev.enterCrocus]
  refine ⟨?_, ?_, ?_, ?_⟩ <;>
    rw [Dev.loadCrocus_num _ _ (by simp) (by simp) (by simp), Dev.orGatesOff_objs, Dev.allSlotsShut_num _ _ rfl] <;>
    simp only [Dev.setNum_objs] <;>
    repeat (first | rw [numOf_set_self] | rw [numOf_set_ne _ _ _ _ (by simp) (by simp)])

/-- A failed attempt that ends in Crocus mode (R100, R408). -/
theorem Dev.crocusFailed_spec (d : Dev) (r half : Nat) :
    (d.crocusFailed r half).num Obj.bootCrocusActive = 1 ∧ (d.crocusFailed r half).num Obj.bootCrocusReason = r ∧
    (d.crocusFailed r half).num Obj.bootCrocusReasonHalf = half ∧ (d.crocusFailed r half).num Obj.bootLastFail = r ∧
    (d.crocusFailed r half).num Obj.bootCrocusHistory = (d.num Obj.bootCrocusHistory * 256 + r) % 2 ^ 64 ∧
    (d.crocusFailed r half).num Obj.bootAttempts = d.num Obj.bootAttempts := by
  unfold Dev.crocusFailed
  have c := Dev.enterCrocus_spec (d.recordFail r half) r half
  refine ⟨c.1, c.2.1, c.2.2.1, ?_, ?_, ?_⟩
  · rw [Dev.enterCrocus_num _ _ _ _ (by simp) rfl (by simp) (by simp) (by simp) (by simp) (by simp) (by simp), Dev.recordFail_last]
  · rw [Dev.enterCrocus_num _ _ _ _ (by simp) rfl (by simp) (by simp) (by simp) (by simp) (by simp) (by simp), Dev.recordFail_history]
  · rw [Dev.enterCrocus_num _ _ _ _ (by simp) rfl (by simp) (by simp) (by simp) (by simp) (by simp) (by simp),
      Dev.recordFail_num _ _ _ _ (by simp) (by simp)]

/-! The rake. -/

/-- The rake passes to a half: holder, epoch and claim time (R103, R106, R107). -/
theorem Dev.giveRake_spec (d : Dev) (h : Half) : (d.giveRake h).num Obj.rakeHolder = h.code ∧
    (d.giveRake h).num Obj.rakeEpoch = (d.num Obj.rakeEpoch + 1) % 2 ^ 32 ∧ (d.giveRake h).num Obj.rakeClaimTime = d.time h ∧
    (d.giveRake h).rakeView h = ⟨true, (d.num Obj.rakeEpoch + 1) % 2 ^ 32⟩ ∧ (d.giveRake h).sessions = d.sessions := by
  have hs : ∀ (d : Dev) (h : Half) v, (d.setRakeView h v).sessions = d.sessions := by intro d h v; cases h <;> rfl
  have ho : ∀ k, k ≠ Obj.coreSeamState → (d.giveRake h).num k =
      (((d.setNum Obj.rakeHolder h.code).setNum Obj.rakeEpoch ((d.num Obj.rakeEpoch + 1) % 2 ^ 32)).setNum Obj.rakeClaimTime (d.time h)).num k := by
    intro k hk
    unfold Dev.giveRake
    simp only []
    split
    · simp only [Dev.num_eq, Dev.setRakeView_objs, Dev.setNum_objs]
      rw [numOf_set_ne _ _ _ _ hk (by simp)]
    · simp only [Dev.num_eq, Dev.setRakeView_objs, Dev.setNum_objs]
  refine ⟨?_, ?_, ?_, ?_, ?_⟩
  · rw [ho _ (by simp), Dev.num_setNum_ne _ _ _ _ (by simp) (by simp), Dev.num_setNum_ne _ _ _ _ (by simp) (by simp), Dev.num_setNum_self]
  · rw [ho _ (by simp), Dev.num_setNum_ne _ _ _ _ (by simp) (by simp), Dev.num_setNum_self]
  · rw [ho _ (by simp), Dev.num_setNum_self]
  · cases h <;> rfl
  · unfold Dev.giveRake
    simp only [hs]
    split <;> rfl

/-- A change of holder ends every field-network session (R86). -/
theorem Dev.rakeChanged_noNet (d : Dev) : ∀ y ∈ d.rakeChanged.sessions, y.isNet = false := by
  intro y hy
  have h : y.transport ∈ d.rakeChanged.sessions.map Session.transport := List.mem_map_of_mem hy
  unfold Dev.rakeChanged at h
  dsimp only at h
  rw [Dev.notify_transports, List.mem_map] at h
  obtain ⟨z, hz, e⟩ := h
  simp only [Dev.endSessions, List.mem_filter] at hz
  have : z.isNet = false := by simpa using hz.2
  simpa [Session.isNet, e] using this

theorem Dev.rakeChanged_pa (d : Dev) : d.rakeChanged.pa = d.pa := by
  unfold Dev.rakeChanged
  dsimp only
  rw [Dev.notify_same (d.endSessions Session.isNet) 6 _ _]
  rfl

/-- A claim that finds the rake unclaimed takes it, and no field-network session stays (R103, R86). -/
theorem Dev.claim_spec (d : Dev) (h : Half) (e : d.holder = none) : (d.claim h).num Obj.rakeHolder = h.code ∧
    (d.claim h).num Obj.rakeEpoch = (d.num Obj.rakeEpoch + 1) % 2 ^ 32 ∧ (d.claim h).num Obj.rakeClaimTime = d.time h ∧
    (d.claim h).rakeView h = ⟨true, (d.num Obj.rakeEpoch + 1) % 2 ^ 32⟩ ∧ ∀ y ∈ (d.claim h).sessions, y.isNet = false := by
  have c : d.claim h = (d.giveRake h).rakeChanged := by unfold Dev.claim; rw [e]
  have g := Dev.giveRake_spec d h
  have n : ∀ k, (d.claim h).num k = (d.giveRake h).num k := by intro k; rw [c, Dev.num_eq, Dev.num_eq, Dev.rakeChanged_objs]
  refine ⟨by rw [n, g.1], by rw [n, g.2.1], by rw [n, g.2.2.1], ?_, by rw [c]; exact Dev.rakeChanged_noNet _⟩
  rw [← g.2.2.2.1, c]
  unfold Dev.rakeView
  rw [Dev.rakeChanged_pa]

/-- What a half records of the other when it reaches the PA die and the other does not (R101, R408). -/
theorem Dev.recordLost_num (d : Dev) (h : Half) (k : Key) (h1 : k ≠ Obj.bootLastFail) (h2 : k ≠ Obj.bootCrocusHistory) :
    (d.recordLost h).num k = d.num k := by
  unfold Dev.recordLost
  split
  · exact Dev.recordFail_num _ _ _ _ h1 h2
  · rfl

theorem Dev.recordLost_last (d : Dev) (h : Half) (a : byHalf h.other d.boot.paLostW d.boot.paLostE = true)
    (b : byHalf h d.boot.paLostW d.boot.paLostE = false) : (d.recordLost h).num Obj.bootLastFail = 0x07 := by
  unfold Dev.recordLost
  rw [a, b]
  exact Dev.recordFail_last _ _ _

/-! The release of the halves. -/

/-- The device as it tests for Crocus mode at a release (R96). -/
def Dev.releaseBase (d : Dev) : Dev :=
  let d := { d with boot := { released := true, riseClk := d.boot.riseClk, releaseClk := d.clk },
                    clocks := { d.clocks with stopped := false },
                    pa := { d.pa with viewW := {}, viewE := {} } }
  let d := ((d.setNum Obj.rakeHolder 2).setNum Obj.bootHealthyState 0).setNum Obj.bootReleaseTime (d.time .west)
  allPorts.foldl (fun d p => d.setNum (Obj.pstLtssm p) 8) d

theorem Dev.releaseBase_num (d : Dev) (k : Key) (h : portStateKey k = false) (h1 : k ≠ Obj.rakeHolder) (h2 : k ≠ Obj.bootHealthyState)
    (h3 : k ≠ Obj.bootReleaseTime) : d.releaseBase.num k = d.num k := by
  simp only [Dev.num_eq, Dev.releaseBase, Dev.foldl_setNum]
  rw [numOf_foldl_ne]
  · simp only [Dev.setNum_objs]
    rw [numOf_set_ne _ _ _ _ h3 (by simp), numOf_set_ne _ _ _ _ h2 (by simp), numOf_set_ne _ _ _ _ h1 (by simp)]
  · intro a ha
    have : a < 128 := by simpa [allPorts] using ha
    constructor
    · rintro rfl
      simp [portStateKey] at h
      omega
    · simp
      omega

theorem Dev.releaseBase_spec (d : Dev) : d.releaseBase.num Obj.rakeHolder = 2 ∧ d.releaseBase.num Obj.bootHealthyState = 0 := by
  have hp : ∀ (k : Key) (o : List (Key × Val)), portStateKey k = false → numOf (allPorts.foldl (fun o p => tabSet Key.code o (Obj.pstLtssm p) (.num 8)) o) k = numOf o k := by
    intro k o h
    rw [numOf_foldl_ne]
    intro a ha
    have : a < 128 := by simpa [allPorts] using ha
    constructor
    · rintro rfl
      simp [portStateKey] at h
      omega
    · simp
      omega
  simp only [Dev.num_eq, Dev.releaseBase, Dev.foldl_setNum]
  constructor <;> rw [hp _ _ rfl] <;> simp only [Dev.setNum_objs] <;>
    repeat (first | rw [numOf_set_self] | rw [numOf_set_ne _ _ _ _ (by simp) (by simp)])

theorem Dev.releaseBase_rest (d : Dev) : d.releaseBase.sessions = d.sessions ∧
    d.releaseBase.boot = { released := true, riseClk := d.boot.riseClk, releaseClk := d.clk } ∧
    d.releaseBase.clocks = { d.clocks with stopped := false } ∧ d.releaseBase.pa = { d.pa with viewW := {}, viewE := {} } := by
  simp only [Dev.releaseBase, Dev.foldl_setNum]
  exact ⟨rfl, rfl, rfl, rfl⟩

theorem Dev.release_eq (d : Dev) : d.release =
    if d.pa.forceFlag then d.releaseBase.enterCrocus 0x0B 2
    else if d.num Obj.bootAttemptThreshold ≤ d.num Obj.bootAttempts then d.releaseBase.enterCrocus (d.num Obj.bootLastFail) d.pa.lastFailHalf
    else { d.releaseBase with
      objs := tabSet Key.code d.releaseBase.objs Obj.bootAttempts (.num (min 7 (d.num Obj.bootAttempts + 1))),
      pa := { d.releaseBase.pa with wdW := { running := true, period := 10000, lastKick := d.clk }, wdE := { running := true, period := 10000, lastKick := d.clk } } } := by
  have hpa : d.releaseBase.pa = { d.pa with viewW := {}, viewE := {} } := by simp only [Dev.releaseBase, Dev.foldl_setNum]; rfl
  have hclk : d.releaseBase.clk = d.clk := by simp only [Dev.releaseBase, Dev.foldl_setNum]; rfl
  have e1 := Dev.releaseBase_num d Obj.bootAttemptThreshold rfl (by simp) (by simp) (by simp)
  have e2 := Dev.releaseBase_num d Obj.bootAttempts rfl (by simp) (by simp) (by simp)
  have e3 := Dev.releaseBase_num d Obj.bootLastFail rfl (by simp) (by simp) (by simp)
  have e : d.release = (if d.releaseBase.pa.forceFlag then d.releaseBase.enterCrocus 0x0B 2
    else if d.releaseBase.num Obj.bootAttemptThreshold ≤ d.releaseBase.num Obj.bootAttempts then
      d.releaseBase.enterCrocus (d.releaseBase.num Obj.bootLastFail) d.releaseBase.pa.lastFailHalf
    else
      { (d.releaseBase.setNum Obj.bootAttempts (min 7 (d.releaseBase.num Obj.bootAttempts + 1))) with
        pa := { d.releaseBase.pa with wdW := { running := true, period := 10000, lastKick := d.releaseBase.clk },
                                      wdE := { running := true, period := 10000, lastKick := d.releaseBase.clk } } }) := rfl
  rw [e, e1, e2, e3, hclk, hpa]
  simp only [Dev.setNum, Dev.wr]

end Sys2Proof.Machine
end

