-- ==== Sys2Proof/Laws/Wire.lean ====
section
/-!
SUPPORT. Sys2Proof/Laws/Wire.lean: the FBP message that a row of the table spells is the one that the device reads: the
parser undoes the encoder of a WRITE request (R73).
-/
namespace Sys2Proof.Machine

@[simp] theorem beBytes_length (len n : Nat) : (beBytes len n).length = len := by
  induction len with
  | zero => rfl
  | succ k ih => simp [beBytes, ih]

theorem beNat_fold (len n a : Nat) :
    (beBytes len n).foldl (fun a b => a * 256 + b.toNat) a = a * 256 ^ len + n % 256 ^ len := by
  induction len generalizing a with
  | zero => simp [beBytes, Nat.mod_one]
  | succ k ih =>
    simp only [beBytes, List.foldl_cons, ih, BitVec.toNat_ofNat, Nat.shiftRight_eq_div_pow]
    have h : (2 : Nat) ^ (8 * k) = 256 ^ k := by rw [pow_mul]; norm_num
    have e : n % 256 ^ (k + 1) = n % 256 ^ k + 256 ^ k * (n / 256 ^ k % 256) := by rw [pow_succ, Nat.mod_mul]
    have e8 : (2 : Nat) ^ 8 = 256 := by norm_num
    rw [h, e, e8, pow_succ]
    ring

theorem beNat_beBytes (len n : Nat) (h : n < 256 ^ len) : beNat (beBytes len n) = n := by
  unfold beNat
  rw [beNat_fold, Nat.mod_eq_of_lt h]
  simp

/-- The item that bytes of an encoded item spell. -/
def itemOf (i : DoneItem) : Item := ⟨i.idx, i.sub, i.type, i.data⟩

theorem padTo_length (n : Nat) (l : List Byte) (h : l.length ≤ n) : (padTo n l).length = n := by
  simp [padTo]; omega

theorem padTo_take (n : Nat) (l : List Byte) (h : l.length ≤ n) : (padTo n l).take l.length = l := by
  simp [padTo, List.take_take, Nat.min_eq_left h]

theorem le_padded (n : Nat) : n ≤ padded n := by unfold padded; omega

theorem encodeItem_length (i : DoneItem) : (encodeItem i).length = 8 + padded i.data.length := by
  simp [encodeItem, padTo_length _ _ (le_padded _)]
  omega

/-- Reading back an encoded item in front of a rest. -/
theorem parseItems_cons (i : DoneItem) (n : Nat) (rest : List Byte) (h1 : i.idx < 65536) (h2 : i.sub < 256) (h3 : i.type < 256)
    (h4 : i.data.length < 65536) :
    parseItems (n + 1) (encodeItem i ++ rest) = (parseItems n rest).map (fun t => itemOf i :: t) := by
  have e : encodeItem i ++ rest =
      beBytes 2 i.idx ++ (beBytes 1 i.sub ++ (beBytes 1 i.type ++ (beBytes 2 i.data.length ++ (beBytes 2 i.status ++
        (padTo (padded i.data.length) i.data ++ rest))))) := by simp [encodeItem]
  have hl : beNat (slice (encodeItem i ++ rest) 4 2) = i.data.length := by
    rw [e]
    have : slice (beBytes 2 i.idx ++ (beBytes 1 i.sub ++ (beBytes 1 i.type ++ (beBytes 2 i.data.length ++ (beBytes 2 i.status ++
        (padTo (padded i.data.length) i.data ++ rest)))))) 4 2 = beBytes 2 i.data.length := by
      simp [slice, beBytes]
    rw [this, beNat_beBytes _ _ (by simpa using h4)]
  have hd : (encodeItem i ++ rest).drop (8 + padded i.data.length) = rest := by
    rw [← encodeItem_length i]; simp
  have h0 : beNat (slice (encodeItem i ++ rest) 0 2) = i.idx := by
    rw [e]
    have : slice (beBytes 2 i.idx ++ (beBytes 1 i.sub ++ (beBytes 1 i.type ++ (beBytes 2 i.data.length ++ (beBytes 2 i.status ++
        (padTo (padded i.data.length) i.data ++ rest)))))) 0 2 = beBytes 2 i.idx := by
      simp [slice, beBytes]
    rw [this, beNat_beBytes _ _ (by simpa using h1)]
  have hs : beNat (slice (encodeItem i ++ rest) 2 1) = i.sub := by
    rw [e]
    have : slice (beBytes 2 i.idx ++ (beBytes 1 i.sub ++ (beBytes 1 i.type ++ (beBytes 2 i.data.length ++ (beBytes 2 i.status ++
        (padTo (padded i.data.length) i.data ++ rest)))))) 2 1 = beBytes 1 i.sub := by
      simp [slice, beBytes]
    rw [this, beNat_beBytes _ _ (by simpa using h2)]
  have ht : beNat (slice (encodeItem i ++ rest) 3 1) = i.type := by
    rw [e]
    have : slice (beBytes 2 i.idx ++ (beBytes 1 i.sub ++ (beBytes 1 i.type ++ (beBytes 2 i.data.length ++ (beBytes 2 i.status ++
        (padTo (padded i.data.length) i.data ++ rest)))))) 3 1 = beBytes 1 i.type := by
      simp [slice, beBytes]
    rw [this, beNat_beBytes _ _ (by simpa using h3)]
  have hv : slice (encodeItem i ++ rest) 8 i.data.length = i.data := by
    rw [e]
    simp only [slice, beBytes, List.cons_append, List.nil_append, List.drop_succ_cons, List.drop_zero]
    rw [List.take_append_of_le_length (by rw [padTo_length _ _ (le_padded _)]; exact le_padded _)]
    exact padTo_take _ _ (le_padded _)
  have hlen : ¬ (encodeItem i ++ rest).length < 8 + padded i.data.length := by
    rw [List.length_append, encodeItem_length]; omega
  rw [parseItems]
  simp only [hl, hlen, if_false, hd, h0, hs, ht, hv, itemOf]

/-- One item of a WRITE request as the encoder takes it. -/
abbrev WriteItem := Nat × Nat × ObjType × Nat

/-- The item that the device reads from it. -/
def WriteItem.item (w : WriteItem) : Item := ⟨w.1, w.2.1, w.2.2.1.code, beBytes w.2.2.1.width w.2.2.2⟩

/-- The body of a WRITE request. -/
def writeBody (l : List WriteItem) : List Byte :=
  l.flatMap (fun i => encodeItem ⟨i.1, i.2.1, i.2.2.1.code, 0, beBytes i.2.2.1.width i.2.2.2⟩)

theorem ObjType.code_lt (t : ObjType) : t.code < 256 := by cases t <;> decide

theorem ObjType.width_le (t : ObjType) : t.width ≤ 8 := by cases t <;> decide

theorem parseItems_writeBody (l : List WriteItem) (h : ∀ w ∈ l, w.1 < 65536 ∧ w.2.1 < 256) :
    parseItems l.length (writeBody l) = some (l.map WriteItem.item) := by
  induction l with
  | nil => rfl
  | cons w t ih =>
    have hw := h w (by simp)
    have ht := ih (fun x hx => h x (by simp [hx]))
    have e : writeBody (w :: t) = encodeItem ⟨w.1, w.2.1, w.2.2.1.code, 0, beBytes w.2.2.1.width w.2.2.2⟩ ++ writeBody t := by
      simp [writeBody]
    rw [e, List.length_cons, parseItems_cons _ _ _ hw.1 hw.2 (ObjType.code_lt _) (by
      have := ObjType.width_le w.2.2.1
      simp; omega), ht]
    rfl

theorem writeBody_length (l : List WriteItem) : (writeBody l).length ≤ 16 * l.length := by
  induction l with
  | nil => simp [writeBody]
  | cons w t ih =>
    have e : writeBody (w :: t) = encodeItem ⟨w.1, w.2.1, w.2.2.1.code, 0, beBytes w.2.2.1.width w.2.2.2⟩ ++ writeBody t := by
      simp [writeBody]
    have hw := ObjType.width_le w.2.2.1
    rw [e, List.length_append, encodeItem_length, List.length_cons]
    simp only [beBytes_length]
    have : padded w.2.2.1.width ≤ 8 := by unfold padded; omega
    omega

/-- The device reads from the bytes of a WRITE request the request itself (R73). -/
theorem parseFbp_encodeWrites (rid : Nat) (l : List WriteItem) (hr : rid < 2 ^ 32) (hl : l.length ≤ 60)
    (h : ∀ w ∈ l, w.1 < 65536 ∧ w.2.1 < 256) :
    parseFbp (encodeWrites rid l) = .request ⟨Opcode.write, false, rid, l.map WriteItem.item⟩ := by
  have hb := writeBody_length l
  have e : encodeWrites rid l = beBytes 1 16 ++ (beBytes 1 Opcode.write ++ (beBytes 2 0 ++ (beBytes 4 rid ++ (beBytes 2 0 ++
      (beBytes 2 l.length ++ (beBytes 2 (writeBody l).length ++ (beBytes 2 0 ++ writeBody l))))))) := by
    simp [encodeWrites, writeBody]
  have hlen : (encodeWrites rid l).length = 16 + (writeBody l).length := by
    rw [e]
    simp only [List.length_append, beBytes_length]
    omega
  have s12 : beNat (slice (encodeWrites rid l) 12 2) = (writeBody l).length := by
    have : slice (encodeWrites rid l) 12 2 = beBytes 2 (writeBody l).length := by rw [e]; simp [slice, beBytes]
    rw [this, beNat_beBytes _ _ (by norm_num; omega)]
  have s4 : beNat (slice (encodeWrites rid l) 4 4) = rid := by
    have : slice (encodeWrites rid l) 4 4 = beBytes 4 rid := by rw [e]; simp [slice, beBytes]
    rw [this, beNat_beBytes _ _ (by norm_num; omega)]
  have s0 : beNat (slice (encodeWrites rid l) 0 1) = 16 := by
    have : slice (encodeWrites rid l) 0 1 = beBytes 1 16 := by rw [e]; simp [slice, beBytes]
    rw [this, beNat_beBytes _ _ (by norm_num)]
  have s1 : beNat (slice (encodeWrites rid l) 1 1) = Opcode.write := by
    have : slice (encodeWrites rid l) 1 1 = beBytes 1 Opcode.write := by rw [e]; simp [slice, beBytes]
    rw [this, beNat_beBytes _ _ (by norm_num)]
  have s2 : beNat (slice (encodeWrites rid l) 2 2) = 0 := by
    have : slice (encodeWrites rid l) 2 2 = beBytes 2 0 := by rw [e]; simp [slice, beBytes]
    rw [this, beNat_beBytes _ _ (by norm_num)]
  have s10 : beNat (slice (encodeWrites rid l) 10 2) = l.length := by
    have : slice (encodeWrites rid l) 10 2 = beBytes 2 l.length := by rw [e]; simp [slice, beBytes]
    rw [this, beNat_beBytes _ _ (by norm_num; omega)]
  have d16 : (encodeWrites rid l).drop 16 = writeBody l := by
    rw [e]; simp [beBytes]
  unfold parseFbp
  simp only [s12, s4, s0, s1, s2, s10, d16, hlen, parseItems_writeBody l h]
  rw [if_neg (by omega)]
  rw [if_neg (show ¬ 16 + (writeBody l).length < 8 by omega)]
  simp [knownOpcode, bitOf]

/-- A request with one item, read back (R73). -/
theorem parseFbp_one (op rid : Nat) (i : DoneItem) (ho : knownOpcode op = true) (hop : op < 256) (hr : rid < 2 ^ 32) (h1 : i.idx < 65536)
    (h2 : i.sub < 256) (h3 : i.type < 256) (h4 : i.data.length ≤ 960) :
    parseFbp (encodeFbp 0 op rid 0 1 (encodeItem i)) = .request ⟨op, false, rid, [itemOf i]⟩ := by
  have hb := encodeItem_length i
  have hpad : padded i.data.length ≤ 960 := by unfold padded; omega
  have e : encodeFbp 0 op rid 0 1 (encodeItem i) = beBytes 1 16 ++ (beBytes 1 op ++ (beBytes 2 0 ++ (beBytes 4 rid ++ (beBytes 2 0 ++
      (beBytes 2 1 ++ (beBytes 2 (encodeItem i).length ++ (beBytes 2 0 ++ encodeItem i))))))) := by simp [encodeFbp]
  have hlen : (encodeFbp 0 op rid 0 1 (encodeItem i)).length = 16 + (encodeItem i).length := by
    rw [e]
    simp only [List.length_append, beBytes_length]
    omega
  have s12 : beNat (slice (encodeFbp 0 op rid 0 1 (encodeItem i)) 12 2) = (encodeItem i).length := by
    have : slice (encodeFbp 0 op rid 0 1 (encodeItem i)) 12 2 = beBytes 2 (encodeItem i).length := by rw [e]; simp [slice, beBytes]
    rw [this, beNat_beBytes _ _ (by norm_num; omega)]
  have s4 : beNat (slice (encodeFbp 0 op rid 0 1 (encodeItem i)) 4 4) = rid := by
    have : slice (encodeFbp 0 op rid 0 1 (encodeItem i)) 4 4 = beBytes 4 rid := by rw [e]; simp [slice, beBytes]
    rw [this, beNat_beBytes _ _ (by norm_num; omega)]
  have s0 : beNat (slice (encodeFbp 0 op rid 0 1 (encodeItem i)) 0 1) = 16 := by
    have : slice (encodeFbp 0 op rid 0 1 (encodeItem i)) 0 1 = beBytes 1 16 := by rw [e]; simp [slice, beBytes]
    rw [this]; rfl
  have s1 : beNat (slice (encodeFbp 0 op rid 0 1 (encodeItem i)) 1 1) = op := by
    have : slice (encodeFbp 0 op rid 0 1 (encodeItem i)) 1 1 = beBytes 1 op := by rw [e]; simp [slice, beBytes]
    rw [this, beNat_beBytes _ _ (by omega)]
  have s2 : beNat (slice (encodeFbp 0 op rid 0 1 (encodeItem i)) 2 2) = 0 := by
    have : slice (encodeFbp 0 op rid 0 1 (encodeItem i)) 2 2 = beBytes 2 0 := by rw [e]; simp [slice, beBytes]
    rw [this]; rfl
  have s10 : beNat (slice (encodeFbp 0 op rid 0 1 (encodeItem i)) 10 2) = 1 := by
    have : slice (encodeFbp 0 op rid 0 1 (encodeItem i)) 10 2 = beBytes 2 1 := by rw [e]; simp [slice, beBytes]
    rw [this]; rfl
  have d16 : (encodeFbp 0 op rid 0 1 (encodeItem i)).drop 16 = encodeItem i := by
    rw [e]; simp [beBytes]
  have hp : parseItems 1 (encodeItem i) = some [itemOf i] := by
    have := parseItems_cons i 0 [] h1 h2 h3 (by omega)
    rw [List.append_nil] at this
    rw [this]
    rfl
  unfold parseFbp
  simp only [s12, s4, s0, s1, s2, s10, d16, hlen, hp, ho]
  rw [if_neg (by omega)]
  rw [if_neg (show ¬ 16 + (encodeItem i).length < 8 by omega)]
  simp [bitOf]

/-- A message without a body, read back (R73, R411). -/
theorem parseFbp_ack (op rid : Nat) (hr : rid < 2 ^ 32) : parseFbp (encodeFbp 3 op rid 0 0 []) = .notifyAck rid := by
  have e : encodeFbp 3 op rid 0 0 [] = beBytes 1 19 ++ (beBytes 1 op ++ (beBytes 2 0 ++ (beBytes 4 rid ++ (beBytes 2 0 ++ (beBytes 2 0 ++
      (beBytes 2 0 ++ beBytes 2 0)))))) := by simp [encodeFbp]
  have hlen : (encodeFbp 3 op rid 0 0 []).length = 16 := by rw [e]; simp
  have s12 : beNat (slice (encodeFbp 3 op rid 0 0 []) 12 2) = 0 := by
    have : slice (encodeFbp 3 op rid 0 0 []) 12 2 = beBytes 2 0 := by rw [e]; simp [slice, beBytes]
    rw [this]; rfl
  have s4 : beNat (slice (encodeFbp 3 op rid 0 0 []) 4 4) = rid := by
    have : slice (encodeFbp 3 op rid 0 0 []) 4 4 = beBytes 4 rid := by rw [e]; simp [slice, beBytes]
    rw [this, beNat_beBytes _ _ (by norm_num; omega)]
  have s0 : beNat (slice (encodeFbp 3 op rid 0 0 []) 0 1) = 19 := by
    have : slice (encodeFbp 3 op rid 0 0 []) 0 1 = beBytes 1 19 := by rw [e]; simp [slice, beBytes]
    rw [this]; rfl
  have s10 : beNat (slice (encodeFbp 3 op rid 0 0 []) 10 2) = 0 := by
    have : slice (encodeFbp 3 op rid 0 0 []) 10 2 = beBytes 2 0 := by rw [e]; simp [slice, beBytes]
    rw [this]; rfl
  have d16 : (encodeFbp 3 op rid 0 0 []).drop 16 = [] := by
    apply List.drop_eq_nil_of_le; omega
  unfold parseFbp
  simp only [s12, s4, s0, s10, d16, hlen]
  simp [parseItems]

end Sys2Proof.Machine
end

