-- ==== Sys2Proof/Laws/Requests.lean ====
section
/-!
SUPPORT. Sys2Proof/Laws/Requests.lean: what the rows that write one object come to, once: on a session that is ready,
a write that passes its checks is performed and answered (R53, R54, R74, R75).
-/
namespace Sys2Proof.Machine
open Sys2Proof.Safety

theorem Dev.ses_modSes (d : Dev) (sid : Nat) (f : Session → Session) (hf : ∀ x, (f x).sid = x.sid) :
    (d.modSes sid f).ses sid = (d.ses sid).map f := by
  unfold Dev.ses Dev.modSes
  simp only []
  induction d.sessions with
  | nil => rfl
  | cons a t ih =>
    by_cases h : a.sid = sid
    · subst h
      simp [hf]
    · simp [h, ih]

theorem Dev.ses_sid (d : Dev) (sid : Nat) (x : Session) (h : d.ses sid = some x) : x.sid = sid := by
  unfold Dev.ses at h
  have := List.find?_some h
  simpa using this

/-- What a ready session is. -/
theorem ready_iff (s : State) (x : Session) (rid : Nat) :
    ready s x rid = true ↔ s.dev.ses x.sid = some x ∧ x.sid < 2 ^ 32 ∧ rid < 2 ^ 32 ∧ x.keysSpent = false ∧ x.exec = none ∧
      x.queue = [] ∧ (∀ c ∈ x.cache, c.rid ≠ rid) ∧ s.dev.boot.warmAsked = false ∧ s.dev.pa.handoverPending = false := by
  simp [ready, and_assoc]

theorem resolve_ready (s : State) (x : Session) (h : s.dev.ses x.sid = some x) (h2 : x.sid < 2 ^ 32) : s.dev.resolve x.sid = some x := by
  simp only [Dev.resolve, mctpOf, mctpBase, h2, if_true]
  exact h

/-- A message of a session, once its transport lets it in. -/
theorem receive_ses (s : State) (x : Session) (m : List Byte) (h : s.dev.ses x.sid = some x) (h2 : x.sid < 2 ^ 32) :
    receive s x.sid m = takeMessage s x m := by
  unfold receive
  rw [resolve_ready s x h h2]

/-- A message that is not malformed is no longer than a message may be (R73). -/
theorem parseFbp_fits (m : List Byte) (h : ∀ n, parseFbp m ≠ .malformed n) : m.length ≤ 1024 := by
  by_contra hl
  refine h (if m.length < 8 then 0 else beNat (slice m 4 4)) ?_
  unfold parseFbp
  simp only []
  rw [if_pos (.inl (by omega))]

theorem parseFbp_length (m : List Byte) (r : FbpRequest) (h : parseFbp m = .request r) : m.length ≤ 1024 :=
  parseFbp_fits m (by intro n; rw [h]; exact fun h => by cases h)

/-- A request received by a ready session begins execution. -/
theorem receive_request (s : State) (x : Session) (r : FbpRequest) (m : List Byte) (hr : ready s x r.rid = true)
    (hp : parseFbp m = .request r) : receive s x.sid m = execute { s with dev := counted s x } x.sid r m := by
  obtain ⟨h1, h2, h3, h4, h5, h6, h7, -, -⟩ := (ready_iff s x r.rid).1 hr
  have hout : x.outstanding = [] := by simp [Session.outstanding, h5, h6]
  have hc : x.cache.find? (fun c => c.rid == r.rid) = none := by
    rw [List.find?_eq_none]
    intro c hcm
    simpa using h7 c hcm
  rw [receive_ses s x m h1 h2]
  have hl : decide (1280 < m.length + 4) = false := by
    have := parseFbp_length m r hp
    simp only [decide_eq_false_iff_not]
    omega
  simp only [takeMessage, h4, hl, hp, Bool.and_false, Bool.or_self, Bool.false_eq_true, if_false, takeRequest, hout, hc, h5, h6]
  simp [counted]

/-- A WRITE request received by a ready session goes through its items. -/
theorem receive_ready (s : State) (x : Session) (rid : Nat) (l : List WItem) (hr : ready s x rid = true) (hl : l.length ≤ 60)
    (h : ∀ w ∈ l, w.1 < 65536 ∧ w.2.1 < 256) :
    receive s x.sid (encodeWrites rid l) = runItems x.sid (requestExec rid l) (l.map witem) (begun s x rid l) := by
  have hp := parseFbp_encodeWrites rid l ((ready_iff s x rid).1 hr).2.2.1 hl h
  rw [receive_request s x (writeRequest rid l) (encodeWrites rid l) hr hp]
  rfl

theorem taken_ses (s : State) (x : Session) (r : FbpRequest) (m : List Byte) (h : s.dev.ses x.sid = some x) :
    (taken s x r m).dev.ses x.sid = some (takenSes s x r m) := by
  unfold taken Dev.park counted
  simp only []
  rw [Dev.ses_modSes _ _ _ (by intro; rfl), Dev.ses_modSes _ _ _ (by intro; rfl), h]
  rfl

theorem begun_ses (s : State) (x : Session) (rid : Nat) (l : List WItem) (h : s.dev.ses x.sid = some x) :
    (begun s x rid l).dev.ses x.sid = some (begunSes s x rid l) := taken_ses _ _ _ _ h

/-- What passing means. -/
theorem passes_iff (st : State) (x : Session) (w : WItem) :
    passes st x w = true ↔ ∃ r o k, locate st x (witem w) = .ok (r, o, k) ∧
      checkWrite st x r k o w.2.2.1.code (decodeVal o.ty (witem w).data) = .ok (.num w.2.2.2, false) ∧
      (o.isLocal = true ∨ st.dev.tooFar x k = false) := by
  unfold passes
  rcases h : locate st x (witem w) with e | ⟨r, o, k⟩
  · simp
  · rcases hc : checkWrite st x r k o w.2.2.1.code (decodeVal o.ty (witem w).data) with e | ⟨v, c⟩
    · simp [hc]
    · simp [hc]

/-- The place of an object that an item names. -/
theorem locate_ok (st : State) (x : Session) (i : Item) (r : ObjRec) (o : ObjRow) (k : Key) (h : locate st x i = .ok (r, o, k)) :
    findRec i.idx = some r ∧ r.row i.sub = some o ∧ k = x.keyFor r i.idx i.sub := by
  unfold locate at h
  split at h
  · cases h
  · split at h
    · cases h
    · split at h
      · cases h
      · simp only [Except.ok.injEq, Prod.mk.injEq] at h
        obtain ⟨rfl, rfl, rfl⟩ := h
        exact ⟨by assumption, by assumption, rfl⟩

/-- A passing item of a WRITE request is performed. -/
theorem writeItem_of_passes (st : State) (x : Session) (w : WItem) (hi : w.1 < 0xF000) (hp : passes st x w = true) :
    ∃ r o k, findRec w.1 = some r ∧ r.row w.2.1 = some o ∧ k = x.keyFor r w.1 w.2.1 ∧
      (o.isLocal = true ∨ st.dev.tooFar x k = false) ∧
      writeItem st x (witem w) = (match performWrite st x k o (.num w.2.2.2) with
        | (st, .wait w) => (st, .wait w)
        | (st, .done y) => (st, failed (witem w) y)) := by
  obtain ⟨r, o, k, hl, hc, hf⟩ := (passes_iff st x w).1 hp
  obtain ⟨h1, h2, h3⟩ := locate_ok _ _ _ _ _ _ hl
  refine ⟨r, o, k, h1, h2, h3, hf, ?_⟩
  have hty : (witem w).type = w.2.2.1.code := rfl
  unfold writeItem writeValue
  rw [if_neg (by simpa [witem] using hi), hl]
  simp only [hty, hc]
  rcases hq : performWrite st x k o (.num w.2.2.2) with ⟨st', y | wt⟩ <;> simp

theorem runItem_write (st : State) (x : Session) (e : Exec) (i : Item) (h : e.opcode = Opcode.write) :
    runItem st x e i = writeItem st x i := by
  unfold runItem
  rw [h]
  simp

theorem runItems_wait (sid : Nat) (e : Exec) (i : Item) (rest : List Item) (st st' : State) (x : Session) (w : Wait)
    (hx : st.dev.ses sid = some x) (hi : runItem st x { e with todo := i :: rest } i = (st', .wait w)) :
    runItems sid e (i :: rest) st = { st' with dev := st'.dev.park sid { e with todo := i :: rest, wait := w } } := by
  rw [runItems, hx]
  simp only [hi]

theorem runItems_done (sid : Nat) (e : Exec) (i : Item) (rest : List Item) (st st' : State) (x : Session) (y : DoneItem)
    (hx : st.dev.ses sid = some x) (hi : runItem st x { e with todo := i :: rest } i = (st', .done y)) (hy : succeeded y.status = true) :
    runItems sid e (i :: rest) st = runItems sid { e with done := e.done ++ [y] } rest st' := by
  rw [runItems, hx]
  simp only [hi, hy, if_true]

theorem keyFor_begun (s : State) (x : Session) (rid : Nat) (l : List WItem) (r : ObjRec) (idx sub : Nat) :
    (begunSes s x rid l).keyFor r idx sub = x.keyFor r idx sub := rfl

/-- A READ, WRITE or DESCRIBE request of one item that succeeds is answered with S_OK (R74). -/
theorem receive_one (s : State) (x : Session) (m : List Byte) (r : FbpRequest) (i : Item) (st' : State) (y : DoneItem)
   (h : ready s x r.rid = true) (hp : parseFbp m = .request r) (ho : r.opcode = Opcode.read ∨ r.opcode = Opcode.write ∨ r.opcode = Opcode.describe)
   (hi : r.items = [i]) (hrun : runItem (taken s x r m) (takenSes s x r m) (execOf r m) i = (st', .done y)) (hy : y.status = Status.ok) :
   receive s x.sid m = finishRequest st' x.sid { execOf r m with done := [y] } Status.ok := by
  have hses := ((ready_iff s x r.rid).1 h).1
  rw [receive_request s x r m h hp]
  unfold execute
  simp only []
  rw [if_neg (by rcases ho with h | h | h <;> rw [h] <;> decide), if_pos ho, hi]
  have e : (execOf r m) = { rid := r.rid, opcode := r.opcode, staged := r.staged, todo := [i], done := [], wait := .none, raw := m } := by simp [execOf, hi]
  rw [← e]
  have q := runItems_done x.sid (execOf r m) i [] (taken s x r m) st' (takenSes s x r m) y (taken_ses _ _ _ _ hses) (by rw [e] at hrun; exact hrun) (by rw [hy]; rfl)
  have t : ({ s with dev := (counted s x).park x.sid (execOf r m) } : State) = taken s x r m := rfl
  rw [t, q]
  simp only [runItems]
  rfl

/-- A transfer request with its one item is answered with what the item comes to (R76 to R78). -/
theorem receive_blob (s : State) (x : Session) (m : List Byte) (r : FbpRequest) (i : Item) (st' : State) (y : DoneItem)
    (h : ready s x r.rid = true) (hp : parseFbp m = .request r)
    (ho : r.opcode = Opcode.blobOpen ∨ r.opcode = Opcode.blobData ∨ r.opcode = Opcode.blobClose ∨ r.opcode = Opcode.blobAbort)
    (hi : r.items = [i])
    (hrun : (if r.opcode = Opcode.blobOpen then openItem (taken s x r m) (takenSes s x r m) i
      else if r.opcode = Opcode.blobData then dataItem (taken s x r m) (takenSes s x r m) i
      else if r.opcode = Opcode.blobClose then closeItem (taken s x r m) (takenSes s x r m) i
      else abortItem (taken s x r m) (takenSes s x r m) i) = (st', .done y)) :
    receive s x.sid m = finishRequest st' x.sid { execOf r m with done := [y] } y.status := by
  have hses := ((ready_iff s x r.rid).1 h).1
  rw [receive_request s x r m h hp]
  unfold execute
  simp only []
  rw [if_neg (by rcases ho with h | h | h | h <;> rw [h] <;> decide), if_neg (by rcases ho with h | h | h | h <;> rw [h] <;> decide), hi]
  have e : (execOf r m) = { rid := r.rid, opcode := r.opcode, staged := r.staged, todo := [i], done := [], wait := .none, raw := m } := by simp [execOf, hi]
  rw [← e]
  have t : ({ s with dev := (counted s x).park x.sid (execOf r m) } : State) = taken s x r m := rfl
  rw [t]
  unfold runBlob
  rw [taken_ses _ _ _ _ hses]
  simp only []
  have q : (execOf r m).opcode = r.opcode := rfl
  rw [q, hrun]

/-- The row of the table that writes one object: on a session whose write is taken up, the object's own write is performed,
and answered with S_OK or left waiting. -/
theorem writeObject_accepted (s : State) (x : Session) (rid idx sub : Nat) (ty : ObjType) (n : Nat) (hi : idx < 0xF000) (hs : sub < 256)
    (h : accepts s x rid idx sub ty n = true) :
    ∃ r o, findRec idx = some r ∧ r.row sub = some o ∧
      (o.isLocal = true ∨ (begun s x rid [(idx, sub, ty, n)]).dev.tooFar (begunSes s x rid [(idx, sub, ty, n)]) (x.keyFor r idx sub) = false) ∧
      ∀ st', (performWrite (begun s x rid [(idx, sub, ty, n)]) (begunSes s x rid [(idx, sub, ty, n)]) (x.keyFor r idx sub) o (.num n) =
            (st', .done Status.ok) →
          writeObject s x.sid rid idx sub ty n = answered st' st'.dev x rid [(idx, sub, ty, n)]) ∧
        ∀ w, performWrite (begun s x rid [(idx, sub, ty, n)]) (begunSes s x rid [(idx, sub, ty, n)]) (x.keyFor r idx sub) o (.num n) =
            (st', .wait w) →
          writeObject s x.sid rid idx sub ty n = waiting st' st'.dev x rid [(idx, sub, ty, n)] w := by
  unfold accepts at h
  rw [Bool.and_eq_true] at h
  obtain ⟨hr, hp⟩ := h
  have hses := ((ready_iff s x rid).1 hr).1
  have hrec := receive_ready s x rid [(idx, sub, ty, n)] hr (by simp) (by simpa using ⟨by omega, hs⟩)
  obtain ⟨r, o, k, h1, h2, h3, h4, h5⟩ := writeItem_of_passes _ _ (idx, sub, ty, n) hi hp
  rw [keyFor_begun] at h3
  subst h3
  refine ⟨r, o, h1, h2, h4, ?_⟩
  have hw : writeObject s x.sid rid idx sub ty n =
      runItems x.sid (requestExec rid [(idx, sub, ty, n)]) [witem (idx, sub, ty, n)] (begun s x rid [(idx, sub, ty, n)]) := hrec
  intro st'
  constructor
  · intro hq
    rw [hw, runItems_done _ _ _ _ _ st' _ (answerItem (witem (idx, sub, ty, n)) Status.ok) (begun_ses _ _ _ _ hses)
      (by rw [runItem_write _ _ _ _ rfl, h5, hq]; rfl) rfl]
    rfl
  · intro w hq
    rw [hw, runItems_wait _ _ _ _ _ st' _ w (begun_ses _ _ _ _ hses) (by rw [runItem_write _ _ _ _ rfl, h5, hq])]
    rfl

/-- A live write that its half can carry out is performed at once. -/
theorem performWrite_live (st : State) (x : Session) (k : Key) (o : ObjRow) (v : Val) (hc : o.cls = .live)
    (hf : o.isLocal = true ∨ st.dev.tooFar x k = false) : performWrite st x k o v = liveWrite st x k o v := by
  unfold performWrite
  rw [hc]
  simp only []
  rw [if_neg]
  rcases hf with h | h <;> simp [h]

/-- A row of the table that writes one object, with the place of the object given. -/
theorem writeObject_live (s : State) (x : Session) (rid idx sub : Nat) (ty : ObjType) (n : Nat) (r : ObjRec) (o : ObjRow)
    (hi : idx < 0xF000) (hs : sub < 256) (h : accepts s x rid idx sub ty n = true) (hr : findRec idx = some r) (ho : r.row sub = some o)
    (hc : o.cls = .live) :
    ∀ st', (liveWrite (begun s x rid [(idx, sub, ty, n)]) (begunSes s x rid [(idx, sub, ty, n)]) (x.keyFor r idx sub) o (.num n) =
            (st', .done Status.ok) →
          writeObject s x.sid rid idx sub ty n = answered st' st'.dev x rid [(idx, sub, ty, n)]) ∧
        ∀ w, liveWrite (begun s x rid [(idx, sub, ty, n)]) (begunSes s x rid [(idx, sub, ty, n)]) (x.keyFor r idx sub) o (.num n) =
            (st', .wait w) →
          writeObject s x.sid rid idx sub ty n = waiting st' st'.dev x rid [(idx, sub, ty, n)] w := by
  obtain ⟨r', o', h1, h2, h3, h4⟩ := writeObject_accepted s x rid idx sub ty n hi hs h
  rw [hr] at h1
  cases h1
  rw [ho] at h2
  cases h2
  have e := performWrite_live (begun s x rid [(idx, sub, ty, n)]) (begunSes s x rid [(idx, sub, ty, n)]) (x.keyFor r idx sub) o (.num n) hc h3
  rw [e] at h4
  exact h4

theorem selected_ses (s : State) (x : Session) (rid idx e sub : Nat) (ty : ObjType) (n : Nat) (h : s.dev.ses x.sid = some x) :
    (selected s x rid idx e sub ty n).dev.ses x.sid =
      some ((begunSes s x rid (entryItems idx e sub ty n)).setLoc ⟨idx, 1, 0⟩ (.num e)) := by
  unfold selected
  simp only []
  rw [Dev.ses_modSes _ _ _ (by intro; rfl), begun_ses _ _ _ _ h]
  rfl

theorem Session.window_setLoc (x : Session) (idx e : Nat) : (x.setLoc ⟨idx, 1, 0⟩ (.num e)).window idx = e := by
  simp [Session.window, Session.loc, Session.setLoc, tabFind_tabSet_self, Val.toNum]

/-- A row of the table that selects an entry and writes a field of it: on a session whose write is taken up, the field's
own write is performed on that entry, and answered with S_OK or left waiting. -/
theorem writeEntry_live (s : State) (x : Session) (rid idx e sub : Nat) (ty : ObjType) (n : Nat) (r : ObjRec) (ow o : ObjRow)
    (hi : idx < 0xF000) (hs : sub < 256) (h : acceptsEntry s x rid idx e sub ty n = true) (hr : findRec idx = some r)
    (how : r.row 1 = some ow) (hcw : ow.cls = .live)
    (hw : liveWrite (begun s x rid (entryItems idx e sub ty n)) (begunSes s x rid (entryItems idx e sub ty n)) ⟨idx, 1, 0⟩ ow (.num e) =
      (selected s x rid idx e sub ty n, .done Status.ok))
    (ho : r.row sub = some o) (hc : o.cls = .live) (st' : State) (a : WriteResult)
    (hq : liveWrite (selected s x rid idx e sub ty n) ((begunSes s x rid (entryItems idx e sub ty n)).setLoc ⟨idx, 1, 0⟩ (.num e))
        (((begunSes s x rid (entryItems idx e sub ty n)).setLoc ⟨idx, 1, 0⟩ (.num e)).keyFor r idx sub) o (.num n) = (st', a)) :
    (a = .done Status.ok → writeEntry s x.sid rid idx e sub ty n = answered st' st'.dev x rid (entryItems idx e sub ty n)) ∧
      ∀ w, a = .wait w → writeEntry s x.sid rid idx e sub ty n = waiting st' st'.dev x rid (entryItems idx e sub ty n) w := by
  unfold acceptsEntry at h
  simp only [Bool.and_eq_true] at h
  obtain ⟨⟨hrd, hp1⟩, hp2⟩ := h
  have hses := ((ready_iff s x rid).1 hrd).1
  have hrec := receive_ready s x rid (entryItems idx e sub ty n) hrd (by simp) (by
    intro w hwm
    simp only [List.mem_cons, List.not_mem_nil, or_false] at hwm
    rcases hwm with rfl | rfl
    · exact ⟨by omega, by simp⟩
    · exact ⟨by omega, hs⟩)
  obtain ⟨r1, o1, k1, a1, a2, a3, a4, a5⟩ := writeItem_of_passes _ _ (idx, 1, .u32, e) hi hp1
  obtain ⟨r2, o2, k2, b1, b2, b3, b4, b5⟩ := writeItem_of_passes _ _ (idx, sub, ty, n) hi hp2
  simp only at a1 a2 a3 b1 b2 b3
  rw [hr] at a1 b1
  cases a1
  cases b1
  rw [how] at a2
  cases a2
  rw [ho] at b2
  cases b2
  have hk1 : k1 = ⟨idx, 1, 0⟩ := by rw [a3]; simp [Session.keyFor]
  subst hk1
  subst b3
  rw [performWrite_live _ _ _ _ _ hcw a4, hw] at a5
  rw [performWrite_live _ _ _ _ _ hc b4, hq] at b5
  have e0 : writeEntry s x.sid rid idx e sub ty n =
      runItems x.sid (requestExec rid (entryItems idx e sub ty n)) [witem (idx, 1, .u32, e), witem (idx, sub, ty, n)]
        (begun s x rid (entryItems idx e sub ty n)) := hrec
  rw [e0, runItems_done _ _ _ _ _ (selected s x rid idx e sub ty n) _ (answerItem (witem (idx, 1, .u32, e)) Status.ok)
      (begun_ses _ _ _ _ hses) (by rw [runItem_write _ _ _ _ rfl, a5]; rfl) rfl]
  constructor
  · intro ha
    subst ha
    rw [runItems_done _ _ _ _ _ st' _ (answerItem (witem (idx, sub, ty, n)) Status.ok) (selected_ses _ _ _ _ _ _ _ _ hses)
      (by rw [runItem_write _ _ _ _ rfl, b5]; rfl) rfl]
    rfl
  · intro w ha
    subst ha
    rw [runItems_wait _ _ _ _ _ st' _ w (selected_ses _ _ _ _ _ _ _ _ hses) (by rw [runItem_write _ _ _ _ rfl, b5])]
    rfl

/-- Records do not overlap, so that an index finds the one whose range holds it. -/
theorem findRec_of_mem (r : ObjRec) (idx : Nat) (hm : r ∈ objTable) (h1 : r.base ≤ idx) (h2 : idx < r.base + r.count) :
    findRec idx = some r := by
  have hp : objTable.Pairwise (fun a b => a.base + a.count ≤ b.base ∨ b.base + b.count ≤ a.base) := by decide
  unfold findRec
  revert hm hp
  generalize objTable = l
  intro hm hp
  induction l with
  | nil => cases hm
  | cons a t ih =>
    rw [List.pairwise_cons] at hp
    rcases List.mem_cons.1 hm with rfl | hm
    · simp [h1, h2]
    · have := hp.1 r hm
      rw [List.find?_cons_of_neg (by simp; omega)]
      exact ih hm hp.2

end Sys2Proof.Machine
end

