-- ==== Sys2Proof/Laws/Writes.lean ====
section
/-!
SUPPORT. Sys2Proof/Laws/Writes.lean: which object's own rule a live write follows, and the rows of the table that write one
object, with what that rule makes of the device.
-/
namespace Sys2Proof.Machine
open Sys2Proof.Safety

theorem writeBoot_none (st : State) (s : Session) (k : Key) (v : Val) (h : k.idx ∉ [0x1020, 0x1030, 0xB000, 0xB010, 0xB040]) :
    writeBoot st s k v = none := by
  unfold writeBoot
  split <;> simp_all

theorem writeMgmt_none (st : State) (s : Session) (k : Key) (v : Val) (h : k.idx ∉ [0x1120, 0x1121, 0x1F00]) :
    writeMgmt st s k v = none := by
  unfold writeMgmt
  split <;> simp_all

theorem writeTelemetry_none (st : State) (s : Session) (k : Key) (v : Val)
    (h : k.idx ∉ [0xA000, 0x8000, 0x8010, 0x8100, 0x5100, 0xC000, 0xC020]) : writeTelemetry st s k v = none := by
  unfold writeTelemetry
  split <;> simp_all

theorem writeLinks_none (st : State) (s : Session) (k : Key) (n : Nat) (h : k.idx < 0x2000 ∨ 0x3410 ≤ k.idx) (h2 : k.idx ≠ 0xC010) :
    writeLinks st s k n = none := by
  unfold writeLinks within
  rw [if_neg (by simp; omega), if_neg (by simp; omega), if_neg (by simp; omega)]
  split <;> simp_all

theorem writeEngines_none (st : State) (k : Key) (n : Nat) (h : k.idx < 0x6000 ∨ 0x7000 ≤ k.idx) (h2 : k.idx ≠ 0x4200 ∧ k.idx ≠ 0x4201) :
    writeEngines st k n = none := by
  unfold writeEngines within
  rw [if_neg (by simp; omega), if_neg (by simp; omega), if_neg (by simp [h2]), if_neg (by simp [h2])]

/-- A port command (R140, R148). -/
theorem liveWrite_port (st : State) (s : Session) (p : Nat) (o : ObjRow) (n : Nat) (hp : p < 128) :
    liveWrite st s ⟨0x2000 + p, 0x0E, 0⟩ o (.num n) = ofDev st (st.dev.writePortCmd p n) := by
  unfold liveWrite
  dsimp only
  rw [writeBoot_none _ _ _ _ (by simp; omega), writeMgmt_none _ _ _ _ (by simp; omega)]
  have : writeLinks st s ⟨0x2000 + p, 0x0E, 0⟩ (Val.num n).toNum = some (ofDev st (st.dev.writePortCmd p n)) := by
    unfold writeLinks within
    rw [if_pos (by simp; omega)]
    simp [Val.toNum]
  rw [this]
  rfl

/-- A lane command (R128, R129). -/
theorem liveWrite_lane (st : State) (s : Session) (l : Nat) (o : ObjRow) (n : Nat) (hp : l < 256) :
    liveWrite st s ⟨0x2200 + l, 9, 0⟩ o (.num n) = ofDev st (st.dev.writeCalCmd l n) := by
  unfold liveWrite
  dsimp only
  rw [writeBoot_none _ _ _ _ (by simp; omega), writeMgmt_none _ _ _ _ (by simp; omega)]
  have : writeLinks st s ⟨0x2200 + l, 9, 0⟩ (Val.num n).toNum = some (ofDev st (st.dev.writeCalCmd l n)) := by
    unfold writeLinks within
    rw [if_neg (by simp), if_pos (by simp; omega)]
    simp [Val.toNum]
  rw [this]
  rfl

/-- A BFL command (R240, R243). -/
theorem liveWrite_bfl (st : State) (s : Session) (i : Nat) (o : ObjRow) (n : Nat) (hp : i < 16) :
    liveWrite st s ⟨0x3400 + i, 10, 0⟩ o (.num n) = ofWrite st (st.dev.writeBflCmd s i n) := by
  unfold liveWrite
  dsimp only
  rw [writeBoot_none _ _ _ _ (by simp; omega), writeMgmt_none _ _ _ _ (by simp; omega)]
  have : writeLinks st s ⟨0x3400 + i, 10, 0⟩ (Val.num n).toNum = some (ofWrite st (st.dev.writeBflCmd s i n)) := by
    unfold writeLinks within
    rw [if_neg (by simp), if_neg (by simp), if_pos (by simp; omega)]
    simp [Val.toNum]
  rw [this]
  rfl

/-- A slice command (R248). -/
theorem liveWrite_slice (st : State) (s : Session) (n : Nat) (o : ObjRow) (v : Nat) (hp : n < 4096) :
    liveWrite st s ⟨0x6000 + n, 12, 0⟩ o (.num v) = ofDev st (st.dev.sliceCmd n v) := by
  unfold liveWrite
  dsimp only
  rw [writeBoot_none _ _ _ _ (by simp; omega), writeMgmt_none _ _ _ _ (by simp; omega),
    writeLinks_none _ _ _ _ (by simp; omega) (by simp; omega)]
  have : writeEngines st ⟨0x6000 + n, 12, 0⟩ (Val.num v).toNum = some (ofDev st (st.dev.sliceCmd n v)) := by
    unfold writeEngines within
    rw [if_pos (by simp; omega)]
    simp [Val.toNum]
  rw [this]
  rfl

/-- A slot's enable (R330). -/
theorem liveWrite_slotEnable (st : State) (s : Session) (k : Nat) (o : ObjRow) (v : Nat) (hp : k < 32) :
    liveWrite st s ⟨0x7400 + k, 2, 0⟩ o (.num v) = ofDev st (st.dev.writeSlotEnable k v) := by
  unfold liveWrite
  dsimp only
  rw [writeBoot_none _ _ _ _ (by simp; omega), writeMgmt_none _ _ _ _ (by simp; omega),
    writeLinks_none _ _ _ _ (by simp; omega) (by simp; omega), writeEngines_none _ _ _ (by simp; omega) (by simp; omega)]
  have : writePower st s ⟨0x7400 + k, 2, 0⟩ (Val.num v).toNum = some (ofDev st (st.dev.writeSlotEnable k v)) := by
    unfold writePower within
    rw [if_pos (by simp; omega)]
    simp [Val.toNum]
  rw [this]
  rfl

/-- A slot command (R331, R336). -/
theorem liveWrite_slotCmd (st : State) (s : Session) (k : Nat) (o : ObjRow) (v : Nat) (hp : k < 32) :
    liveWrite st s ⟨0x7400 + k, 0x15, 0⟩ o (.num v) = ofDev st (st.dev.writeSlotCmd k v) := by
  unfold liveWrite
  dsimp only
  rw [writeBoot_none _ _ _ _ (by simp; omega), writeMgmt_none _ _ _ _ (by simp; omega),
    writeLinks_none _ _ _ _ (by simp; omega) (by simp; omega), writeEngines_none _ _ _ (by simp; omega) (by simp; omega)]
  have : writePower st s ⟨0x7400 + k, 0x15, 0⟩ (Val.num v).toNum = some (ofDev st (st.dev.writeSlotCmd k v)) := by
    unfold writePower within
    rw [if_pos (by simp; omega)]
    simp [Val.toNum]
  rw [this]
  rfl

/-! Rows that write one object. -/

/-- An object of a record that is written live. -/
def liveRow (idx sub : Nat) : Bool := (findRec idx).any (fun r => r.entries == 0 && (r.row sub).any (fun o => o.cls == .live))

/-- A field of an array that is written live, with a window that is one of the session's own values. -/
def liveField (idx sub : Nat) : Bool :=
  (findRec idx).any (fun r => r.entries != 0 && decide (2 < sub) && (r.row sub).any (fun o => o.cls == .live) &&
    (r.row 1).any (fun o => o.cls == .live && o.isLocal))

theorem liveRow_spec (idx sub : Nat) (h : liveRow idx sub = true) :
    ∃ r o, findRec idx = some r ∧ r.row sub = some o ∧ r.entries = 0 ∧ o.cls = .live := by
  unfold liveRow at h
  rw [Option.any_eq_true_iff_get] at h
  obtain ⟨h1, h2⟩ := h
  simp only [Bool.and_eq_true, beq_iff_eq] at h2
  obtain ⟨h3, h4⟩ := h2
  rw [Option.any_eq_true_iff_get] at h4
  obtain ⟨h5, h6⟩ := h4
  exact ⟨_, _, (Option.some_get h1).symm, (Option.some_get h5).symm, h3, by simpa using h6⟩

/-- Records of one family have the same rows. -/
theorem liveRow_shift (base sub count i : Nat) (h : liveRow base sub = true)
    (hb : (findRec base).map (fun r => (r.base, r.count)) = some (base, count)) (hi : i < count) : liveRow (base + i) sub = true := by
  obtain ⟨r, o, h1, h2, h3, h4⟩ := liveRow_spec base sub h
  have hm : r ∈ objTable := List.mem_of_find?_eq_some h1
  have e : r.base = base ∧ r.count = count := by
    rw [h1] at hb
    simpa using hb
  unfold liveRow
  rw [findRec_of_mem r (base + i) hm (by omega) (by omega)]
  simp [h2, h3, h4]

/-- The rows whose write is answered at once. -/
theorem writeObject_wrote (s : State) (x : Session) (rid idx sub : Nat) (ty : ObjType) (n : Nat) (f : Dev → Dev)
    (hi : idx < 0xF000) (hs : sub < 256) (hl : liveRow idx sub = true) (h : accepts s x rid idx sub ty n = true)
    (hw : ∀ o, liveWrite (begun s x rid [(idx, sub, ty, n)]) (begunSes s x rid [(idx, sub, ty, n)]) ⟨idx, sub, 0⟩ o (.num n) =
      ofDev (begun s x rid [(idx, sub, ty, n)]) (f (begun s x rid [(idx, sub, ty, n)]).dev, Status.ok)) :
    writeObject s x.sid rid idx sub ty n = wrote s x rid idx sub ty n f := by
  obtain ⟨r, o, h1, h2, h3, h4⟩ := liveRow_spec idx sub hl
  have hk : x.keyFor r idx sub = ⟨idx, sub, 0⟩ := by simp [Session.keyFor, h3]
  have e := writeObject_live s x rid idx sub ty n r o hi hs h h1 h2 h4
    { begun s x rid [(idx, sub, ty, n)] with dev := f (begun s x rid [(idx, sub, ty, n)]).dev }
  rw [hk] at e
  exact e.1 (hw o)

/-- The rows whose write waits. -/
theorem writeObject_waits (s : State) (x : Session) (rid idx sub : Nat) (ty : ObjType) (n : Nat) (f : Dev → Dev) (w : Wait)
    (hi : idx < 0xF000) (hs : sub < 256) (hl : liveRow idx sub = true) (h : accepts s x rid idx sub ty n = true)
    (hw : ∀ o, liveWrite (begun s x rid [(idx, sub, ty, n)]) (begunSes s x rid [(idx, sub, ty, n)]) ⟨idx, sub, 0⟩ o (.num n) =
      ({ begun s x rid [(idx, sub, ty, n)] with dev := f (begun s x rid [(idx, sub, ty, n)]).dev }, .wait w)) :
    writeObject s x.sid rid idx sub ty n = wroteWaits s x rid idx sub ty n f w := by
  obtain ⟨r, o, h1, h2, h3, h4⟩ := liveRow_spec idx sub hl
  have hk : x.keyFor r idx sub = ⟨idx, sub, 0⟩ := by simp [Session.keyFor, h3]
  have e := writeObject_live s x rid idx sub ty n r o hi hs h h1 h2 h4
    { begun s x rid [(idx, sub, ty, n)] with dev := f (begun s x rid [(idx, sub, ty, n)]).dev }
  rw [hk] at e
  exact e.2 w (hw o)

theorem liveField_spec (idx sub : Nat) (h : liveField idx sub = true) :
    ∃ r o ow, findRec idx = some r ∧ r.row sub = some o ∧ r.row 1 = some ow ∧ r.entries ≠ 0 ∧ 2 < sub ∧ o.cls = .live ∧
      ow.cls = .live ∧ ow.isLocal = true := by
  unfold liveField at h
  rw [Option.any_eq_true_iff_get] at h
  obtain ⟨h1, h2⟩ := h
  simp only [Bool.and_eq_true, bne_iff_ne, decide_eq_true_eq] at h2
  obtain ⟨⟨⟨h3, h4⟩, h5⟩, h6⟩ := h2
  rw [Option.any_eq_true_iff_get] at h5 h6
  obtain ⟨h7, h8⟩ := h5
  obtain ⟨h9, h10⟩ := h6
  simp only [Bool.and_eq_true, beq_iff_eq] at h8 h10
  exact ⟨_, _, _, (Option.some_get h1).symm, (Option.some_get h7).symm, (Option.some_get h9).symm, h3, h4, h8, h10.1, h10.2⟩

/-- The window select of an array takes the session's own value. -/
theorem liveWrite_window (st : State) (s : Session) (idx : Nat) (o : ObjRow) (e : Nat) (hl : o.isLocal = true)
    (h : idx ∈ [0xC010, 0x3181, 0x4200, 0x4201, 0x7521, 0x8010, 0xC020]) :
    liveWrite st s ⟨idx, 1, 0⟩ o (.num e) = okDev st (st.dev.modSes s.sid (fun x => x.setLoc ⟨idx, 1, 0⟩ (.num e))) := by
  simp only [List.mem_cons, List.not_mem_nil, or_false] at h
  rcases h with rfl | rfl | rfl | rfl | rfl | rfl | rfl <;>
    (unfold liveWrite; dsimp only [writeBoot, writeMgmt, writeLinks, writeEngines, writePower, writeTelemetry, within]; simp [hl])

/-- The key of the entry that a request has selected. -/
def fieldKey (x : Session) (idx e sub : Nat) : Key := if idx = 0x8010 then ⟨idx, sub, 256 * x.pmuScope + e⟩ else ⟨idx, sub, e⟩

/-- The session once it has selected an entry. -/
def selSes (s : State) (x : Session) (rid idx e sub : Nat) (ty : ObjType) (n : Nat) : Session :=
  (begunSes s x rid (entryItems idx e sub ty n)).setLoc ⟨idx, 1, 0⟩ (.num e)

theorem writeEntry_field (s : State) (x : Session) (rid idx e sub : Nat) (ty : ObjType) (n : Nat) (f : Dev → Dev) (a : WriteResult)
    (hi : idx ∈ [0xC010, 0x3181, 0x4200, 0x4201, 0x7521, 0x8010, 0xC020]) (hs : sub < 256) (hl : liveField idx sub = true)
    (h : acceptsEntry s x rid idx e sub ty n = true)
    (hw : ∀ o, liveWrite (selected s x rid idx e sub ty n) (selSes s x rid idx e sub ty n) (fieldKey x idx e sub) o (.num n) =
      ({ selected s x rid idx e sub ty n with dev := f (selected s x rid idx e sub ty n).dev }, a)) :
    (a = .done Status.ok → writeEntry s x.sid rid idx e sub ty n = wroteEntry s x rid idx e sub ty n f) ∧
      ∀ w, a = .wait w → writeEntry s x.sid rid idx e sub ty n = wroteEntryWaits s x rid idx e sub ty n f w := by
  obtain ⟨r, o, ow, h1, h2, h3, h4, h5, h6, h7, h8⟩ := liveField_spec idx sub hl
  have hk : (selSes s x rid idx e sub ty n).keyFor r idx sub = fieldKey x idx e sub := by
    have := Session.window_setLoc (begunSes s x rid (entryItems idx e sub ty n)) idx e
    unfold Session.keyFor selSes fieldKey
    rw [if_neg (by omega), this]
    rfl
  have hlt : idx < 0xF000 := by
    simp only [List.mem_cons, List.not_mem_nil, or_false] at hi
    omega
  refine writeEntry_live s x rid idx e sub ty n r ow o hlt hs h h1 h3 h7 ?_ h2 h6
    { selected s x rid idx e sub ty n with dev := f (selected s x rid idx e sub ty n).dev } a ?_
  · rw [liveWrite_window _ _ _ _ _ h8 hi]
    rfl
  · have := hw o
    rw [← hk] at this
    exact this

end Sys2Proof.Machine
end

