-- ==== Sys2Proof/Laws/Events.lean ====
section
/-!
SUPPORT. Sys2Proof/Laws/Events.lean: small facts about operations that several commands share.
-/
namespace Sys2Proof.Safety
open Sys2Proof.Machine
set_option linter.unusedSimpArgs false

/-- A claim of an unclaimed rake takes it. -/
theorem claim_none (d : Dev) (h : Half) (e : d.holder = none) : d.claim h = (d.giveRake h).rakeChanged := by
  unfold Dev.claim; rw [e]

/-- The objects that a slot check writes are three different ones. -/
theorem slotState_ne (sl : FwSlot) : slotStateKey sl ≠ Obj.fwVerifyResult ∧ slotVersionKey sl ≠ Obj.fwVerifyResult ∧ slotStateKey sl ≠ slotVersionKey sl ∧
   slotStateKey sl ≠ Obj.bootStrapValue ∧ slotVersionKey sl ≠ Obj.bootStrapValue := by cases sl <;> decide

/-- One report does not decide a slot. -/
theorem slotResult_none (d : Dev) (h : Half) (sl' : FwSlot) (c : SlotCheck) (hc : d.boot.checks = [c]) (hh : c.half = h) : d.slotResult sl' = none := by
  unfold Dev.slotResult Dev.check
  rw [hc]
  cases h <;> simp [hh]

/-- Noting a slot leaves the boot sequence. -/
theorem noteSlot_boot (d : Dev) (sl : FwSlot) (r v : Nat) : (d.noteSlot sl r v).boot = d.boot := by
  unfold Dev.noteSlot
  simp only []
  split
  · rfl
  · split <;> rfl

/-- `lane.cal_cmd` is a live object. -/
theorem liveRow_lane (l : Nat) (h : l < 256) : liveRow (0x2200 + l) 9 = true :=
  liveRow_shift 0x2200 9 256 l (by decide) (by decide) h

/-- `port.cmd` is a live object. -/
theorem liveRow_port (p : Nat) (h : p < 128) : liveRow (0x2000 + p) 14 = true :=
  liveRow_shift 0x2000 14 128 p (by decide) (by decide) h

/-- `bfl.cmd` is a live object. -/
theorem liveRow_bfl (p : Nat) (h : p < 16) : liveRow (0x3400 + p) 10 = true :=
  liveRow_shift 0x3400 10 16 p (by decide) (by decide) h

/-- `rme.slice.cmd` is a live object. -/
theorem liveRow_slice (n : Nat) (h : n < 4096) : liveRow (0x6000 + n) 12 = true :=
  liveRow_shift 0x6000 12 4096 n (by decide) (by decide) h

/-- The arrays that the rows write lie below 0xF000. -/
theorem liveField_mem {idx : Nat} (h : idx ∈ [0xC010, 0x3181, 0x4200, 0x4201, 0x7521, 0x8010, 0xC020]) : idx < 0xF000 := by
  simp only [List.mem_cons, List.not_mem_nil, or_false] at h
  omega

/-- A write of an entry that takes its value at once. -/
theorem entry_wrote (s : State) (x : Session) (rid idx e sub : Nat) (ty : ObjType) (n : Nat) (f : Dev → Dev)
    (hi : idx ∈ [0xC010, 0x3181, 0x4200, 0x4201, 0x7521, 0x8010, 0xC020]) (hs : sub < 256) (hl : liveField idx sub = true)
    (h : acceptsEntry s x rid idx e sub ty n = true)
    (hw : ∀ o, liveWrite (selected s x rid idx e sub ty n) (selSes s x rid idx e sub ty n) (fieldKey x idx e sub) o (.num n) =
      ofDev (selected s x rid idx e sub ty n) (f (selected s x rid idx e sub ty n).dev, Status.ok)) :
    writeEntry s x.sid rid idx e sub ty n = wroteEntry s x rid idx e sub ty n f :=
  (writeEntry_field s x rid idx e sub ty n f _ hi hs hl h (fun o => hw o)).1 rfl

/-- A write of an entry that waits. -/
theorem entry_waits (s : State) (x : Session) (rid idx e sub : Nat) (ty : ObjType) (n : Nat) (f : Dev → Dev) (w : Wait)
    (hi : idx ∈ [0xC010, 0x3181, 0x4200, 0x4201, 0x7521, 0x8010, 0xC020]) (hs : sub < 256) (hl : liveField idx sub = true)
    (h : acceptsEntry s x rid idx e sub ty n = true)
    (hw : ∀ o, liveWrite (selected s x rid idx e sub ty n) (selSes s x rid idx e sub ty n) (fieldKey x idx e sub) o (.num n) =
      ofWrite (selected s x rid idx e sub ty n) (f (selected s x rid idx e sub ty n).dev, .wait w)) :
    writeEntry s x.sid rid idx e sub ty n = wroteEntryWaits s x rid idx e sub ty n f w :=
  (writeEntry_field s x rid idx e sub ty n f _ hi hs hl h (fun o => hw o)).2 w rfl

/-- `slot.enable` is a live object. -/
theorem liveRow_slotE (k : Nat) (h : k < 32) : liveRow (0x7400 + k) 2 = true :=
  liveRow_shift 0x7400 2 32 k (by decide) (by decide) h

/-- `slot.cmd` is a live object. -/
theorem liveRow_slotC (k : Nat) (h : k < 32) : liveRow (0x7400 + k) 0x15 = true :=
  liveRow_shift 0x7400 0x15 32 k (by decide) (by decide) h

/-- A far access that finds room in its bus queue. -/
theorem queueFar_ok (d : Dev) (k : Nat) (f : FarReq) (h1 : d.busUp k = true) (h2 : (d.sbus k).queue.length < 4) :
    d.queueFar k f = (d.modSb k (fun b => { b with queue := b.queue ++ [f] }), .wait .farWrite) := by
  unfold Dev.queueFar
  rw [if_neg (by simp [h1]), if_neg (by omega)]

/-- A request of Run while awake. -/
theorem stateReq0 (d : Dev) (h : d.num Obj.pwrState = PwrSt.run ∨ d.num Obj.pwrState = PwrSt.idle) :
    d.writeStateReq 0 = ((d.setNum Obj.pwrIdleArmed 0).setNum Obj.pwrState PwrSt.run, Status.ok) := by
  simp only [Dev.writeStateReq, h, if_true]

/-- A request of Run asleep. -/
theorem stateReq0s (d : Dev) (h : d.num Obj.pwrState = PwrSt.sleep) : d.writeStateReq 0 =
    ({ (d.setNum Obj.pwrState PwrSt.exiting) with pwr := { d.pwr with wakeAt := d.clk, exitFrom := PwrSt.sleep, byWakeN := false } }, Status.ok) := by
  simp only [Dev.writeStateReq, h]
  rfl

/-- A request of Idle. -/
theorem stateReq1 (d : Dev) (h : d.num Obj.pwrState = PwrSt.run ∨ d.num Obj.pwrState = PwrSt.idle) :
    d.writeStateReq 1 = (d.setNum Obj.pwrIdleArmed 1, Status.ok) := by
  simp only [Dev.writeStateReq, h, if_true]

/-- A request of a lower state that passes its checks. -/
theorem stateReqN (d : Dev) (v : Nat) (hv : 2 ≤ v) (h : d.num Obj.pwrState = PwrSt.run ∨ d.num Obj.pwrState = PwrSt.idle) (h2 : d.sleepCheck v = Status.ok) :
    d.writeStateReq v = (let leds := (List.range 32).map (fun k => (k, d.leds k))
        let d := (d.setNum Obj.pwrState PwrSt.entering).setNum Obj.pwrPadHoldHeld (d.num Obj.pwrPadHoldHeld ||| latchedGroups v)
        let d := if v = 2 then { d with pwr := { d.pwr with leds := leds } } else d
        let d := if v = 2 then (List.range 32).foldl (fun d k => d.busDown k) d else d
        ({ d with pwr := { d.pwr with target := v } }, Status.ok)) := by
  unfold Dev.writeStateReq
  have h3 : d.num Obj.pwrState = PwrSt.run ∨ d.num Obj.pwrState = PwrSt.idle ∨ d.num Obj.pwrState = PwrSt.sleep := by
    rcases h with h | h <;> simp [h]
  match v, hv with
  | n + 2, _ => simp only [h2, if_true]; rw [if_pos h3]

/-- A request of Sleep. -/
theorem stateReq2 (d : Dev) (h : d.num Obj.pwrState = PwrSt.run ∨ d.num Obj.pwrState = PwrSt.idle) (h2 : d.sleepCheck 2 = Status.ok) :
    d.writeStateReq 2 = (let leds := (List.range 32).map (fun k => (k, d.leds k))
        let d := (d.setNum Obj.pwrState PwrSt.entering).setNum Obj.pwrPadHoldHeld (d.num Obj.pwrPadHoldHeld ||| 0x7FFFFF)
        let d := { d with pwr := { d.pwr with leds := leds } }
        let d := (List.range 32).foldl (fun d k => d.busDown k) d
        ({ d with pwr := { d.pwr with target := 2 } }, Status.ok)) := by
  rw [stateReqN d 2 (by decide) h h2, show latchedGroups 2 = 0x7FFFFF from rfl]
  dsimp only
  rw [if_pos rfl, if_pos rfl]

/-- A request of Deep sleep. -/
theorem stateReq3 (d : Dev) (h : d.num Obj.pwrState = PwrSt.run ∨ d.num Obj.pwrState = PwrSt.idle) (h2 : d.sleepCheck 3 = Status.ok) :
    d.writeStateReq 3 = (let d := (d.setNum Obj.pwrState PwrSt.entering).setNum Obj.pwrPadHoldHeld (d.num Obj.pwrPadHoldHeld ||| 0x60FFFF)
        ({ d with pwr := { d.pwr with target := 3 } }, Status.ok)) := by
  rw [stateReqN d 3 (by decide) h h2, show latchedGroups 3 = 0x60FFFF from rfl]
  dsimp only
  rw [if_neg (by decide), if_neg (by decide)]

/-- A request of Off. -/
theorem stateReq4 (d : Dev) (h : d.num Obj.pwrState = PwrSt.run ∨ d.num Obj.pwrState = PwrSt.idle) (h2 : d.sleepCheck 4 = Status.ok) :
    d.writeStateReq 4 = (let d := (d.setNum Obj.pwrState PwrSt.entering).setNum Obj.pwrPadHoldHeld (d.num Obj.pwrPadHoldHeld)
        ({ d with pwr := { d.pwr with target := 4 } }, Status.ok)) := by
  rw [stateReqN d 4 (by decide) h h2]
  simp [latchedGroups]

/-- Marking a lane leaves its calibration status. -/
theorem markLane_num (d : Dev) (l : Nat) (bad : Bool) : (d.markLane l bad).num (Obj.laneCalStatus l) = d.num (Obj.laneCalStatus l) := by
  have a : ∀ (d : Dev) b, (d.setLaneBit l LaneBit.failed b).num (Obj.laneCalStatus l) = d.num (Obj.laneCalStatus l) := by
    intro d b
    exact Dev.num_setNum_ne _ _ _ _ (by simp) (by simp)
  have b : ∀ d : Dev, (if bad then d.logEvent (Half.ofLane l) Scope.lane l 2 0x0104 else d).num (Obj.laneCalStatus l) = d.num (Obj.laneCalStatus l) := by
    intro d
    split
    · rw [Dev.num_eq, Dev.logEvent_num' _ _ _ _ _ _ _ _ _ (by simp) (by decide), ← Dev.num_eq]
    · rfl
  unfold Dev.markLane
  dsimp only
  split
  · rw [Dev.num_setNum_ne _ _ _ _ (by simp) (by simp), b, a]
  · rw [b, a]

/-- A command whose device is known answers it. -/
theorem next_of {s : State} {d e : Dev} (h : d = e) : onDev s d = .next { s with dev := e } := h ▸ rfl

/-- A send-queue entry that reads its local buffer starts. -/
theorem startOut_go (d : Dev) (qpn op : Nat) (q : Qp) (w : LiveWqe) (data : List Byte) (h1 : d.qpByNumber qpn = some q) (h2 : q.st = .ready)
    (h3 : w.wqe.len ≤ 2 ^ 30) (h5 : data.length = w.wqe.len)
    (h6 : 0 < w.wqe.len → d.localCheck q.slice w.wqe.localKey w.wqe.localAddr w.wqe.len false = none ∧ d.hostOpen q.slice = true)
    (h : q.turn op = some w) :
    d.startOut qpn op data = (d.hostLoad q.slice w.wqe.localAddr w.wqe.len).beginWqe (qpnKey qpn) w data := by
  have a : ¬ 2 ^ 30 < w.wqe.len := by omega
  simp only [Dev.startOut, h1, h2, h, if_true]
  rw [if_neg a]
  by_cases b : w.wqe.len = 0
  · simp only [if_pos b]; rw [if_pos ⟨h5, Or.inl b⟩]
  · obtain ⟨h6, h7⟩ := h6 (by omega)
    simp only [if_neg b, h6]; rw [if_pos ⟨h5, Or.inr h7⟩]

/-- A send-queue entry whose local buffer fails its check. -/
theorem startOut_fail (d : Dev) (qpn op st : Nat) (q : Qp) (w : LiveWqe) (data : List Byte) (h1 : d.qpByNumber qpn = some q) (h2 : q.st = .ready)
    (h3 : w.wqe.len ≤ 2 ^ 30) (h4 : 0 < w.wqe.len)
    (h6 : d.localCheck q.slice w.wqe.localKey w.wqe.localAddr w.wqe.len false = some st) (h : q.turn op = some w) :
    d.startOut qpn op data = d.qpFails (qpnKey qpn) (some w) st := by
  have a : ¬ 2 ^ 30 < w.wqe.len := by omega
  have b : ¬ w.wqe.len = 0 := by omega
  simp only [Dev.startOut, h1, h2, h, if_true]
  rw [if_neg a]; simp only [if_neg b, h6]

/-- A send-queue entry that writes its local buffer starts. -/
theorem startIn_go (d : Dev) (qpn op len : Nat) (q : Qp) (w : LiveWqe) (h1 : d.qpByNumber qpn = some q) (h2 : q.st = .ready)
    (hl : (if op = 3 then w.wqe.len else 8) = len) (h3 : len ≤ 2 ^ 30) (h4 : 0 < len)
    (h6 : d.localCheck q.slice w.wqe.localKey w.wqe.localAddr len true = none) (h : q.turn op = some w) :
    d.startIn qpn op = d.beginWqe (qpnKey qpn) w [] := by
  have a : ¬ 2 ^ 30 < len := by omega
  have b : ¬ len = 0 := by omega
  simp only [Dev.startIn, h1, h2, h, if_true, hl]
  rw [if_neg a]; simp only [if_neg b, h6]

/-- A send-queue entry whose local buffer for a result fails its check. -/
theorem startIn_fail (d : Dev) (qpn op len st : Nat) (q : Qp) (w : LiveWqe) (h1 : d.qpByNumber qpn = some q) (h2 : q.st = .ready)
    (hl : (if op = 3 then w.wqe.len else 8) = len) (h3 : len ≤ 2 ^ 30) (h4 : 0 < len)
    (h6 : d.localCheck q.slice w.wqe.localKey w.wqe.localAddr len true = some st) (h : q.turn op = some w) :
    d.startIn qpn op = d.qpFails (qpnKey qpn) (some w) st := by
  have a : ¬ 2 ^ 30 < len := by omega
  have b : ¬ len = 0 := by omega
  simp only [Dev.startIn, h1, h2, h, if_true, hl]
  rw [if_neg a]; simp only [if_neg b, h6]

/-- A response reaches its queue pair. -/
theorem forRequester_go (d : Dev) (h : Half) (p : RmePacket) (f : Nat → Qp → Dev) (k : Nat) (q : Qp) (h1 : d.stepOne h p = some (k, q)) (h2 : q.st = .ready) :
    d.forRequester h p f = f k q := by simp only [Dev.forRequester, h1]; rw [if_pos h2]

/-- The rows of request packets answer what the responder does. -/
theorem packetGives_of {s : State} {h : Half} {p : RmePacket} {d : Dev} (e : s.dev.rxRequest h p = d) : packetGives s h p { s with dev := d } := by
  subst e
  refine ⟨?_, ?_, ?_, ?_, ?_, ?_, ?_⟩ <;> intro a <;> exact if_pos a

/-- A MODIFY_QP that passes. -/
theorem onModify_ok {n : Nat} {b : QpBlock} {s : State} {w : Wqe} {k : Nat} {q : Qp} {d : Dev} (h1 : s.dev.cmdOf n 0x23 = some w)
    (h2 : s.dev.qpOfCmd n w = some (k, q)) (h3 : s.dev.modifyQp k q b = (d, Status.ok)) :
    onModify n b s = .next { s with dev := d.cmdFinish n 0 0 0 } := by
  simp only [onModify, h1, h2, h3, if_true]; rfl

/-- A MODIFY_QP that fails. -/
theorem onModify_bad {n : Nat} {b : QpBlock} {s : State} {w : Wqe} {k : Nat} {q : Qp} {d : Dev} {c : Nat} (h1 : s.dev.cmdOf n 0x23 = some w)
    (h2 : s.dev.qpOfCmd n w = some (k, q)) (h3 : s.dev.modifyQp k q b = (d, c)) (h4 : c ≠ Status.ok) :
    onModify n b s = .next { s with dev := s.dev.cmdFinish n c 0 0 } := by
  simp only [onModify, h1, h2, h3, if_neg h4]; rfl

/-- Without an armed perturbation a scrub read is as it was. -/
theorem scrubbed_unarmed (d : Dev) (x : Option Nat) (y h p : Nat) (r : EccResult) (e : d.test.armed = []) : d.scrubbed x y h p r = (r, d) := by
  simp only [Dev.scrubbed, Dev.injectAt, e, List.find?_nil]
  cases x <;> rfl

/-- A choice of devices is a choice of answers. -/
theorem onDev_ite (s : State) (c : Prop) [Decidable c] (a b : Dev) :
    (if c then onDev s a else onDev s b) = .next { s with dev := if c then a else b } := by split <;> rfl

/-- An unlock response never answers S_STATE. -/
theorem unlockResponse_ne (d : Dev) (l : Bool) (key sig : List Byte) : (d.unlockResponse l key sig).2 ≠ Status.state := by
  unfold Dev.unlockResponse
  dsimp only
  split
  · exact show ¬ Status.auth = Status.state by decide
  · split
    · exact show ¬ Status.auth = Status.state by decide
    · split
      · exact show ¬ Status.locked = Status.state by decide
      · split
        · exact show ¬ Status.ok = Status.state by decide
        · exact show ¬ Status.auth = Status.state by decide

/-- The unlock response written as an object. -/
theorem liveWrite_unlock (st : State) (u : Session) (o : ObjRow) (key sig : List Byte) (h3 : slice (key ++ sig) 0 1952 = key)
    (h4 : slice (key ++ sig) 1952 3309 = sig) :
    liveWrite st u ⟨0xC000, 3, 0⟩ o (.bytes (key ++ sig)) = ofDev st (st.dev.unlockResponse st.commitLock key sig) := by
  unfold liveWrite
  dsimp only
  rw [writeBoot_none _ _ _ _ (by decide), writeMgmt_none _ _ _ _ (by decide), writeLinks_none _ _ _ _ (by simp) (by simp),
    writeEngines_none _ _ _ (by simp) (by simp)]
  have a : writePower st u ⟨0xC000, 3, 0⟩ (Val.bytes (key ++ sig)).toNum = none := by rfl
  have b : writeTelemetry st u ⟨0xC000, 3, 0⟩ (.bytes (key ++ sig)) = some (ofDev st (st.dev.unlockResponse st.commitLock key sig)) := by
    unfold writeTelemetry
    show some (ofDev st (st.dev.unlockResponse st.commitLock (slice (key ++ sig) 0 1952) (slice (key ++ sig) 1952 3309))) = _
    rw [h3, h4]
  rw [a, b]; rfl

/-- A closing of a transfer whose write ends. -/
theorem close_done (st : State) (u : Session) (i : Item) (b : Blob) (q : ObjRec) (o : ObjRow) (st' : State) (c : Nat) (h1 : i.data.length = 36)
    (h2 : u.blobOf i.data = some b) (h3 : b.isWrite = true) (h4 : b.data.length = b.total) (h5 : Config.shake256 b.data 32 = slice i.data 4 32)
    (h6 : findRec b.key.idx = some q) (h7 : q.row b.key.sub = some o)
    (h8 : checkWrite st u q b.key o o.ty.code (some (.bytes b.data)) = .ok (.bytes b.data, false))
    (h9 : performWrite st u b.key o (.bytes b.data) = (st', .done c)) :
    closeItem st u i = (if succeeded c then st'.endBlob u.sid else st', .done (answerItem i c)) := by
  have h10 : closeWrite st u i b = (st', .done (answerItem i c)) := by
    unfold closeWrite
    simp only [h4, ne_eq, not_true_eq_false, if_false, h5, h6, h7]
    unfold writeValue
    rw [h8]
    simp only [h9]
    simp only [Bool.false_eq_true, and_false, if_false]
    rfl
  unfold closeItem
  rw [if_neg (by omega), h2]
  simp only [h3, Bool.not_true, Bool.false_eq_true, if_false, h10]
  rfl

/-- A WRITE request whose one item fails. -/
theorem receive_refused (s : State) (x : Session) (m : List Byte) (r : FbpRequest) (i : Item) (c : Nat)
   (h : ready s x r.rid = true) (hp : parseFbp m = .request r) (ho : r.opcode = Opcode.write)
   (hi : r.items = [i]) (hrun : writeItem (taken s x r m) (takenSes s x r m) i = (taken s x r m, failed i c)) (hy : succeeded c = false) :
   exec (.write x.sid m) s = .next (refused s x r m i c) := by
  have hses := ((ready_iff s x r.rid).1 h).1
  refine congrArg Host.Outcome.next ?_
  show receive s x.sid m = _
  rw [receive_request s x r m h hp]
  unfold execute
  simp only []
  rw [if_neg (by rw [ho]; decide), if_pos (.inr (.inl ho)), hi]
  have e : (execOf r m) = { rid := r.rid, opcode := r.opcode, staged := r.staged, todo := [i], done := [], wait := .none, raw := m } := by simp [execOf, hi]
  rw [← e]
  have t : ({ s with dev := (counted s x).park x.sid (execOf r m) } : State) = taken s x r m := rfl
  rw [t]
  unfold runItems
  rw [taken_ses _ _ _ _ hses]
  simp only []
  rw [runItem_write _ _ _ _ (by exact ho), hrun]
  simp only [failed]
  rw [if_neg (by show ¬ succeeded c = true; rw [hy]; decide)]
  rfl

/-- A READ, WRITE or DESCRIBE request of one item that fails is answered with the item's status, and otherwise as it was taken up (R53, R74). -/
theorem receive_failed (s : State) (x : Session) (m : List Byte) (r : FbpRequest) (i : Item) (c : Nat)
   (h : ready s x r.rid = true) (hp : parseFbp m = .request r) (ho : r.opcode = Opcode.read ∨ r.opcode = Opcode.write ∨ r.opcode = Opcode.describe)
   (hi : r.items = [i]) (hrun : runItem (taken s x r m) (takenSes s x r m) (execOf r m) i = (taken s x r m, failed i c)) (hy : succeeded c = false) :
   receive s x.sid m = refused s x r m i c := by
  have hses := ((ready_iff s x r.rid).1 h).1
  rw [receive_request s x r m h hp]
  unfold execute
  simp only []
  rw [if_neg (by rcases ho with h | h | h <;> rw [h] <;> decide), if_pos ho, hi]
  have e : (execOf r m) = { rid := r.rid, opcode := r.opcode, staged := r.staged, todo := [i], done := [], wait := .none, raw := m } := by simp [execOf, hi]
  rw [← e]
  have t : ({ s with dev := (counted s x).park x.sid (execOf r m) } : State) = taken s x r m := rfl
  rw [t]
  unfold runItems
  rw [taken_ses _ _ _ _ hses]
  simp only []
  have hrun' : runItem (taken s x r m) (takenSes s x r m) { execOf r m with todo := [i] } i = (taken s x r m, failed i c) := by
    rw [e] at hrun; exact hrun
  rw [hrun']
  simp only [failed]
  rw [if_neg (by show ¬ succeeded c = true; rw [hy]; decide)]
  rfl

/-- What an echo takes from one weight and gives the others, as sums. -/
theorem shift_sum (p low take q r : Nat) : ∀ l : List (Nat × Nat), (∀ e ∈ l, e.1 = p → take ≤ e.2) →
    ((l.map (fun e => if e.1 = p then (e.1, e.2 - take) else (e.1, e.2 + q + (if e.1 = low then r else 0)))).map (fun e => e.2)).sum + take * l.countP (fun e => e.1 == p) =
      (l.map (fun e => e.2)).sum + q * l.countP (fun e => e.1 != p) + r * l.countP (fun e => e.1 == low && e.1 != p) := by
  intro l
  induction l with
  | nil => intro _; rfl
  | cons e t ih =>
    intro h
    have i := ih (fun e he => h e (by simp [he]))
    have h0 := h e (by simp)
    simp only [List.map_cons, List.sum_cons, List.countP_cons] at i ⊢
    by_cases a : e.1 = p
    · have := h0 a
      simp only [a, if_true, beq_self_eq_true, bne_self_eq_false, Bool.and_false, Bool.false_eq_true, if_false, Nat.add_zero, Nat.mul_add, Nat.mul_one] at i ⊢
      omega
    · have b1 : (e.1 == p) = false := by simpa using a
      have b2 : (e.1 != p) = true := by simpa using a
      by_cases c : e.1 = low
      · have b3 : (e.1 == low) = true := by simpa using c
        simp only [a, b1, b2, b3, if_pos c, if_true, if_false, Bool.false_eq_true, Bool.and_self, Nat.mul_add, Nat.mul_one, Nat.add_zero] at i ⊢
        omega
      · have b3 : (e.1 == low) = false := by simpa using c
        simp only [a, b1, b2, b3, if_neg c, if_true, if_false, Bool.false_eq_true, Bool.false_and, Nat.mul_add, Nat.mul_one, Nat.add_zero] at i ⊢
        omega

/-- The least of a list is in it. -/
theorem foldl_min_mem : ∀ (l : List Nat) (a : Nat), l.foldl min a = a ∨ l.foldl min a ∈ l := by
  intro l
  induction l with
  | nil => intro a; exact .inl rfl
  | cons x t ih =>
    intro a
    rcases ih (min a x) with h | h
    · rw [List.foldl_cons, h]
      rcases Nat.le_total a x with b | b
      · left; exact Nat.min_eq_left b
      · right; rw [Nat.min_eq_right b]; simp
    · right; rw [List.foldl_cons]; exact List.mem_cons_of_mem _ h

/-- An element of a list without repeats occurs once. -/
theorem countP_nodup (x : Nat) : ∀ l : List (Nat × Nat), (l.map (fun e => e.1)).Nodup → x ∈ l.map (fun e => e.1) → l.countP (fun e => e.1 == x) = 1 := by
  intro l h hx
  have : l.countP (fun e => e.1 == x) = (l.map (fun e => e.1)).count x := by
    rw [List.count, List.countP_map]; rfl
  rw [this]; exact List.count_eq_one_of_mem h hx

end Sys2Proof.Safety
end

