-- ==== Sys2Proof/Laws/Steps.lean ====
section
/-!
SUPPORT. Sys2Proof/Laws/Steps.lean: what no operation of a session's messages takes back: the queue of commands stays, the
OTP cells only grow and stay sound (R95), and the commit lock stays set (R62).
-/
namespace Sys2Proof.Safety
open Sys2Proof.Machine

/-- The state after an operation holds the same queue, no less in its OTP cells, and a commit lock that was set. -/
def Kept (s t : State) : Prop :=
  t.pending = s.pending ∧ otpGrows s.otp t.otp ∧ (otpSound s.otp → otpSound t.otp) ∧ (s.commitLock = true → t.commitLock = true)

theorem Kept.refl (s : State) : Kept s s := ⟨rfl, ⟨Nat.le_refl _, fun _ h => h⟩, id, id⟩

theorem Kept.dev (s : State) (d : Dev) : Kept s { s with dev := d } := ⟨rfl, ⟨Nat.le_refl _, fun _ h => h⟩, id, id⟩

theorem Kept.trans {s t u : State} (a : Kept s t) (b : Kept t u) : Kept s u :=
  ⟨b.1.trans a.1, ⟨Nat.le_trans a.2.1.1 b.2.1.1, fun k h => b.2.1.2 k (a.2.1.2 k h)⟩, fun h => b.2.2.1 (a.2.2.1 h), fun h => b.2.2.2 (a.2.2.2 h)⟩

theorem Kept.of_dev {s t : State} {d : Dev} (a : Kept { s with dev := d } t) : Kept s t := (Kept.dev s d).trans a

theorem Kept.then_dev {s t : State} (a : Kept s t) (d : Dev) : Kept s { t with dev := d } := a.trans (Kept.dev t d)

theorem revoke_sound (r n : Nat) (h : r < 15) (h2 : (r ||| field n 0 4) ≠ 15) : (r ||| field n 0 4) < 15 := by
  have a : r < 2 ^ 4 := by omega
  have b : field n 0 4 < 2 ^ 4 := Nat.mod_lt _ (by decide)
  have := Nat.or_lt_two_pow a b
  omega

theorem commitOtp_kept (s : State) : Kept s (commitOtp s).1 := by
  unfold commitOtp no
  split
  · split
    · exact ⟨rfl, ⟨Nat.le_max_left _ _, fun _ h => h⟩, id, id⟩
    · exact Kept.refl s
  · exact Kept.refl s

theorem revokeOtp_kept (s : State) (n : Nat) : Kept s (revokeOtp s n).1 := by
  unfold revokeOtp no
  dsimp only
  split
  · split
    · exact Kept.refl s
    · rename_i h
      simp only [Bool.or_eq_true, beq_iff_eq, not_or] at h
      refine ⟨rfl, ⟨Nat.le_refl _, fun k hk => ?_⟩, fun hs => revoke_sound _ _ hs h.2, id⟩
      show (s.otp.revoked ||| field n 0 4).testBit k = true
      rw [Nat.testBit_or, hk, Bool.true_or]
  · exact Kept.refl s

theorem writeImage_kept (s : State) (h : Half) (sl : FwSlot) (img : List Byte) : Kept s (writeImage s h sl img).1 := by
  unfold writeImage no okDev ofDev
  dsimp only
  repeat' split
  all_goals first | exact Kept.refl s | exact Kept.dev s _

/-- A write whose effect, if any, keeps what is kept. -/
def KeptWrite (s : State) (w : Option Written) : Prop := ∀ x, w = some x → Kept s x.1

theorem keptWrite_none (s : State) : KeptWrite s none := fun _ h => by cases h
theorem keptWrite_some (s : State) (x : Written) (h : Kept s x.1) : KeptWrite s (some x) := fun _ e => by cases e; exact h
theorem keptWrite_dev (s : State) (d : Dev) (w : WriteResult) : KeptWrite s (some ({ s with dev := d }, w)) := keptWrite_some s _ (Kept.dev s d)

theorem writeBoot_kept (s : State) (x : Session) (k : Key) (v : Val) : KeptWrite s (writeBoot s x k v) := by
  unfold writeBoot
  split
  case h_5 => exact keptWrite_some s _ (writeImage_kept _ _ _ _)
  case h_6 => exact keptWrite_some s _ (writeImage_kept _ _ _ _)
  case h_7 => exact keptWrite_some s _ (commitOtp_kept s)
  case h_8 => exact keptWrite_some s _ (revokeOtp_kept s _)
  all_goals first | exact keptWrite_none s | exact keptWrite_dev s _ _

theorem writeMgmt_kept (s : State) (x : Session) (k : Key) (v : Val) : KeptWrite s (writeMgmt s x k v) := by
  unfold writeMgmt
  split
  case h_3 => refine keptWrite_some s _ ?_; unfold writeCommit; split <;> exact Kept.dev s _
  case h_4 => exact keptWrite_some s _ ⟨rfl, ⟨Nat.le_refl _, fun _ h => h⟩, id, fun h => by show (s.commitLock || _) = true; rw [h]; rfl⟩
  all_goals first | exact keptWrite_none s | exact keptWrite_dev s _ _

theorem writeLinks_kept (s : State) (x : Session) (k : Key) (n : Nat) : KeptWrite s (writeLinks s x k n) := by
  unfold writeLinks
  repeat' split
  all_goals first | exact keptWrite_none s | exact keptWrite_dev s _ _

theorem writeEngines_kept (s : State) (k : Key) (n : Nat) : KeptWrite s (writeEngines s k n) := by
  unfold writeEngines
  repeat' split
  all_goals first | exact keptWrite_none s | exact keptWrite_dev s _ _

theorem writePower_kept (s : State) (x : Session) (k : Key) (n : Nat) : KeptWrite s (writePower s x k n) := by
  unfold writePower
  split
  · split <;> first | exact keptWrite_none s | exact keptWrite_dev s _ _
  · split <;> first | exact keptWrite_none s | exact keptWrite_dev s _ _

theorem writeTelemetry_kept (s : State) (x : Session) (k : Key) (v : Val) : KeptWrite s (writeTelemetry s x k v) := by
  unfold writeTelemetry
  split <;> first | exact keptWrite_none s | exact keptWrite_dev s _ _

theorem KeptWrite.or {s : State} {a b : Option Written} (ha : KeptWrite s a) (hb : KeptWrite s b) : KeptWrite s (a <|> b) := by
  cases a with
  | none => exact hb
  | some x => exact ha

theorem liveWrite_kept (s : State) (x : Session) (k : Key) (o : ObjRow) (v : Val) : Kept s (liveWrite s x k o v).1 := by
  have h : KeptWrite s (writeBoot s x k v <|> writeMgmt s x k v <|> writeLinks s x k v.toNum <|> writeEngines s k v.toNum <|>
      writePower s x k v.toNum <|> writeTelemetry s x k v) :=
    (writeBoot_kept s x k v).or ((writeMgmt_kept s x k v).or ((writeLinks_kept s x k _).or ((writeEngines_kept s k _).or
      ((writePower_kept s x k _).or (writeTelemetry_kept s x k v)))))
  unfold liveWrite
  dsimp only
  split
  · rename_i w e; exact h _ e
  · unfold okDev ofDev; split <;> exact Kept.dev s _

theorem performWrite_kept (s : State) (x : Session) (k : Key) (o : ObjRow) (v : Val) : Kept s (performWrite s x k o v).1 := by
  unfold performWrite
  split
  · exact Kept.dev s _
  · exact Kept.dev s _
  · split
    · exact Kept.refl s
    · exact liveWrite_kept s x k o v

/-! Items. -/

theorem readItem_kept (s : State) (x : Session) (e : Exec) (i : Item) : Kept s (readItem s x e i).1 := by
  unfold readItem
  dsimp only
  repeat' split
  all_goals first | exact Kept.refl s | exact Kept.dev s _

theorem describeItem_kept (s : State) (x : Session) (e : Exec) (i : Item) : Kept s (describeItem s x e i).1 := by
  unfold describeItem
  repeat' split
  all_goals first | exact Kept.refl s | exact Kept.dev s _

theorem writeValue_kept (s : State) (x : Session) (r : ObjRec) (k : Key) (o : ObjRow) (i : Item) (ty : Nat) (v : Option Val) :
    Kept s (writeValue s x r k o i ty v).1 := by
  unfold writeValue
  split
  · dsimp only
    split
    · exact Kept.dev s _
    · exact Kept.refl s
  · rename_i w c e
    have := performWrite_kept s x k o w
    split <;> (rename_i h; rw [h] at this; exact this)

theorem writeItem_kept (s : State) (x : Session) (i : Item) : Kept s (writeItem s x i).1 := by
  unfold writeItem
  repeat' split
  all_goals first | exact Kept.refl s | exact writeValue_kept _ _ _ _ _ _ _ _

theorem runItem_kept (s : State) (x : Session) (e : Exec) (i : Item) : Kept s (runItem s x e i).1 := by
  unfold runItem
  split
  · exact readItem_kept s x e i
  · split
    · exact describeItem_kept s x e i
    · exact writeItem_kept s x i

theorem runItems_kept (sid : Nat) (l : List Item) : ∀ (e : Exec) (s : State), Kept s (runItems sid e l s) := by
  induction l with
  | nil => intro e s; exact Kept.dev s _
  | cons i t ih =>
    intro e s
    unfold runItems
    split
    · exact Kept.refl s
    · rename_i x _
      have h := runItem_kept s x { e with todo := i :: t } i
      split
      · rename_i h2; rw [h2] at h; exact h.then_dev _
      · rename_i h2; rw [h2] at h
        split
        · exact h.trans (ih _ _)
        · exact h.then_dev _

theorem openBlob_kept (s : State) (x : Session) (k : Key) (i : Item) (w : Bool) (n : Nat) (a b : List Byte) : Kept s (openBlob s x k i w n a b).1 := by
  unfold openBlob
  split
  · exact Kept.refl s
  · exact Kept.dev s _

theorem openItem_kept (s : State) (x : Session) (i : Item) : Kept s (openItem s x i).1 := by
  unfold openItem
  split
  · split <;> exact Kept.refl s
  · dsimp only
    split
    · split
      · exact Kept.refl s
      · split
        · exact Kept.refl s
        · exact openBlob_kept _ _ _ _ _ _ _ _
    · repeat' split
      all_goals first | exact Kept.refl s | exact Kept.of_dev (openBlob_kept _ _ _ _ _ _ _ _)

theorem dataItem_kept (s : State) (x : Session) (i : Item) : Kept s (dataItem s x i).1 := by
  unfold dataItem
  dsimp only
  repeat' split
  all_goals first | exact Kept.refl s | exact Kept.dev s _

theorem closeWrite_kept (s : State) (x : Session) (i : Item) (b : Blob) : Kept s (closeWrite s x i b).1 := by
  unfold closeWrite
  repeat' split
  all_goals first | exact Kept.refl s | exact writeValue_kept _ _ _ _ _ _ _ _

theorem closeItem_kept (s : State) (x : Session) (i : Item) : Kept s (closeItem s x i).1 := by
  unfold closeItem
  split
  · exact Kept.refl s
  · split
    · exact Kept.refl s
    · rename_i b _
      split
      · exact Kept.dev s _
      · have h := closeWrite_kept s x i b
        split
        · rename_i e
          rw [e] at h
          dsimp only
          split
          · exact h.then_dev _
          · exact h
        · exact h

theorem abortItem_kept (s : State) (x : Session) (i : Item) : Kept s (abortItem s x i).1 := by
  unfold abortItem
  repeat' split
  all_goals first | exact Kept.refl s | exact Kept.dev s _

theorem runBlob_kept (sid : Nat) (e : Exec) (l : List Item) (s : State) : Kept s (runBlob sid e l s) := by
  unfold runBlob
  split
  · rename_i i x _
    have h : ∀ r : State × ItemResult, Kept s r.1 → Kept s (match r with
        | (st, .wait w) => { st with dev := st.dev.park sid { e with todo := [i], wait := w } }
        | (st, .done x) => finishRequest st sid { e with done := [x] } x.status) := by
      intro r hr
      split
      · exact hr.then_dev _
      · exact hr.then_dev _
    apply h
    repeat' split
    · exact openItem_kept s x i
    · exact dataItem_kept s x i
    · exact closeItem_kept s x i
    · exact abortItem_kept s x i
  · exact Kept.dev s _

/-! Messages. -/

theorem execute_kept (s : State) (sid : Nat) (r : FbpRequest) (m : List Byte) : Kept s (execute s sid r m) := by
  unfold execute
  dsimp only
  split
  · exact (Kept.dev s _).then_dev _
  · split
    · exact Kept.of_dev (runItems_kept _ _ _ _)
    · exact Kept.of_dev (runBlob_kept _ _ _ _)

theorem takeRequest_kept (s : State) (x : Session) (r : FbpRequest) (m : List Byte) : Kept s (takeRequest s x r m) := by
  unfold takeRequest
  dsimp only
  repeat' split
  all_goals first | exact Kept.refl s | exact Kept.dev s _ | exact execute_kept _ _ _ _

theorem takeMessage_kept (s : State) (x : Session) (m : List Byte) : Kept s (takeMessage s x m) := by
  unfold takeMessage
  split
  · exact Kept.refl s
  · dsimp only
    split
    all_goals first | exact Kept.dev s _ | exact Kept.of_dev (takeRequest_kept _ _ _ _)

theorem mctpFirst_kept (s : State) (sid v eid : Nat) (m : List Byte) : Kept s (mctpFirst s sid v eid m) := by
  unfold mctpFirst
  dsimp only
  repeat' split
  all_goals first | exact Kept.refl s | exact Kept.of_dev (takeMessage_kept _ _ _) | exact Kept.dev s _

theorem receive_kept (s : State) (sid : Nat) (m : List Byte) : Kept s (receive s sid m) := by
  unfold receive
  split
  · exact takeMessage_kept _ _ _
  · split
    · exact mctpFirst_kept _ _ _ _ _
    · split
      · exact Kept.dev s _
      · exact Kept.refl s

theorem answerWait_kept (s : State) (sid status : Nat) : Kept s (answerWait s sid status) := by
  unfold answerWait
  split
  · exact Kept.refl s
  · split
    · exact Kept.refl s
    · exact Kept.refl s
    · dsimp only
      split
      · split
        · exact Kept.of_dev (runItems_kept _ _ _ _)
        · exact Kept.dev s _
      · exact Kept.dev s _

theorem nextRequest_kept (s : State) (sid : Nat) : Kept s (nextRequest s sid) := by
  unfold nextRequest
  split
  · exact Kept.refl s
  · split
    · dsimp only
      split
      · exact Kept.of_dev (execute_kept _ _ _ _)
      · exact Kept.dev s _
    · exact Kept.refl s

theorem writeObject_kept (s : State) (sid rid idx sub : Nat) (ty : ObjType) (n : Nat) : Kept s (writeObject s sid rid idx sub ty n) := receive_kept _ _ _

theorem writeEntry_kept (s : State) (sid rid idx e sub : Nat) (ty : ObjType) (n : Nat) : Kept s (writeEntry s sid rid idx e sub ty n) :=
  receive_kept _ _ _

theorem endFar_kept (s : State) (k : Nat) (f : FarReq) (r : SbResult) : Kept s (endFar s k f r) := by
  unfold endFar
  dsimp only
  repeat' split
  all_goals first | exact Kept.dev s _ | exact Kept.of_dev (answerWait_kept _ _ _) | exact (Kept.dev s _).trans (Kept.of_dev (answerWait_kept _ _ _))

end Sys2Proof.Safety
end

