-- ==== Sys2Proof/Laws/Gives.lean ====
section
/-!
SUPPORT. Sys2Proof/Laws/Gives.lean: each command by itself answers a next state, and that state keeps what `Kept` says: the
queue, the OTP cells' order and the commit lock. PORST_N_FALL, which clears the lock, is not among them.
-/
namespace Sys2Proof.Safety
open Sys2Proof.Machine
set_option linter.unusedTactic false
set_option linter.unreachableTactic false

/-- A command's outcome is a next state that keeps what no command takes back. -/
def Gives (s : State) (o : Host.Outcome State Fault Refusal) : Prop := ∃ t, o = .next t ∧ Kept s t

theorem gives_dev (s : State) (d : Dev) : Gives s (onDev s d) := ⟨_, rfl, Kept.dev s d⟩

theorem gives_next (s t : State) (h : Kept s t) : Gives s (.next t) := ⟨_, rfl, h⟩

theorem gives_on (s t : State) (h : Kept s t) (d : Dev) : Gives s (onDev t d) := ⟨_, rfl, h.then_dev d⟩

theorem gives_self (s : State) : Gives s (.next s) := ⟨_, rfl, Kept.refl s⟩

theorem gives_ite (s : State) (c : Prop) [Decidable c] (a b : Host.Outcome State Fault Refusal) (ha : Gives s a) (hb : Gives s b) :
    Gives s (if c then a else b) := by
  split
  · exact ha
  · exact hb

theorem gives_modify (n : Nat) (b : QpBlock) (s : State) : Gives s (onModify n b s) := by
  unfold onModify; (try dsimp only)
  repeat' first
    | with_reducible exact gives_dev _ _ | with_reducible exact gives_self _ | (refine gives_next _ _ ?_; first | with_reducible exact Kept.refl _ | with_reducible exact receive_kept _ _ _ | with_reducible exact writeObject_kept _ _ _ _ _ _ _ | with_reducible exact writeEntry_kept _ _ _ _ _ _ _ _ | with_reducible exact answerWait_kept _ _ _ | with_reducible exact nextRequest_kept _ _ | with_reducible exact takeMessage_kept _ _ _ | with_reducible exact endFar_kept _ _ _ _ | refine Kept.of_dev (answerWait_kept _ _ _) | refine Kept.of_dev (takeMessage_kept _ _ _) | refine Kept.of_dev (receive_kept _ _ _) | exact Kept.dev _ _) | split

theorem gives_packet (h : Half) (p : RmePacket) (o : RmeOp) (s : State) : Gives s (onPacket h p o s) := by
  unfold onPacket; (try dsimp only)
  repeat' first
    | with_reducible exact gives_dev _ _ | with_reducible exact gives_self _ | (refine gives_next _ _ ?_; first | with_reducible exact Kept.refl _ | with_reducible exact receive_kept _ _ _ | with_reducible exact writeObject_kept _ _ _ _ _ _ _ | with_reducible exact writeEntry_kept _ _ _ _ _ _ _ _ | with_reducible exact answerWait_kept _ _ _ | with_reducible exact nextRequest_kept _ _ | with_reducible exact takeMessage_kept _ _ _ | with_reducible exact endFar_kept _ _ _ _ | refine Kept.of_dev (answerWait_kept _ _ _) | refine Kept.of_dev (takeMessage_kept _ _ _) | refine Kept.of_dev (receive_kept _ _ _) | exact Kept.dev _ _) | split

theorem gives_object (s : State) (sid rid idx sub : Nat) (ty : ObjType) (n : Nat) : Gives s (.next (writeObject s sid rid idx sub ty n)) :=
  gives_next _ _ (writeObject_kept _ _ _ _ _ _ _)

theorem gives_entry (s : State) (sid rid idx e sub : Nat) (ty : ObjType) (n : Nat) : Gives s (.next (writeEntry s sid rid idx e sub ty n)) :=
  gives_next _ _ (writeEntry_kept _ _ _ _ _ _ _ _)

theorem gives_message (s : State) (sid : Nat) (m : List Byte) : Gives s (.next (receive s sid m)) := gives_next _ _ (receive_kept _ _ _)

/-! One lemma per command. -/

theorem gives_vao18Ramp (s : State) : Gives s (exec (.vao18Ramp) s) := by
  show Gives s (execVao18Ramp s); unfold execVao18Ramp; (try dsimp only)
  repeat' first | with_reducible exact gives_dev _ _ | with_reducible exact gives_self _ | split

theorem gives_aoCrystalStart (s : State) : Gives s (exec (.aoCrystalStart) s) := by
  show Gives s (execAoCrystalStart s); unfold execAoCrystalStart; (try dsimp only)
  repeat' first | with_reducible exact gives_dev _ _ | with_reducible exact gives_self _ | split

theorem gives_porstNRise (s : State) : Gives s (exec (.porstNRise) s) := by
  show Gives s (execPorstNRise s); unfold execPorstNRise; (try dsimp only)
  repeat' first | with_reducible exact gives_dev _ _ | with_reducible exact gives_self _ | split

theorem gives_strapSample (s : State) : ∀ s1 s2 s3, Gives s (exec (.strapSample s1 s2 s3) s) := by
  intro s1 s2 s3; show Gives s (execStrapSample s1 s2 s3 s); unfold execStrapSample; (try dsimp only)
  repeat' first | with_reducible exact gives_dev _ _ | with_reducible exact gives_self _ | split

theorem gives_halvesRelease (s : State) : Gives s (exec (.halvesRelease) s) := by
  show Gives s (execHalvesRelease s); unfold execHalvesRelease; (try dsimp only)
  repeat' first | with_reducible exact gives_dev _ _ | with_reducible exact gives_self _ | split

theorem gives_romPass (s : State) : ∀ h, Gives s (exec (.romPass h) s) := by
  intro h; show Gives s (execRomPass h s); unfold execRomPass; (try dsimp only)
  repeat' first | with_reducible exact gives_dev _ _ | with_reducible exact gives_self _ | split

theorem gives_romSelfcheckRetry (s : State) : ∀ h passed, Gives s (exec (.romSelfcheckRetry h passed) s) := by
  intro h passed; show Gives s (execRomSelfcheckRetry h passed s); unfold execRomSelfcheckRetry; (try dsimp only)
  repeat' first | with_reducible exact gives_dev _ _ | with_reducible exact gives_self _ | split

theorem gives_rakeClaim (s : State) : ∀ h, Gives s (exec (.rakeClaim h) s) := by
  intro h; show Gives s (execRakeClaim h s); unfold execRakeClaim; (try dsimp only)
  repeat' first | with_reducible exact gives_dev _ _ | with_reducible exact gives_self _ | split

theorem gives_rakePrefDelayExpiry (s : State) : Gives s (exec (.rakePrefDelayExpiry) s) := by
  show Gives s (execRakePrefDelayExpiry s); unfold execRakePrefDelayExpiry; (try dsimp only)
  repeat' first | with_reducible exact gives_dev _ _ | with_reducible exact gives_self _ | split

theorem gives_rakeClaimTimeout (s : State) : Gives s (exec (.rakeClaimTimeout) s) := by
  show Gives s (execRakeClaimTimeout s); unfold execRakeClaimTimeout; (try dsimp only)
  repeat' first | with_reducible exact gives_dev _ _ | with_reducible exact gives_self _ | split

theorem gives_paDieUnreachable (s : State) : ∀ h, Gives s (exec (.paDieUnreachable h) s) := by
  intro h; show Gives s (execPaDieUnreachable h s); unfold execPaDieUnreachable; (try dsimp only)
  repeat' first | with_reducible exact gives_dev _ _ | with_reducible exact gives_self _ | split

theorem gives_seamTrained (s : State) : ∀ d m, Gives s (exec (.seamTrained d m) s) := by
  intro d m; show Gives s (execSeamTrained d m s); unfold execSeamTrained; (try dsimp only)
  repeat' first | with_reducible exact gives_dev _ _ | with_reducible exact gives_self _ | split

theorem gives_seamTrainTimeout (s : State) : Gives s (exec (.seamTrainTimeout) s) := by
  show Gives s (execSeamTrainTimeout s); unfold execSeamTrainTimeout; (try dsimp only)
  repeat' first | with_reducible exact gives_dev _ _ | with_reducible exact gives_self _ | split

theorem gives_qdrTrained (s : State) : ∀ stack, Gives s (exec (.qdrTrained stack) s) := by
  intro stack; show Gives s (execQdrTrained stack s); unfold execQdrTrained; (try dsimp only)
  repeat' first | with_reducible exact gives_dev _ _ | with_reducible exact gives_self _ | split

theorem gives_qdrTrainTimeout (s : State) : ∀ stack, Gives s (exec (.qdrTrainTimeout stack) s) := by
  intro stack; show Gives s (execQdrTrainTimeout stack s); unfold execQdrTrainTimeout; (try dsimp only)
  repeat' first | with_reducible exact gives_dev _ _ | with_reducible exact gives_self _ | split

theorem gives_imageVerified (s : State) : ∀ h slot img, Gives s (exec (.imageVerified h slot img) s) := by
  intro h slot img; show Gives s (execImageVerified h slot img s); unfold execImageVerified; (try dsimp only)
  repeat' first | with_reducible exact gives_dev _ _ | with_reducible exact gives_self _ | split

theorem gives_firmwareStart (s : State) : Gives s (exec (.firmwareStart) s) := by
  show Gives s (execFirmwareStart s); unfold execFirmwareStart; (try dsimp only)
  repeat' first | with_reducible exact gives_dev _ _ | with_reducible exact gives_self _ | split

theorem gives_bootStageTimeout (s : State) : ∀ st h, Gives s (exec (.bootStageTimeout st h) s) := by
  intro st h; show Gives s (execBootStageTimeout st h s); unfold execBootStageTimeout; (try dsimp only)
  repeat' first | with_reducible exact gives_dev _ _ | with_reducible exact gives_self _ | split

theorem gives_bootLaneCalibration (s : State) : ∀ failed, Gives s (exec (.bootLaneCalibration failed) s) := by
  intro failed; show Gives s (execBootLaneCalibration failed s); unfold execBootLaneCalibration; (try dsimp only)
  repeat' first | with_reducible exact gives_dev _ _ | with_reducible exact gives_self _ | split

theorem gives_healthyDeclare (s : State) : ∀ sid rid, Gives s (exec (.healthyDeclare sid rid) s) := by
  intro sid rid; exact gives_object _ _ _ _ _ _ _

theorem gives_watchdogKick (s : State) : ∀ h, Gives s (exec (.watchdogKick h) s) := by
  intro h; show Gives s (execWatchdogKick h s); unfold execWatchdogKick; (try dsimp only)
  repeat' first | with_reducible exact gives_dev _ _ | with_reducible exact gives_self _ | split

theorem gives_watchdogExpiry (s : State) : ∀ h, Gives s (exec (.watchdogExpiry h) s) := by
  intro h; show Gives s (execWatchdogExpiry h s); unfold execWatchdogExpiry; (try dsimp only)
  repeat' first | with_reducible exact gives_dev _ _ | with_reducible exact gives_self _ | split

theorem gives_clusterRejoin (s : State) : ∀ h, Gives s (exec (.clusterRejoin h) s) := by
  intro h; show Gives s (execClusterRejoin h s); unfold execClusterRejoin; (try dsimp only)
  repeat' first | with_reducible exact gives_dev _ _ | with_reducible exact gives_self _ | split

theorem gives_warmResetRequest (s : State) : ∀ sid rid, Gives s (exec (.warmResetRequest sid rid) s) := by
  intro sid rid; exact gives_object _ _ _ _ _ _ _

theorem gives_crocusForce (s : State) : ∀ sid rid, Gives s (exec (.crocusForce sid rid) s) := by
  intro sid rid; exact gives_object _ _ _ _ _ _ _

theorem gives_crocusExit (s : State) : ∀ sid rid, Gives s (exec (.crocusExit sid rid) s) := by
  intro sid rid; exact gives_object _ _ _ _ _ _ _

theorem gives_crocusExitDefaults (s : State) : ∀ sid rid, Gives s (exec (.crocusExitDefaults sid rid) s) := by
  intro sid rid; exact gives_object _ _ _ _ _ _ _

theorem gives_otpCommit (s : State) : ∀ sid rid, Gives s (exec (.otpCommit sid rid) s) := by
  intro sid rid; exact gives_object _ _ _ _ _ _ _

theorem gives_otpRevoke (s : State) : ∀ sid rid slots, Gives s (exec (.otpRevoke sid rid slots) s) := by
  intro sid rid slots; exact gives_object _ _ _ _ _ _ _

theorem gives_rakeHandover (s : State) : ∀ sid rid, Gives s (exec (.rakeHandover sid rid) s) := by
  intro sid rid; exact gives_object _ _ _ _ _ _ _

theorem gives_holderDemote (s : State) : ∀ h, Gives s (exec (.holderDemote h) s) := by
  intro h; show Gives s (execHolderDemote h s); unfold execHolderDemote; (try dsimp only)
  repeat' first | with_reducible exact gives_dev _ _ | with_reducible exact gives_self _ | split

theorem gives_farTimeout (s : State) : ∀ sid, Gives s (exec (.farTimeout sid) s) := by
  intro sid; show Gives s (execFarTimeout sid s); unfold execFarTimeout; (try dsimp only)
  repeat' first
    | with_reducible exact gives_dev _ _ | with_reducible exact gives_self _ | (refine gives_next _ _ ?_; first | with_reducible exact Kept.refl _ | with_reducible exact receive_kept _ _ _ | with_reducible exact writeObject_kept _ _ _ _ _ _ _ | with_reducible exact writeEntry_kept _ _ _ _ _ _ _ _ | with_reducible exact answerWait_kept _ _ _ | with_reducible exact nextRequest_kept _ _ | with_reducible exact takeMessage_kept _ _ _ | with_reducible exact endFar_kept _ _ _ _ | refine Kept.of_dev (answerWait_kept _ _ _) | refine Kept.of_dev (takeMessage_kept _ _ _) | refine Kept.of_dev (receive_kept _ _ _) | exact Kept.dev _ _) | split

theorem gives_read (s : State) : ∀ sid msg, Gives s (exec (.read sid msg) s) := by
  intro sid msg; show Gives s (execRead sid msg s); unfold execRead; (try dsimp only)
  repeat' first
    | with_reducible exact gives_dev _ _ | with_reducible exact gives_self _ | (refine gives_next _ _ ?_; first | with_reducible exact Kept.refl _ | with_reducible exact receive_kept _ _ _ | with_reducible exact writeObject_kept _ _ _ _ _ _ _ | with_reducible exact writeEntry_kept _ _ _ _ _ _ _ _ | with_reducible exact answerWait_kept _ _ _ | with_reducible exact nextRequest_kept _ _ | with_reducible exact takeMessage_kept _ _ _ | with_reducible exact endFar_kept _ _ _ _ | refine Kept.of_dev (answerWait_kept _ _ _) | refine Kept.of_dev (takeMessage_kept _ _ _) | refine Kept.of_dev (receive_kept _ _ _) | exact Kept.dev _ _) | split

theorem gives_write (s : State) : ∀ sid msg, Gives s (exec (.write sid msg) s) := by
  intro sid msg; show Gives s (execWrite sid msg s); unfold execWrite; (try dsimp only)
  repeat' first
    | with_reducible exact gives_dev _ _ | with_reducible exact gives_self _ | (refine gives_next _ _ ?_; first | with_reducible exact Kept.refl _ | with_reducible exact receive_kept _ _ _ | with_reducible exact writeObject_kept _ _ _ _ _ _ _ | with_reducible exact writeEntry_kept _ _ _ _ _ _ _ _ | with_reducible exact answerWait_kept _ _ _ | with_reducible exact nextRequest_kept _ _ | with_reducible exact takeMessage_kept _ _ _ | with_reducible exact endFar_kept _ _ _ _ | refine Kept.of_dev (answerWait_kept _ _ _) | refine Kept.of_dev (takeMessage_kept _ _ _) | refine Kept.of_dev (receive_kept _ _ _) | exact Kept.dev _ _) | split

theorem gives_describe (s : State) : ∀ sid msg, Gives s (exec (.describe sid msg) s) := by
  intro sid msg; show Gives s (execDescribe sid msg s); unfold execDescribe; (try dsimp only)
  repeat' first
    | with_reducible exact gives_dev _ _ | with_reducible exact gives_self _ | (refine gives_next _ _ ?_; first | with_reducible exact Kept.refl _ | with_reducible exact receive_kept _ _ _ | with_reducible exact writeObject_kept _ _ _ _ _ _ _ | with_reducible exact writeEntry_kept _ _ _ _ _ _ _ _ | with_reducible exact answerWait_kept _ _ _ | with_reducible exact nextRequest_kept _ _ | with_reducible exact takeMessage_kept _ _ _ | with_reducible exact endFar_kept _ _ _ _ | refine Kept.of_dev (answerWait_kept _ _ _) | refine Kept.of_dev (takeMessage_kept _ _ _) | refine Kept.of_dev (receive_kept _ _ _) | exact Kept.dev _ _) | split

theorem gives_blobOpen (s : State) : ∀ sid msg, Gives s (exec (.blobOpen sid msg) s) := by
  intro sid msg; show Gives s (execBlobOpen sid msg s); unfold execBlobOpen; (try dsimp only)
  repeat' first
    | with_reducible exact gives_dev _ _ | with_reducible exact gives_self _ | (refine gives_next _ _ ?_; first | with_reducible exact Kept.refl _ | with_reducible exact receive_kept _ _ _ | with_reducible exact writeObject_kept _ _ _ _ _ _ _ | with_reducible exact writeEntry_kept _ _ _ _ _ _ _ _ | with_reducible exact answerWait_kept _ _ _ | with_reducible exact nextRequest_kept _ _ | with_reducible exact takeMessage_kept _ _ _ | with_reducible exact endFar_kept _ _ _ _ | refine Kept.of_dev (answerWait_kept _ _ _) | refine Kept.of_dev (takeMessage_kept _ _ _) | refine Kept.of_dev (receive_kept _ _ _) | exact Kept.dev _ _) | split

theorem gives_blobData (s : State) : ∀ sid msg, Gives s (exec (.blobData sid msg) s) := by
  intro sid msg; show Gives s (execBlobData sid msg s); unfold execBlobData; (try dsimp only)
  repeat' first
    | with_reducible exact gives_dev _ _ | with_reducible exact gives_self _ | (refine gives_next _ _ ?_; first | with_reducible exact Kept.refl _ | with_reducible exact receive_kept _ _ _ | with_reducible exact writeObject_kept _ _ _ _ _ _ _ | with_reducible exact writeEntry_kept _ _ _ _ _ _ _ _ | with_reducible exact answerWait_kept _ _ _ | with_reducible exact nextRequest_kept _ _ | with_reducible exact takeMessage_kept _ _ _ | with_reducible exact endFar_kept _ _ _ _ | refine Kept.of_dev (answerWait_kept _ _ _) | refine Kept.of_dev (takeMessage_kept _ _ _) | refine Kept.of_dev (receive_kept _ _ _) | exact Kept.dev _ _) | split

theorem gives_blobClose (s : State) : ∀ sid msg, Gives s (exec (.blobClose sid msg) s) := by
  intro sid msg; show Gives s (execBlobClose sid msg s); unfold execBlobClose; (try dsimp only)
  repeat' first
    | with_reducible exact gives_dev _ _ | with_reducible exact gives_self _ | (refine gives_next _ _ ?_; first | with_reducible exact Kept.refl _ | with_reducible exact receive_kept _ _ _ | with_reducible exact writeObject_kept _ _ _ _ _ _ _ | with_reducible exact writeEntry_kept _ _ _ _ _ _ _ _ | with_reducible exact answerWait_kept _ _ _ | with_reducible exact nextRequest_kept _ _ | with_reducible exact takeMessage_kept _ _ _ | with_reducible exact endFar_kept _ _ _ _ | refine Kept.of_dev (answerWait_kept _ _ _) | refine Kept.of_dev (takeMessage_kept _ _ _) | refine Kept.of_dev (receive_kept _ _ _) | exact Kept.dev _ _) | split

theorem gives_blobAbort (s : State) : ∀ sid msg, Gives s (exec (.blobAbort sid msg) s) := by
  intro sid msg; show Gives s (execBlobAbort sid msg s); unfold execBlobAbort; (try dsimp only)
  repeat' first
    | with_reducible exact gives_dev _ _ | with_reducible exact gives_self _ | (refine gives_next _ _ ?_; first | with_reducible exact Kept.refl _ | with_reducible exact receive_kept _ _ _ | with_reducible exact writeObject_kept _ _ _ _ _ _ _ | with_reducible exact writeEntry_kept _ _ _ _ _ _ _ _ | with_reducible exact answerWait_kept _ _ _ | with_reducible exact nextRequest_kept _ _ | with_reducible exact takeMessage_kept _ _ _ | with_reducible exact endFar_kept _ _ _ _ | refine Kept.of_dev (answerWait_kept _ _ _) | refine Kept.of_dev (takeMessage_kept _ _ _) | refine Kept.of_dev (receive_kept _ _ _) | exact Kept.dev _ _) | split

theorem gives_blobTimeout (s : State) : ∀ sid, Gives s (exec (.blobTimeout sid) s) := by
  intro sid; show Gives s (execBlobTimeout sid s); unfold execBlobTimeout; (try dsimp only)
  repeat' first
    | with_reducible exact gives_dev _ _ | with_reducible exact gives_self _ | (refine gives_next _ _ ?_; first | with_reducible exact Kept.refl _ | with_reducible exact receive_kept _ _ _ | with_reducible exact writeObject_kept _ _ _ _ _ _ _ | with_reducible exact writeEntry_kept _ _ _ _ _ _ _ _ | with_reducible exact answerWait_kept _ _ _ | with_reducible exact nextRequest_kept _ _ | with_reducible exact takeMessage_kept _ _ _ | with_reducible exact endFar_kept _ _ _ _ | refine Kept.of_dev (answerWait_kept _ _ _) | refine Kept.of_dev (takeMessage_kept _ _ _) | refine Kept.of_dev (receive_kept _ _ _) | exact Kept.dev _ _) | split

theorem gives_ping (s : State) : ∀ sid msg, Gives s (exec (.ping sid msg) s) := by
  intro sid msg; show Gives s (execPing sid msg s); unfold execPing; (try dsimp only)
  repeat' first
    | with_reducible exact gives_dev _ _ | with_reducible exact gives_self _ | (refine gives_next _ _ ?_; first | with_reducible exact Kept.refl _ | with_reducible exact receive_kept _ _ _ | with_reducible exact writeObject_kept _ _ _ _ _ _ _ | with_reducible exact writeEntry_kept _ _ _ _ _ _ _ _ | with_reducible exact answerWait_kept _ _ _ | with_reducible exact nextRequest_kept _ _ | with_reducible exact takeMessage_kept _ _ _ | with_reducible exact endFar_kept _ _ _ _ | refine Kept.of_dev (answerWait_kept _ _ _) | refine Kept.of_dev (takeMessage_kept _ _ _) | refine Kept.of_dev (receive_kept _ _ _) | exact Kept.dev _ _) | split

theorem gives_notifyAck (s : State) : ∀ sid requestId, Gives s (exec (.notifyAck sid requestId) s) := by
  intro sid requestId; exact gives_message _ _ _

theorem gives_fbpResponseDiscard (s : State) : ∀ sid msg, Gives s (exec (.fbpResponseDiscard sid msg) s) := by
  intro sid msg; show Gives s (execFbpResponseDiscard sid msg s); unfold execFbpResponseDiscard; (try dsimp only)
  repeat' first
    | with_reducible exact gives_dev _ _ | with_reducible exact gives_self _ | (refine gives_next _ _ ?_; first | with_reducible exact Kept.refl _ | with_reducible exact receive_kept _ _ _ | with_reducible exact writeObject_kept _ _ _ _ _ _ _ | with_reducible exact writeEntry_kept _ _ _ _ _ _ _ _ | with_reducible exact answerWait_kept _ _ _ | with_reducible exact nextRequest_kept _ _ | with_reducible exact takeMessage_kept _ _ _ | with_reducible exact endFar_kept _ _ _ _ | refine Kept.of_dev (answerWait_kept _ _ _) | refine Kept.of_dev (takeMessage_kept _ _ _) | refine Kept.of_dev (receive_kept _ _ _) | exact Kept.dev _ _) | split

theorem gives_requestExecute (s : State) : ∀ sid, Gives s (exec (.requestExecute sid) s) := by
  intro sid; show Gives s (execRequestExecute sid s); unfold execRequestExecute; (try dsimp only)
  repeat' first
    | with_reducible exact gives_dev _ _ | with_reducible exact gives_self _ | (refine gives_next _ _ ?_; first | with_reducible exact Kept.refl _ | with_reducible exact receive_kept _ _ _ | with_reducible exact writeObject_kept _ _ _ _ _ _ _ | with_reducible exact writeEntry_kept _ _ _ _ _ _ _ _ | with_reducible exact answerWait_kept _ _ _ | with_reducible exact nextRequest_kept _ _ | with_reducible exact takeMessage_kept _ _ _ | with_reducible exact endFar_kept _ _ _ _ | refine Kept.of_dev (answerWait_kept _ _ _) | refine Kept.of_dev (takeMessage_kept _ _ _) | refine Kept.of_dev (receive_kept _ _ _) | exact Kept.dev _ _) | split

theorem gives_objectWrite (s : State) : ∀ sid rid index sub type data, Gives s (exec (.objectWrite sid rid index sub type data) s) := by
  intro sid rid index sub type data; exact gives_message _ _ _

theorem gives_cfgCommit (s : State) : ∀ sid rid, Gives s (exec (.cfgCommit sid rid) s) := by
  intro sid rid; show Gives s (execCfgCommit sid rid s); unfold execCfgCommit; (try dsimp only)
  repeat' first
    | with_reducible exact gives_dev _ _ | with_reducible exact gives_self _ | (refine gives_next _ _ ?_; first | with_reducible exact Kept.refl _ | with_reducible exact receive_kept _ _ _ | with_reducible exact writeObject_kept _ _ _ _ _ _ _ | with_reducible exact writeEntry_kept _ _ _ _ _ _ _ _ | with_reducible exact answerWait_kept _ _ _ | with_reducible exact nextRequest_kept _ _ | with_reducible exact takeMessage_kept _ _ _ | with_reducible exact endFar_kept _ _ _ _ | refine Kept.of_dev (answerWait_kept _ _ _) | refine Kept.of_dev (takeMessage_kept _ _ _) | refine Kept.of_dev (receive_kept _ _ _) | exact Kept.dev _ _) | split

theorem gives_cfgDiscard (s : State) : ∀ sid rid, Gives s (exec (.cfgDiscard sid rid) s) := by
  intro sid rid; show Gives s (execCfgDiscard sid rid s); unfold execCfgDiscard; (try dsimp only)
  repeat' first
    | with_reducible exact gives_dev _ _ | with_reducible exact gives_self _ | (refine gives_next _ _ ?_; first | with_reducible exact Kept.refl _ | with_reducible exact receive_kept _ _ _ | with_reducible exact writeObject_kept _ _ _ _ _ _ _ | with_reducible exact writeEntry_kept _ _ _ _ _ _ _ _ | with_reducible exact answerWait_kept _ _ _ | with_reducible exact nextRequest_kept _ _ | with_reducible exact takeMessage_kept _ _ _ | with_reducible exact endFar_kept _ _ _ _ | refine Kept.of_dev (answerWait_kept _ _ _) | refine Kept.of_dev (takeMessage_kept _ _ _) | refine Kept.of_dev (receive_kept _ _ _) | exact Kept.dev _ _) | split

theorem gives_cfgCheck (s : State) : ∀ sid rid, Gives s (exec (.cfgCheck sid rid) s) := by
  intro sid rid; show Gives s (execCfgCheck sid rid s); unfold execCfgCheck; (try dsimp only)
  repeat' first
    | with_reducible exact gives_dev _ _ | with_reducible exact gives_self _ | (refine gives_next _ _ ?_; first | with_reducible exact Kept.refl _ | with_reducible exact receive_kept _ _ _ | with_reducible exact writeObject_kept _ _ _ _ _ _ _ | with_reducible exact writeEntry_kept _ _ _ _ _ _ _ _ | with_reducible exact answerWait_kept _ _ _ | with_reducible exact nextRequest_kept _ _ | with_reducible exact takeMessage_kept _ _ _ | with_reducible exact endFar_kept _ _ _ _ | refine Kept.of_dev (answerWait_kept _ _ _) | refine Kept.of_dev (takeMessage_kept _ _ _) | refine Kept.of_dev (receive_kept _ _ _) | exact Kept.dev _ _) | split

theorem gives_commitStart (s : State) : Gives s (exec (.commitStart) s) := by
  show Gives s (execCommitStart s); unfold execCommitStart; (try dsimp only)
  repeat' first | with_reducible exact gives_dev _ _ | with_reducible exact gives_self _ | split

theorem gives_commitWaitTimeout (s : State) : ∀ sid, Gives s (exec (.commitWaitTimeout sid) s) := by
  intro sid; show Gives s (execCommitWaitTimeout sid s); unfold execCommitWaitTimeout; (try dsimp only)
  repeat' first | with_reducible exact gives_dev _ _ | with_reducible exact gives_self _ | split

theorem gives_commitConfirm (s : State) : ∀ part status found, Gives s (exec (.commitConfirm part status found) s) := by
  intro part status found; show Gives s (execCommitConfirm part status found s); unfold execCommitConfirm; (try dsimp only)
  repeat' first | with_reducible exact gives_dev _ _ | with_reducible exact gives_self _ | split

theorem gives_commitPrepareTimeout (s : State) : ∀ part, Gives s (exec (.commitPrepareTimeout part) s) := by
  intro part; show Gives s (execCommitPrepareTimeout part s); unfold execCommitPrepareTimeout; (try dsimp only)
  repeat' first | with_reducible exact gives_dev _ _ | with_reducible exact gives_self _ | split

theorem gives_commitApply (s : State) : Gives s (exec (.commitApply) s) := by
  show Gives s (execCommitApply s); unfold execCommitApply; (try dsimp only)
  repeat' first
    | with_reducible exact gives_dev _ _ | with_reducible exact gives_self _ | (refine gives_next _ _ ?_; first | with_reducible exact Kept.refl _ | with_reducible exact receive_kept _ _ _ | with_reducible exact writeObject_kept _ _ _ _ _ _ _ | with_reducible exact writeEntry_kept _ _ _ _ _ _ _ _ | with_reducible exact answerWait_kept _ _ _ | with_reducible exact nextRequest_kept _ _ | with_reducible exact takeMessage_kept _ _ _ | with_reducible exact endFar_kept _ _ _ _ | refine Kept.of_dev (answerWait_kept _ _ _) | refine Kept.of_dev (takeMessage_kept _ _ _) | refine Kept.of_dev (receive_kept _ _ _) | exact Kept.dev _ _) | split

theorem gives_storeWriteTimeout (s : State) : Gives s (exec (.storeWriteTimeout) s) := by
  show Gives s (execStoreWriteTimeout s); unfold execStoreWriteTimeout; (try dsimp only)
  repeat' first | with_reducible exact gives_dev _ _ | with_reducible exact gives_self _ | split

theorem gives_commitLockWrite (s : State) : ∀ sid rid v, Gives s (exec (.commitLockWrite sid rid v) s) := by
  intro sid rid v; show Gives s (execCommitLockWrite sid rid v s); unfold execCommitLockWrite; (try dsimp only)
  repeat' first
    | with_reducible exact gives_dev _ _ | with_reducible exact gives_self _ | (refine gives_next _ _ ?_; first | with_reducible exact Kept.refl _ | with_reducible exact receive_kept _ _ _ | with_reducible exact writeObject_kept _ _ _ _ _ _ _ | with_reducible exact writeEntry_kept _ _ _ _ _ _ _ _ | with_reducible exact answerWait_kept _ _ _ | with_reducible exact nextRequest_kept _ _ | with_reducible exact takeMessage_kept _ _ _ | with_reducible exact endFar_kept _ _ _ _ | refine Kept.of_dev (answerWait_kept _ _ _) | refine Kept.of_dev (takeMessage_kept _ _ _) | refine Kept.of_dev (receive_kept _ _ _) | exact Kept.dev _ _) | split

theorem gives_ownerCredentialWrite (s : State) : ∀ sid rid hash, Gives s (exec (.ownerCredentialWrite sid rid hash) s) := by
  intro sid rid hash; exact gives_message _ _ _

theorem gives_notifyResend (s : State) : ∀ sid, Gives s (exec (.notifyResend sid) s) := by
  intro sid; show Gives s (execNotifyResend sid s); unfold execNotifyResend; (try dsimp only)
  repeat' first | with_reducible exact gives_dev _ _ | with_reducible exact gives_self _ | split

theorem gives_sessionIdleTimeout (s : State) : ∀ sid, Gives s (exec (.sessionIdleTimeout sid) s) := by
  intro sid; show Gives s (execSessionIdleTimeout sid s); unfold execSessionIdleTimeout; (try dsimp only)
  repeat' first | with_reducible exact gives_dev _ _ | with_reducible exact gives_self _ | split

theorem gives_spdmKeyExchange (s : State) : ∀ offer proved, Gives s (exec (.spdmKeyExchange offer proved) s) := by
  intro offer proved; show Gives s (execSpdmKeyExchange offer proved s); unfold execSpdmKeyExchange; (try dsimp only)
  repeat' first | with_reducible exact gives_dev _ _ | with_reducible exact gives_self _ | split

theorem gives_spdmKeyUpdate (s : State) : ∀ sid, Gives s (exec (.spdmKeyUpdate sid) s) := by
  intro sid; show Gives s (execSpdmKeyUpdate sid s); unfold execSpdmKeyUpdate; (try dsimp only)
  repeat' first | with_reducible exact gives_dev _ _ | with_reducible exact gives_self _ | split

theorem gives_getMeasurements (s : State) : ∀ via ask, Gives s (exec (.getMeasurements via ask) s) := by
  intro via ask; show Gives s (execGetMeasurements via ask s); unfold execGetMeasurements; (try dsimp only)
  repeat' first | with_reducible exact gives_dev _ _ | with_reducible exact gives_self _ | split

theorem gives_fbpClearDatagram (s : State) : ∀ msg, Gives s (exec (.fbpClearDatagram msg) s) := by
  intro msg; show Gives s (execFbpClearDatagram msg s); unfold execFbpClearDatagram; (try dsimp only)
  repeat' first | with_reducible exact gives_dev _ _ | with_reducible exact gives_self _ | split

theorem gives_icmpv6NeighbourDiscovery (s : State) : ∀ target, Gives s (exec (.icmpv6NeighbourDiscovery target) s) := by
  intro target; show Gives s (execIcmpv6NeighbourDiscovery target s); unfold execIcmpv6NeighbourDiscovery; (try dsimp only)
  repeat' first | with_reducible exact gives_dev _ _ | with_reducible exact gives_self _ | split

theorem gives_icmpv6Echo (s : State) : ∀ data, Gives s (exec (.icmpv6Echo data) s) := by
  intro data; show Gives s (execIcmpv6Echo data s); unfold execIcmpv6Echo; (try dsimp only)
  repeat' first | with_reducible exact gives_dev _ _ | with_reducible exact gives_self _ | split

theorem gives_mbGo (s : State) : ∀ node request, Gives s (exec (.mbGo node request) s) := by
  intro node request; show Gives s (execMbGo node request s); unfold execMbGo; (try dsimp only)
  repeat' first
    | with_reducible exact gives_dev _ _ | with_reducible exact gives_self _ | (refine gives_next _ _ ?_; first | with_reducible exact Kept.refl _ | with_reducible exact receive_kept _ _ _ | with_reducible exact writeObject_kept _ _ _ _ _ _ _ | with_reducible exact writeEntry_kept _ _ _ _ _ _ _ _ | with_reducible exact answerWait_kept _ _ _ | with_reducible exact nextRequest_kept _ _ | with_reducible exact takeMessage_kept _ _ _ | with_reducible exact endFar_kept _ _ _ _ | refine Kept.of_dev (answerWait_kept _ _ _) | refine Kept.of_dev (takeMessage_kept _ _ _) | refine Kept.of_dev (receive_kept _ _ _) | exact Kept.dev _ _) | split

theorem gives_mbAbort (s : State) : ∀ node, Gives s (exec (.mbAbort node) s) := by
  intro node; show Gives s (execMbAbort node s); unfold execMbAbort; (try dsimp only)
  repeat' first | with_reducible exact gives_dev _ _ | with_reducible exact gives_self _ | split

theorem gives_mbNtfTail (s : State) : ∀ node tail, Gives s (exec (.mbNtfTail node tail) s) := by
  intro node tail; show Gives s (execMbNtfTail node tail s); unfold execMbNtfTail; (try dsimp only)
  repeat' first | with_reducible exact gives_dev _ _ | with_reducible exact gives_self _ | split

theorem gives_setEndpointId (s : State) : ∀ node eid, Gives s (exec (.setEndpointId node eid) s) := by
  intro node eid; show Gives s (execSetEndpointId node eid s); unfold execSetEndpointId; (try dsimp only)
  repeat' first | with_reducible exact gives_dev _ _ | with_reducible exact gives_self _ | split

theorem gives_padHoldRelease (s : State) : ∀ sid rid groups, Gives s (exec (.padHoldRelease sid rid groups) s) := by
  intro sid rid groups; exact gives_object _ _ _ _ _ _ _

theorem gives_thermalTrip (s : State) : ∀ sensor celsius, Gives s (exec (.thermalTrip sensor celsius) s) := by
  intro sensor celsius; show Gives s (execThermalTrip sensor celsius s); unfold execThermalTrip; (try dsimp only)
  repeat' first | with_reducible exact gives_dev _ _ | with_reducible exact gives_self _ | split

theorem gives_vpaLow (s : State) : Gives s (exec (.vpaLow) s) := by
  show Gives s (execVpaLow s); unfold execVpaLow; (try dsimp only)
  repeat' first | with_reducible exact gives_dev _ _ | with_reducible exact gives_self _ | split

theorem gives_vpaRecover (s : State) : Gives s (exec (.vpaRecover) s) := by
  show Gives s (execVpaRecover s); unfold execVpaRecover; (try dsimp only)
  repeat' first | with_reducible exact gives_dev _ _ | with_reducible exact gives_self _ | split

theorem gives_laneLolAssert (s : State) : ∀ l, Gives s (exec (.laneLolAssert l) s) := by
  intro l; show Gives s (execLaneLolAssert l s); unfold execLaneLolAssert; (try dsimp only)
  repeat' first | with_reducible exact gives_dev _ _ | with_reducible exact gives_self _ | split

theorem gives_laneLolClear (s : State) : ∀ l, Gives s (exec (.laneLolClear l) s) := by
  intro l; show Gives s (execLaneLolClear l s); unfold execLaneLolClear; (try dsimp only)
  repeat' first | with_reducible exact gives_dev _ _ | with_reducible exact gives_self _ | split

theorem gives_laneLosAssert (s : State) : ∀ l announced, Gives s (exec (.laneLosAssert l announced) s) := by
  intro l announced; show Gives s (execLaneLosAssert l announced s); unfold execLaneLosAssert; (try dsimp only)
  repeat' first | with_reducible exact gives_dev _ _ | with_reducible exact gives_self _ | split

theorem gives_laneLosDeassert (s : State) : ∀ l, Gives s (exec (.laneLosDeassert l) s) := by
  intro l; show Gives s (execLaneLosDeassert l s); unfold execLaneLosDeassert; (try dsimp only)
  repeat' first | with_reducible exact gives_dev _ _ | with_reducible exact gives_self _ | split

theorem gives_laneRateChange (s : State) : ∀ p rate, Gives s (exec (.laneRateChange p rate) s) := by
  intro p rate; show Gives s (execLaneRateChange p rate s); unfold execLaneRateChange; (try dsimp only)
  repeat' first | with_reducible exact gives_dev _ _ | with_reducible exact gives_self _ | split

theorem gives_laneSleepChange (s : State) : ∀ l d level, Gives s (exec (.laneSleepChange l d level) s) := by
  intro l d level; show Gives s (execLaneSleepChange l d level s); unfold execLaneSleepChange; (try dsimp only)
  repeat' first | with_reducible exact gives_dev _ _ | with_reducible exact gives_self _ | split

theorem gives_laneWake (s : State) : ∀ l d, Gives s (exec (.laneWake l d) s) := by
  intro l d; show Gives s (execLaneWake l d s); unfold execLaneWake; (try dsimp only)
  repeat' first | with_reducible exact gives_dev _ _ | with_reducible exact gives_self _ | split

theorem gives_bgcalPeriodExpiry (s : State) : ∀ l, Gives s (exec (.bgcalPeriodExpiry l) s) := by
  intro l; show Gives s (execBgcalPeriodExpiry l s); unfold execBgcalPeriodExpiry; (try dsimp only)
  repeat' first | with_reducible exact gives_dev _ _ | with_reducible exact gives_self _ | split

theorem gives_bgcalTempTrigger (s : State) : ∀ st, Gives s (exec (.bgcalTempTrigger st) s) := by
  intro st; show Gives s (execBgcalTempTrigger st s); unfold execBgcalTempTrigger; (try dsimp only)
  repeat' first | with_reducible exact gives_dev _ _ | with_reducible exact gives_self _ | split

theorem gives_freeSamplerGrant (s : State) : ∀ l, Gives s (exec (.freeSamplerGrant l) s) := by
  intro l; show Gives s (execFreeSamplerGrant l s); unfold execFreeSamplerGrant; (try dsimp only)
  repeat' first | with_reducible exact gives_dev _ _ | with_reducible exact gives_self _ | split

theorem gives_samplerSwap (s : State) : ∀ l agreed, Gives s (exec (.samplerSwap l agreed) s) := by
  intro l agreed; show Gives s (execSamplerSwap l agreed s); unfold execSamplerSwap; (try dsimp only)
  repeat' first | with_reducible exact gives_dev _ _ | with_reducible exact gives_self _ | split

theorem gives_bgcalPassEnd (s : State) : ∀ l ok, Gives s (exec (.bgcalPassEnd l ok) s) := by
  intro l ok; show Gives s (execBgcalPassEnd l ok s); unfold execBgcalPassEnd; (try dsimp only)
  repeat' first | with_reducible exact gives_dev _ _ | with_reducible exact gives_self _ | split

theorem gives_eyeScan (s : State) : ∀ l height width, Gives s (exec (.eyeScan l height width) s) := by
  intro l height width; show Gives s (execEyeScan l height width s); unfold execEyeScan; (try dsimp only)
  repeat' first | with_reducible exact gives_dev _ _ | with_reducible exact gives_self _ | split

theorem gives_marginCommand (s : State) : ∀ l start, Gives s (exec (.marginCommand l start) s) := by
  intro l start; show Gives s (execMarginCommand l start s); unfold execMarginCommand; (try dsimp only)
  repeat' first | with_reducible exact gives_dev _ _ | with_reducible exact gives_self _ | split

theorem gives_laneCalBackground (s : State) : ∀ sid rid l, Gives s (exec (.laneCalBackground sid rid l) s) := by
  intro sid rid l; exact gives_object _ _ _ _ _ _ _

theorem gives_laneCalFull (s : State) : ∀ sid rid l, Gives s (exec (.laneCalFull sid rid l) s) := by
  intro sid rid l; exact gives_object _ _ _ _ _ _ _

theorem gives_laneBist (s : State) : ∀ sid rid l, Gives s (exec (.laneBist sid rid l) s) := by
  intro sid rid l; exact gives_object _ _ _ _ _ _ _

theorem gives_laneCalFullForced (s : State) : ∀ sid rid l, Gives s (exec (.laneCalFullForced sid rid l) s) := by
  intro sid rid l; exact gives_object _ _ _ _ _ _ _

theorem gives_laneBistForced (s : State) : ∀ sid rid l, Gives s (exec (.laneBistForced sid rid l) s) := by
  intro sid rid l; exact gives_object _ _ _ _ _ _ _

theorem gives_laneCalEnd (s : State) : ∀ l o, Gives s (exec (.laneCalEnd l o) s) := by
  intro l o; show Gives s (execLaneCalEnd l o s); unfold execLaneCalEnd; (try dsimp only)
  repeat' first | with_reducible exact gives_dev _ _ | with_reducible exact gives_self _ | split

theorem gives_testLoopbackSet (s : State) : ∀ sid rid l code, Gives s (exec (.testLoopbackSet sid rid l code) s) := by
  intro sid rid l code; exact gives_entry _ _ _ _ _ _ _ _

theorem gives_testGenSet (s : State) : ∀ sid rid l code, Gives s (exec (.testGenSet sid rid l code) s) := by
  intro sid rid l code; exact gives_entry _ _ _ _ _ _ _ _

theorem gives_testRateSet (s : State) : ∀ sid rid l code, Gives s (exec (.testRateSet sid rid l code) s) := by
  intro sid rid l code; exact gives_entry _ _ _ _ _ _ _ _

theorem gives_testChkSet (s : State) : ∀ sid rid l code, Gives s (exec (.testChkSet sid rid l code) s) := by
  intro sid rid l code; exact gives_entry _ _ _ _ _ _ _ _

theorem gives_checkerLock (s : State) : ∀ l, Gives s (exec (.checkerLock l) s) := by
  intro l; show Gives s (execCheckerLock l s); unfold execCheckerLock; (try dsimp only)
  repeat' first | with_reducible exact gives_dev _ _ | with_reducible exact gives_self _ | split

theorem gives_checkerLockLost (s : State) : ∀ l bits errors, Gives s (exec (.checkerLockLost l bits errors) s) := by
  intro l bits errors; show Gives s (execCheckerLockLost l bits errors s); unfold execCheckerLockLost; (try dsimp only)
  repeat' first | with_reducible exact gives_dev _ _ | with_reducible exact gives_self _ | split

theorem gives_testInjectSingle (s : State) : ∀ sid rid l, Gives s (exec (.testInjectSingle sid rid l) s) := by
  intro sid rid l; exact gives_entry _ _ _ _ _ _ _ _

theorem gives_testInjectPeriodic (s : State) : ∀ sid rid l k, Gives s (exec (.testInjectPeriodic sid rid l k) s) := by
  intro sid rid l k; exact gives_entry _ _ _ _ _ _ _ _

theorem gives_testInjectBurst (s : State) : ∀ sid rid l len, Gives s (exec (.testInjectBurst sid rid l len) s) := by
  intro sid rid l len; exact gives_entry _ _ _ _ _ _ _ _

theorem gives_portRetrain (s : State) : ∀ sid rid p, Gives s (exec (.portRetrain sid rid p) s) := by
  intro sid rid p; exact gives_object _ _ _ _ _ _ _

theorem gives_portHotReset (s : State) : ∀ sid rid p, Gives s (exec (.portHotReset sid rid p) s) := by
  intro sid rid p; exact gives_object _ _ _ _ _ _ _

theorem gives_portLinkDisable (s : State) : ∀ sid rid p, Gives s (exec (.portLinkDisable sid rid p) s) := by
  intro sid rid p; exact gives_object _ _ _ _ _ _ _

theorem gives_linkUp (s : State) : ∀ p f, Gives s (exec (.linkUp p f) s) := by
  intro p f; show Gives s (execLinkUp p f s); unfold execLinkUp; (try dsimp only)
  repeat' first | with_reducible exact gives_dev _ _ | with_reducible exact gives_self _ | split

theorem gives_linkDown (s : State) : ∀ p surprise, Gives s (exec (.linkDown p surprise) s) := by
  intro p surprise; show Gives s (execLinkDown p surprise s); unfold execLinkDown; (try dsimp only)
  repeat' first | with_reducible exact gives_dev _ _ | with_reducible exact gives_self _ | split

theorem gives_replayNumRollover (s : State) : ∀ p, Gives s (exec (.replayNumRollover p) s) := by
  intro p; show Gives s (execReplayNumRollover p s); unfold execReplayNumRollover; (try dsimp only)
  repeat' first | with_reducible exact gives_dev _ _ | with_reducible exact gives_self _ | split

theorem gives_speedChange (s : State) : ∀ p rate, Gives s (exec (.speedChange p rate) s) := by
  intro p rate; show Gives s (execSpeedChange p rate s); unfold execSpeedChange; (try dsimp only)
  repeat' first | with_reducible exact gives_dev _ _ | with_reducible exact gives_self _ | split

theorem gives_l0pWidthRequest (s : State) : ∀ p own partner, Gives s (exec (.l0pWidthRequest p own partner) s) := by
  intro p own partner; show Gives s (execL0pWidthRequest p own partner s); unfold execL0pWidthRequest; (try dsimp only)
  repeat' first | with_reducible exact gives_dev _ _ | with_reducible exact gives_self _ | split

theorem gives_perstinFall (s : State) : ∀ st, Gives s (exec (.perstinFall st) s) := by
  intro st; show Gives s (execPerstinFall st s); unfold execPerstinFall; (try dsimp only)
  repeat' first | with_reducible exact gives_dev _ _ | with_reducible exact gives_self _ | split

theorem gives_perstinRise (s : State) : ∀ st, Gives s (exec (.perstinRise st) s) := by
  intro st; show Gives s (execPerstinRise st s); unfold execPerstinRise; (try dsimp only)
  repeat' first | with_reducible exact gives_dev _ _ | with_reducible exact gives_self _ | split

theorem gives_hotResetReceived (s : State) : ∀ node hot, Gives s (exec (.hotResetReceived node hot) s) := by
  intro node hot; show Gives s (execHotResetReceived node hot s); unfold execHotResetReceived; (try dsimp only)
  repeat' first | with_reducible exact gives_dev _ _ | with_reducible exact gives_self _ | split

theorem gives_hotResetEnd (s : State) : ∀ node, Gives s (exec (.hotResetEnd node) s) := by
  intro node; show Gives s (execHotResetEnd node s); unfold execHotResetEnd; (try dsimp only)
  repeat' first | with_reducible exact gives_dev _ _ | with_reducible exact gives_self _ | split

theorem gives_configWrite (s : State) : ∀ f r value, Gives s (exec (.configWrite f r value) s) := by
  intro f r value; show Gives s (execConfigWrite f r value s); unfold execConfigWrite; (try dsimp only)
  repeat' first | with_reducible exact gives_dev _ _ | with_reducible exact gives_self _ | split

theorem gives_ptmRequest (s : State) : ∀ p, Gives s (exec (.ptmRequest p) s) := by
  intro p; show Gives s (execPtmRequest p s); unfold execPtmRequest; (try dsimp only)
  repeat' first | with_reducible exact gives_dev _ _ | with_reducible exact gives_self _ | split

theorem gives_ptmOffsetRefresh (s : State) : ∀ node offset, Gives s (exec (.ptmOffsetRefresh node offset) s) := by
  intro node offset; show Gives s (execPtmOffsetRefresh node offset s); unfold execPtmOffsetRefresh; (try dsimp only)
  repeat' first | with_reducible exact gives_dev _ _ | with_reducible exact gives_self _ | split

theorem gives_stationRefclkSelect (s : State) : ∀ st toggles, Gives s (exec (.stationRefclkSelect st toggles) s) := by
  intro st toggles; show Gives s (execStationRefclkSelect st toggles s); unfold execStationRefclkSelect; (try dsimp only)
  repeat' first | with_reducible exact gives_dev _ _ | with_reducible exact gives_self _ | split

theorem gives_mldTrained (s : State) : ∀ p lds, Gives s (exec (.mldTrained p lds) s) := by
  intro p lds; show Gives s (execMldTrained p lds s); unfold execMldTrained; (try dsimp only)
  repeat' first | with_reducible exact gives_dev _ _ | with_reducible exact gives_self _ | split

theorem gives_mldReleaseTimeout (s : State) : ∀ p, Gives s (exec (.mldReleaseTimeout p) s) := by
  intro p; show Gives s (execMldReleaseTimeout p s); unfold execMldReleaseTimeout; (try dsimp only)
  repeat' first | with_reducible exact gives_dev _ _ | with_reducible exact gives_self _ | split

theorem gives_cxlMemUnclaimed (s : State) : ∀ node isWrite len, Gives s (exec (.cxlMemUnclaimed node isWrite len) s) := by
  intro node isWrite len; show Gives s (execCxlMemUnclaimed node isWrite len s); unfold execCxlMemUnclaimed; (try dsimp only)
  repeat' first | with_reducible exact gives_dev _ _ | with_reducible exact gives_self _ | split

theorem gives_frameIngress (s : State) : ∀ j f facts, Gives s (exec (.frameIngress j f facts) s) := by
  intro j f facts; show Gives s (execFrameIngress j f facts s); unfold execFrameIngress; (try dsimp only)
  repeat' first | with_reducible exact gives_dev _ _ | with_reducible exact gives_self _ | split

theorem gives_egressSelect (s : State) : ∀ p ecc, Gives s (exec (.egressSelect p ecc) s) := by
  intro p ecc; show Gives s (execEgressSelect p ecc s); unfold execEgressSelect; (try dsimp only)
  repeat' first | with_reducible exact gives_dev _ _ | with_reducible exact gives_self _ | split

theorem gives_linkCreditUpdate (s : State) : ∀ p c, Gives s (exec (.linkCreditUpdate p c) s) := by
  intro p c; show Gives s (execLinkCreditUpdate p c s); unfold execLinkCreditUpdate; (try dsimp only)
  repeat' first | with_reducible exact gives_dev _ _ | with_reducible exact gives_self _ | split

theorem gives_skimEvict (s : State) : ∀ h, Gives s (exec (.skimEvict h) s) := by
  intro h; show Gives s (execSkimEvict h s); unfold execSkimEvict; (try dsimp only)
  repeat' first | with_reducible exact gives_dev _ _ | with_reducible exact gives_self _ | split

theorem gives_tallyScanStart (s : State) : ∀ h, Gives s (exec (.tallyScanStart h) s) := by
  intro h; show Gives s (execTallyScanStart h s); unfold execTallyScanStart; (try dsimp only)
  repeat' first | with_reducible exact gives_dev _ _ | with_reducible exact gives_self _ | split

theorem gives_tallyScanEnd (s : State) : ∀ h found, Gives s (exec (.tallyScanEnd h found) s) := by
  intro h found; show Gives s (execTallyScanEnd h found s); unfold execTallyScanEnd; (try dsimp only)
  repeat' first | with_reducible exact gives_dev _ _ | with_reducible exact gives_self _ | split

theorem gives_seamFrameReceive (s : State) : ∀ st seq f, Gives s (exec (.seamFrameReceive st seq f) s) := by
  intro st seq f; show Gives s (execSeamFrameReceive st seq f s); unfold execSeamFrameReceive; (try dsimp only)
  repeat' first | with_reducible exact gives_dev _ _ | with_reducible exact gives_self _ | split

theorem gives_seamAdmission (s : State) : ∀ st channel, Gives s (exec (.seamAdmission st channel) s) := by
  intro st channel; show Gives s (execSeamAdmission st channel s); unfold execSeamAdmission; (try dsimp only)
  repeat' first | with_reducible exact gives_dev _ _ | with_reducible exact gives_self _ | split

theorem gives_seamCrcError (s : State) : ∀ d m, Gives s (exec (.seamCrcError d m) s) := by
  intro d m; show Gives s (execSeamCrcError d m s); unfold execSeamCrcError; (try dsimp only)
  repeat' first | with_reducible exact gives_dev _ _ | with_reducible exact gives_self _ | split

theorem gives_seamReplayAck (s : State) : ∀ d m, Gives s (exec (.seamReplayAck d m) s) := by
  intro d m; show Gives s (execSeamReplayAck d m s); unfold execSeamReplayAck; (try dsimp only)
  repeat' first | with_reducible exact gives_dev _ _ | with_reducible exact gives_self _ | split

theorem gives_seamRetrainDone (s : State) : ∀ d m, Gives s (exec (.seamRetrainDone d m) s) := by
  intro d m; show Gives s (execSeamRetrainDone d m s); unfold execSeamRetrainDone; (try dsimp only)
  repeat' first | with_reducible exact gives_dev _ _ | with_reducible exact gives_self _ | split

theorem gives_seamRetrainTimeout (s : State) : ∀ d m, Gives s (exec (.seamRetrainTimeout d m) s) := by
  intro d m; show Gives s (execSeamRetrainTimeout d m s); unfold execSeamRetrainTimeout; (try dsimp only)
  repeat' first | with_reducible exact gives_dev _ _ | with_reducible exact gives_self _ | split

theorem gives_seamHeartbeatSend (s : State) : ∀ h, Gives s (exec (.seamHeartbeatSend h) s) := by
  intro h; show Gives s (execSeamHeartbeatSend h s); unfold execSeamHeartbeatSend; (try dsimp only)
  repeat' first | with_reducible exact gives_dev _ _ | with_reducible exact gives_self _ | split

theorem gives_seamHeartbeatTimeout (s : State) : Gives s (exec (.seamHeartbeatTimeout) s) := by
  show Gives s (execSeamHeartbeatTimeout s); unfold execSeamHeartbeatTimeout; (try dsimp only)
  repeat' first | with_reducible exact gives_dev _ _ | with_reducible exact gives_self _ | split

theorem gives_seamTimeExchange (s : State) : Gives s (exec (.seamTimeExchange) s) := by
  show Gives s (execSeamTimeExchange s); unfold execSeamTimeExchange; (try dsimp only)
  repeat' first | with_reducible exact gives_dev _ _ | with_reducible exact gives_self _ | split

theorem gives_seamMgmtRequest (s : State) : ∀ h w i k e v, Gives s (exec (.seamMgmtRequest h w i k e v) s) := by
  intro h w i k e v; refine gives_ite _ _ _ _ (gives_self _) ?_
  exact gives_next _ _ (Kept.of_dev (runItems_kept _ _ _ _))

theorem gives_halfHalt (s : State) : ∀ h cause, Gives s (exec (.halfHalt h cause) s) := by
  intro h cause; show Gives s (execHalfHalt h cause s); unfold execHalfHalt; (try dsimp only)
  repeat' first | with_reducible exact gives_dev _ _ | with_reducible exact gives_self _ | split

theorem gives_fabricCfgRead (s : State) : ∀ sid rid, Gives s (exec (.fabricCfgRead sid rid) s) := by
  intro sid rid; exact gives_object _ _ _ _ _ _ _

theorem gives_fabricCfgWrite (s : State) : ∀ sid rid, Gives s (exec (.fabricCfgWrite sid rid) s) := by
  intro sid rid; exact gives_object _ _ _ _ _ _ _

theorem gives_fabricCfgCompletion (s : State) : ∀ sid st data, Gives s (exec (.fabricCfgCompletion sid st data) s) := by
  intro sid st data; show Gives s (execFabricCfgCompletion sid st data s); unfold execFabricCfgCompletion; (try dsimp only)
  repeat' first
    | with_reducible exact gives_dev _ _ | with_reducible exact gives_self _ | (refine gives_next _ _ ?_; first | with_reducible exact Kept.refl _ | with_reducible exact receive_kept _ _ _ | with_reducible exact writeObject_kept _ _ _ _ _ _ _ | with_reducible exact writeEntry_kept _ _ _ _ _ _ _ _ | with_reducible exact answerWait_kept _ _ _ | with_reducible exact nextRequest_kept _ _ | with_reducible exact takeMessage_kept _ _ _ | with_reducible exact endFar_kept _ _ _ _ | refine Kept.of_dev (answerWait_kept _ _ _) | refine Kept.of_dev (takeMessage_kept _ _ _) | refine Kept.of_dev (receive_kept _ _ _) | exact Kept.dev _ _) | split

theorem gives_fabricCfgTimeout (s : State) : ∀ sid, Gives s (exec (.fabricCfgTimeout sid) s) := by
  intro sid; show Gives s (execFabricCfgTimeout sid s); unfold execFabricCfgTimeout; (try dsimp only)
  repeat' first
    | with_reducible exact gives_dev _ _ | with_reducible exact gives_self _ | (refine gives_next _ _ ?_; first | with_reducible exact Kept.refl _ | with_reducible exact receive_kept _ _ _ | with_reducible exact writeObject_kept _ _ _ _ _ _ _ | with_reducible exact writeEntry_kept _ _ _ _ _ _ _ _ | with_reducible exact answerWait_kept _ _ _ | with_reducible exact nextRequest_kept _ _ | with_reducible exact takeMessage_kept _ _ _ | with_reducible exact endFar_kept _ _ _ _ | refine Kept.of_dev (answerWait_kept _ _ _) | refine Kept.of_dev (takeMessage_kept _ _ _) | refine Kept.of_dev (receive_kept _ _ _) | exact Kept.dev _ _) | split

theorem gives_fportReadyWrite (s : State) : ∀ sid rid p bars, Gives s (exec (.fportReadyWrite sid rid p bars) s) := by
  intro sid rid p bars; exact gives_entry _ _ _ _ _ _ _ _

theorem gives_hostConfigRequest (s : State) : ∀ b r write requester tag, Gives s (exec (.hostConfigRequest b r write requester tag) s) := by
  intro b r write requester tag; show Gives s (execHostConfigRequest b r write requester tag s); unfold execHostConfigRequest; (try dsimp only)
  repeat' first | with_reducible exact gives_dev _ _ | with_reducible exact gives_self _ | split

theorem gives_synthSlotPowerOff (s : State) : ∀ node devfn, Gives s (exec (.synthSlotPowerOff node devfn) s) := by
  intro node devfn; show Gives s (execSynthSlotPowerOff node devfn s); unfold execSynthSlotPowerOff; (try dsimp only)
  repeat' first | with_reducible exact gives_dev _ _ | with_reducible exact gives_self _ | split

theorem gives_synthSlotPowerOn (s : State) : ∀ node devfn, Gives s (exec (.synthSlotPowerOn node devfn) s) := by
  intro node devfn; show Gives s (execSynthSlotPowerOn node devfn s); unfold execSynthSlotPowerOn; (try dsimp only)
  repeat' first | with_reducible exact gives_dev _ _ | with_reducible exact gives_self _ | split

theorem gives_proxyCompletion (s : State) : ∀ t, Gives s (exec (.proxyCompletion t) s) := by
  intro t; show Gives s (execProxyCompletion t s); unfold execProxyCompletion; (try dsimp only)
  repeat' first | with_reducible exact gives_dev _ _ | with_reducible exact gives_self _ | split

theorem gives_trackTimeout (s : State) : ∀ h entry, Gives s (exec (.trackTimeout h entry) s) := by
  intro h entry; show Gives s (execTrackTimeout h entry s); unfold execTrackTimeout; (try dsimp only)
  repeat' first | with_reducible exact gives_dev _ _ | with_reducible exact gives_self _ | split

theorem gives_trackWaitResume (s : State) : ∀ h, Gives s (exec (.trackWaitResume h) s) := by
  intro h; show Gives s (execTrackWaitResume h s); unfold execTrackWaitResume; (try dsimp only)
  repeat' first | with_reducible exact gives_dev _ _ | with_reducible exact gives_self _ | split

theorem gives_pairSessionEstablished (s : State) : ∀ twinKey twinFabric twinEnable twinTime, Gives s (exec (.pairSessionEstablished twinKey twinFabric twinEnable twinTime) s) := by
  intro twinKey twinFabric twinEnable twinTime; show Gives s (execPairSessionEstablished twinKey twinFabric twinEnable twinTime s); unfold execPairSessionEstablished; (try dsimp only)
  repeat' first | with_reducible exact gives_dev _ _ | with_reducible exact gives_self _ | split

theorem gives_pairSessionRefused (s : State) : ∀ reason, Gives s (exec (.pairSessionRefused reason) s) := by
  intro reason; show Gives s (execPairSessionRefused reason s); unfold execPairSessionRefused; (try dsimp only)
  repeat' first | with_reducible exact gives_dev _ _ | with_reducible exact gives_self _ | split

theorem gives_pairJoinTimeout (s : State) : Gives s (exec (.pairJoinTimeout) s) := by
  show Gives s (execPairJoinTimeout s); unfold execPairJoinTimeout; (try dsimp only)
  repeat' first | with_reducible exact gives_dev _ _ | with_reducible exact gives_self _ | split

theorem gives_pairRefusedRetry (s : State) : Gives s (exec (.pairRefusedRetry) s) := by
  show Gives s (execPairRefusedRetry s); unfold execPairRefusedRetry; (try dsimp only)
  repeat' first | with_reducible exact gives_dev _ _ | with_reducible exact gives_self _ | split

theorem gives_pairResyncTimeout (s : State) : Gives s (exec (.pairResyncTimeout) s) := by
  show Gives s (execPairResyncTimeout s); unfold execPairResyncTimeout; (try dsimp only)
  repeat' first | with_reducible exact gives_dev _ _ | with_reducible exact gives_self _ | split

theorem gives_pairMismatchTimeout (s : State) : Gives s (exec (.pairMismatchTimeout) s) := by
  show Gives s (execPairMismatchTimeout s); unfold execPairMismatchTimeout; (try dsimp only)
  repeat' first | with_reducible exact gives_dev _ _ | with_reducible exact gives_self _ | split

theorem gives_pairLossTimeout (s : State) : Gives s (exec (.pairLossTimeout) s) := by
  show Gives s (execPairLossTimeout s); unfold execPairLossTimeout; (try dsimp only)
  repeat' first | with_reducible exact gives_dev _ _ | with_reducible exact gives_self _ | split

theorem gives_pairsyncSend (s : State) : Gives s (exec (.pairsyncSend) s) := by
  show Gives s (execPairsyncSend s); unfold execPairsyncSend; (try dsimp only)
  repeat' first | with_reducible exact gives_dev _ _ | with_reducible exact gives_self _ | split

theorem gives_pairsync (s : State) : ∀ node pairState generation digest, Gives s (exec (.pairsync node pairState generation digest) s) := by
  intro node pairState generation digest; show Gives s (execPairsync node pairState generation digest s); unfold execPairsync; (try dsimp only)
  repeat' first | with_reducible exact gives_dev _ _ | with_reducible exact gives_self _ | split

theorem gives_pairObjectsTransfer (s : State) : ∀ generation sent, Gives s (exec (.pairObjectsTransfer generation sent) s) := by
  intro generation sent; show Gives s (execPairObjectsTransfer generation sent s); unfold execPairObjectsTransfer; (try dsimp only)
  repeat' first | with_reducible exact gives_dev _ _ | with_reducible exact gives_self _ | split

theorem gives_pairPrepare (s : State) : ∀ objs generation, Gives s (exec (.pairPrepare objs generation) s) := by
  intro objs generation; show Gives s (execPairPrepare objs generation s); unfold execPairPrepare; (try dsimp only)
  repeat' first | with_reducible exact gives_dev _ _ | with_reducible exact gives_self _ | split

theorem gives_bflDataFlit (s : State) : ∀ j f, Gives s (exec (.bflDataFlit j f) s) := by
  intro j f; show Gives s (execBflDataFlit j f s); unfold execBflDataFlit; (try dsimp only)
  repeat' first | with_reducible exact gives_dev _ _ | with_reducible exact gives_self _ | split

theorem gives_ack (s : State) : ∀ j ackSeq, Gives s (exec (.ack j ackSeq) s) := by
  intro j ackSeq; show Gives s (execAck j ackSeq s); unfold execAck; (try dsimp only)
  repeat' first | with_reducible exact gives_dev _ _ | with_reducible exact gives_self _ | split

theorem gives_nak (s : State) : ∀ j seq cause, Gives s (exec (.nak j seq cause) s) := by
  intro j seq cause; show Gives s (execNak j seq cause s); unfold execNak; (try dsimp only)
  repeat' first | with_reducible exact gives_dev _ _ | with_reducible exact gives_self _ | split

theorem gives_credit (s : State) : ∀ j firstPool totals, Gives s (exec (.credit j firstPool totals) s) := by
  intro j firstPool totals; show Gives s (execCredit j firstPool totals s); unfold execCredit; (try dsimp only)
  repeat' first | with_reducible exact gives_dev _ _ | with_reducible exact gives_self _ | split

theorem gives_heartbeat (s : State) : ∀ j linkState hbSeq ackSeq, Gives s (exec (.heartbeat j linkState hbSeq ackSeq) s) := by
  intro j linkState hbSeq ackSeq; show Gives s (execHeartbeat j linkState hbSeq ackSeq s); unfold execHeartbeat; (try dsimp only)
  repeat' first | with_reducible exact gives_dev _ _ | with_reducible exact gives_self _ | split

theorem gives_time (s : State) : ∀ j tseq txTime echoDelay echoSeq, Gives s (exec (.time j tseq txTime echoDelay echoSeq) s) := by
  intro j tseq txTime echoDelay echoSeq; show Gives s (execTime j tseq txTime echoDelay echoSeq s); unfold execTime; (try dsimp only)
  repeat' first | with_reducible exact gives_dev _ _ | with_reducible exact gives_self _ | split

theorem gives_resetReq (s : State) : ∀ j r, Gives s (exec (.resetReq j r) s) := by
  intro j r; show Gives s (execResetReq j r s); unfold execResetReq; (try dsimp only)
  repeat' first | with_reducible exact gives_dev _ _ | with_reducible exact gives_self _ | split

theorem gives_resetAck (s : State) : ∀ j r, Gives s (exec (.resetAck j r) s) := by
  intro j r; show Gives s (execResetAck j r s); unfold execResetAck; (try dsimp only)
  repeat' first | with_reducible exact gives_dev _ _ | with_reducible exact gives_self _ | split

theorem gives_bflAckDue (s : State) : ∀ j, Gives s (exec (.bflAckDue j) s) := by
  intro j; show Gives s (execBflAckDue j s); unfold execBflAckDue; (try dsimp only)
  repeat' first | with_reducible exact gives_dev _ _ | with_reducible exact gives_self _ | split

theorem gives_bflReplayTimeout (s : State) : ∀ j, Gives s (exec (.bflReplayTimeout j) s) := by
  intro j; show Gives s (execBflReplayTimeout j s); unfold execBflReplayTimeout; (try dsimp only)
  repeat' first | with_reducible exact gives_dev _ _ | with_reducible exact gives_self _ | split

theorem gives_bflHeartbeatSend (s : State) : ∀ j, Gives s (exec (.bflHeartbeatSend j) s) := by
  intro j; show Gives s (execBflHeartbeatSend j s); unfold execBflHeartbeatSend; (try dsimp only)
  repeat' first | with_reducible exact gives_dev _ _ | with_reducible exact gives_self _ | split

theorem gives_bflTimeSend (s : State) : ∀ j, Gives s (exec (.bflTimeSend j) s) := by
  intro j; show Gives s (execBflTimeSend j s); unfold execBflTimeSend; (try dsimp only)
  repeat' first | with_reducible exact gives_dev _ _ | with_reducible exact gives_self _ | split

theorem gives_bflCreditSend (s : State) : ∀ j, Gives s (exec (.bflCreditSend j) s) := by
  intro j; show Gives s (execBflCreditSend j s); unfold execBflCreditSend; (try dsimp only)
  repeat' first | with_reducible exact gives_dev _ _ | with_reducible exact gives_self _ | split

theorem gives_bflHeartbeatTimeout (s : State) : ∀ j, Gives s (exec (.bflHeartbeatTimeout j) s) := by
  intro j; show Gives s (execBflHeartbeatTimeout j s); unfold execBflHeartbeatTimeout; (try dsimp only)
  repeat' first | with_reducible exact gives_dev _ _ | with_reducible exact gives_self _ | split

theorem gives_bflRetrainL0 (s : State) : ∀ j width rate, Gives s (exec (.bflRetrainL0 j width rate) s) := by
  intro j width rate; show Gives s (execBflRetrainL0 j width rate s); unfold execBflRetrainL0; (try dsimp only)
  repeat' first | with_reducible exact gives_dev _ _ | with_reducible exact gives_self _ | split

theorem gives_bflRetrainTimeout (s : State) : ∀ j, Gives s (exec (.bflRetrainTimeout j) s) := by
  intro j; show Gives s (execBflRetrainTimeout j s); unfold execBflRetrainTimeout; (try dsimp only)
  repeat' first | with_reducible exact gives_dev _ _ | with_reducible exact gives_self _ | split

theorem gives_bflResetReqSend (s : State) : ∀ j, Gives s (exec (.bflResetReqSend j) s) := by
  intro j; show Gives s (execBflResetReqSend j s); unfold execBflResetReqSend; (try dsimp only)
  repeat' first | with_reducible exact gives_dev _ _ | with_reducible exact gives_self _ | split

theorem gives_bflInitTimeout (s : State) : ∀ j, Gives s (exec (.bflInitTimeout j) s) := by
  intro j; show Gives s (execBflInitTimeout j s); unfold execBflInitTimeout; (try dsimp only)
  repeat' first | with_reducible exact gives_dev _ _ | with_reducible exact gives_self _ | split

theorem gives_bflTrainRetry (s : State) : ∀ j, Gives s (exec (.bflTrainRetry j) s) := by
  intro j; show Gives s (execBflTrainRetry j s); unfold execBflTrainRetry; (try dsimp only)
  repeat' first | with_reducible exact gives_dev _ _ | with_reducible exact gives_self _ | split

theorem gives_bflFullReset (s : State) : ∀ sid rid j, Gives s (exec (.bflFullReset sid rid j) s) := by
  intro sid rid j; exact gives_object _ _ _ _ _ _ _

theorem gives_bflForcedReset (s : State) : ∀ sid rid j, Gives s (exec (.bflForcedReset sid rid j) s) := by
  intro sid rid j; exact gives_object _ _ _ _ _ _ _

theorem gives_bflEvacuate (s : State) : ∀ sid rid j, Gives s (exec (.bflEvacuate sid rid j) s) := by
  intro sid rid j; exact gives_object _ _ _ _ _ _ _

theorem gives_evacQuery (s : State) : ∀ t j inc, Gives s (exec (.evacQuery t j inc) s) := by
  intro t j inc; show Gives s (execEvacQuery t j inc s); unfold execEvacQuery; (try dsimp only)
  repeat' first | with_reducible exact gives_dev _ _ | with_reducible exact gives_self _ | split

theorem gives_evacReply (s : State) : ∀ t j lastSeq inc, Gives s (exec (.evacReply t j lastSeq inc) s) := by
  intro t j lastSeq inc; show Gives s (execEvacReply t j lastSeq inc s); unfold execEvacReply; (try dsimp only)
  repeat' first
    | with_reducible exact gives_dev _ _ | with_reducible exact gives_self _ | (refine gives_next _ _ ?_; first | with_reducible exact Kept.refl _ | with_reducible exact receive_kept _ _ _ | with_reducible exact writeObject_kept _ _ _ _ _ _ _ | with_reducible exact writeEntry_kept _ _ _ _ _ _ _ _ | with_reducible exact answerWait_kept _ _ _ | with_reducible exact nextRequest_kept _ _ | with_reducible exact takeMessage_kept _ _ _ | with_reducible exact endFar_kept _ _ _ _ | refine Kept.of_dev (answerWait_kept _ _ _) | refine Kept.of_dev (takeMessage_kept _ _ _) | refine Kept.of_dev (receive_kept _ _ _) | exact Kept.dev _ _) | split

theorem gives_bflEvacTimeout (s : State) : ∀ j, Gives s (exec (.bflEvacTimeout j) s) := by
  intro j; show Gives s (execBflEvacTimeout j s); unfold execBflEvacTimeout; (try dsimp only)
  repeat' first
    | with_reducible exact gives_dev _ _ | with_reducible exact gives_self _ | (refine gives_next _ _ ?_; first | with_reducible exact Kept.refl _ | with_reducible exact receive_kept _ _ _ | with_reducible exact writeObject_kept _ _ _ _ _ _ _ | with_reducible exact writeEntry_kept _ _ _ _ _ _ _ _ | with_reducible exact answerWait_kept _ _ _ | with_reducible exact nextRequest_kept _ _ | with_reducible exact takeMessage_kept _ _ _ | with_reducible exact endFar_kept _ _ _ _ | refine Kept.of_dev (answerWait_kept _ _ _) | refine Kept.of_dev (takeMessage_kept _ _ _) | refine Kept.of_dev (receive_kept _ _ _) | exact Kept.dev _ _) | split

theorem gives_sqDb (s : State) : ∀ n node target index size, Gives s (exec (.sqDb n node target index size) s) := by
  intro n node target index size; show Gives s (execSqDb n node target index size s); unfold execSqDb; (try dsimp only)
  repeat' first | with_reducible exact gives_dev _ _ | with_reducible exact gives_self _ | split

theorem gives_rqDb (s : State) : ∀ n node target index size, Gives s (exec (.rqDb n node target index size) s) := by
  intro n node target index size; show Gives s (execRqDb n node target index size s); unfold execRqDb; (try dsimp only)
  repeat' first | with_reducible exact gives_dev _ _ | with_reducible exact gives_self _ | split

theorem gives_cqDb (s : State) : ∀ n node target index size, Gives s (exec (.cqDb n node target index size) s) := by
  intro n node target index size; show Gives s (execCqDb n node target index size s); unfold execCqDb; (try dsimp only)
  repeat' first | with_reducible exact gives_dev _ _ | with_reducible exact gives_self _ | split

theorem gives_cqArm (s : State) : ∀ n node target index size, Gives s (exec (.cqArm n node target index size) s) := by
  intro n node target index size; show Gives s (execCqArm n node target index size s); unfold execCqArm; (try dsimp only)
  repeat' first | with_reducible exact gives_dev _ _ | with_reducible exact gives_self _ | split

theorem gives_cmdDb (s : State) : ∀ n node index size, Gives s (exec (.cmdDb n node index size) s) := by
  intro n node index size; show Gives s (execCmdDb n node index size s); unfold execCmdDb; (try dsimp only)
  repeat' first | with_reducible exact gives_dev _ _ | with_reducible exact gives_self _ | split

theorem gives_hostReadCompletion (s : State) : ∀ r st, Gives s (exec (.hostReadCompletion r st) s) := by
  intro r st; show Gives s (execHostReadCompletion r st s); unfold execHostReadCompletion; (try dsimp only)
  repeat' first | with_reducible exact gives_dev _ _ | with_reducible exact gives_self _ | split

theorem gives_wqeWrite (s : State) : ∀ qpn data, Gives s (exec (.wqeWrite qpn data) s) := by
  intro qpn data; show Gives s (execWqeWrite qpn data s); unfold execWqeWrite; (try dsimp only)
  repeat' first | with_reducible exact gives_dev _ _ | with_reducible exact gives_self _ | split

theorem gives_wqeWriteImm (s : State) : ∀ qpn data, Gives s (exec (.wqeWriteImm qpn data) s) := by
  intro qpn data; show Gives s (execWqeWriteImm qpn data s); unfold execWqeWriteImm; (try dsimp only)
  repeat' first | with_reducible exact gives_dev _ _ | with_reducible exact gives_self _ | split

theorem gives_wqeRead (s : State) : ∀ qpn, Gives s (exec (.wqeRead qpn) s) := by
  intro qpn; show Gives s (execWqeRead qpn s); unfold execWqeRead; (try dsimp only)
  repeat' first | with_reducible exact gives_dev _ _ | with_reducible exact gives_self _ | split

theorem gives_wqeSend (s : State) : ∀ qpn data, Gives s (exec (.wqeSend qpn data) s) := by
  intro qpn data; show Gives s (execWqeSend qpn data s); unfold execWqeSend; (try dsimp only)
  repeat' first | with_reducible exact gives_dev _ _ | with_reducible exact gives_self _ | split

theorem gives_wqeSendImm (s : State) : ∀ qpn data, Gives s (exec (.wqeSendImm qpn data) s) := by
  intro qpn data; show Gives s (execWqeSendImm qpn data s); unfold execWqeSendImm; (try dsimp only)
  repeat' first | with_reducible exact gives_dev _ _ | with_reducible exact gives_self _ | split

theorem gives_wqeFetchAdd (s : State) : ∀ qpn, Gives s (exec (.wqeFetchAdd qpn) s) := by
  intro qpn; show Gives s (execWqeFetchAdd qpn s); unfold execWqeFetchAdd; (try dsimp only)
  repeat' first | with_reducible exact gives_dev _ _ | with_reducible exact gives_self _ | split

theorem gives_wqeCompSwap (s : State) : ∀ qpn, Gives s (exec (.wqeCompSwap qpn) s) := by
  intro qpn; show Gives s (execWqeCompSwap qpn s); unfold execWqeCompSwap; (try dsimp only)
  repeat' first | with_reducible exact gives_dev _ _ | with_reducible exact gives_self _ | split

theorem gives_wqeLocalInv (s : State) : ∀ qpn, Gives s (exec (.wqeLocalInv qpn) s) := by
  intro qpn; show Gives s (execWqeLocalInv qpn s); unfold execWqeLocalInv; (try dsimp only)
  repeat' first | with_reducible exact gives_dev _ _ | with_reducible exact gives_self _ | split

theorem gives_wqeRecv (s : State) : ∀ qpn, Gives s (exec (.wqeRecv qpn) s) := by
  intro qpn; show Gives s (execWqeRecv qpn s); unfold execWqeRecv; (try dsimp only)
  repeat' first | with_reducible exact gives_dev _ _ | with_reducible exact gives_self _ | split

theorem gives_regRegion (s : State) : ∀ n, Gives s (exec (.regRegion n) s) := by
  intro n; show Gives s (execRegRegion n s); unfold execRegRegion; (try dsimp only)
  repeat' first | with_reducible exact gives_dev _ _ | with_reducible exact gives_self _ | split

theorem gives_deregRegion (s : State) : ∀ n, Gives s (exec (.deregRegion n) s) := by
  intro n; show Gives s (execDeregRegion n s); unfold execDeregRegion; (try dsimp only)
  repeat' first | with_reducible exact gives_dev _ _ | with_reducible exact gives_self _ | split

theorem gives_createQp (s : State) : ∀ n b, Gives s (exec (.createQp n b) s) := by
  intro n b; show Gives s (execCreateQp n b s); unfold execCreateQp; (try dsimp only)
  repeat' first | with_reducible exact gives_dev _ _ | with_reducible exact gives_self _ | split

theorem gives_modifyQp (s : State) : ∀ n b, Gives s (exec (.modifyQp n b) s) := by
  intro n b; exact gives_ite _ _ _ _ (gives_self _) (gives_modify _ _ _)

theorem gives_modifyQpReset (s : State) : ∀ n b, Gives s (exec (.modifyQpReset n b) s) := by
  intro n b; exact gives_ite _ _ _ _ (gives_modify _ _ _) (gives_self _)

theorem gives_modifyQpInit (s : State) : ∀ n b, Gives s (exec (.modifyQpInit n b) s) := by
  intro n b; exact gives_ite _ _ _ _ (gives_modify _ _ _) (gives_self _)

theorem gives_modifyQpReady (s : State) : ∀ n b, Gives s (exec (.modifyQpReady n b) s) := by
  intro n b; exact gives_ite _ _ _ _ (gives_modify _ _ _) (gives_self _)

theorem gives_modifyQpError (s : State) : ∀ n b, Gives s (exec (.modifyQpError n b) s) := by
  intro n b; exact gives_ite _ _ _ _ (gives_modify _ _ _) (gives_self _)

theorem gives_destroyQp (s : State) : ∀ n, Gives s (exec (.destroyQp n) s) := by
  intro n; show Gives s (execDestroyQp n s); unfold execDestroyQp; (try dsimp only)
  repeat' first | with_reducible exact gives_dev _ _ | with_reducible exact gives_self _ | split

theorem gives_createCq (s : State) : ∀ n, Gives s (exec (.createCq n) s) := by
  intro n; show Gives s (execCreateCq n s); unfold execCreateCq; (try dsimp only)
  repeat' first | with_reducible exact gives_dev _ _ | with_reducible exact gives_self _ | split

theorem gives_destroyCq (s : State) : ∀ n, Gives s (exec (.destroyCq n) s) := by
  intro n; show Gives s (execDestroyCq n s); unfold execDestroyCq; (try dsimp only)
  repeat' first | with_reducible exact gives_dev _ _ | with_reducible exact gives_self _ | split

theorem gives_dict (s : State) : ∀ n msg, Gives s (exec (.dict n msg) s) := by
  intro n msg; show Gives s (execDict n msg s); unfold execDict; (try dsimp only)
  repeat' first
    | with_reducible exact gives_dev _ _ | with_reducible exact gives_self _ | (refine gives_next _ _ ?_; first | with_reducible exact Kept.refl _ | with_reducible exact receive_kept _ _ _ | with_reducible exact writeObject_kept _ _ _ _ _ _ _ | with_reducible exact writeEntry_kept _ _ _ _ _ _ _ _ | with_reducible exact answerWait_kept _ _ _ | with_reducible exact nextRequest_kept _ _ | with_reducible exact takeMessage_kept _ _ _ | with_reducible exact endFar_kept _ _ _ _ | refine Kept.of_dev (answerWait_kept _ _ _) | refine Kept.of_dev (takeMessage_kept _ _ _) | refine Kept.of_dev (receive_kept _ _ _) | exact Kept.dev _ _) | split

theorem gives_qpFlushed (s : State) : ∀ qpn, Gives s (exec (.qpFlushed qpn) s) := by
  intro qpn; show Gives s (execQpFlushed qpn s); unfold execQpFlushed; (try dsimp only)
  repeat' first | with_reducible exact gives_dev _ _ | with_reducible exact gives_self _ | split

theorem gives_packetWrite (s : State) : ∀ h p, Gives s (exec (.packetWrite h p) s) := by
  intro h p; exact gives_packet _ _ _ _

theorem gives_packetWriteImm (s : State) : ∀ h p, Gives s (exec (.packetWriteImm h p) s) := by
  intro h p; exact gives_packet _ _ _ _

theorem gives_packetSend (s : State) : ∀ h p, Gives s (exec (.packetSend h p) s) := by
  intro h p; exact gives_packet _ _ _ _

theorem gives_packetSendImm (s : State) : ∀ h p, Gives s (exec (.packetSendImm h p) s) := by
  intro h p; exact gives_packet _ _ _ _

theorem gives_packetReadReq (s : State) : ∀ h p, Gives s (exec (.packetReadReq h p) s) := by
  intro h p; exact gives_packet _ _ _ _

theorem gives_packetFetchAdd (s : State) : ∀ h p, Gives s (exec (.packetFetchAdd h p) s) := by
  intro h p; exact gives_packet _ _ _ _

theorem gives_packetCompSwap (s : State) : ∀ h p, Gives s (exec (.packetCompSwap h p) s) := by
  intro h p; exact gives_packet _ _ _ _

theorem gives_readResp (s : State) : ∀ h p, Gives s (exec (.readResp h p) s) := by
  intro h p; show Gives s (execReadResp h p s); unfold execReadResp; (try dsimp only)
  repeat' first | with_reducible exact gives_dev _ _ | with_reducible exact gives_self _ | split

theorem gives_atomicResp (s : State) : ∀ h p, Gives s (exec (.atomicResp h p) s) := by
  intro h p; show Gives s (execAtomicResp h p s); unfold execAtomicResp; (try dsimp only)
  repeat' first | with_reducible exact gives_dev _ _ | with_reducible exact gives_self _ | split

theorem gives_rmeAck (s : State) : ∀ h p, Gives s (exec (.rmeAck h p) s) := by
  intro h p; show Gives s (execRmeAck h p s); unfold execRmeAck; (try dsimp only)
  repeat' first | with_reducible exact gives_dev _ _ | with_reducible exact gives_self _ | split

theorem gives_rmeSelectiveNak (s : State) : ∀ h p, Gives s (exec (.rmeSelectiveNak h p) s) := by
  intro h p; show Gives s (execRmeSelectiveNak h p s); unfold execRmeSelectiveNak; (try dsimp only)
  repeat' first | with_reducible exact gives_dev _ _ | with_reducible exact gives_self _ | split

theorem gives_rmeRnrNak (s : State) : ∀ h p, Gives s (exec (.rmeRnrNak h p) s) := by
  intro h p; show Gives s (execRmeRnrNak h p s); unfold execRmeRnrNak; (try dsimp only)
  repeat' first | with_reducible exact gives_dev _ _ | with_reducible exact gives_self _ | split

theorem gives_rmeNakRemoteAccess (s : State) : ∀ h p, Gives s (exec (.rmeNakRemoteAccess h p) s) := by
  intro h p; show Gives s (execRmeNakRemoteAccess h p s); unfold execRmeNakRemoteAccess; (try dsimp only)
  repeat' first | with_reducible exact gives_dev _ _ | with_reducible exact gives_self _ | split

theorem gives_rmeNakRemoteInvalid (s : State) : ∀ h p, Gives s (exec (.rmeNakRemoteInvalid h p) s) := by
  intro h p; show Gives s (execRmeNakRemoteInvalid h p s); unfold execRmeNakRemoteInvalid; (try dsimp only)
  repeat' first | with_reducible exact gives_dev _ _ | with_reducible exact gives_self _ | split

theorem gives_rmeNakKeyGeneration (s : State) : ∀ h p, Gives s (exec (.rmeNakKeyGeneration h p) s) := by
  intro h p; show Gives s (execRmeNakKeyGeneration h p s); unfold execRmeNakKeyGeneration; (try dsimp only)
  repeat' first | with_reducible exact gives_dev _ _ | with_reducible exact gives_self _ | split

theorem gives_skimNotice (s : State) : ∀ h p, Gives s (exec (.skimNotice h p) s) := by
  intro h p; show Gives s (execSkimNotice h p s); unfold execSkimNotice; (try dsimp only)
  repeat' first | with_reducible exact gives_dev _ _ | with_reducible exact gives_self _ | split

theorem gives_rmeRetxTimeout (s : State) : ∀ qpn, Gives s (exec (.rmeRetxTimeout qpn) s) := by
  intro qpn; show Gives s (execRmeRetxTimeout qpn s); unfold execRmeRetxTimeout; (try dsimp only)
  repeat' first | with_reducible exact gives_dev _ _ | with_reducible exact gives_self _ | split

theorem gives_rmeRnrDelayExpiry (s : State) : ∀ qpn, Gives s (exec (.rmeRnrDelayExpiry qpn) s) := by
  intro qpn; show Gives s (execRmeRnrDelayExpiry qpn s); unfold execRmeRnrDelayExpiry; (try dsimp only)
  repeat' first | with_reducible exact gives_dev _ _ | with_reducible exact gives_self _ | split

theorem gives_rmeEchoDue (s : State) : ∀ qpn, Gives s (exec (.rmeEchoDue qpn) s) := by
  intro qpn; show Gives s (execRmeEchoDue qpn s); unfold execRmeEchoDue; (try dsimp only)
  repeat' first | with_reducible exact gives_dev _ _ | with_reducible exact gives_self _ | split

theorem gives_rmeCcIncrease (s : State) : ∀ qpn, Gives s (exec (.rmeCcIncrease qpn) s) := by
  intro qpn; show Gives s (execRmeCcIncrease qpn s); unfold execRmeCcIncrease; (try dsimp only)
  repeat' first | with_reducible exact gives_dev _ _ | with_reducible exact gives_self _ | split

theorem gives_sliceQuiesce (s : State) : ∀ sid rid n, Gives s (exec (.sliceQuiesce sid rid n) s) := by
  intro sid rid n; exact gives_object _ _ _ _ _ _ _

theorem gives_sliceResume (s : State) : ∀ sid rid n, Gives s (exec (.sliceResume sid rid n) s) := by
  intro sid rid n; exact gives_object _ _ _ _ _ _ _

theorem gives_sliceRelease (s : State) : ∀ sid rid n, Gives s (exec (.sliceRelease sid rid n) s) := by
  intro sid rid n; exact gives_object _ _ _ _ _ _ _

theorem gives_sliceQuiesced (s : State) : ∀ n, Gives s (exec (.sliceQuiesced n) s) := by
  intro n; show Gives s (execSliceQuiesced n s); unfold execSliceQuiesced; (try dsimp only)
  repeat' first | with_reducible exact gives_dev _ _ | with_reducible exact gives_self _ | split

theorem gives_sliceQuiesceBudgetExpiry (s : State) : ∀ n, Gives s (exec (.sliceQuiesceBudgetExpiry n) s) := by
  intro n; show Gives s (execSliceQuiesceBudgetExpiry n s); unfold execSliceQuiesceBudgetExpiry; (try dsimp only)
  repeat' first | with_reducible exact gives_dev _ _ | with_reducible exact gives_self _ | split

theorem gives_shaperRateWrite (s : State) : ∀ sid rid h j rate, Gives s (exec (.shaperRateWrite sid rid h j rate) s) := by
  intro sid rid h j rate; exact gives_entry _ _ _ _ _ _ _ _

theorem gives_shaperBurstWrite (s : State) : ∀ sid rid h j burst, Gives s (exec (.shaperBurstWrite sid rid h j burst) s) := by
  intro sid rid h j burst; exact gives_entry _ _ _ _ _ _ _ _

theorem gives_alertAck (s : State) : ∀ sid rid seq, Gives s (exec (.alertAck sid rid seq) s) := by
  intro sid rid seq; exact gives_object _ _ _ _ _ _ _

theorem gives_plogClear (s : State) : ∀ sid rid, Gives s (exec (.plogClear sid rid) s) := by
  intro sid rid; exact gives_object _ _ _ _ _ _ _

theorem gives_creditStallTimeout (s : State) : ∀ p, Gives s (exec (.creditStallTimeout p) s) := by
  intro p; show Gives s (execCreditStallTimeout p s); unfold execCreditStallTimeout; (try dsimp only)
  repeat' first | with_reducible exact gives_dev _ _ | with_reducible exact gives_self _ | split

theorem gives_qdrScrub (s : State) : ∀ h region entry res, Gives s (exec (.qdrScrub h region entry res) s) := by
  intro h region entry res; show Gives s (execQdrScrub h region entry res s); unfold execQdrScrub; (try dsimp only)
  repeat' first | with_reducible exact gives_dev _ _ | with_reducible exact gives_self _ | split

theorem gives_tableScrub (s : State) : ∀ h table entry res, Gives s (exec (.tableScrub h table entry res) s) := by
  intro h table entry res; show Gives s (execTableScrub h table entry res s); unfold execTableScrub; (try dsimp only)
  repeat' first | with_reducible exact gives_dev _ _ | with_reducible exact gives_self _ | split

theorem gives_feedGood (s : State) : ∀ k f mv, Gives s (exec (.feedGood k f mv) s) := by
  intro k f mv; show Gives s (execFeedGood k f mv s); unfold execFeedGood; (try dsimp only)
  repeat' first | with_reducible exact gives_dev _ _ | with_reducible exact gives_self _ | split

theorem gives_feedBad (s : State) : ∀ k f mv, Gives s (exec (.feedBad k f mv) s) := by
  intro k f mv; show Gives s (execFeedBad k f mv s); unfold execFeedBad; (try dsimp only)
  repeat' first | with_reducible exact gives_dev _ _ | with_reducible exact gives_self _ | split

theorem gives_reverseTurnOff (s : State) : ∀ k f, Gives s (exec (.reverseTurnOff k f) s) := by
  intro k f; show Gives s (execReverseTurnOff k f s); unfold execReverseTurnOff; (try dsimp only)
  repeat' first | with_reducible exact gives_dev _ _ | with_reducible exact gives_self _ | split

theorem gives_orGateResume (s : State) : ∀ k f, Gives s (exec (.orGateResume k f) s) := by
  intro k f; show Gives s (execOrGateResume k f s); unfold execOrGateResume; (try dsimp only)
  repeat' first | with_reducible exact gives_dev _ _ | with_reducible exact gives_self _ | split

theorem gives_fastTrip (s : State) : ∀ k, Gives s (exec (.fastTrip k) s) := by
  intro k; show Gives s (execFastTrip k s); unfold execFastTrip; (try dsimp only)
  repeat' first | with_reducible exact gives_dev _ _ | with_reducible exact gives_self _ | split

theorem gives_limitTimerExpiry (s : State) : ∀ k, Gives s (exec (.limitTimerExpiry k) s) := by
  intro k; show Gives s (execLimitTimerExpiry k s); unfold execLimitTimerExpiry; (try dsimp only)
  repeat' first | with_reducible exact gives_dev _ _ | with_reducible exact gives_self _ | split

theorem gives_powerGood (s : State) : ∀ k, Gives s (exec (.powerGood k) s) := by
  intro k; show Gives s (execPowerGood k s); unfold execPowerGood; (try dsimp only)
  repeat' first | with_reducible exact gives_dev _ _ | with_reducible exact gives_self _ | split

theorem gives_rampTimeout (s : State) : ∀ k, Gives s (exec (.rampTimeout k) s) := by
  intro k; show Gives s (execRampTimeout k s); unfold execRampTimeout; (try dsimp only)
  repeat' first | with_reducible exact gives_dev _ _ | with_reducible exact gives_self _ | split

theorem gives_presenceAssert (s : State) : ∀ k, Gives s (exec (.presenceAssert k) s) := by
  intro k; show Gives s (execPresenceAssert k s); unfold execPresenceAssert; (try dsimp only)
  repeat' first | with_reducible exact gives_dev _ _ | with_reducible exact gives_self _ | split

theorem gives_presenceLoss (s : State) : ∀ k, Gives s (exec (.presenceLoss k) s) := by
  intro k; show Gives s (execPresenceLoss k s); unfold execPresenceLoss; (try dsimp only)
  repeat' first | with_reducible exact gives_dev _ _ | with_reducible exact gives_self _ | split

theorem gives_insertDelayExpiry (s : State) : ∀ k, Gives s (exec (.insertDelayExpiry k) s) := by
  intro k; show Gives s (execInsertDelayExpiry k s); unfold execInsertDelayExpiry; (try dsimp only)
  repeat' first | with_reducible exact gives_dev _ _ | with_reducible exact gives_self _ | split

theorem gives_channelStart (s : State) : ∀ k, Gives s (exec (.channelStart k) s) := by
  intro k; show Gives s (execChannelStart k s); unfold execChannelStart; (try dsimp only)
  repeat' first | with_reducible exact gives_dev _ _ | with_reducible exact gives_self _ | split

theorem gives_cooldownExpiry (s : State) : ∀ k, Gives s (exec (.cooldownExpiry k) s) := by
  intro k; show Gives s (execCooldownExpiry k s); unfold execCooldownExpiry; (try dsimp only)
  repeat' first | with_reducible exact gives_dev _ _ | with_reducible exact gives_self _ | split

theorem gives_absenceCountClear (s : State) : ∀ k, Gives s (exec (.absenceCountClear k) s) := by
  intro k; show Gives s (execAbsenceCountClear k s); unfold execAbsenceCountClear; (try dsimp only)
  repeat' first | with_reducible exact gives_dev _ _ | with_reducible exact gives_self _ | split

theorem gives_slotEnableWrite (s : State) : ∀ sid rid k v, Gives s (exec (.slotEnableWrite sid rid k v) s) := by
  intro sid rid k v; exact gives_object _ _ _ _ _ _ _

theorem gives_slotClearFaults (s : State) : ∀ sid rid k, Gives s (exec (.slotClearFaults sid rid k) s) := by
  intro sid rid k; exact gives_object _ _ _ _ _ _ _

theorem gives_slotClearEnergy (s : State) : ∀ sid rid k, Gives s (exec (.slotClearEnergy sid rid k) s) := by
  intro sid rid k; exact gives_object _ _ _ _ _ _ _

theorem gives_perstRelease (s : State) : ∀ k, Gives s (exec (.perstRelease k) s) := by
  intro k; show Gives s (execPerstRelease k s); unfold execPerstRelease; (try dsimp only)
  repeat' first | with_reducible exact gives_dev _ _ | with_reducible exact gives_self _ | split

theorem gives_brakeAssert (s : State) : ∀ g, Gives s (exec (.brakeAssert g) s) := by
  intro g; show Gives s (execBrakeAssert g s); unfold execBrakeAssert; (try dsimp only)
  repeat' first | with_reducible exact gives_dev _ _ | with_reducible exact gives_self _ | split

theorem gives_brakeRelease (s : State) : ∀ g, Gives s (exec (.brakeRelease g) s) := by
  intro g; show Gives s (execBrakeRelease g s); unfold execBrakeRelease; (try dsimp only)
  repeat' first | with_reducible exact gives_dev _ _ | with_reducible exact gives_self _ | split

theorem gives_sbBusInit (s : State) : ∀ k, Gives s (exec (.sbBusInit k) s) := by
  intro k; show Gives s (execSbBusInit k s); unfold execSbBusInit; (try dsimp only)
  repeat' first | with_reducible exact gives_dev _ _ | with_reducible exact gives_self _ | split

theorem gives_attentionPress (s : State) : ∀ k, Gives s (exec (.attentionPress k) s) := by
  intro k; show Gives s (execAttentionPress k s); unfold execAttentionPress; (try dsimp only)
  repeat' first | with_reducible exact gives_dev _ _ | with_reducible exact gives_self _ | split

theorem gives_sbEntryDue (s : State) : ∀ e, Gives s (exec (.sbEntryDue e) s) := by
  intro e; show Gives s (execSbEntryDue e s); unfold execSbEntryDue; (try dsimp only)
  repeat' first | with_reducible exact gives_dev _ _ | with_reducible exact gives_self _ | split

theorem gives_sbAlertPoll (s : State) : ∀ k, Gives s (exec (.sbAlertPoll k) s) := by
  intro k; show Gives s (execSbAlertPoll k s); unfold execSbAlertPoll; (try dsimp only)
  repeat' first | with_reducible exact gives_dev _ _ | with_reducible exact gives_self _ | split

theorem gives_sbTransactionStart (s : State) : ∀ k, Gives s (exec (.sbTransactionStart k) s) := by
  intro k; show Gives s (execSbTransactionStart k s); unfold execSbTransactionStart; (try dsimp only)
  repeat' first | with_reducible exact gives_dev _ _ | with_reducible exact gives_self _ | split

theorem gives_sbTransactionEnd (s : State) : ∀ k r, Gives s (exec (.sbTransactionEnd k r) s) := by
  intro k r; show Gives s (execSbTransactionEnd k r s); unfold execSbTransactionEnd; (try dsimp only)
  repeat' first
    | with_reducible exact gives_dev _ _ | with_reducible exact gives_self _ | (refine gives_next _ _ ?_; first | with_reducible exact Kept.refl _ | with_reducible exact receive_kept _ _ _ | with_reducible exact writeObject_kept _ _ _ _ _ _ _ | with_reducible exact writeEntry_kept _ _ _ _ _ _ _ _ | with_reducible exact answerWait_kept _ _ _ | with_reducible exact nextRequest_kept _ _ | with_reducible exact takeMessage_kept _ _ _ | with_reducible exact endFar_kept _ _ _ _ | refine Kept.of_dev (answerWait_kept _ _ _) | refine Kept.of_dev (takeMessage_kept _ _ _) | refine Kept.of_dev (receive_kept _ _ _) | exact Kept.dev _ _) | split

theorem gives_sbBusTimeout (s : State) : ∀ k, Gives s (exec (.sbBusTimeout k) s) := by
  intro k; show Gives s (execSbBusTimeout k s); unfold execSbBusTimeout; (try dsimp only)
  repeat' first | with_reducible exact gives_dev _ _ | with_reducible exact gives_self _ | split

theorem gives_sbValueWrite (s : State) : ∀ sid rid w v, Gives s (exec (.sbValueWrite sid rid w v) s) := by
  intro sid rid w v; exact gives_entry _ _ _ _ _ _ _ _

theorem gives_sbFarTimeout (s : State) : ∀ sid, Gives s (exec (.sbFarTimeout sid) s) := by
  intro sid; show Gives s (execSbFarTimeout sid s); unfold execSbFarTimeout; (try dsimp only)
  repeat' first | with_reducible exact gives_dev _ _ | with_reducible exact gives_self _ | split

theorem gives_sbFarRead (s : State) : ∀ sid rid, Gives s (exec (.sbFarRead sid rid) s) := by
  intro sid rid; exact gives_object _ _ _ _ _ _ _

theorem gives_sbFarWrite (s : State) : ∀ sid rid, Gives s (exec (.sbFarWrite sid rid) s) := by
  intro sid rid; exact gives_object _ _ _ _ _ _ _

theorem gives_sbStrayClear (s : State) : ∀ sid rid, Gives s (exec (.sbStrayClear sid rid) s) := by
  intro sid rid; exact gives_object _ _ _ _ _ _ _

theorem gives_pwrRunRequest (s : State) : ∀ sid rid, Gives s (exec (.pwrRunRequest sid rid) s) := by
  intro sid rid; exact gives_object _ _ _ _ _ _ _

theorem gives_pwrIdleArm (s : State) : ∀ sid rid, Gives s (exec (.pwrIdleArm sid rid) s) := by
  intro sid rid; exact gives_object _ _ _ _ _ _ _

theorem gives_pwrSleepRequest (s : State) : ∀ sid rid, Gives s (exec (.pwrSleepRequest sid rid) s) := by
  intro sid rid; exact gives_object _ _ _ _ _ _ _

theorem gives_pwrDeepSleepRequest (s : State) : ∀ sid rid, Gives s (exec (.pwrDeepSleepRequest sid rid) s) := by
  intro sid rid; exact gives_object _ _ _ _ _ _ _

theorem gives_pwrOffRequest (s : State) : ∀ sid rid, Gives s (exec (.pwrOffRequest sid rid) s) := by
  intro sid rid; exact gives_object _ _ _ _ _ _ _

theorem gives_idleEnter (s : State) : Gives s (exec (.idleEnter) s) := by
  show Gives s (execIdleEnter s); unfold execIdleEnter; (try dsimp only)
  repeat' first | with_reducible exact gives_dev _ _ | with_reducible exact gives_self _ | split

theorem gives_idleExit (s : State) : Gives s (exec (.idleExit) s) := by
  show Gives s (execIdleExit s); unfold execIdleExit; (try dsimp only)
  repeat' first | with_reducible exact gives_dev _ _ | with_reducible exact gives_self _ | split

theorem gives_pwrEntryDone (s : State) : Gives s (exec (.pwrEntryDone) s) := by
  show Gives s (execPwrEntryDone s); unfold execPwrEntryDone; (try dsimp only)
  repeat' first | with_reducible exact gives_dev _ _ | with_reducible exact gives_self _ | split

theorem gives_wakeEvent (s : State) : ∀ w, Gives s (exec (.wakeEvent w) s) := by
  intro w; show Gives s (execWakeEvent w s); unfold execWakeEvent; (try dsimp only)
  repeat' first | with_reducible exact gives_dev _ _ | with_reducible exact gives_self _ | split

theorem gives_pwrExitDone (s : State) : Gives s (exec .pwrExitDone s) := by
  refine gives_ite _ _ _ _ ?_ (gives_self _); exact ⟨_, rfl, Kept.dev s _⟩

theorem gives_offWakeRailsGood (s : State) : Gives s (exec (.offWakeRailsGood) s) := by
  show Gives s (execOffWakeRailsGood s); unfold execOffWakeRailsGood; (try dsimp only)
  repeat' first | with_reducible exact gives_dev _ _ | with_reducible exact gives_self _ | split

theorem gives_offWakeTimeout (s : State) : Gives s (exec (.offWakeTimeout) s) := by
  show Gives s (execOffWakeTimeout s); unfold execOffWakeTimeout; (try dsimp only)
  repeat' first | with_reducible exact gives_dev _ _ | with_reducible exact gives_self _ | split

theorem gives_aoCrystalStop (s : State) : Gives s (exec (.aoCrystalStop) s) := by
  show Gives s (execAoCrystalStop s); unfold execAoCrystalStop; (try dsimp only)
  repeat' first | with_reducible exact gives_dev _ _ | with_reducible exact gives_self _ | split

theorem gives_aoCrystalResume (s : State) : Gives s (exec (.aoCrystalResume) s) := by
  show Gives s (execAoCrystalResume s); unfold execAoCrystalResume; (try dsimp only)
  repeat' first | with_reducible exact gives_dev _ _ | with_reducible exact gives_self _ | split

theorem gives_thermalSample (s : State) : ∀ temps, Gives s (exec (.thermalSample temps) s) := by
  intro temps; show Gives s (execThermalSample temps s); unfold execThermalSample; (try dsimp only)
  repeat' first | with_reducible exact gives_dev _ _ | with_reducible exact gives_self _ | split

theorem gives_throttleStep (s : State) : ∀ h, Gives s (exec (.throttleStep h) s) := by
  intro h; exact gives_ite _ _ _ _ (gives_dev _ _) (gives_ite _ _ _ _ (gives_dev _ _) (gives_self _)) -- gives_throttle

theorem gives_perennialMeasure (s : State) : ∀ h ageing slack qdrOk seamOk, Gives s (exec (.perennialMeasure h ageing slack qdrOk seamOk) s) := by
  intro h ageing slack qdrOk seamOk; show Gives s (execPerennialMeasure h ageing slack qdrOk seamOk s); unfold execPerennialMeasure; (try dsimp only)
  repeat' first | with_reducible exact gives_dev _ _ | with_reducible exact gives_self _ | split

theorem gives_perennialSummary (s : State) : ∀ h, Gives s (exec (.perennialSummary h) s) := by
  intro h; show Gives s (execPerennialSummary h s); unfold execPerennialSummary; (try dsimp only)
  repeat' first | with_reducible exact gives_dev _ _ | with_reducible exact gives_self _ | split

theorem gives_perennialReplan (s : State) : ∀ h, Gives s (exec (.perennialReplan h) s) := by
  intro h; show Gives s (execPerennialReplan h s); unfold execPerennialReplan; (try dsimp only)
  repeat' first | with_reducible exact gives_dev _ _ | with_reducible exact gives_self _ | split

theorem gives_perMeasureNow (s : State) : ∀ sid rid, Gives s (exec (.perMeasureNow sid rid) s) := by
  intro sid rid; exact gives_object _ _ _ _ _ _ _

theorem gives_perReplanNow (s : State) : ∀ sid rid, Gives s (exec (.perReplanNow sid rid) s) := by
  intro sid rid; exact gives_object _ _ _ _ _ _ _

theorem gives_perRetuneSeam (s : State) : ∀ sid rid, Gives s (exec (.perRetuneSeam sid rid) s) := by
  intro sid rid; exact gives_object _ _ _ _ _ _ _

theorem gives_railFollowTimeout (s : State) : ∀ h measured, Gives s (exec (.railFollowTimeout h measured) s) := by
  intro h measured; show Gives s (execRailFollowTimeout h measured s); unfold execRailFollowTimeout; (try dsimp only)
  repeat' first | with_reducible exact gives_dev _ _ | with_reducible exact gives_self _ | split

theorem gives_pmuSnap (s : State) : ∀ sid rid, Gives s (exec (.pmuSnap sid rid) s) := by
  intro sid rid; exact gives_object _ _ _ _ _ _ _

theorem gives_pmuSnapLatch (s : State) : ∀ sid, Gives s (exec (.pmuSnapLatch sid) s) := by
  intro sid; show Gives s (execPmuSnapLatch sid s); unfold execPmuSnapLatch; dsimp only
  have key : ∀ (l : List Session) (u : State), Kept s u → Kept s (l.foldl (fun s y => answerWait s y.sid Status.ok) u) := by
    intro l; induction l with
    | nil => intro u h; exact h
    | cons a t ih => intro u h; exact ih _ (h.trans (answerWait_kept _ _ _))
  split
  · exact gives_next _ _ (key _ _ (Kept.dev s _))
  · exact gives_self _

theorem gives_pmuCtrClear (s : State) : ∀ sid rid v, Gives s (exec (.pmuCtrClear sid rid v) s) := by
  intro sid rid v; exact gives_entry _ _ _ _ _ _ _ _

theorem gives_samplingEnable (s : State) : ∀ sid rid on, Gives s (exec (.samplingEnable sid rid on) s) := by
  intro sid rid on; exact gives_object _ _ _ _ _ _ _

theorem gives_sampleSelect (s : State) : ∀ h j f out, Gives s (exec (.sampleSelect h j f out) s) := by
  intro h j f out; show Gives s (execSampleSelect h j f out s); unfold execSampleSelect; (try dsimp only)
  repeat' first | with_reducible exact gives_dev _ _ | with_reducible exact gives_self _ | split

theorem gives_harvestRecordWritten (s : State) : ∀ h, Gives s (exec (.harvestRecordWritten h) s) := by
  intro h; show Gives s (execHarvestRecordWritten h s); unfold execHarvestRecordWritten; (try dsimp only)
  repeat' first | with_reducible exact gives_dev _ _ | with_reducible exact gives_self _ | split

theorem gives_harvestEnableWrite (s : State) : ∀ sid rid on, Gives s (exec (.harvestEnableWrite sid rid on) s) := by
  intro sid rid on; exact gives_object _ _ _ _ _ _ _

theorem gives_harvestClear (s : State) : ∀ sid rid, Gives s (exec (.harvestClear sid rid) s) := by
  intro sid rid; exact gives_object _ _ _ _ _ _ _

theorem gives_testUnlockEnd (s : State) : ∀ sid rid, Gives s (exec (.testUnlockEnd sid rid) s) := by
  intro sid rid; exact gives_object _ _ _ _ _ _ _

theorem gives_testUnlockLevel1 (s : State) : ∀ sid rid, Gives s (exec (.testUnlockLevel1 sid rid) s) := by
  intro sid rid; exact gives_object _ _ _ _ _ _ _

theorem gives_testUnlockLevel2 (s : State) : ∀ sid rid, Gives s (exec (.testUnlockLevel2 sid rid) s) := by
  intro sid rid; exact gives_object _ _ _ _ _ _ _

theorem gives_testUnlockResponse (s : State) : ∀ sid rid key signature, Gives s (exec (.testUnlockResponse sid rid key signature) s) := by
  intro sid rid key signature; show Gives s (execTestUnlockResponse sid rid key signature s); unfold execTestUnlockResponse; (try dsimp only)
  repeat' first
    | with_reducible exact gives_dev _ _ | with_reducible exact gives_self _ | (refine gives_next _ _ ?_; first | with_reducible exact Kept.refl _ | with_reducible exact receive_kept _ _ _ | with_reducible exact writeObject_kept _ _ _ _ _ _ _ | with_reducible exact writeEntry_kept _ _ _ _ _ _ _ _ | with_reducible exact answerWait_kept _ _ _ | with_reducible exact nextRequest_kept _ _ | with_reducible exact takeMessage_kept _ _ _ | with_reducible exact endFar_kept _ _ _ _ | refine Kept.of_dev (answerWait_kept _ _ _) | refine Kept.of_dev (takeMessage_kept _ _ _) | refine Kept.of_dev (receive_kept _ _ _) | exact Kept.dev _ _) | split

theorem gives_testChallengeExpiry (s : State) : Gives s (exec (.testChallengeExpiry) s) := by
  show Gives s (execTestChallengeExpiry s); unfold execTestChallengeExpiry; (try dsimp only)
  repeat' first | with_reducible exact gives_dev _ _ | with_reducible exact gives_self _ | split

theorem gives_testUnlockTimeout (s : State) : Gives s (exec (.testUnlockTimeout) s) := by
  show Gives s (execTestUnlockTimeout s); unfold execTestUnlockTimeout; (try dsimp only)
  repeat' first | with_reducible exact gives_dev _ _ | with_reducible exact gives_self _ | split

theorem gives_jtagChallenge (s : State) : ∀ h, Gives s (exec (.jtagChallenge h) s) := by
  intro h; show Gives s (execJtagChallenge h s); unfold execJtagChallenge; (try dsimp only)
  repeat' first | with_reducible exact gives_dev _ _ | with_reducible exact gives_self _ | split

theorem gives_jtagUnlock (s : State) : ∀ h level key signature, Gives s (exec (.jtagUnlock h level key signature) s) := by
  intro h level key signature; show Gives s (execJtagUnlock h level key signature s); unfold execJtagUnlock; (try dsimp only)
  repeat' first | with_reducible exact gives_dev _ _ | with_reducible exact gives_self _ | split

theorem gives_jtagDict (s : State) : ∀ h i k, Gives s (exec (.jtagDict h i k) s) := by
  intro h i k; refine gives_ite _ _ _ _ (gives_self _) (gives_ite _ _ _ _ (gives_dev _ _) ?_)
  dsimp only
  have q := readItem_kept s (ownerView h) { rid := 0, opcode := Opcode.read, staged := false, todo := [], done := [], wait := .none, raw := [] } { idx := i, sub := k, type := 0, data := [] }
  split <;> (rename_i e2; rw [e2] at q; exact gives_on _ _ q _)

theorem gives_pertArm (s : State) : ∀ sid rid e, Gives s (exec (.pertArm sid rid e) s) := by
  intro sid rid e; exact gives_entry _ _ _ _ _ _ _ _

theorem gives_pertDisarm (s : State) : ∀ sid rid e, Gives s (exec (.pertDisarm sid rid e) s) := by
  intro sid rid e; exact gives_entry _ _ _ _ _ _ _ _

theorem gives_vao18Loss (s : State) : Gives s (exec (.vao18Loss) s) := by
  show Gives s (execVao18Loss s); unfold execVao18Loss; (try dsimp only)
  repeat' first | with_reducible exact gives_dev _ _ | with_reducible exact gives_self _ | split

theorem gives_linkRecoveryEntry (s : State) : ∀ p, Gives s (exec (.linkRecoveryEntry p) s) := by
  intro p; show Gives s (execLinkRecoveryEntry p s); unfold execLinkRecoveryEntry; (try dsimp only)
  repeat' first | with_reducible exact gives_dev _ _ | with_reducible exact gives_self _ | split

theorem gives_linkRecoveryEnd (s : State) : ∀ p r, Gives s (exec (.linkRecoveryEnd p r) s) := by
  intro p r; show Gives s (execLinkRecoveryEnd p r s); unfold execLinkRecoveryEnd; (try dsimp only)
  repeat' first | with_reducible exact gives_dev _ _ | with_reducible exact gives_self _ | split

theorem gives_stationPllLockLoss (s : State) : ∀ st clockAbsent, Gives s (exec (.stationPllLockLoss st clockAbsent) s) := by
  intro st clockAbsent; show Gives s (execStationPllLockLoss st clockAbsent s); unfold execStationPllLockLoss; (try dsimp only)
  repeat' first | with_reducible exact gives_dev _ _ | with_reducible exact gives_self _ | split

theorem gives_ideKm (s : State) : ∀ node activate key, Gives s (exec (.ideKm node activate key) s) := by
  intro node activate key; show Gives s (execIdeKm node activate key s); unfold execIdeKm; (try dsimp only)
  repeat' first | with_reducible exact gives_dev _ _ | with_reducible exact gives_self _ | split

end Sys2Proof.Safety
end

