-- ==== Sys2Proof/Laws/State.lean ====
section
/-!
SUPPORT. Sys2Proof/Laws/State.lean: what each one-field update of the device leaves alone, one lemma per field, and the
same of the state. The lemmas about `objs` stand in Laws/Store.lean.
-/
namespace Sys2Proof.Machine

/-! `Dev.wr` changes `objs` alone. -/

@[simp] theorem Dev.wr_clk (d : Dev) (k : Key) (v : Val) : (d.wr k v).clk = d.clk := rfl
@[simp] theorem Dev.wr_fresh (d : Dev) (k : Key) (v : Val) : (d.wr k v).fresh = d.fresh := rfl
@[simp] theorem Dev.wr_resetObjs (d : Dev) (k : Key) (v : Val) : (d.wr k v).resetObjs = d.resetObjs := rfl
@[simp] theorem Dev.wr_pins (d : Dev) (k : Key) (v : Val) : (d.wr k v).pins = d.pins := rfl
@[simp] theorem Dev.wr_pa (d : Dev) (k : Key) (v : Val) : (d.wr k v).pa = d.pa := rfl
@[simp] theorem Dev.wr_boot (d : Dev) (k : Key) (v : Val) : (d.wr k v).boot = d.boot := rfl
@[simp] theorem Dev.wr_clocks (d : Dev) (k : Key) (v : Val) : (d.wr k v).clocks = d.clocks := rfl
@[simp] theorem Dev.wr_sessions (d : Dev) (k : Key) (v : Val) : (d.wr k v).sessions = d.sessions := rfl
@[simp] theorem Dev.wr_nextSid (d : Dev) (k : Key) (v : Val) : (d.wr k v).nextSid = d.nextSid := rfl
@[simp] theorem Dev.wr_mailboxes (d : Dev) (k : Key) (v : Val) : (d.wr k v).mailboxes = d.mailboxes := rfl
@[simp] theorem Dev.wr_endpoints (d : Dev) (k : Key) (v : Val) : (d.wr k v).endpoints = d.endpoints := rfl
@[simp] theorem Dev.wr_commit (d : Dev) (k : Key) (v : Val) : (d.wr k v).commit = d.commit := rfl
@[simp] theorem Dev.wr_commitQueue (d : Dev) (k : Key) (v : Val) : (d.wr k v).commitQueue = d.commitQueue := rfl
@[simp] theorem Dev.wr_storeWrite (d : Dev) (k : Key) (v : Val) : (d.wr k v).storeWrite = d.storeWrite := rfl
@[simp] theorem Dev.wr_storeW (d : Dev) (k : Key) (v : Val) : (d.wr k v).storeW = d.storeW := rfl
@[simp] theorem Dev.wr_storeE (d : Dev) (k : Key) (v : Val) : (d.wr k v).storeE = d.storeE := rfl
@[simp] theorem Dev.wr_flash (d : Dev) (k : Key) (v : Val) : (d.wr k v).flash = d.flash := rfl
@[simp] theorem Dev.wr_lanes (d : Dev) (k : Key) (v : Val) : (d.wr k v).lanes = d.lanes := rfl
@[simp] theorem Dev.wr_ports (d : Dev) (k : Key) (v : Val) : (d.wr k v).ports = d.ports := rfl
@[simp] theorem Dev.wr_nodes (d : Dev) (k : Key) (v : Val) : (d.wr k v).nodes = d.nodes := rfl
@[simp] theorem Dev.wr_cfg (d : Dev) (k : Key) (v : Val) : (d.wr k v).cfg = d.cfg := rfl
@[simp] theorem Dev.wr_msix (d : Dev) (k : Key) (v : Val) : (d.wr k v).msix = d.msix := rfl
@[simp] theorem Dev.wr_bufW (d : Dev) (k : Key) (v : Val) : (d.wr k v).bufW = d.bufW := rfl
@[simp] theorem Dev.wr_bufE (d : Dev) (k : Key) (v : Val) : (d.wr k v).bufE = d.bufE := rfl
@[simp] theorem Dev.wr_nextFrame (d : Dev) (k : Key) (v : Val) : (d.wr k v).nextFrame = d.nextFrame := rfl
@[simp] theorem Dev.wr_seam (d : Dev) (k : Key) (v : Val) : (d.wr k v).seam = d.seam := rfl
@[simp] theorem Dev.wr_meters (d : Dev) (k : Key) (v : Val) : (d.wr k v).meters = d.meters := rfl
@[simp] theorem Dev.wr_shapers (d : Dev) (k : Key) (v : Val) : (d.wr k v).shapers = d.shapers := rfl
@[simp] theorem Dev.wr_nodeTags (d : Dev) (k : Key) (v : Val) : (d.wr k v).nodeTags = d.nodeTags := rfl
@[simp] theorem Dev.wr_classTags (d : Dev) (k : Key) (v : Val) : (d.wr k v).classTags = d.classTags := rfl
@[simp] theorem Dev.wr_classTime (d : Dev) (k : Key) (v : Val) : (d.wr k v).classTime = d.classTime := rfl
@[simp] theorem Dev.wr_fns (d : Dev) (k : Key) (v : Val) : (d.wr k v).fns = d.fns := rfl
@[simp] theorem Dev.wr_views (d : Dev) (k : Key) (v : Val) : (d.wr k v).views = d.views := rfl
@[simp] theorem Dev.wr_barsFound (d : Dev) (k : Key) (v : Val) : (d.wr k v).barsFound = d.barsFound := rfl
@[simp] theorem Dev.wr_gam (d : Dev) (k : Key) (v : Val) : (d.wr k v).gam = d.gam := rfl
@[simp] theorem Dev.wr_gamDead (d : Dev) (k : Key) (v : Val) : (d.wr k v).gamDead = d.gamDead := rfl
@[simp] theorem Dev.wr_trackW (d : Dev) (k : Key) (v : Val) : (d.wr k v).trackW = d.trackW := rfl
@[simp] theorem Dev.wr_trackE (d : Dev) (k : Key) (v : Val) : (d.wr k v).trackE = d.trackE := rfl
@[simp] theorem Dev.wr_trackRetired (d : Dev) (k : Key) (v : Val) : (d.wr k v).trackRetired = d.trackRetired := rfl
@[simp] theorem Dev.wr_pair (d : Dev) (k : Key) (v : Val) : (d.wr k v).pair = d.pair := rfl
@[simp] theorem Dev.wr_bfl (d : Dev) (k : Key) (v : Val) : (d.wr k v).bfl = d.bfl := rfl
@[simp] theorem Dev.wr_homes (d : Dev) (k : Key) (v : Val) : (d.wr k v).homes = d.homes := rfl
@[simp] theorem Dev.wr_rme (d : Dev) (k : Key) (v : Val) : (d.wr k v).rme = d.rme := rfl
@[simp] theorem Dev.wr_log (d : Dev) (k : Key) (v : Val) : (d.wr k v).log = d.log := rfl
@[simp] theorem Dev.wr_slots (d : Dev) (k : Key) (v : Val) : (d.wr k v).slots = d.slots := rfl
@[simp] theorem Dev.wr_sb (d : Dev) (k : Key) (v : Val) : (d.wr k v).sb = d.sb := rfl
@[simp] theorem Dev.wr_stray (d : Dev) (k : Key) (v : Val) : (d.wr k v).stray = d.stray := rfl
@[simp] theorem Dev.wr_wordsRead (d : Dev) (k : Key) (v : Val) : (d.wr k v).wordsRead = d.wordsRead := rfl
@[simp] theorem Dev.wr_pwr (d : Dev) (k : Key) (v : Val) : (d.wr k v).pwr = d.pwr := rfl
@[simp] theorem Dev.wr_per (d : Dev) (k : Key) (v : Val) : (d.wr k v).per = d.per := rfl
@[simp] theorem Dev.wr_tele (d : Dev) (k : Key) (v : Val) : (d.wr k v).tele = d.tele := rfl
@[simp] theorem Dev.wr_test (d : Dev) (k : Key) (v : Val) : (d.wr k v).test = d.test := rfl
@[simp] theorem Dev.wr_out (d : Dev) (k : Key) (v : Val) : (d.wr k v).out = d.out := rfl

/-! `Dev.setNum` changes `objs` alone. -/

@[simp] theorem Dev.setNum_clk (d : Dev) (k : Key) (n : Nat) : (d.setNum k n).clk = d.clk := rfl
@[simp] theorem Dev.setNum_fresh (d : Dev) (k : Key) (n : Nat) : (d.setNum k n).fresh = d.fresh := rfl
@[simp] theorem Dev.setNum_resetObjs (d : Dev) (k : Key) (n : Nat) : (d.setNum k n).resetObjs = d.resetObjs := rfl
@[simp] theorem Dev.setNum_pins (d : Dev) (k : Key) (n : Nat) : (d.setNum k n).pins = d.pins := rfl
@[simp] theorem Dev.setNum_pa (d : Dev) (k : Key) (n : Nat) : (d.setNum k n).pa = d.pa := rfl
@[simp] theorem Dev.setNum_boot (d : Dev) (k : Key) (n : Nat) : (d.setNum k n).boot = d.boot := rfl
@[simp] theorem Dev.setNum_clocks (d : Dev) (k : Key) (n : Nat) : (d.setNum k n).clocks = d.clocks := rfl
@[simp] theorem Dev.setNum_sessions (d : Dev) (k : Key) (n : Nat) : (d.setNum k n).sessions = d.sessions := rfl
@[simp] theorem Dev.setNum_nextSid (d : Dev) (k : Key) (n : Nat) : (d.setNum k n).nextSid = d.nextSid := rfl
@[simp] theorem Dev.setNum_mailboxes (d : Dev) (k : Key) (n : Nat) : (d.setNum k n).mailboxes = d.mailboxes := rfl
@[simp] theorem Dev.setNum_endpoints (d : Dev) (k : Key) (n : Nat) : (d.setNum k n).endpoints = d.endpoints := rfl
@[simp] theorem Dev.setNum_commit (d : Dev) (k : Key) (n : Nat) : (d.setNum k n).commit = d.commit := rfl
@[simp] theorem Dev.setNum_commitQueue (d : Dev) (k : Key) (n : Nat) : (d.setNum k n).commitQueue = d.commitQueue := rfl
@[simp] theorem Dev.setNum_storeWrite (d : Dev) (k : Key) (n : Nat) : (d.setNum k n).storeWrite = d.storeWrite := rfl
@[simp] theorem Dev.setNum_storeW (d : Dev) (k : Key) (n : Nat) : (d.setNum k n).storeW = d.storeW := rfl
@[simp] theorem Dev.setNum_storeE (d : Dev) (k : Key) (n : Nat) : (d.setNum k n).storeE = d.storeE := rfl
@[simp] theorem Dev.setNum_flash (d : Dev) (k : Key) (n : Nat) : (d.setNum k n).flash = d.flash := rfl
@[simp] theorem Dev.setNum_lanes (d : Dev) (k : Key) (n : Nat) : (d.setNum k n).lanes = d.lanes := rfl
@[simp] theorem Dev.setNum_ports (d : Dev) (k : Key) (n : Nat) : (d.setNum k n).ports = d.ports := rfl
@[simp] theorem Dev.setNum_nodes (d : Dev) (k : Key) (n : Nat) : (d.setNum k n).nodes = d.nodes := rfl
@[simp] theorem Dev.setNum_cfg (d : Dev) (k : Key) (n : Nat) : (d.setNum k n).cfg = d.cfg := rfl
@[simp] theorem Dev.setNum_msix (d : Dev) (k : Key) (n : Nat) : (d.setNum k n).msix = d.msix := rfl
@[simp] theorem Dev.setNum_bufW (d : Dev) (k : Key) (n : Nat) : (d.setNum k n).bufW = d.bufW := rfl
@[simp] theorem Dev.setNum_bufE (d : Dev) (k : Key) (n : Nat) : (d.setNum k n).bufE = d.bufE := rfl
@[simp] theorem Dev.setNum_nextFrame (d : Dev) (k : Key) (n : Nat) : (d.setNum k n).nextFrame = d.nextFrame := rfl
@[simp] theorem Dev.setNum_seam (d : Dev) (k : Key) (n : Nat) : (d.setNum k n).seam = d.seam := rfl
@[simp] theorem Dev.setNum_meters (d : Dev) (k : Key) (n : Nat) : (d.setNum k n).meters = d.meters := rfl
@[simp] theorem Dev.setNum_shapers (d : Dev) (k : Key) (n : Nat) : (d.setNum k n).shapers = d.shapers := rfl
@[simp] theorem Dev.setNum_nodeTags (d : Dev) (k : Key) (n : Nat) : (d.setNum k n).nodeTags = d.nodeTags := rfl
@[simp] theorem Dev.setNum_classTags (d : Dev) (k : Key) (n : Nat) : (d.setNum k n).classTags = d.classTags := rfl
@[simp] theorem Dev.setNum_classTime (d : Dev) (k : Key) (n : Nat) : (d.setNum k n).classTime = d.classTime := rfl
@[simp] theorem Dev.setNum_fns (d : Dev) (k : Key) (n : Nat) : (d.setNum k n).fns = d.fns := rfl
@[simp] theorem Dev.setNum_views (d : Dev) (k : Key) (n : Nat) : (d.setNum k n).views = d.views := rfl
@[simp] theorem Dev.setNum_barsFound (d : Dev) (k : Key) (n : Nat) : (d.setNum k n).barsFound = d.barsFound := rfl
@[simp] theorem Dev.setNum_gam (d : Dev) (k : Key) (n : Nat) : (d.setNum k n).gam = d.gam := rfl
@[simp] theorem Dev.setNum_gamDead (d : Dev) (k : Key) (n : Nat) : (d.setNum k n).gamDead = d.gamDead := rfl
@[simp] theorem Dev.setNum_trackW (d : Dev) (k : Key) (n : Nat) : (d.setNum k n).trackW = d.trackW := rfl
@[simp] theorem Dev.setNum_trackE (d : Dev) (k : Key) (n : Nat) : (d.setNum k n).trackE = d.trackE := rfl
@[simp] theorem Dev.setNum_trackRetired (d : Dev) (k : Key) (n : Nat) : (d.setNum k n).trackRetired = d.trackRetired := rfl
@[simp] theorem Dev.setNum_pair (d : Dev) (k : Key) (n : Nat) : (d.setNum k n).pair = d.pair := rfl
@[simp] theorem Dev.setNum_bfl (d : Dev) (k : Key) (n : Nat) : (d.setNum k n).bfl = d.bfl := rfl
@[simp] theorem Dev.setNum_homes (d : Dev) (k : Key) (n : Nat) : (d.setNum k n).homes = d.homes := rfl
@[simp] theorem Dev.setNum_rme (d : Dev) (k : Key) (n : Nat) : (d.setNum k n).rme = d.rme := rfl
@[simp] theorem Dev.setNum_log (d : Dev) (k : Key) (n : Nat) : (d.setNum k n).log = d.log := rfl
@[simp] theorem Dev.setNum_slots (d : Dev) (k : Key) (n : Nat) : (d.setNum k n).slots = d.slots := rfl
@[simp] theorem Dev.setNum_sb (d : Dev) (k : Key) (n : Nat) : (d.setNum k n).sb = d.sb := rfl
@[simp] theorem Dev.setNum_stray (d : Dev) (k : Key) (n : Nat) : (d.setNum k n).stray = d.stray := rfl
@[simp] theorem Dev.setNum_wordsRead (d : Dev) (k : Key) (n : Nat) : (d.setNum k n).wordsRead = d.wordsRead := rfl
@[simp] theorem Dev.setNum_pwr (d : Dev) (k : Key) (n : Nat) : (d.setNum k n).pwr = d.pwr := rfl
@[simp] theorem Dev.setNum_per (d : Dev) (k : Key) (n : Nat) : (d.setNum k n).per = d.per := rfl
@[simp] theorem Dev.setNum_tele (d : Dev) (k : Key) (n : Nat) : (d.setNum k n).tele = d.tele := rfl
@[simp] theorem Dev.setNum_test (d : Dev) (k : Key) (n : Nat) : (d.setNum k n).test = d.test := rfl
@[simp] theorem Dev.setNum_out (d : Dev) (k : Key) (n : Nat) : (d.setNum k n).out = d.out := rfl

/-! `Dev.setBytes` changes `objs` alone. -/

@[simp] theorem Dev.setBytes_clk (d : Dev) (k : Key) (b : List Byte) : (d.setBytes k b).clk = d.clk := rfl
@[simp] theorem Dev.setBytes_fresh (d : Dev) (k : Key) (b : List Byte) : (d.setBytes k b).fresh = d.fresh := rfl
@[simp] theorem Dev.setBytes_resetObjs (d : Dev) (k : Key) (b : List Byte) : (d.setBytes k b).resetObjs = d.resetObjs := rfl
@[simp] theorem Dev.setBytes_pins (d : Dev) (k : Key) (b : List Byte) : (d.setBytes k b).pins = d.pins := rfl
@[simp] theorem Dev.setBytes_pa (d : Dev) (k : Key) (b : List Byte) : (d.setBytes k b).pa = d.pa := rfl
@[simp] theorem Dev.setBytes_boot (d : Dev) (k : Key) (b : List Byte) : (d.setBytes k b).boot = d.boot := rfl
@[simp] theorem Dev.setBytes_clocks (d : Dev) (k : Key) (b : List Byte) : (d.setBytes k b).clocks = d.clocks := rfl
@[simp] theorem Dev.setBytes_sessions (d : Dev) (k : Key) (b : List Byte) : (d.setBytes k b).sessions = d.sessions := rfl
@[simp] theorem Dev.setBytes_nextSid (d : Dev) (k : Key) (b : List Byte) : (d.setBytes k b).nextSid = d.nextSid := rfl
@[simp] theorem Dev.setBytes_mailboxes (d : Dev) (k : Key) (b : List Byte) : (d.setBytes k b).mailboxes = d.mailboxes := rfl
@[simp] theorem Dev.setBytes_endpoints (d : Dev) (k : Key) (b : List Byte) : (d.setBytes k b).endpoints = d.endpoints := rfl
@[simp] theorem Dev.setBytes_commit (d : Dev) (k : Key) (b : List Byte) : (d.setBytes k b).commit = d.commit := rfl
@[simp] theorem Dev.setBytes_commitQueue (d : Dev) (k : Key) (b : List Byte) : (d.setBytes k b).commitQueue = d.commitQueue := rfl
@[simp] theorem Dev.setBytes_storeWrite (d : Dev) (k : Key) (b : List Byte) : (d.setBytes k b).storeWrite = d.storeWrite := rfl
@[simp] theorem Dev.setBytes_storeW (d : Dev) (k : Key) (b : List Byte) : (d.setBytes k b).storeW = d.storeW := rfl
@[simp] theorem Dev.setBytes_storeE (d : Dev) (k : Key) (b : List Byte) : (d.setBytes k b).storeE = d.storeE := rfl
@[simp] theorem Dev.setBytes_flash (d : Dev) (k : Key) (b : List Byte) : (d.setBytes k b).flash = d.flash := rfl
@[simp] theorem Dev.setBytes_lanes (d : Dev) (k : Key) (b : List Byte) : (d.setBytes k b).lanes = d.lanes := rfl
@[simp] theorem Dev.setBytes_ports (d : Dev) (k : Key) (b : List Byte) : (d.setBytes k b).ports = d.ports := rfl
@[simp] theorem Dev.setBytes_nodes (d : Dev) (k : Key) (b : List Byte) : (d.setBytes k b).nodes = d.nodes := rfl
@[simp] theorem Dev.setBytes_cfg (d : Dev) (k : Key) (b : List Byte) : (d.setBytes k b).cfg = d.cfg := rfl
@[simp] theorem Dev.setBytes_msix (d : Dev) (k : Key) (b : List Byte) : (d.setBytes k b).msix = d.msix := rfl
@[simp] theorem Dev.setBytes_bufW (d : Dev) (k : Key) (b : List Byte) : (d.setBytes k b).bufW = d.bufW := rfl
@[simp] theorem Dev.setBytes_bufE (d : Dev) (k : Key) (b : List Byte) : (d.setBytes k b).bufE = d.bufE := rfl
@[simp] theorem Dev.setBytes_nextFrame (d : Dev) (k : Key) (b : List Byte) : (d.setBytes k b).nextFrame = d.nextFrame := rfl
@[simp] theorem Dev.setBytes_seam (d : Dev) (k : Key) (b : List Byte) : (d.setBytes k b).seam = d.seam := rfl
@[simp] theorem Dev.setBytes_meters (d : Dev) (k : Key) (b : List Byte) : (d.setBytes k b).meters = d.meters := rfl
@[simp] theorem Dev.setBytes_shapers (d : Dev) (k : Key) (b : List Byte) : (d.setBytes k b).shapers = d.shapers := rfl
@[simp] theorem Dev.setBytes_nodeTags (d : Dev) (k : Key) (b : List Byte) : (d.setBytes k b).nodeTags = d.nodeTags := rfl
@[simp] theorem Dev.setBytes_classTags (d : Dev) (k : Key) (b : List Byte) : (d.setBytes k b).classTags = d.classTags := rfl
@[simp] theorem Dev.setBytes_classTime (d : Dev) (k : Key) (b : List Byte) : (d.setBytes k b).classTime = d.classTime := rfl
@[simp] theorem Dev.setBytes_fns (d : Dev) (k : Key) (b : List Byte) : (d.setBytes k b).fns = d.fns := rfl
@[simp] theorem Dev.setBytes_views (d : Dev) (k : Key) (b : List Byte) : (d.setBytes k b).views = d.views := rfl
@[simp] theorem Dev.setBytes_barsFound (d : Dev) (k : Key) (b : List Byte) : (d.setBytes k b).barsFound = d.barsFound := rfl
@[simp] theorem Dev.setBytes_gam (d : Dev) (k : Key) (b : List Byte) : (d.setBytes k b).gam = d.gam := rfl
@[simp] theorem Dev.setBytes_gamDead (d : Dev) (k : Key) (b : List Byte) : (d.setBytes k b).gamDead = d.gamDead := rfl
@[simp] theorem Dev.setBytes_trackW (d : Dev) (k : Key) (b : List Byte) : (d.setBytes k b).trackW = d.trackW := rfl
@[simp] theorem Dev.setBytes_trackE (d : Dev) (k : Key) (b : List Byte) : (d.setBytes k b).trackE = d.trackE := rfl
@[simp] theorem Dev.setBytes_trackRetired (d : Dev) (k : Key) (b : List Byte) : (d.setBytes k b).trackRetired = d.trackRetired := rfl
@[simp] theorem Dev.setBytes_pair (d : Dev) (k : Key) (b : List Byte) : (d.setBytes k b).pair = d.pair := rfl
@[simp] theorem Dev.setBytes_bfl (d : Dev) (k : Key) (b : List Byte) : (d.setBytes k b).bfl = d.bfl := rfl
@[simp] theorem Dev.setBytes_homes (d : Dev) (k : Key) (b : List Byte) : (d.setBytes k b).homes = d.homes := rfl
@[simp] theorem Dev.setBytes_rme (d : Dev) (k : Key) (b : List Byte) : (d.setBytes k b).rme = d.rme := rfl
@[simp] theorem Dev.setBytes_log (d : Dev) (k : Key) (b : List Byte) : (d.setBytes k b).log = d.log := rfl
@[simp] theorem Dev.setBytes_slots (d : Dev) (k : Key) (b : List Byte) : (d.setBytes k b).slots = d.slots := rfl
@[simp] theorem Dev.setBytes_sb (d : Dev) (k : Key) (b : List Byte) : (d.setBytes k b).sb = d.sb := rfl
@[simp] theorem Dev.setBytes_stray (d : Dev) (k : Key) (b : List Byte) : (d.setBytes k b).stray = d.stray := rfl
@[simp] theorem Dev.setBytes_wordsRead (d : Dev) (k : Key) (b : List Byte) : (d.setBytes k b).wordsRead = d.wordsRead := rfl
@[simp] theorem Dev.setBytes_pwr (d : Dev) (k : Key) (b : List Byte) : (d.setBytes k b).pwr = d.pwr := rfl
@[simp] theorem Dev.setBytes_per (d : Dev) (k : Key) (b : List Byte) : (d.setBytes k b).per = d.per := rfl
@[simp] theorem Dev.setBytes_tele (d : Dev) (k : Key) (b : List Byte) : (d.setBytes k b).tele = d.tele := rfl
@[simp] theorem Dev.setBytes_test (d : Dev) (k : Key) (b : List Byte) : (d.setBytes k b).test = d.test := rfl
@[simp] theorem Dev.setBytes_out (d : Dev) (k : Key) (b : List Byte) : (d.setBytes k b).out = d.out := rfl

/-! `Dev.clearObjs` changes `objs` alone. -/

@[simp] theorem Dev.clearObjs_clk (d : Dev) (p : Key → Bool) : (d.clearObjs p).clk = d.clk := rfl
@[simp] theorem Dev.clearObjs_fresh (d : Dev) (p : Key → Bool) : (d.clearObjs p).fresh = d.fresh := rfl
@[simp] theorem Dev.clearObjs_resetObjs (d : Dev) (p : Key → Bool) : (d.clearObjs p).resetObjs = d.resetObjs := rfl
@[simp] theorem Dev.clearObjs_pins (d : Dev) (p : Key → Bool) : (d.clearObjs p).pins = d.pins := rfl
@[simp] theorem Dev.clearObjs_pa (d : Dev) (p : Key → Bool) : (d.clearObjs p).pa = d.pa := rfl
@[simp] theorem Dev.clearObjs_boot (d : Dev) (p : Key → Bool) : (d.clearObjs p).boot = d.boot := rfl
@[simp] theorem Dev.clearObjs_clocks (d : Dev) (p : Key → Bool) : (d.clearObjs p).clocks = d.clocks := rfl
@[simp] theorem Dev.clearObjs_sessions (d : Dev) (p : Key → Bool) : (d.clearObjs p).sessions = d.sessions := rfl
@[simp] theorem Dev.clearObjs_nextSid (d : Dev) (p : Key → Bool) : (d.clearObjs p).nextSid = d.nextSid := rfl
@[simp] theorem Dev.clearObjs_mailboxes (d : Dev) (p : Key → Bool) : (d.clearObjs p).mailboxes = d.mailboxes := rfl
@[simp] theorem Dev.clearObjs_endpoints (d : Dev) (p : Key → Bool) : (d.clearObjs p).endpoints = d.endpoints := rfl
@[simp] theorem Dev.clearObjs_commit (d : Dev) (p : Key → Bool) : (d.clearObjs p).commit = d.commit := rfl
@[simp] theorem Dev.clearObjs_commitQueue (d : Dev) (p : Key → Bool) : (d.clearObjs p).commitQueue = d.commitQueue := rfl
@[simp] theorem Dev.clearObjs_storeWrite (d : Dev) (p : Key → Bool) : (d.clearObjs p).storeWrite = d.storeWrite := rfl
@[simp] theorem Dev.clearObjs_storeW (d : Dev) (p : Key → Bool) : (d.clearObjs p).storeW = d.storeW := rfl
@[simp] theorem Dev.clearObjs_storeE (d : Dev) (p : Key → Bool) : (d.clearObjs p).storeE = d.storeE := rfl
@[simp] theorem Dev.clearObjs_flash (d : Dev) (p : Key → Bool) : (d.clearObjs p).flash = d.flash := rfl
@[simp] theorem Dev.clearObjs_lanes (d : Dev) (p : Key → Bool) : (d.clearObjs p).lanes = d.lanes := rfl
@[simp] theorem Dev.clearObjs_ports (d : Dev) (p : Key → Bool) : (d.clearObjs p).ports = d.ports := rfl
@[simp] theorem Dev.clearObjs_nodes (d : Dev) (p : Key → Bool) : (d.clearObjs p).nodes = d.nodes := rfl
@[simp] theorem Dev.clearObjs_cfg (d : Dev) (p : Key → Bool) : (d.clearObjs p).cfg = d.cfg := rfl
@[simp] theorem Dev.clearObjs_msix (d : Dev) (p : Key → Bool) : (d.clearObjs p).msix = d.msix := rfl
@[simp] theorem Dev.clearObjs_bufW (d : Dev) (p : Key → Bool) : (d.clearObjs p).bufW = d.bufW := rfl
@[simp] theorem Dev.clearObjs_bufE (d : Dev) (p : Key → Bool) : (d.clearObjs p).bufE = d.bufE := rfl
@[simp] theorem Dev.clearObjs_nextFrame (d : Dev) (p : Key → Bool) : (d.clearObjs p).nextFrame = d.nextFrame := rfl
@[simp] theorem Dev.clearObjs_seam (d : Dev) (p : Key → Bool) : (d.clearObjs p).seam = d.seam := rfl
@[simp] theorem Dev.clearObjs_meters (d : Dev) (p : Key → Bool) : (d.clearObjs p).meters = d.meters := rfl
@[simp] theorem Dev.clearObjs_shapers (d : Dev) (p : Key → Bool) : (d.clearObjs p).shapers = d.shapers := rfl
@[simp] theorem Dev.clearObjs_nodeTags (d : Dev) (p : Key → Bool) : (d.clearObjs p).nodeTags = d.nodeTags := rfl
@[simp] theorem Dev.clearObjs_classTags (d : Dev) (p : Key → Bool) : (d.clearObjs p).classTags = d.classTags := rfl
@[simp] theorem Dev.clearObjs_classTime (d : Dev) (p : Key → Bool) : (d.clearObjs p).classTime = d.classTime := rfl
@[simp] theorem Dev.clearObjs_fns (d : Dev) (p : Key → Bool) : (d.clearObjs p).fns = d.fns := rfl
@[simp] theorem Dev.clearObjs_views (d : Dev) (p : Key → Bool) : (d.clearObjs p).views = d.views := rfl
@[simp] theorem Dev.clearObjs_barsFound (d : Dev) (p : Key → Bool) : (d.clearObjs p).barsFound = d.barsFound := rfl
@[simp] theorem Dev.clearObjs_gam (d : Dev) (p : Key → Bool) : (d.clearObjs p).gam = d.gam := rfl
@[simp] theorem Dev.clearObjs_gamDead (d : Dev) (p : Key → Bool) : (d.clearObjs p).gamDead = d.gamDead := rfl
@[simp] theorem Dev.clearObjs_trackW (d : Dev) (p : Key → Bool) : (d.clearObjs p).trackW = d.trackW := rfl
@[simp] theorem Dev.clearObjs_trackE (d : Dev) (p : Key → Bool) : (d.clearObjs p).trackE = d.trackE := rfl
@[simp] theorem Dev.clearObjs_trackRetired (d : Dev) (p : Key → Bool) : (d.clearObjs p).trackRetired = d.trackRetired := rfl
@[simp] theorem Dev.clearObjs_pair (d : Dev) (p : Key → Bool) : (d.clearObjs p).pair = d.pair := rfl
@[simp] theorem Dev.clearObjs_bfl (d : Dev) (p : Key → Bool) : (d.clearObjs p).bfl = d.bfl := rfl
@[simp] theorem Dev.clearObjs_homes (d : Dev) (p : Key → Bool) : (d.clearObjs p).homes = d.homes := rfl
@[simp] theorem Dev.clearObjs_rme (d : Dev) (p : Key → Bool) : (d.clearObjs p).rme = d.rme := rfl
@[simp] theorem Dev.clearObjs_log (d : Dev) (p : Key → Bool) : (d.clearObjs p).log = d.log := rfl
@[simp] theorem Dev.clearObjs_slots (d : Dev) (p : Key → Bool) : (d.clearObjs p).slots = d.slots := rfl
@[simp] theorem Dev.clearObjs_sb (d : Dev) (p : Key → Bool) : (d.clearObjs p).sb = d.sb := rfl
@[simp] theorem Dev.clearObjs_stray (d : Dev) (p : Key → Bool) : (d.clearObjs p).stray = d.stray := rfl
@[simp] theorem Dev.clearObjs_wordsRead (d : Dev) (p : Key → Bool) : (d.clearObjs p).wordsRead = d.wordsRead := rfl
@[simp] theorem Dev.clearObjs_pwr (d : Dev) (p : Key → Bool) : (d.clearObjs p).pwr = d.pwr := rfl
@[simp] theorem Dev.clearObjs_per (d : Dev) (p : Key → Bool) : (d.clearObjs p).per = d.per := rfl
@[simp] theorem Dev.clearObjs_tele (d : Dev) (p : Key → Bool) : (d.clearObjs p).tele = d.tele := rfl
@[simp] theorem Dev.clearObjs_test (d : Dev) (p : Key → Bool) : (d.clearObjs p).test = d.test := rfl
@[simp] theorem Dev.clearObjs_out (d : Dev) (p : Key → Bool) : (d.clearObjs p).out = d.out := rfl

/-! `Dev.bump` changes `fresh` alone. -/

@[simp] theorem Dev.bump_clk (d : Dev) : (d.bump).clk = d.clk := rfl
@[simp] theorem Dev.bump_objs (d : Dev) : (d.bump).objs = d.objs := rfl
@[simp] theorem Dev.bump_resetObjs (d : Dev) : (d.bump).resetObjs = d.resetObjs := rfl
@[simp] theorem Dev.bump_pins (d : Dev) : (d.bump).pins = d.pins := rfl
@[simp] theorem Dev.bump_pa (d : Dev) : (d.bump).pa = d.pa := rfl
@[simp] theorem Dev.bump_boot (d : Dev) : (d.bump).boot = d.boot := rfl
@[simp] theorem Dev.bump_clocks (d : Dev) : (d.bump).clocks = d.clocks := rfl
@[simp] theorem Dev.bump_sessions (d : Dev) : (d.bump).sessions = d.sessions := rfl
@[simp] theorem Dev.bump_nextSid (d : Dev) : (d.bump).nextSid = d.nextSid := rfl
@[simp] theorem Dev.bump_mailboxes (d : Dev) : (d.bump).mailboxes = d.mailboxes := rfl
@[simp] theorem Dev.bump_endpoints (d : Dev) : (d.bump).endpoints = d.endpoints := rfl
@[simp] theorem Dev.bump_commit (d : Dev) : (d.bump).commit = d.commit := rfl
@[simp] theorem Dev.bump_commitQueue (d : Dev) : (d.bump).commitQueue = d.commitQueue := rfl
@[simp] theorem Dev.bump_storeWrite (d : Dev) : (d.bump).storeWrite = d.storeWrite := rfl
@[simp] theorem Dev.bump_storeW (d : Dev) : (d.bump).storeW = d.storeW := rfl
@[simp] theorem Dev.bump_storeE (d : Dev) : (d.bump).storeE = d.storeE := rfl
@[simp] theorem Dev.bump_flash (d : Dev) : (d.bump).flash = d.flash := rfl
@[simp] theorem Dev.bump_lanes (d : Dev) : (d.bump).lanes = d.lanes := rfl
@[simp] theorem Dev.bump_ports (d : Dev) : (d.bump).ports = d.ports := rfl
@[simp] theorem Dev.bump_nodes (d : Dev) : (d.bump).nodes = d.nodes := rfl
@[simp] theorem Dev.bump_cfg (d : Dev) : (d.bump).cfg = d.cfg := rfl
@[simp] theorem Dev.bump_msix (d : Dev) : (d.bump).msix = d.msix := rfl
@[simp] theorem Dev.bump_bufW (d : Dev) : (d.bump).bufW = d.bufW := rfl
@[simp] theorem Dev.bump_bufE (d : Dev) : (d.bump).bufE = d.bufE := rfl
@[simp] theorem Dev.bump_nextFrame (d : Dev) : (d.bump).nextFrame = d.nextFrame := rfl
@[simp] theorem Dev.bump_seam (d : Dev) : (d.bump).seam = d.seam := rfl
@[simp] theorem Dev.bump_meters (d : Dev) : (d.bump).meters = d.meters := rfl
@[simp] theorem Dev.bump_shapers (d : Dev) : (d.bump).shapers = d.shapers := rfl
@[simp] theorem Dev.bump_nodeTags (d : Dev) : (d.bump).nodeTags = d.nodeTags := rfl
@[simp] theorem Dev.bump_classTags (d : Dev) : (d.bump).classTags = d.classTags := rfl
@[simp] theorem Dev.bump_classTime (d : Dev) : (d.bump).classTime = d.classTime := rfl
@[simp] theorem Dev.bump_fns (d : Dev) : (d.bump).fns = d.fns := rfl
@[simp] theorem Dev.bump_views (d : Dev) : (d.bump).views = d.views := rfl
@[simp] theorem Dev.bump_barsFound (d : Dev) : (d.bump).barsFound = d.barsFound := rfl
@[simp] theorem Dev.bump_gam (d : Dev) : (d.bump).gam = d.gam := rfl
@[simp] theorem Dev.bump_gamDead (d : Dev) : (d.bump).gamDead = d.gamDead := rfl
@[simp] theorem Dev.bump_trackW (d : Dev) : (d.bump).trackW = d.trackW := rfl
@[simp] theorem Dev.bump_trackE (d : Dev) : (d.bump).trackE = d.trackE := rfl
@[simp] theorem Dev.bump_trackRetired (d : Dev) : (d.bump).trackRetired = d.trackRetired := rfl
@[simp] theorem Dev.bump_pair (d : Dev) : (d.bump).pair = d.pair := rfl
@[simp] theorem Dev.bump_bfl (d : Dev) : (d.bump).bfl = d.bfl := rfl
@[simp] theorem Dev.bump_homes (d : Dev) : (d.bump).homes = d.homes := rfl
@[simp] theorem Dev.bump_rme (d : Dev) : (d.bump).rme = d.rme := rfl
@[simp] theorem Dev.bump_log (d : Dev) : (d.bump).log = d.log := rfl
@[simp] theorem Dev.bump_slots (d : Dev) : (d.bump).slots = d.slots := rfl
@[simp] theorem Dev.bump_sb (d : Dev) : (d.bump).sb = d.sb := rfl
@[simp] theorem Dev.bump_stray (d : Dev) : (d.bump).stray = d.stray := rfl
@[simp] theorem Dev.bump_wordsRead (d : Dev) : (d.bump).wordsRead = d.wordsRead := rfl
@[simp] theorem Dev.bump_pwr (d : Dev) : (d.bump).pwr = d.pwr := rfl
@[simp] theorem Dev.bump_per (d : Dev) : (d.bump).per = d.per := rfl
@[simp] theorem Dev.bump_tele (d : Dev) : (d.bump).tele = d.tele := rfl
@[simp] theorem Dev.bump_test (d : Dev) : (d.bump).test = d.test := rfl
@[simp] theorem Dev.bump_out (d : Dev) : (d.bump).out = d.out := rfl

/-! `Dev.emit` changes `out` alone. -/

@[simp] theorem Dev.emit_clk (d : Dev) (o : Output) : (d.emit o).clk = d.clk := rfl
@[simp] theorem Dev.emit_fresh (d : Dev) (o : Output) : (d.emit o).fresh = d.fresh := rfl
@[simp] theorem Dev.emit_resetObjs (d : Dev) (o : Output) : (d.emit o).resetObjs = d.resetObjs := rfl
@[simp] theorem Dev.emit_pins (d : Dev) (o : Output) : (d.emit o).pins = d.pins := rfl
@[simp] theorem Dev.emit_pa (d : Dev) (o : Output) : (d.emit o).pa = d.pa := rfl
@[simp] theorem Dev.emit_boot (d : Dev) (o : Output) : (d.emit o).boot = d.boot := rfl
@[simp] theorem Dev.emit_clocks (d : Dev) (o : Output) : (d.emit o).clocks = d.clocks := rfl
@[simp] theorem Dev.emit_sessions (d : Dev) (o : Output) : (d.emit o).sessions = d.sessions := rfl
@[simp] theorem Dev.emit_nextSid (d : Dev) (o : Output) : (d.emit o).nextSid = d.nextSid := rfl
@[simp] theorem Dev.emit_mailboxes (d : Dev) (o : Output) : (d.emit o).mailboxes = d.mailboxes := rfl
@[simp] theorem Dev.emit_endpoints (d : Dev) (o : Output) : (d.emit o).endpoints = d.endpoints := rfl
@[simp] theorem Dev.emit_commit (d : Dev) (o : Output) : (d.emit o).commit = d.commit := rfl
@[simp] theorem Dev.emit_commitQueue (d : Dev) (o : Output) : (d.emit o).commitQueue = d.commitQueue := rfl
@[simp] theorem Dev.emit_storeWrite (d : Dev) (o : Output) : (d.emit o).storeWrite = d.storeWrite := rfl
@[simp] theorem Dev.emit_storeW (d : Dev) (o : Output) : (d.emit o).storeW = d.storeW := rfl
@[simp] theorem Dev.emit_storeE (d : Dev) (o : Output) : (d.emit o).storeE = d.storeE := rfl
@[simp] theorem Dev.emit_flash (d : Dev) (o : Output) : (d.emit o).flash = d.flash := rfl
@[simp] theorem Dev.emit_lanes (d : Dev) (o : Output) : (d.emit o).lanes = d.lanes := rfl
@[simp] theorem Dev.emit_ports (d : Dev) (o : Output) : (d.emit o).ports = d.ports := rfl
@[simp] theorem Dev.emit_nodes (d : Dev) (o : Output) : (d.emit o).nodes = d.nodes := rfl
@[simp] theorem Dev.emit_cfg (d : Dev) (o : Output) : (d.emit o).cfg = d.cfg := rfl
@[simp] theorem Dev.emit_msix (d : Dev) (o : Output) : (d.emit o).msix = d.msix := rfl
@[simp] theorem Dev.emit_bufW (d : Dev) (o : Output) : (d.emit o).bufW = d.bufW := rfl
@[simp] theorem Dev.emit_bufE (d : Dev) (o : Output) : (d.emit o).bufE = d.bufE := rfl
@[simp] theorem Dev.emit_nextFrame (d : Dev) (o : Output) : (d.emit o).nextFrame = d.nextFrame := rfl
@[simp] theorem Dev.emit_seam (d : Dev) (o : Output) : (d.emit o).seam = d.seam := rfl
@[simp] theorem Dev.emit_meters (d : Dev) (o : Output) : (d.emit o).meters = d.meters := rfl
@[simp] theorem Dev.emit_shapers (d : Dev) (o : Output) : (d.emit o).shapers = d.shapers := rfl
@[simp] theorem Dev.emit_nodeTags (d : Dev) (o : Output) : (d.emit o).nodeTags = d.nodeTags := rfl
@[simp] theorem Dev.emit_classTags (d : Dev) (o : Output) : (d.emit o).classTags = d.classTags := rfl
@[simp] theorem Dev.emit_classTime (d : Dev) (o : Output) : (d.emit o).classTime = d.classTime := rfl
@[simp] theorem Dev.emit_fns (d : Dev) (o : Output) : (d.emit o).fns = d.fns := rfl
@[simp] theorem Dev.emit_views (d : Dev) (o : Output) : (d.emit o).views = d.views := rfl
@[simp] theorem Dev.emit_barsFound (d : Dev) (o : Output) : (d.emit o).barsFound = d.barsFound := rfl
@[simp] theorem Dev.emit_gam (d : Dev) (o : Output) : (d.emit o).gam = d.gam := rfl
@[simp] theorem Dev.emit_gamDead (d : Dev) (o : Output) : (d.emit o).gamDead = d.gamDead := rfl
@[simp] theorem Dev.emit_trackW (d : Dev) (o : Output) : (d.emit o).trackW = d.trackW := rfl
@[simp] theorem Dev.emit_trackE (d : Dev) (o : Output) : (d.emit o).trackE = d.trackE := rfl
@[simp] theorem Dev.emit_trackRetired (d : Dev) (o : Output) : (d.emit o).trackRetired = d.trackRetired := rfl
@[simp] theorem Dev.emit_pair (d : Dev) (o : Output) : (d.emit o).pair = d.pair := rfl
@[simp] theorem Dev.emit_bfl (d : Dev) (o : Output) : (d.emit o).bfl = d.bfl := rfl
@[simp] theorem Dev.emit_homes (d : Dev) (o : Output) : (d.emit o).homes = d.homes := rfl
@[simp] theorem Dev.emit_rme (d : Dev) (o : Output) : (d.emit o).rme = d.rme := rfl
@[simp] theorem Dev.emit_log (d : Dev) (o : Output) : (d.emit o).log = d.log := rfl
@[simp] theorem Dev.emit_slots (d : Dev) (o : Output) : (d.emit o).slots = d.slots := rfl
@[simp] theorem Dev.emit_sb (d : Dev) (o : Output) : (d.emit o).sb = d.sb := rfl
@[simp] theorem Dev.emit_stray (d : Dev) (o : Output) : (d.emit o).stray = d.stray := rfl
@[simp] theorem Dev.emit_wordsRead (d : Dev) (o : Output) : (d.emit o).wordsRead = d.wordsRead := rfl
@[simp] theorem Dev.emit_pwr (d : Dev) (o : Output) : (d.emit o).pwr = d.pwr := rfl
@[simp] theorem Dev.emit_per (d : Dev) (o : Output) : (d.emit o).per = d.per := rfl
@[simp] theorem Dev.emit_tele (d : Dev) (o : Output) : (d.emit o).tele = d.tele := rfl
@[simp] theorem Dev.emit_test (d : Dev) (o : Output) : (d.emit o).test = d.test := rfl

/-! `Dev.modLane` changes `lanes` alone. -/

@[simp] theorem Dev.modLane_clk (d : Dev) (l : Nat) (f : Lane → Lane) : (d.modLane l f).clk = d.clk := rfl
@[simp] theorem Dev.modLane_fresh (d : Dev) (l : Nat) (f : Lane → Lane) : (d.modLane l f).fresh = d.fresh := rfl
@[simp] theorem Dev.modLane_resetObjs (d : Dev) (l : Nat) (f : Lane → Lane) : (d.modLane l f).resetObjs = d.resetObjs := rfl
@[simp] theorem Dev.modLane_pins (d : Dev) (l : Nat) (f : Lane → Lane) : (d.modLane l f).pins = d.pins := rfl
@[simp] theorem Dev.modLane_pa (d : Dev) (l : Nat) (f : Lane → Lane) : (d.modLane l f).pa = d.pa := rfl
@[simp] theorem Dev.modLane_boot (d : Dev) (l : Nat) (f : Lane → Lane) : (d.modLane l f).boot = d.boot := rfl
@[simp] theorem Dev.modLane_clocks (d : Dev) (l : Nat) (f : Lane → Lane) : (d.modLane l f).clocks = d.clocks := rfl
@[simp] theorem Dev.modLane_sessions (d : Dev) (l : Nat) (f : Lane → Lane) : (d.modLane l f).sessions = d.sessions := rfl
@[simp] theorem Dev.modLane_nextSid (d : Dev) (l : Nat) (f : Lane → Lane) : (d.modLane l f).nextSid = d.nextSid := rfl
@[simp] theorem Dev.modLane_mailboxes (d : Dev) (l : Nat) (f : Lane → Lane) : (d.modLane l f).mailboxes = d.mailboxes := rfl
@[simp] theorem Dev.modLane_endpoints (d : Dev) (l : Nat) (f : Lane → Lane) : (d.modLane l f).endpoints = d.endpoints := rfl
@[simp] theorem Dev.modLane_commit (d : Dev) (l : Nat) (f : Lane → Lane) : (d.modLane l f).commit = d.commit := rfl
@[simp] theorem Dev.modLane_commitQueue (d : Dev) (l : Nat) (f : Lane → Lane) : (d.modLane l f).commitQueue = d.commitQueue := rfl
@[simp] theorem Dev.modLane_storeWrite (d : Dev) (l : Nat) (f : Lane → Lane) : (d.modLane l f).storeWrite = d.storeWrite := rfl
@[simp] theorem Dev.modLane_storeW (d : Dev) (l : Nat) (f : Lane → Lane) : (d.modLane l f).storeW = d.storeW := rfl
@[simp] theorem Dev.modLane_storeE (d : Dev) (l : Nat) (f : Lane → Lane) : (d.modLane l f).storeE = d.storeE := rfl
@[simp] theorem Dev.modLane_flash (d : Dev) (l : Nat) (f : Lane → Lane) : (d.modLane l f).flash = d.flash := rfl
@[simp] theorem Dev.modLane_ports (d : Dev) (l : Nat) (f : Lane → Lane) : (d.modLane l f).ports = d.ports := rfl
@[simp] theorem Dev.modLane_nodes (d : Dev) (l : Nat) (f : Lane → Lane) : (d.modLane l f).nodes = d.nodes := rfl
@[simp] theorem Dev.modLane_cfg (d : Dev) (l : Nat) (f : Lane → Lane) : (d.modLane l f).cfg = d.cfg := rfl
@[simp] theorem Dev.modLane_msix (d : Dev) (l : Nat) (f : Lane → Lane) : (d.modLane l f).msix = d.msix := rfl
@[simp] theorem Dev.modLane_bufW (d : Dev) (l : Nat) (f : Lane → Lane) : (d.modLane l f).bufW = d.bufW := rfl
@[simp] theorem Dev.modLane_bufE (d : Dev) (l : Nat) (f : Lane → Lane) : (d.modLane l f).bufE = d.bufE := rfl
@[simp] theorem Dev.modLane_nextFrame (d : Dev) (l : Nat) (f : Lane → Lane) : (d.modLane l f).nextFrame = d.nextFrame := rfl
@[simp] theorem Dev.modLane_seam (d : Dev) (l : Nat) (f : Lane → Lane) : (d.modLane l f).seam = d.seam := rfl
@[simp] theorem Dev.modLane_meters (d : Dev) (l : Nat) (f : Lane → Lane) : (d.modLane l f).meters = d.meters := rfl
@[simp] theorem Dev.modLane_shapers (d : Dev) (l : Nat) (f : Lane → Lane) : (d.modLane l f).shapers = d.shapers := rfl
@[simp] theorem Dev.modLane_nodeTags (d : Dev) (l : Nat) (f : Lane → Lane) : (d.modLane l f).nodeTags = d.nodeTags := rfl
@[simp] theorem Dev.modLane_classTags (d : Dev) (l : Nat) (f : Lane → Lane) : (d.modLane l f).classTags = d.classTags := rfl
@[simp] theorem Dev.modLane_classTime (d : Dev) (l : Nat) (f : Lane → Lane) : (d.modLane l f).classTime = d.classTime := rfl
@[simp] theorem Dev.modLane_fns (d : Dev) (l : Nat) (f : Lane → Lane) : (d.modLane l f).fns = d.fns := rfl
@[simp] theorem Dev.modLane_views (d : Dev) (l : Nat) (f : Lane → Lane) : (d.modLane l f).views = d.views := rfl
@[simp] theorem Dev.modLane_barsFound (d : Dev) (l : Nat) (f : Lane → Lane) : (d.modLane l f).barsFound = d.barsFound := rfl
@[simp] theorem Dev.modLane_gam (d : Dev) (l : Nat) (f : Lane → Lane) : (d.modLane l f).gam = d.gam := rfl
@[simp] theorem Dev.modLane_gamDead (d : Dev) (l : Nat) (f : Lane → Lane) : (d.modLane l f).gamDead = d.gamDead := rfl
@[simp] theorem Dev.modLane_trackW (d : Dev) (l : Nat) (f : Lane → Lane) : (d.modLane l f).trackW = d.trackW := rfl
@[simp] theorem Dev.modLane_trackE (d : Dev) (l : Nat) (f : Lane → Lane) : (d.modLane l f).trackE = d.trackE := rfl
@[simp] theorem Dev.modLane_trackRetired (d : Dev) (l : Nat) (f : Lane → Lane) : (d.modLane l f).trackRetired = d.trackRetired := rfl
@[simp] theorem Dev.modLane_pair (d : Dev) (l : Nat) (f : Lane → Lane) : (d.modLane l f).pair = d.pair := rfl
@[simp] theorem Dev.modLane_bfl (d : Dev) (l : Nat) (f : Lane → Lane) : (d.modLane l f).bfl = d.bfl := rfl
@[simp] theorem Dev.modLane_homes (d : Dev) (l : Nat) (f : Lane → Lane) : (d.modLane l f).homes = d.homes := rfl
@[simp] theorem Dev.modLane_rme (d : Dev) (l : Nat) (f : Lane → Lane) : (d.modLane l f).rme = d.rme := rfl
@[simp] theorem Dev.modLane_log (d : Dev) (l : Nat) (f : Lane → Lane) : (d.modLane l f).log = d.log := rfl
@[simp] theorem Dev.modLane_slots (d : Dev) (l : Nat) (f : Lane → Lane) : (d.modLane l f).slots = d.slots := rfl
@[simp] theorem Dev.modLane_sb (d : Dev) (l : Nat) (f : Lane → Lane) : (d.modLane l f).sb = d.sb := rfl
@[simp] theorem Dev.modLane_stray (d : Dev) (l : Nat) (f : Lane → Lane) : (d.modLane l f).stray = d.stray := rfl
@[simp] theorem Dev.modLane_wordsRead (d : Dev) (l : Nat) (f : Lane → Lane) : (d.modLane l f).wordsRead = d.wordsRead := rfl
@[simp] theorem Dev.modLane_pwr (d : Dev) (l : Nat) (f : Lane → Lane) : (d.modLane l f).pwr = d.pwr := rfl
@[simp] theorem Dev.modLane_per (d : Dev) (l : Nat) (f : Lane → Lane) : (d.modLane l f).per = d.per := rfl
@[simp] theorem Dev.modLane_tele (d : Dev) (l : Nat) (f : Lane → Lane) : (d.modLane l f).tele = d.tele := rfl
@[simp] theorem Dev.modLane_test (d : Dev) (l : Nat) (f : Lane → Lane) : (d.modLane l f).test = d.test := rfl
@[simp] theorem Dev.modLane_out (d : Dev) (l : Nat) (f : Lane → Lane) : (d.modLane l f).out = d.out := rfl

/-! `Dev.modPort` changes `ports` alone. -/

@[simp] theorem Dev.modPort_clk (d : Dev) (p : Nat) (f : Port → Port) : (d.modPort p f).clk = d.clk := rfl
@[simp] theorem Dev.modPort_fresh (d : Dev) (p : Nat) (f : Port → Port) : (d.modPort p f).fresh = d.fresh := rfl
@[simp] theorem Dev.modPort_resetObjs (d : Dev) (p : Nat) (f : Port → Port) : (d.modPort p f).resetObjs = d.resetObjs := rfl
@[simp] theorem Dev.modPort_pins (d : Dev) (p : Nat) (f : Port → Port) : (d.modPort p f).pins = d.pins := rfl
@[simp] theorem Dev.modPort_pa (d : Dev) (p : Nat) (f : Port → Port) : (d.modPort p f).pa = d.pa := rfl
@[simp] theorem Dev.modPort_boot (d : Dev) (p : Nat) (f : Port → Port) : (d.modPort p f).boot = d.boot := rfl
@[simp] theorem Dev.modPort_clocks (d : Dev) (p : Nat) (f : Port → Port) : (d.modPort p f).clocks = d.clocks := rfl
@[simp] theorem Dev.modPort_sessions (d : Dev) (p : Nat) (f : Port → Port) : (d.modPort p f).sessions = d.sessions := rfl
@[simp] theorem Dev.modPort_nextSid (d : Dev) (p : Nat) (f : Port → Port) : (d.modPort p f).nextSid = d.nextSid := rfl
@[simp] theorem Dev.modPort_mailboxes (d : Dev) (p : Nat) (f : Port → Port) : (d.modPort p f).mailboxes = d.mailboxes := rfl
@[simp] theorem Dev.modPort_endpoints (d : Dev) (p : Nat) (f : Port → Port) : (d.modPort p f).endpoints = d.endpoints := rfl
@[simp] theorem Dev.modPort_commit (d : Dev) (p : Nat) (f : Port → Port) : (d.modPort p f).commit = d.commit := rfl
@[simp] theorem Dev.modPort_commitQueue (d : Dev) (p : Nat) (f : Port → Port) : (d.modPort p f).commitQueue = d.commitQueue := rfl
@[simp] theorem Dev.modPort_storeWrite (d : Dev) (p : Nat) (f : Port → Port) : (d.modPort p f).storeWrite = d.storeWrite := rfl
@[simp] theorem Dev.modPort_storeW (d : Dev) (p : Nat) (f : Port → Port) : (d.modPort p f).storeW = d.storeW := rfl
@[simp] theorem Dev.modPort_storeE (d : Dev) (p : Nat) (f : Port → Port) : (d.modPort p f).storeE = d.storeE := rfl
@[simp] theorem Dev.modPort_flash (d : Dev) (p : Nat) (f : Port → Port) : (d.modPort p f).flash = d.flash := rfl
@[simp] theorem Dev.modPort_lanes (d : Dev) (p : Nat) (f : Port → Port) : (d.modPort p f).lanes = d.lanes := rfl
@[simp] theorem Dev.modPort_nodes (d : Dev) (p : Nat) (f : Port → Port) : (d.modPort p f).nodes = d.nodes := rfl
@[simp] theorem Dev.modPort_cfg (d : Dev) (p : Nat) (f : Port → Port) : (d.modPort p f).cfg = d.cfg := rfl
@[simp] theorem Dev.modPort_msix (d : Dev) (p : Nat) (f : Port → Port) : (d.modPort p f).msix = d.msix := rfl
@[simp] theorem Dev.modPort_bufW (d : Dev) (p : Nat) (f : Port → Port) : (d.modPort p f).bufW = d.bufW := rfl
@[simp] theorem Dev.modPort_bufE (d : Dev) (p : Nat) (f : Port → Port) : (d.modPort p f).bufE = d.bufE := rfl
@[simp] theorem Dev.modPort_nextFrame (d : Dev) (p : Nat) (f : Port → Port) : (d.modPort p f).nextFrame = d.nextFrame := rfl
@[simp] theorem Dev.modPort_seam (d : Dev) (p : Nat) (f : Port → Port) : (d.modPort p f).seam = d.seam := rfl
@[simp] theorem Dev.modPort_meters (d : Dev) (p : Nat) (f : Port → Port) : (d.modPort p f).meters = d.meters := rfl
@[simp] theorem Dev.modPort_shapers (d : Dev) (p : Nat) (f : Port → Port) : (d.modPort p f).shapers = d.shapers := rfl
@[simp] theorem Dev.modPort_nodeTags (d : Dev) (p : Nat) (f : Port → Port) : (d.modPort p f).nodeTags = d.nodeTags := rfl
@[simp] theorem Dev.modPort_classTags (d : Dev) (p : Nat) (f : Port → Port) : (d.modPort p f).classTags = d.classTags := rfl
@[simp] theorem Dev.modPort_classTime (d : Dev) (p : Nat) (f : Port → Port) : (d.modPort p f).classTime = d.classTime := rfl
@[simp] theorem Dev.modPort_fns (d : Dev) (p : Nat) (f : Port → Port) : (d.modPort p f).fns = d.fns := rfl
@[simp] theorem Dev.modPort_views (d : Dev) (p : Nat) (f : Port → Port) : (d.modPort p f).views = d.views := rfl
@[simp] theorem Dev.modPort_barsFound (d : Dev) (p : Nat) (f : Port → Port) : (d.modPort p f).barsFound = d.barsFound := rfl
@[simp] theorem Dev.modPort_gam (d : Dev) (p : Nat) (f : Port → Port) : (d.modPort p f).gam = d.gam := rfl
@[simp] theorem Dev.modPort_gamDead (d : Dev) (p : Nat) (f : Port → Port) : (d.modPort p f).gamDead = d.gamDead := rfl
@[simp] theorem Dev.modPort_trackW (d : Dev) (p : Nat) (f : Port → Port) : (d.modPort p f).trackW = d.trackW := rfl
@[simp] theorem Dev.modPort_trackE (d : Dev) (p : Nat) (f : Port → Port) : (d.modPort p f).trackE = d.trackE := rfl
@[simp] theorem Dev.modPort_trackRetired (d : Dev) (p : Nat) (f : Port → Port) : (d.modPort p f).trackRetired = d.trackRetired := rfl
@[simp] theorem Dev.modPort_pair (d : Dev) (p : Nat) (f : Port → Port) : (d.modPort p f).pair = d.pair := rfl
@[simp] theorem Dev.modPort_bfl (d : Dev) (p : Nat) (f : Port → Port) : (d.modPort p f).bfl = d.bfl := rfl
@[simp] theorem Dev.modPort_homes (d : Dev) (p : Nat) (f : Port → Port) : (d.modPort p f).homes = d.homes := rfl
@[simp] theorem Dev.modPort_rme (d : Dev) (p : Nat) (f : Port → Port) : (d.modPort p f).rme = d.rme := rfl
@[simp] theorem Dev.modPort_log (d : Dev) (p : Nat) (f : Port → Port) : (d.modPort p f).log = d.log := rfl
@[simp] theorem Dev.modPort_slots (d : Dev) (p : Nat) (f : Port → Port) : (d.modPort p f).slots = d.slots := rfl
@[simp] theorem Dev.modPort_sb (d : Dev) (p : Nat) (f : Port → Port) : (d.modPort p f).sb = d.sb := rfl
@[simp] theorem Dev.modPort_stray (d : Dev) (p : Nat) (f : Port → Port) : (d.modPort p f).stray = d.stray := rfl
@[simp] theorem Dev.modPort_wordsRead (d : Dev) (p : Nat) (f : Port → Port) : (d.modPort p f).wordsRead = d.wordsRead := rfl
@[simp] theorem Dev.modPort_pwr (d : Dev) (p : Nat) (f : Port → Port) : (d.modPort p f).pwr = d.pwr := rfl
@[simp] theorem Dev.modPort_per (d : Dev) (p : Nat) (f : Port → Port) : (d.modPort p f).per = d.per := rfl
@[simp] theorem Dev.modPort_tele (d : Dev) (p : Nat) (f : Port → Port) : (d.modPort p f).tele = d.tele := rfl
@[simp] theorem Dev.modPort_test (d : Dev) (p : Nat) (f : Port → Port) : (d.modPort p f).test = d.test := rfl
@[simp] theorem Dev.modPort_out (d : Dev) (p : Nat) (f : Port → Port) : (d.modPort p f).out = d.out := rfl

/-! `Dev.modNode` changes `nodes` alone. -/

@[simp] theorem Dev.modNode_clk (d : Dev) (v : Nat) (f : Node → Node) : (d.modNode v f).clk = d.clk := rfl
@[simp] theorem Dev.modNode_fresh (d : Dev) (v : Nat) (f : Node → Node) : (d.modNode v f).fresh = d.fresh := rfl
@[simp] theorem Dev.modNode_resetObjs (d : Dev) (v : Nat) (f : Node → Node) : (d.modNode v f).resetObjs = d.resetObjs := rfl
@[simp] theorem Dev.modNode_pins (d : Dev) (v : Nat) (f : Node → Node) : (d.modNode v f).pins = d.pins := rfl
@[simp] theorem Dev.modNode_pa (d : Dev) (v : Nat) (f : Node → Node) : (d.modNode v f).pa = d.pa := rfl
@[simp] theorem Dev.modNode_boot (d : Dev) (v : Nat) (f : Node → Node) : (d.modNode v f).boot = d.boot := rfl
@[simp] theorem Dev.modNode_clocks (d : Dev) (v : Nat) (f : Node → Node) : (d.modNode v f).clocks = d.clocks := rfl
@[simp] theorem Dev.modNode_sessions (d : Dev) (v : Nat) (f : Node → Node) : (d.modNode v f).sessions = d.sessions := rfl
@[simp] theorem Dev.modNode_nextSid (d : Dev) (v : Nat) (f : Node → Node) : (d.modNode v f).nextSid = d.nextSid := rfl
@[simp] theorem Dev.modNode_mailboxes (d : Dev) (v : Nat) (f : Node → Node) : (d.modNode v f).mailboxes = d.mailboxes := rfl
@[simp] theorem Dev.modNode_endpoints (d : Dev) (v : Nat) (f : Node → Node) : (d.modNode v f).endpoints = d.endpoints := rfl
@[simp] theorem Dev.modNode_commit (d : Dev) (v : Nat) (f : Node → Node) : (d.modNode v f).commit = d.commit := rfl
@[simp] theorem Dev.modNode_commitQueue (d : Dev) (v : Nat) (f : Node → Node) : (d.modNode v f).commitQueue = d.commitQueue := rfl
@[simp] theorem Dev.modNode_storeWrite (d : Dev) (v : Nat) (f : Node → Node) : (d.modNode v f).storeWrite = d.storeWrite := rfl
@[simp] theorem Dev.modNode_storeW (d : Dev) (v : Nat) (f : Node → Node) : (d.modNode v f).storeW = d.storeW := rfl
@[simp] theorem Dev.modNode_storeE (d : Dev) (v : Nat) (f : Node → Node) : (d.modNode v f).storeE = d.storeE := rfl
@[simp] theorem Dev.modNode_flash (d : Dev) (v : Nat) (f : Node → Node) : (d.modNode v f).flash = d.flash := rfl
@[simp] theorem Dev.modNode_lanes (d : Dev) (v : Nat) (f : Node → Node) : (d.modNode v f).lanes = d.lanes := rfl
@[simp] theorem Dev.modNode_ports (d : Dev) (v : Nat) (f : Node → Node) : (d.modNode v f).ports = d.ports := rfl
@[simp] theorem Dev.modNode_cfg (d : Dev) (v : Nat) (f : Node → Node) : (d.modNode v f).cfg = d.cfg := rfl
@[simp] theorem Dev.modNode_msix (d : Dev) (v : Nat) (f : Node → Node) : (d.modNode v f).msix = d.msix := rfl
@[simp] theorem Dev.modNode_bufW (d : Dev) (v : Nat) (f : Node → Node) : (d.modNode v f).bufW = d.bufW := rfl
@[simp] theorem Dev.modNode_bufE (d : Dev) (v : Nat) (f : Node → Node) : (d.modNode v f).bufE = d.bufE := rfl
@[simp] theorem Dev.modNode_nextFrame (d : Dev) (v : Nat) (f : Node → Node) : (d.modNode v f).nextFrame = d.nextFrame := rfl
@[simp] theorem Dev.modNode_seam (d : Dev) (v : Nat) (f : Node → Node) : (d.modNode v f).seam = d.seam := rfl
@[simp] theorem Dev.modNode_meters (d : Dev) (v : Nat) (f : Node → Node) : (d.modNode v f).meters = d.meters := rfl
@[simp] theorem Dev.modNode_shapers (d : Dev) (v : Nat) (f : Node → Node) : (d.modNode v f).shapers = d.shapers := rfl
@[simp] theorem Dev.modNode_nodeTags (d : Dev) (v : Nat) (f : Node → Node) : (d.modNode v f).nodeTags = d.nodeTags := rfl
@[simp] theorem Dev.modNode_classTags (d : Dev) (v : Nat) (f : Node → Node) : (d.modNode v f).classTags = d.classTags := rfl
@[simp] theorem Dev.modNode_classTime (d : Dev) (v : Nat) (f : Node → Node) : (d.modNode v f).classTime = d.classTime := rfl
@[simp] theorem Dev.modNode_fns (d : Dev) (v : Nat) (f : Node → Node) : (d.modNode v f).fns = d.fns := rfl
@[simp] theorem Dev.modNode_views (d : Dev) (v : Nat) (f : Node → Node) : (d.modNode v f).views = d.views := rfl
@[simp] theorem Dev.modNode_barsFound (d : Dev) (v : Nat) (f : Node → Node) : (d.modNode v f).barsFound = d.barsFound := rfl
@[simp] theorem Dev.modNode_gam (d : Dev) (v : Nat) (f : Node → Node) : (d.modNode v f).gam = d.gam := rfl
@[simp] theorem Dev.modNode_gamDead (d : Dev) (v : Nat) (f : Node → Node) : (d.modNode v f).gamDead = d.gamDead := rfl
@[simp] theorem Dev.modNode_trackW (d : Dev) (v : Nat) (f : Node → Node) : (d.modNode v f).trackW = d.trackW := rfl
@[simp] theorem Dev.modNode_trackE (d : Dev) (v : Nat) (f : Node → Node) : (d.modNode v f).trackE = d.trackE := rfl
@[simp] theorem Dev.modNode_trackRetired (d : Dev) (v : Nat) (f : Node → Node) : (d.modNode v f).trackRetired = d.trackRetired := rfl
@[simp] theorem Dev.modNode_pair (d : Dev) (v : Nat) (f : Node → Node) : (d.modNode v f).pair = d.pair := rfl
@[simp] theorem Dev.modNode_bfl (d : Dev) (v : Nat) (f : Node → Node) : (d.modNode v f).bfl = d.bfl := rfl
@[simp] theorem Dev.modNode_homes (d : Dev) (v : Nat) (f : Node → Node) : (d.modNode v f).homes = d.homes := rfl
@[simp] theorem Dev.modNode_rme (d : Dev) (v : Nat) (f : Node → Node) : (d.modNode v f).rme = d.rme := rfl
@[simp] theorem Dev.modNode_log (d : Dev) (v : Nat) (f : Node → Node) : (d.modNode v f).log = d.log := rfl
@[simp] theorem Dev.modNode_slots (d : Dev) (v : Nat) (f : Node → Node) : (d.modNode v f).slots = d.slots := rfl
@[simp] theorem Dev.modNode_sb (d : Dev) (v : Nat) (f : Node → Node) : (d.modNode v f).sb = d.sb := rfl
@[simp] theorem Dev.modNode_stray (d : Dev) (v : Nat) (f : Node → Node) : (d.modNode v f).stray = d.stray := rfl
@[simp] theorem Dev.modNode_wordsRead (d : Dev) (v : Nat) (f : Node → Node) : (d.modNode v f).wordsRead = d.wordsRead := rfl
@[simp] theorem Dev.modNode_pwr (d : Dev) (v : Nat) (f : Node → Node) : (d.modNode v f).pwr = d.pwr := rfl
@[simp] theorem Dev.modNode_per (d : Dev) (v : Nat) (f : Node → Node) : (d.modNode v f).per = d.per := rfl
@[simp] theorem Dev.modNode_tele (d : Dev) (v : Nat) (f : Node → Node) : (d.modNode v f).tele = d.tele := rfl
@[simp] theorem Dev.modNode_test (d : Dev) (v : Nat) (f : Node → Node) : (d.modNode v f).test = d.test := rfl
@[simp] theorem Dev.modNode_out (d : Dev) (v : Nat) (f : Node → Node) : (d.modNode v f).out = d.out := rfl

/-! `Dev.modSlot` changes `slots` alone. -/

@[simp] theorem Dev.modSlot_clk (d : Dev) (k : Nat) (f : Slot → Slot) : (d.modSlot k f).clk = d.clk := rfl
@[simp] theorem Dev.modSlot_fresh (d : Dev) (k : Nat) (f : Slot → Slot) : (d.modSlot k f).fresh = d.fresh := rfl
@[simp] theorem Dev.modSlot_resetObjs (d : Dev) (k : Nat) (f : Slot → Slot) : (d.modSlot k f).resetObjs = d.resetObjs := rfl
@[simp] theorem Dev.modSlot_pins (d : Dev) (k : Nat) (f : Slot → Slot) : (d.modSlot k f).pins = d.pins := rfl
@[simp] theorem Dev.modSlot_pa (d : Dev) (k : Nat) (f : Slot → Slot) : (d.modSlot k f).pa = d.pa := rfl
@[simp] theorem Dev.modSlot_boot (d : Dev) (k : Nat) (f : Slot → Slot) : (d.modSlot k f).boot = d.boot := rfl
@[simp] theorem Dev.modSlot_clocks (d : Dev) (k : Nat) (f : Slot → Slot) : (d.modSlot k f).clocks = d.clocks := rfl
@[simp] theorem Dev.modSlot_sessions (d : Dev) (k : Nat) (f : Slot → Slot) : (d.modSlot k f).sessions = d.sessions := rfl
@[simp] theorem Dev.modSlot_nextSid (d : Dev) (k : Nat) (f : Slot → Slot) : (d.modSlot k f).nextSid = d.nextSid := rfl
@[simp] theorem Dev.modSlot_mailboxes (d : Dev) (k : Nat) (f : Slot → Slot) : (d.modSlot k f).mailboxes = d.mailboxes := rfl
@[simp] theorem Dev.modSlot_endpoints (d : Dev) (k : Nat) (f : Slot → Slot) : (d.modSlot k f).endpoints = d.endpoints := rfl
@[simp] theorem Dev.modSlot_commit (d : Dev) (k : Nat) (f : Slot → Slot) : (d.modSlot k f).commit = d.commit := rfl
@[simp] theorem Dev.modSlot_commitQueue (d : Dev) (k : Nat) (f : Slot → Slot) : (d.modSlot k f).commitQueue = d.commitQueue := rfl
@[simp] theorem Dev.modSlot_storeWrite (d : Dev) (k : Nat) (f : Slot → Slot) : (d.modSlot k f).storeWrite = d.storeWrite := rfl
@[simp] theorem Dev.modSlot_storeW (d : Dev) (k : Nat) (f : Slot → Slot) : (d.modSlot k f).storeW = d.storeW := rfl
@[simp] theorem Dev.modSlot_storeE (d : Dev) (k : Nat) (f : Slot → Slot) : (d.modSlot k f).storeE = d.storeE := rfl
@[simp] theorem Dev.modSlot_flash (d : Dev) (k : Nat) (f : Slot → Slot) : (d.modSlot k f).flash = d.flash := rfl
@[simp] theorem Dev.modSlot_lanes (d : Dev) (k : Nat) (f : Slot → Slot) : (d.modSlot k f).lanes = d.lanes := rfl
@[simp] theorem Dev.modSlot_ports (d : Dev) (k : Nat) (f : Slot → Slot) : (d.modSlot k f).ports = d.ports := rfl
@[simp] theorem Dev.modSlot_nodes (d : Dev) (k : Nat) (f : Slot → Slot) : (d.modSlot k f).nodes = d.nodes := rfl
@[simp] theorem Dev.modSlot_cfg (d : Dev) (k : Nat) (f : Slot → Slot) : (d.modSlot k f).cfg = d.cfg := rfl
@[simp] theorem Dev.modSlot_msix (d : Dev) (k : Nat) (f : Slot → Slot) : (d.modSlot k f).msix = d.msix := rfl
@[simp] theorem Dev.modSlot_bufW (d : Dev) (k : Nat) (f : Slot → Slot) : (d.modSlot k f).bufW = d.bufW := rfl
@[simp] theorem Dev.modSlot_bufE (d : Dev) (k : Nat) (f : Slot → Slot) : (d.modSlot k f).bufE = d.bufE := rfl
@[simp] theorem Dev.modSlot_nextFrame (d : Dev) (k : Nat) (f : Slot → Slot) : (d.modSlot k f).nextFrame = d.nextFrame := rfl
@[simp] theorem Dev.modSlot_seam (d : Dev) (k : Nat) (f : Slot → Slot) : (d.modSlot k f).seam = d.seam := rfl
@[simp] theorem Dev.modSlot_meters (d : Dev) (k : Nat) (f : Slot → Slot) : (d.modSlot k f).meters = d.meters := rfl
@[simp] theorem Dev.modSlot_shapers (d : Dev) (k : Nat) (f : Slot → Slot) : (d.modSlot k f).shapers = d.shapers := rfl
@[simp] theorem Dev.modSlot_nodeTags (d : Dev) (k : Nat) (f : Slot → Slot) : (d.modSlot k f).nodeTags = d.nodeTags := rfl
@[simp] theorem Dev.modSlot_classTags (d : Dev) (k : Nat) (f : Slot → Slot) : (d.modSlot k f).classTags = d.classTags := rfl
@[simp] theorem Dev.modSlot_classTime (d : Dev) (k : Nat) (f : Slot → Slot) : (d.modSlot k f).classTime = d.classTime := rfl
@[simp] theorem Dev.modSlot_fns (d : Dev) (k : Nat) (f : Slot → Slot) : (d.modSlot k f).fns = d.fns := rfl
@[simp] theorem Dev.modSlot_views (d : Dev) (k : Nat) (f : Slot → Slot) : (d.modSlot k f).views = d.views := rfl
@[simp] theorem Dev.modSlot_barsFound (d : Dev) (k : Nat) (f : Slot → Slot) : (d.modSlot k f).barsFound = d.barsFound := rfl
@[simp] theorem Dev.modSlot_gam (d : Dev) (k : Nat) (f : Slot → Slot) : (d.modSlot k f).gam = d.gam := rfl
@[simp] theorem Dev.modSlot_gamDead (d : Dev) (k : Nat) (f : Slot → Slot) : (d.modSlot k f).gamDead = d.gamDead := rfl
@[simp] theorem Dev.modSlot_trackW (d : Dev) (k : Nat) (f : Slot → Slot) : (d.modSlot k f).trackW = d.trackW := rfl
@[simp] theorem Dev.modSlot_trackE (d : Dev) (k : Nat) (f : Slot → Slot) : (d.modSlot k f).trackE = d.trackE := rfl
@[simp] theorem Dev.modSlot_trackRetired (d : Dev) (k : Nat) (f : Slot → Slot) : (d.modSlot k f).trackRetired = d.trackRetired := rfl
@[simp] theorem Dev.modSlot_pair (d : Dev) (k : Nat) (f : Slot → Slot) : (d.modSlot k f).pair = d.pair := rfl
@[simp] theorem Dev.modSlot_bfl (d : Dev) (k : Nat) (f : Slot → Slot) : (d.modSlot k f).bfl = d.bfl := rfl
@[simp] theorem Dev.modSlot_homes (d : Dev) (k : Nat) (f : Slot → Slot) : (d.modSlot k f).homes = d.homes := rfl
@[simp] theorem Dev.modSlot_rme (d : Dev) (k : Nat) (f : Slot → Slot) : (d.modSlot k f).rme = d.rme := rfl
@[simp] theorem Dev.modSlot_log (d : Dev) (k : Nat) (f : Slot → Slot) : (d.modSlot k f).log = d.log := rfl
@[simp] theorem Dev.modSlot_sb (d : Dev) (k : Nat) (f : Slot → Slot) : (d.modSlot k f).sb = d.sb := rfl
@[simp] theorem Dev.modSlot_stray (d : Dev) (k : Nat) (f : Slot → Slot) : (d.modSlot k f).stray = d.stray := rfl
@[simp] theorem Dev.modSlot_wordsRead (d : Dev) (k : Nat) (f : Slot → Slot) : (d.modSlot k f).wordsRead = d.wordsRead := rfl
@[simp] theorem Dev.modSlot_pwr (d : Dev) (k : Nat) (f : Slot → Slot) : (d.modSlot k f).pwr = d.pwr := rfl
@[simp] theorem Dev.modSlot_per (d : Dev) (k : Nat) (f : Slot → Slot) : (d.modSlot k f).per = d.per := rfl
@[simp] theorem Dev.modSlot_tele (d : Dev) (k : Nat) (f : Slot → Slot) : (d.modSlot k f).tele = d.tele := rfl
@[simp] theorem Dev.modSlot_test (d : Dev) (k : Nat) (f : Slot → Slot) : (d.modSlot k f).test = d.test := rfl
@[simp] theorem Dev.modSlot_out (d : Dev) (k : Nat) (f : Slot → Slot) : (d.modSlot k f).out = d.out := rfl

/-! `Dev.modSb` changes `sb` alone. -/

@[simp] theorem Dev.modSb_clk (d : Dev) (k : Nat) (f : Sb → Sb) : (d.modSb k f).clk = d.clk := rfl
@[simp] theorem Dev.modSb_fresh (d : Dev) (k : Nat) (f : Sb → Sb) : (d.modSb k f).fresh = d.fresh := rfl
@[simp] theorem Dev.modSb_resetObjs (d : Dev) (k : Nat) (f : Sb → Sb) : (d.modSb k f).resetObjs = d.resetObjs := rfl
@[simp] theorem Dev.modSb_pins (d : Dev) (k : Nat) (f : Sb → Sb) : (d.modSb k f).pins = d.pins := rfl
@[simp] theorem Dev.modSb_pa (d : Dev) (k : Nat) (f : Sb → Sb) : (d.modSb k f).pa = d.pa := rfl
@[simp] theorem Dev.modSb_boot (d : Dev) (k : Nat) (f : Sb → Sb) : (d.modSb k f).boot = d.boot := rfl
@[simp] theorem Dev.modSb_clocks (d : Dev) (k : Nat) (f : Sb → Sb) : (d.modSb k f).clocks = d.clocks := rfl
@[simp] theorem Dev.modSb_sessions (d : Dev) (k : Nat) (f : Sb → Sb) : (d.modSb k f).sessions = d.sessions := rfl
@[simp] theorem Dev.modSb_nextSid (d : Dev) (k : Nat) (f : Sb → Sb) : (d.modSb k f).nextSid = d.nextSid := rfl
@[simp] theorem Dev.modSb_mailboxes (d : Dev) (k : Nat) (f : Sb → Sb) : (d.modSb k f).mailboxes = d.mailboxes := rfl
@[simp] theorem Dev.modSb_endpoints (d : Dev) (k : Nat) (f : Sb → Sb) : (d.modSb k f).endpoints = d.endpoints := rfl
@[simp] theorem Dev.modSb_commit (d : Dev) (k : Nat) (f : Sb → Sb) : (d.modSb k f).commit = d.commit := rfl
@[simp] theorem Dev.modSb_commitQueue (d : Dev) (k : Nat) (f : Sb → Sb) : (d.modSb k f).commitQueue = d.commitQueue := rfl
@[simp] theorem Dev.modSb_storeWrite (d : Dev) (k : Nat) (f : Sb → Sb) : (d.modSb k f).storeWrite = d.storeWrite := rfl
@[simp] theorem Dev.modSb_storeW (d : Dev) (k : Nat) (f : Sb → Sb) : (d.modSb k f).storeW = d.storeW := rfl
@[simp] theorem Dev.modSb_storeE (d : Dev) (k : Nat) (f : Sb → Sb) : (d.modSb k f).storeE = d.storeE := rfl
@[simp] theorem Dev.modSb_flash (d : Dev) (k : Nat) (f : Sb → Sb) : (d.modSb k f).flash = d.flash := rfl
@[simp] theorem Dev.modSb_lanes (d : Dev) (k : Nat) (f : Sb → Sb) : (d.modSb k f).lanes = d.lanes := rfl
@[simp] theorem Dev.modSb_ports (d : Dev) (k : Nat) (f : Sb → Sb) : (d.modSb k f).ports = d.ports := rfl
@[simp] theorem Dev.modSb_nodes (d : Dev) (k : Nat) (f : Sb → Sb) : (d.modSb k f).nodes = d.nodes := rfl
@[simp] theorem Dev.modSb_cfg (d : Dev) (k : Nat) (f : Sb → Sb) : (d.modSb k f).cfg = d.cfg := rfl
@[simp] theorem Dev.modSb_msix (d : Dev) (k : Nat) (f : Sb → Sb) : (d.modSb k f).msix = d.msix := rfl
@[simp] theorem Dev.modSb_bufW (d : Dev) (k : Nat) (f : Sb → Sb) : (d.modSb k f).bufW = d.bufW := rfl
@[simp] theorem Dev.modSb_bufE (d : Dev) (k : Nat) (f : Sb → Sb) : (d.modSb k f).bufE = d.bufE := rfl
@[simp] theorem Dev.modSb_nextFrame (d : Dev) (k : Nat) (f : Sb → Sb) : (d.modSb k f).nextFrame = d.nextFrame := rfl
@[simp] theorem Dev.modSb_seam (d : Dev) (k : Nat) (f : Sb → Sb) : (d.modSb k f).seam = d.seam := rfl
@[simp] theorem Dev.modSb_meters (d : Dev) (k : Nat) (f : Sb → Sb) : (d.modSb k f).meters = d.meters := rfl
@[simp] theorem Dev.modSb_shapers (d : Dev) (k : Nat) (f : Sb → Sb) : (d.modSb k f).shapers = d.shapers := rfl
@[simp] theorem Dev.modSb_nodeTags (d : Dev) (k : Nat) (f : Sb → Sb) : (d.modSb k f).nodeTags = d.nodeTags := rfl
@[simp] theorem Dev.modSb_classTags (d : Dev) (k : Nat) (f : Sb → Sb) : (d.modSb k f).classTags = d.classTags := rfl
@[simp] theorem Dev.modSb_classTime (d : Dev) (k : Nat) (f : Sb → Sb) : (d.modSb k f).classTime = d.classTime := rfl
@[simp] theorem Dev.modSb_fns (d : Dev) (k : Nat) (f : Sb → Sb) : (d.modSb k f).fns = d.fns := rfl
@[simp] theorem Dev.modSb_views (d : Dev) (k : Nat) (f : Sb → Sb) : (d.modSb k f).views = d.views := rfl
@[simp] theorem Dev.modSb_barsFound (d : Dev) (k : Nat) (f : Sb → Sb) : (d.modSb k f).barsFound = d.barsFound := rfl
@[simp] theorem Dev.modSb_gam (d : Dev) (k : Nat) (f : Sb → Sb) : (d.modSb k f).gam = d.gam := rfl
@[simp] theorem Dev.modSb_gamDead (d : Dev) (k : Nat) (f : Sb → Sb) : (d.modSb k f).gamDead = d.gamDead := rfl
@[simp] theorem Dev.modSb_trackW (d : Dev) (k : Nat) (f : Sb → Sb) : (d.modSb k f).trackW = d.trackW := rfl
@[simp] theorem Dev.modSb_trackE (d : Dev) (k : Nat) (f : Sb → Sb) : (d.modSb k f).trackE = d.trackE := rfl
@[simp] theorem Dev.modSb_trackRetired (d : Dev) (k : Nat) (f : Sb → Sb) : (d.modSb k f).trackRetired = d.trackRetired := rfl
@[simp] theorem Dev.modSb_pair (d : Dev) (k : Nat) (f : Sb → Sb) : (d.modSb k f).pair = d.pair := rfl
@[simp] theorem Dev.modSb_bfl (d : Dev) (k : Nat) (f : Sb → Sb) : (d.modSb k f).bfl = d.bfl := rfl
@[simp] theorem Dev.modSb_homes (d : Dev) (k : Nat) (f : Sb → Sb) : (d.modSb k f).homes = d.homes := rfl
@[simp] theorem Dev.modSb_rme (d : Dev) (k : Nat) (f : Sb → Sb) : (d.modSb k f).rme = d.rme := rfl
@[simp] theorem Dev.modSb_log (d : Dev) (k : Nat) (f : Sb → Sb) : (d.modSb k f).log = d.log := rfl
@[simp] theorem Dev.modSb_slots (d : Dev) (k : Nat) (f : Sb → Sb) : (d.modSb k f).slots = d.slots := rfl
@[simp] theorem Dev.modSb_stray (d : Dev) (k : Nat) (f : Sb → Sb) : (d.modSb k f).stray = d.stray := rfl
@[simp] theorem Dev.modSb_wordsRead (d : Dev) (k : Nat) (f : Sb → Sb) : (d.modSb k f).wordsRead = d.wordsRead := rfl
@[simp] theorem Dev.modSb_pwr (d : Dev) (k : Nat) (f : Sb → Sb) : (d.modSb k f).pwr = d.pwr := rfl
@[simp] theorem Dev.modSb_per (d : Dev) (k : Nat) (f : Sb → Sb) : (d.modSb k f).per = d.per := rfl
@[simp] theorem Dev.modSb_tele (d : Dev) (k : Nat) (f : Sb → Sb) : (d.modSb k f).tele = d.tele := rfl
@[simp] theorem Dev.modSb_test (d : Dev) (k : Nat) (f : Sb → Sb) : (d.modSb k f).test = d.test := rfl
@[simp] theorem Dev.modSb_out (d : Dev) (k : Nat) (f : Sb → Sb) : (d.modSb k f).out = d.out := rfl

/-! `Dev.modLink` changes `bfl` alone. -/

@[simp] theorem Dev.modLink_clk (d : Dev) (i : Nat) (f : BflLink → BflLink) : (d.modLink i f).clk = d.clk := rfl
@[simp] theorem Dev.modLink_fresh (d : Dev) (i : Nat) (f : BflLink → BflLink) : (d.modLink i f).fresh = d.fresh := rfl
@[simp] theorem Dev.modLink_resetObjs (d : Dev) (i : Nat) (f : BflLink → BflLink) : (d.modLink i f).resetObjs = d.resetObjs := rfl
@[simp] theorem Dev.modLink_pins (d : Dev) (i : Nat) (f : BflLink → BflLink) : (d.modLink i f).pins = d.pins := rfl
@[simp] theorem Dev.modLink_pa (d : Dev) (i : Nat) (f : BflLink → BflLink) : (d.modLink i f).pa = d.pa := rfl
@[simp] theorem Dev.modLink_boot (d : Dev) (i : Nat) (f : BflLink → BflLink) : (d.modLink i f).boot = d.boot := rfl
@[simp] theorem Dev.modLink_clocks (d : Dev) (i : Nat) (f : BflLink → BflLink) : (d.modLink i f).clocks = d.clocks := rfl
@[simp] theorem Dev.modLink_sessions (d : Dev) (i : Nat) (f : BflLink → BflLink) : (d.modLink i f).sessions = d.sessions := rfl
@[simp] theorem Dev.modLink_nextSid (d : Dev) (i : Nat) (f : BflLink → BflLink) : (d.modLink i f).nextSid = d.nextSid := rfl
@[simp] theorem Dev.modLink_mailboxes (d : Dev) (i : Nat) (f : BflLink → BflLink) : (d.modLink i f).mailboxes = d.mailboxes := rfl
@[simp] theorem Dev.modLink_endpoints (d : Dev) (i : Nat) (f : BflLink → BflLink) : (d.modLink i f).endpoints = d.endpoints := rfl
@[simp] theorem Dev.modLink_commit (d : Dev) (i : Nat) (f : BflLink → BflLink) : (d.modLink i f).commit = d.commit := rfl
@[simp] theorem Dev.modLink_commitQueue (d : Dev) (i : Nat) (f : BflLink → BflLink) : (d.modLink i f).commitQueue = d.commitQueue := rfl
@[simp] theorem Dev.modLink_storeWrite (d : Dev) (i : Nat) (f : BflLink → BflLink) : (d.modLink i f).storeWrite = d.storeWrite := rfl
@[simp] theorem Dev.modLink_storeW (d : Dev) (i : Nat) (f : BflLink → BflLink) : (d.modLink i f).storeW = d.storeW := rfl
@[simp] theorem Dev.modLink_storeE (d : Dev) (i : Nat) (f : BflLink → BflLink) : (d.modLink i f).storeE = d.storeE := rfl
@[simp] theorem Dev.modLink_flash (d : Dev) (i : Nat) (f : BflLink → BflLink) : (d.modLink i f).flash = d.flash := rfl
@[simp] theorem Dev.modLink_lanes (d : Dev) (i : Nat) (f : BflLink → BflLink) : (d.modLink i f).lanes = d.lanes := rfl
@[simp] theorem Dev.modLink_ports (d : Dev) (i : Nat) (f : BflLink → BflLink) : (d.modLink i f).ports = d.ports := rfl
@[simp] theorem Dev.modLink_nodes (d : Dev) (i : Nat) (f : BflLink → BflLink) : (d.modLink i f).nodes = d.nodes := rfl
@[simp] theorem Dev.modLink_cfg (d : Dev) (i : Nat) (f : BflLink → BflLink) : (d.modLink i f).cfg = d.cfg := rfl
@[simp] theorem Dev.modLink_msix (d : Dev) (i : Nat) (f : BflLink → BflLink) : (d.modLink i f).msix = d.msix := rfl
@[simp] theorem Dev.modLink_bufW (d : Dev) (i : Nat) (f : BflLink → BflLink) : (d.modLink i f).bufW = d.bufW := rfl
@[simp] theorem Dev.modLink_bufE (d : Dev) (i : Nat) (f : BflLink → BflLink) : (d.modLink i f).bufE = d.bufE := rfl
@[simp] theorem Dev.modLink_nextFrame (d : Dev) (i : Nat) (f : BflLink → BflLink) : (d.modLink i f).nextFrame = d.nextFrame := rfl
@[simp] theorem Dev.modLink_seam (d : Dev) (i : Nat) (f : BflLink → BflLink) : (d.modLink i f).seam = d.seam := rfl
@[simp] theorem Dev.modLink_meters (d : Dev) (i : Nat) (f : BflLink → BflLink) : (d.modLink i f).meters = d.meters := rfl
@[simp] theorem Dev.modLink_shapers (d : Dev) (i : Nat) (f : BflLink → BflLink) : (d.modLink i f).shapers = d.shapers := rfl
@[simp] theorem Dev.modLink_nodeTags (d : Dev) (i : Nat) (f : BflLink → BflLink) : (d.modLink i f).nodeTags = d.nodeTags := rfl
@[simp] theorem Dev.modLink_classTags (d : Dev) (i : Nat) (f : BflLink → BflLink) : (d.modLink i f).classTags = d.classTags := rfl
@[simp] theorem Dev.modLink_classTime (d : Dev) (i : Nat) (f : BflLink → BflLink) : (d.modLink i f).classTime = d.classTime := rfl
@[simp] theorem Dev.modLink_fns (d : Dev) (i : Nat) (f : BflLink → BflLink) : (d.modLink i f).fns = d.fns := rfl
@[simp] theorem Dev.modLink_views (d : Dev) (i : Nat) (f : BflLink → BflLink) : (d.modLink i f).views = d.views := rfl
@[simp] theorem Dev.modLink_barsFound (d : Dev) (i : Nat) (f : BflLink → BflLink) : (d.modLink i f).barsFound = d.barsFound := rfl
@[simp] theorem Dev.modLink_gam (d : Dev) (i : Nat) (f : BflLink → BflLink) : (d.modLink i f).gam = d.gam := rfl
@[simp] theorem Dev.modLink_gamDead (d : Dev) (i : Nat) (f : BflLink → BflLink) : (d.modLink i f).gamDead = d.gamDead := rfl
@[simp] theorem Dev.modLink_trackW (d : Dev) (i : Nat) (f : BflLink → BflLink) : (d.modLink i f).trackW = d.trackW := rfl
@[simp] theorem Dev.modLink_trackE (d : Dev) (i : Nat) (f : BflLink → BflLink) : (d.modLink i f).trackE = d.trackE := rfl
@[simp] theorem Dev.modLink_trackRetired (d : Dev) (i : Nat) (f : BflLink → BflLink) : (d.modLink i f).trackRetired = d.trackRetired := rfl
@[simp] theorem Dev.modLink_pair (d : Dev) (i : Nat) (f : BflLink → BflLink) : (d.modLink i f).pair = d.pair := rfl
@[simp] theorem Dev.modLink_homes (d : Dev) (i : Nat) (f : BflLink → BflLink) : (d.modLink i f).homes = d.homes := rfl
@[simp] theorem Dev.modLink_rme (d : Dev) (i : Nat) (f : BflLink → BflLink) : (d.modLink i f).rme = d.rme := rfl
@[simp] theorem Dev.modLink_log (d : Dev) (i : Nat) (f : BflLink → BflLink) : (d.modLink i f).log = d.log := rfl
@[simp] theorem Dev.modLink_slots (d : Dev) (i : Nat) (f : BflLink → BflLink) : (d.modLink i f).slots = d.slots := rfl
@[simp] theorem Dev.modLink_sb (d : Dev) (i : Nat) (f : BflLink → BflLink) : (d.modLink i f).sb = d.sb := rfl
@[simp] theorem Dev.modLink_stray (d : Dev) (i : Nat) (f : BflLink → BflLink) : (d.modLink i f).stray = d.stray := rfl
@[simp] theorem Dev.modLink_wordsRead (d : Dev) (i : Nat) (f : BflLink → BflLink) : (d.modLink i f).wordsRead = d.wordsRead := rfl
@[simp] theorem Dev.modLink_pwr (d : Dev) (i : Nat) (f : BflLink → BflLink) : (d.modLink i f).pwr = d.pwr := rfl
@[simp] theorem Dev.modLink_per (d : Dev) (i : Nat) (f : BflLink → BflLink) : (d.modLink i f).per = d.per := rfl
@[simp] theorem Dev.modLink_tele (d : Dev) (i : Nat) (f : BflLink → BflLink) : (d.modLink i f).tele = d.tele := rfl
@[simp] theorem Dev.modLink_test (d : Dev) (i : Nat) (f : BflLink → BflLink) : (d.modLink i f).test = d.test := rfl
@[simp] theorem Dev.modLink_out (d : Dev) (i : Nat) (f : BflLink → BflLink) : (d.modLink i f).out = d.out := rfl

/-! `Dev.modMailbox` changes `mailboxes` alone. -/

@[simp] theorem Dev.modMailbox_clk (d : Dev) (v : Nat) (f : Mailbox → Mailbox) : (d.modMailbox v f).clk = d.clk := rfl
@[simp] theorem Dev.modMailbox_fresh (d : Dev) (v : Nat) (f : Mailbox → Mailbox) : (d.modMailbox v f).fresh = d.fresh := rfl
@[simp] theorem Dev.modMailbox_resetObjs (d : Dev) (v : Nat) (f : Mailbox → Mailbox) : (d.modMailbox v f).resetObjs = d.resetObjs := rfl
@[simp] theorem Dev.modMailbox_pins (d : Dev) (v : Nat) (f : Mailbox → Mailbox) : (d.modMailbox v f).pins = d.pins := rfl
@[simp] theorem Dev.modMailbox_pa (d : Dev) (v : Nat) (f : Mailbox → Mailbox) : (d.modMailbox v f).pa = d.pa := rfl
@[simp] theorem Dev.modMailbox_boot (d : Dev) (v : Nat) (f : Mailbox → Mailbox) : (d.modMailbox v f).boot = d.boot := rfl
@[simp] theorem Dev.modMailbox_clocks (d : Dev) (v : Nat) (f : Mailbox → Mailbox) : (d.modMailbox v f).clocks = d.clocks := rfl
@[simp] theorem Dev.modMailbox_sessions (d : Dev) (v : Nat) (f : Mailbox → Mailbox) : (d.modMailbox v f).sessions = d.sessions := rfl
@[simp] theorem Dev.modMailbox_nextSid (d : Dev) (v : Nat) (f : Mailbox → Mailbox) : (d.modMailbox v f).nextSid = d.nextSid := rfl
@[simp] theorem Dev.modMailbox_endpoints (d : Dev) (v : Nat) (f : Mailbox → Mailbox) : (d.modMailbox v f).endpoints = d.endpoints := rfl
@[simp] theorem Dev.modMailbox_commit (d : Dev) (v : Nat) (f : Mailbox → Mailbox) : (d.modMailbox v f).commit = d.commit := rfl
@[simp] theorem Dev.modMailbox_commitQueue (d : Dev) (v : Nat) (f : Mailbox → Mailbox) : (d.modMailbox v f).commitQueue = d.commitQueue := rfl
@[simp] theorem Dev.modMailbox_storeWrite (d : Dev) (v : Nat) (f : Mailbox → Mailbox) : (d.modMailbox v f).storeWrite = d.storeWrite := rfl
@[simp] theorem Dev.modMailbox_storeW (d : Dev) (v : Nat) (f : Mailbox → Mailbox) : (d.modMailbox v f).storeW = d.storeW := rfl
@[simp] theorem Dev.modMailbox_storeE (d : Dev) (v : Nat) (f : Mailbox → Mailbox) : (d.modMailbox v f).storeE = d.storeE := rfl
@[simp] theorem Dev.modMailbox_flash (d : Dev) (v : Nat) (f : Mailbox → Mailbox) : (d.modMailbox v f).flash = d.flash := rfl
@[simp] theorem Dev.modMailbox_lanes (d : Dev) (v : Nat) (f : Mailbox → Mailbox) : (d.modMailbox v f).lanes = d.lanes := rfl
@[simp] theorem Dev.modMailbox_ports (d : Dev) (v : Nat) (f : Mailbox → Mailbox) : (d.modMailbox v f).ports = d.ports := rfl
@[simp] theorem Dev.modMailbox_nodes (d : Dev) (v : Nat) (f : Mailbox → Mailbox) : (d.modMailbox v f).nodes = d.nodes := rfl
@[simp] theorem Dev.modMailbox_cfg (d : Dev) (v : Nat) (f : Mailbox → Mailbox) : (d.modMailbox v f).cfg = d.cfg := rfl
@[simp] theorem Dev.modMailbox_msix (d : Dev) (v : Nat) (f : Mailbox → Mailbox) : (d.modMailbox v f).msix = d.msix := rfl
@[simp] theorem Dev.modMailbox_bufW (d : Dev) (v : Nat) (f : Mailbox → Mailbox) : (d.modMailbox v f).bufW = d.bufW := rfl
@[simp] theorem Dev.modMailbox_bufE (d : Dev) (v : Nat) (f : Mailbox → Mailbox) : (d.modMailbox v f).bufE = d.bufE := rfl
@[simp] theorem Dev.modMailbox_nextFrame (d : Dev) (v : Nat) (f : Mailbox → Mailbox) : (d.modMailbox v f).nextFrame = d.nextFrame := rfl
@[simp] theorem Dev.modMailbox_seam (d : Dev) (v : Nat) (f : Mailbox → Mailbox) : (d.modMailbox v f).seam = d.seam := rfl
@[simp] theorem Dev.modMailbox_meters (d : Dev) (v : Nat) (f : Mailbox → Mailbox) : (d.modMailbox v f).meters = d.meters := rfl
@[simp] theorem Dev.modMailbox_shapers (d : Dev) (v : Nat) (f : Mailbox → Mailbox) : (d.modMailbox v f).shapers = d.shapers := rfl
@[simp] theorem Dev.modMailbox_nodeTags (d : Dev) (v : Nat) (f : Mailbox → Mailbox) : (d.modMailbox v f).nodeTags = d.nodeTags := rfl
@[simp] theorem Dev.modMailbox_classTags (d : Dev) (v : Nat) (f : Mailbox → Mailbox) : (d.modMailbox v f).classTags = d.classTags := rfl
@[simp] theorem Dev.modMailbox_classTime (d : Dev) (v : Nat) (f : Mailbox → Mailbox) : (d.modMailbox v f).classTime = d.classTime := rfl
@[simp] theorem Dev.modMailbox_fns (d : Dev) (v : Nat) (f : Mailbox → Mailbox) : (d.modMailbox v f).fns = d.fns := rfl
@[simp] theorem Dev.modMailbox_views (d : Dev) (v : Nat) (f : Mailbox → Mailbox) : (d.modMailbox v f).views = d.views := rfl
@[simp] theorem Dev.modMailbox_barsFound (d : Dev) (v : Nat) (f : Mailbox → Mailbox) : (d.modMailbox v f).barsFound = d.barsFound := rfl
@[simp] theorem Dev.modMailbox_gam (d : Dev) (v : Nat) (f : Mailbox → Mailbox) : (d.modMailbox v f).gam = d.gam := rfl
@[simp] theorem Dev.modMailbox_gamDead (d : Dev) (v : Nat) (f : Mailbox → Mailbox) : (d.modMailbox v f).gamDead = d.gamDead := rfl
@[simp] theorem Dev.modMailbox_trackW (d : Dev) (v : Nat) (f : Mailbox → Mailbox) : (d.modMailbox v f).trackW = d.trackW := rfl
@[simp] theorem Dev.modMailbox_trackE (d : Dev) (v : Nat) (f : Mailbox → Mailbox) : (d.modMailbox v f).trackE = d.trackE := rfl
@[simp] theorem Dev.modMailbox_trackRetired (d : Dev) (v : Nat) (f : Mailbox → Mailbox) : (d.modMailbox v f).trackRetired = d.trackRetired := rfl
@[simp] theorem Dev.modMailbox_pair (d : Dev) (v : Nat) (f : Mailbox → Mailbox) : (d.modMailbox v f).pair = d.pair := rfl
@[simp] theorem Dev.modMailbox_bfl (d : Dev) (v : Nat) (f : Mailbox → Mailbox) : (d.modMailbox v f).bfl = d.bfl := rfl
@[simp] theorem Dev.modMailbox_homes (d : Dev) (v : Nat) (f : Mailbox → Mailbox) : (d.modMailbox v f).homes = d.homes := rfl
@[simp] theorem Dev.modMailbox_rme (d : Dev) (v : Nat) (f : Mailbox → Mailbox) : (d.modMailbox v f).rme = d.rme := rfl
@[simp] theorem Dev.modMailbox_log (d : Dev) (v : Nat) (f : Mailbox → Mailbox) : (d.modMailbox v f).log = d.log := rfl
@[simp] theorem Dev.modMailbox_slots (d : Dev) (v : Nat) (f : Mailbox → Mailbox) : (d.modMailbox v f).slots = d.slots := rfl
@[simp] theorem Dev.modMailbox_sb (d : Dev) (v : Nat) (f : Mailbox → Mailbox) : (d.modMailbox v f).sb = d.sb := rfl
@[simp] theorem Dev.modMailbox_stray (d : Dev) (v : Nat) (f : Mailbox → Mailbox) : (d.modMailbox v f).stray = d.stray := rfl
@[simp] theorem Dev.modMailbox_wordsRead (d : Dev) (v : Nat) (f : Mailbox → Mailbox) : (d.modMailbox v f).wordsRead = d.wordsRead := rfl
@[simp] theorem Dev.modMailbox_pwr (d : Dev) (v : Nat) (f : Mailbox → Mailbox) : (d.modMailbox v f).pwr = d.pwr := rfl
@[simp] theorem Dev.modMailbox_per (d : Dev) (v : Nat) (f : Mailbox → Mailbox) : (d.modMailbox v f).per = d.per := rfl
@[simp] theorem Dev.modMailbox_tele (d : Dev) (v : Nat) (f : Mailbox → Mailbox) : (d.modMailbox v f).tele = d.tele := rfl
@[simp] theorem Dev.modMailbox_test (d : Dev) (v : Nat) (f : Mailbox → Mailbox) : (d.modMailbox v f).test = d.test := rfl
@[simp] theorem Dev.modMailbox_out (d : Dev) (v : Nat) (f : Mailbox → Mailbox) : (d.modMailbox v f).out = d.out := rfl

/-! `Dev.modSes` changes `sessions` alone. -/

@[simp] theorem Dev.modSes_clk (d : Dev) (n : Nat) (f : Session → Session) : (d.modSes n f).clk = d.clk := rfl
@[simp] theorem Dev.modSes_fresh (d : Dev) (n : Nat) (f : Session → Session) : (d.modSes n f).fresh = d.fresh := rfl
@[simp] theorem Dev.modSes_resetObjs (d : Dev) (n : Nat) (f : Session → Session) : (d.modSes n f).resetObjs = d.resetObjs := rfl
@[simp] theorem Dev.modSes_pins (d : Dev) (n : Nat) (f : Session → Session) : (d.modSes n f).pins = d.pins := rfl
@[simp] theorem Dev.modSes_pa (d : Dev) (n : Nat) (f : Session → Session) : (d.modSes n f).pa = d.pa := rfl
@[simp] theorem Dev.modSes_boot (d : Dev) (n : Nat) (f : Session → Session) : (d.modSes n f).boot = d.boot := rfl
@[simp] theorem Dev.modSes_clocks (d : Dev) (n : Nat) (f : Session → Session) : (d.modSes n f).clocks = d.clocks := rfl
@[simp] theorem Dev.modSes_nextSid (d : Dev) (n : Nat) (f : Session → Session) : (d.modSes n f).nextSid = d.nextSid := rfl
@[simp] theorem Dev.modSes_mailboxes (d : Dev) (n : Nat) (f : Session → Session) : (d.modSes n f).mailboxes = d.mailboxes := rfl
@[simp] theorem Dev.modSes_endpoints (d : Dev) (n : Nat) (f : Session → Session) : (d.modSes n f).endpoints = d.endpoints := rfl
@[simp] theorem Dev.modSes_commit (d : Dev) (n : Nat) (f : Session → Session) : (d.modSes n f).commit = d.commit := rfl
@[simp] theorem Dev.modSes_commitQueue (d : Dev) (n : Nat) (f : Session → Session) : (d.modSes n f).commitQueue = d.commitQueue := rfl
@[simp] theorem Dev.modSes_storeWrite (d : Dev) (n : Nat) (f : Session → Session) : (d.modSes n f).storeWrite = d.storeWrite := rfl
@[simp] theorem Dev.modSes_storeW (d : Dev) (n : Nat) (f : Session → Session) : (d.modSes n f).storeW = d.storeW := rfl
@[simp] theorem Dev.modSes_storeE (d : Dev) (n : Nat) (f : Session → Session) : (d.modSes n f).storeE = d.storeE := rfl
@[simp] theorem Dev.modSes_flash (d : Dev) (n : Nat) (f : Session → Session) : (d.modSes n f).flash = d.flash := rfl
@[simp] theorem Dev.modSes_lanes (d : Dev) (n : Nat) (f : Session → Session) : (d.modSes n f).lanes = d.lanes := rfl
@[simp] theorem Dev.modSes_ports (d : Dev) (n : Nat) (f : Session → Session) : (d.modSes n f).ports = d.ports := rfl
@[simp] theorem Dev.modSes_nodes (d : Dev) (n : Nat) (f : Session → Session) : (d.modSes n f).nodes = d.nodes := rfl
@[simp] theorem Dev.modSes_cfg (d : Dev) (n : Nat) (f : Session → Session) : (d.modSes n f).cfg = d.cfg := rfl
@[simp] theorem Dev.modSes_msix (d : Dev) (n : Nat) (f : Session → Session) : (d.modSes n f).msix = d.msix := rfl
@[simp] theorem Dev.modSes_bufW (d : Dev) (n : Nat) (f : Session → Session) : (d.modSes n f).bufW = d.bufW := rfl
@[simp] theorem Dev.modSes_bufE (d : Dev) (n : Nat) (f : Session → Session) : (d.modSes n f).bufE = d.bufE := rfl
@[simp] theorem Dev.modSes_nextFrame (d : Dev) (n : Nat) (f : Session → Session) : (d.modSes n f).nextFrame = d.nextFrame := rfl
@[simp] theorem Dev.modSes_seam (d : Dev) (n : Nat) (f : Session → Session) : (d.modSes n f).seam = d.seam := rfl
@[simp] theorem Dev.modSes_meters (d : Dev) (n : Nat) (f : Session → Session) : (d.modSes n f).meters = d.meters := rfl
@[simp] theorem Dev.modSes_shapers (d : Dev) (n : Nat) (f : Session → Session) : (d.modSes n f).shapers = d.shapers := rfl
@[simp] theorem Dev.modSes_nodeTags (d : Dev) (n : Nat) (f : Session → Session) : (d.modSes n f).nodeTags = d.nodeTags := rfl
@[simp] theorem Dev.modSes_classTags (d : Dev) (n : Nat) (f : Session → Session) : (d.modSes n f).classTags = d.classTags := rfl
@[simp] theorem Dev.modSes_classTime (d : Dev) (n : Nat) (f : Session → Session) : (d.modSes n f).classTime = d.classTime := rfl
@[simp] theorem Dev.modSes_fns (d : Dev) (n : Nat) (f : Session → Session) : (d.modSes n f).fns = d.fns := rfl
@[simp] theorem Dev.modSes_views (d : Dev) (n : Nat) (f : Session → Session) : (d.modSes n f).views = d.views := rfl
@[simp] theorem Dev.modSes_barsFound (d : Dev) (n : Nat) (f : Session → Session) : (d.modSes n f).barsFound = d.barsFound := rfl
@[simp] theorem Dev.modSes_gam (d : Dev) (n : Nat) (f : Session → Session) : (d.modSes n f).gam = d.gam := rfl
@[simp] theorem Dev.modSes_gamDead (d : Dev) (n : Nat) (f : Session → Session) : (d.modSes n f).gamDead = d.gamDead := rfl
@[simp] theorem Dev.modSes_trackW (d : Dev) (n : Nat) (f : Session → Session) : (d.modSes n f).trackW = d.trackW := rfl
@[simp] theorem Dev.modSes_trackE (d : Dev) (n : Nat) (f : Session → Session) : (d.modSes n f).trackE = d.trackE := rfl
@[simp] theorem Dev.modSes_trackRetired (d : Dev) (n : Nat) (f : Session → Session) : (d.modSes n f).trackRetired = d.trackRetired := rfl
@[simp] theorem Dev.modSes_pair (d : Dev) (n : Nat) (f : Session → Session) : (d.modSes n f).pair = d.pair := rfl
@[simp] theorem Dev.modSes_bfl (d : Dev) (n : Nat) (f : Session → Session) : (d.modSes n f).bfl = d.bfl := rfl
@[simp] theorem Dev.modSes_homes (d : Dev) (n : Nat) (f : Session → Session) : (d.modSes n f).homes = d.homes := rfl
@[simp] theorem Dev.modSes_rme (d : Dev) (n : Nat) (f : Session → Session) : (d.modSes n f).rme = d.rme := rfl
@[simp] theorem Dev.modSes_log (d : Dev) (n : Nat) (f : Session → Session) : (d.modSes n f).log = d.log := rfl
@[simp] theorem Dev.modSes_slots (d : Dev) (n : Nat) (f : Session → Session) : (d.modSes n f).slots = d.slots := rfl
@[simp] theorem Dev.modSes_sb (d : Dev) (n : Nat) (f : Session → Session) : (d.modSes n f).sb = d.sb := rfl
@[simp] theorem Dev.modSes_stray (d : Dev) (n : Nat) (f : Session → Session) : (d.modSes n f).stray = d.stray := rfl
@[simp] theorem Dev.modSes_wordsRead (d : Dev) (n : Nat) (f : Session → Session) : (d.modSes n f).wordsRead = d.wordsRead := rfl
@[simp] theorem Dev.modSes_pwr (d : Dev) (n : Nat) (f : Session → Session) : (d.modSes n f).pwr = d.pwr := rfl
@[simp] theorem Dev.modSes_per (d : Dev) (n : Nat) (f : Session → Session) : (d.modSes n f).per = d.per := rfl
@[simp] theorem Dev.modSes_tele (d : Dev) (n : Nat) (f : Session → Session) : (d.modSes n f).tele = d.tele := rfl
@[simp] theorem Dev.modSes_test (d : Dev) (n : Nat) (f : Session → Session) : (d.modSes n f).test = d.test := rfl
@[simp] theorem Dev.modSes_out (d : Dev) (n : Nat) (f : Session → Session) : (d.modSes n f).out = d.out := rfl

/-! `Dev.advanceTo` changes `clk`, `pair` and `clocks` alone. -/

@[simp] theorem Dev.pass_fresh (d : Dev) (n : Nat) : (d.pass n).fresh = d.fresh := by rw [Dev.pass_same]
@[simp] theorem Dev.pass_resetObjs (d : Dev) (n : Nat) : (d.pass n).resetObjs = d.resetObjs := by rw [Dev.pass_same]
@[simp] theorem Dev.pass_pins (d : Dev) (n : Nat) : (d.pass n).pins = d.pins := by rw [Dev.pass_same]
@[simp] theorem Dev.pass_pa (d : Dev) (n : Nat) : (d.pass n).pa = d.pa := by rw [Dev.pass_same]
@[simp] theorem Dev.pass_boot (d : Dev) (n : Nat) : (d.pass n).boot = d.boot := by rw [Dev.pass_same]
@[simp] theorem Dev.pass_sessions (d : Dev) (n : Nat) : (d.pass n).sessions = d.sessions := by rw [Dev.pass_same]
@[simp] theorem Dev.pass_nextSid (d : Dev) (n : Nat) : (d.pass n).nextSid = d.nextSid := by rw [Dev.pass_same]
@[simp] theorem Dev.pass_mailboxes (d : Dev) (n : Nat) : (d.pass n).mailboxes = d.mailboxes := by rw [Dev.pass_same]
@[simp] theorem Dev.pass_endpoints (d : Dev) (n : Nat) : (d.pass n).endpoints = d.endpoints := by rw [Dev.pass_same]
@[simp] theorem Dev.pass_commit (d : Dev) (n : Nat) : (d.pass n).commit = d.commit := by rw [Dev.pass_same]
@[simp] theorem Dev.pass_commitQueue (d : Dev) (n : Nat) : (d.pass n).commitQueue = d.commitQueue := by rw [Dev.pass_same]
@[simp] theorem Dev.pass_storeWrite (d : Dev) (n : Nat) : (d.pass n).storeWrite = d.storeWrite := by rw [Dev.pass_same]
@[simp] theorem Dev.pass_storeW (d : Dev) (n : Nat) : (d.pass n).storeW = d.storeW := by rw [Dev.pass_same]
@[simp] theorem Dev.pass_storeE (d : Dev) (n : Nat) : (d.pass n).storeE = d.storeE := by rw [Dev.pass_same]
@[simp] theorem Dev.pass_flash (d : Dev) (n : Nat) : (d.pass n).flash = d.flash := by rw [Dev.pass_same]
@[simp] theorem Dev.pass_lanes (d : Dev) (n : Nat) : (d.pass n).lanes = d.lanes := by rw [Dev.pass_same]
@[simp] theorem Dev.pass_ports (d : Dev) (n : Nat) : (d.pass n).ports = d.ports := by rw [Dev.pass_same]
@[simp] theorem Dev.pass_nodes (d : Dev) (n : Nat) : (d.pass n).nodes = d.nodes := by rw [Dev.pass_same]
@[simp] theorem Dev.pass_cfg (d : Dev) (n : Nat) : (d.pass n).cfg = d.cfg := by rw [Dev.pass_same]
@[simp] theorem Dev.pass_msix (d : Dev) (n : Nat) : (d.pass n).msix = d.msix := by rw [Dev.pass_same]
@[simp] theorem Dev.pass_bufW (d : Dev) (n : Nat) : (d.pass n).bufW = d.bufW := by rw [Dev.pass_same]
@[simp] theorem Dev.pass_bufE (d : Dev) (n : Nat) : (d.pass n).bufE = d.bufE := by rw [Dev.pass_same]
@[simp] theorem Dev.pass_nextFrame (d : Dev) (n : Nat) : (d.pass n).nextFrame = d.nextFrame := by rw [Dev.pass_same]
@[simp] theorem Dev.pass_seam (d : Dev) (n : Nat) : (d.pass n).seam = d.seam := by rw [Dev.pass_same]
@[simp] theorem Dev.pass_meters (d : Dev) (n : Nat) : (d.pass n).meters = d.meters := by rw [Dev.pass_same]
@[simp] theorem Dev.pass_shapers (d : Dev) (n : Nat) : (d.pass n).shapers = d.shapers := by rw [Dev.pass_same]
@[simp] theorem Dev.pass_nodeTags (d : Dev) (n : Nat) : (d.pass n).nodeTags = d.nodeTags := by rw [Dev.pass_same]
@[simp] theorem Dev.pass_classTags (d : Dev) (n : Nat) : (d.pass n).classTags = d.classTags := by rw [Dev.pass_same]
@[simp] theorem Dev.pass_classTime (d : Dev) (n : Nat) : (d.pass n).classTime = d.classTime := by rw [Dev.pass_same]
@[simp] theorem Dev.pass_fns (d : Dev) (n : Nat) : (d.pass n).fns = d.fns := by rw [Dev.pass_same]
@[simp] theorem Dev.pass_views (d : Dev) (n : Nat) : (d.pass n).views = d.views := by rw [Dev.pass_same]
@[simp] theorem Dev.pass_barsFound (d : Dev) (n : Nat) : (d.pass n).barsFound = d.barsFound := by rw [Dev.pass_same]
@[simp] theorem Dev.pass_gam (d : Dev) (n : Nat) : (d.pass n).gam = d.gam := by rw [Dev.pass_same]
@[simp] theorem Dev.pass_gamDead (d : Dev) (n : Nat) : (d.pass n).gamDead = d.gamDead := by rw [Dev.pass_same]
@[simp] theorem Dev.pass_trackW (d : Dev) (n : Nat) : (d.pass n).trackW = d.trackW := by rw [Dev.pass_same]
@[simp] theorem Dev.pass_trackE (d : Dev) (n : Nat) : (d.pass n).trackE = d.trackE := by rw [Dev.pass_same]
@[simp] theorem Dev.pass_trackRetired (d : Dev) (n : Nat) : (d.pass n).trackRetired = d.trackRetired := by rw [Dev.pass_same]
@[simp] theorem Dev.pass_bfl (d : Dev) (n : Nat) : (d.pass n).bfl = d.bfl := by rw [Dev.pass_same]
@[simp] theorem Dev.pass_homes (d : Dev) (n : Nat) : (d.pass n).homes = d.homes := by rw [Dev.pass_same]
@[simp] theorem Dev.pass_rme (d : Dev) (n : Nat) : (d.pass n).rme = d.rme := by rw [Dev.pass_same]
@[simp] theorem Dev.pass_log (d : Dev) (n : Nat) : (d.pass n).log = d.log := by rw [Dev.pass_same]
@[simp] theorem Dev.pass_slots (d : Dev) (n : Nat) : (d.pass n).slots = d.slots := by rw [Dev.pass_same]
@[simp] theorem Dev.pass_sb (d : Dev) (n : Nat) : (d.pass n).sb = d.sb := by rw [Dev.pass_same]
@[simp] theorem Dev.pass_stray (d : Dev) (n : Nat) : (d.pass n).stray = d.stray := by rw [Dev.pass_same]
@[simp] theorem Dev.pass_wordsRead (d : Dev) (n : Nat) : (d.pass n).wordsRead = d.wordsRead := by rw [Dev.pass_same]
@[simp] theorem Dev.pass_pwr (d : Dev) (n : Nat) : (d.pass n).pwr = d.pwr := by rw [Dev.pass_same]
@[simp] theorem Dev.pass_per (d : Dev) (n : Nat) : (d.pass n).per = d.per := by rw [Dev.pass_same]
@[simp] theorem Dev.pass_tele (d : Dev) (n : Nat) : (d.pass n).tele = d.tele := by rw [Dev.pass_same]
@[simp] theorem Dev.pass_test (d : Dev) (n : Nat) : (d.pass n).test = d.test := by rw [Dev.pass_same]
@[simp] theorem Dev.pass_out (d : Dev) (n : Nat) : (d.pass n).out = d.out := by rw [Dev.pass_same]

@[simp] theorem Dev.advanceTo_fresh (d : Dev) (t : Nat) : (d.advanceTo t).fresh = d.fresh := Dev.pass_fresh _ _
@[simp] theorem Dev.advanceTo_resetObjs (d : Dev) (t : Nat) : (d.advanceTo t).resetObjs = d.resetObjs := Dev.pass_resetObjs _ _
@[simp] theorem Dev.advanceTo_pins (d : Dev) (t : Nat) : (d.advanceTo t).pins = d.pins := Dev.pass_pins _ _
@[simp] theorem Dev.advanceTo_pa (d : Dev) (t : Nat) : (d.advanceTo t).pa = d.pa := Dev.pass_pa _ _
@[simp] theorem Dev.advanceTo_boot (d : Dev) (t : Nat) : (d.advanceTo t).boot = d.boot := Dev.pass_boot _ _
@[simp] theorem Dev.advanceTo_sessions (d : Dev) (t : Nat) : (d.advanceTo t).sessions = d.sessions := Dev.pass_sessions _ _
@[simp] theorem Dev.advanceTo_nextSid (d : Dev) (t : Nat) : (d.advanceTo t).nextSid = d.nextSid := Dev.pass_nextSid _ _
@[simp] theorem Dev.advanceTo_mailboxes (d : Dev) (t : Nat) : (d.advanceTo t).mailboxes = d.mailboxes := Dev.pass_mailboxes _ _
@[simp] theorem Dev.advanceTo_endpoints (d : Dev) (t : Nat) : (d.advanceTo t).endpoints = d.endpoints := Dev.pass_endpoints _ _
@[simp] theorem Dev.advanceTo_commit (d : Dev) (t : Nat) : (d.advanceTo t).commit = d.commit := Dev.pass_commit _ _
@[simp] theorem Dev.advanceTo_commitQueue (d : Dev) (t : Nat) : (d.advanceTo t).commitQueue = d.commitQueue := Dev.pass_commitQueue _ _
@[simp] theorem Dev.advanceTo_storeWrite (d : Dev) (t : Nat) : (d.advanceTo t).storeWrite = d.storeWrite := Dev.pass_storeWrite _ _
@[simp] theorem Dev.advanceTo_storeW (d : Dev) (t : Nat) : (d.advanceTo t).storeW = d.storeW := Dev.pass_storeW _ _
@[simp] theorem Dev.advanceTo_storeE (d : Dev) (t : Nat) : (d.advanceTo t).storeE = d.storeE := Dev.pass_storeE _ _
@[simp] theorem Dev.advanceTo_flash (d : Dev) (t : Nat) : (d.advanceTo t).flash = d.flash := Dev.pass_flash _ _
@[simp] theorem Dev.advanceTo_lanes (d : Dev) (t : Nat) : (d.advanceTo t).lanes = d.lanes := Dev.pass_lanes _ _
@[simp] theorem Dev.advanceTo_ports (d : Dev) (t : Nat) : (d.advanceTo t).ports = d.ports := Dev.pass_ports _ _
@[simp] theorem Dev.advanceTo_nodes (d : Dev) (t : Nat) : (d.advanceTo t).nodes = d.nodes := Dev.pass_nodes _ _
@[simp] theorem Dev.advanceTo_cfg (d : Dev) (t : Nat) : (d.advanceTo t).cfg = d.cfg := Dev.pass_cfg _ _
@[simp] theorem Dev.advanceTo_msix (d : Dev) (t : Nat) : (d.advanceTo t).msix = d.msix := Dev.pass_msix _ _
@[simp] theorem Dev.advanceTo_bufW (d : Dev) (t : Nat) : (d.advanceTo t).bufW = d.bufW := Dev.pass_bufW _ _
@[simp] theorem Dev.advanceTo_bufE (d : Dev) (t : Nat) : (d.advanceTo t).bufE = d.bufE := Dev.pass_bufE _ _
@[simp] theorem Dev.advanceTo_nextFrame (d : Dev) (t : Nat) : (d.advanceTo t).nextFrame = d.nextFrame := Dev.pass_nextFrame _ _
@[simp] theorem Dev.advanceTo_seam (d : Dev) (t : Nat) : (d.advanceTo t).seam = d.seam := Dev.pass_seam _ _
@[simp] theorem Dev.advanceTo_meters (d : Dev) (t : Nat) : (d.advanceTo t).meters = d.meters := Dev.pass_meters _ _
@[simp] theorem Dev.advanceTo_shapers (d : Dev) (t : Nat) : (d.advanceTo t).shapers = d.shapers := Dev.pass_shapers _ _
@[simp] theorem Dev.advanceTo_nodeTags (d : Dev) (t : Nat) : (d.advanceTo t).nodeTags = d.nodeTags := Dev.pass_nodeTags _ _
@[simp] theorem Dev.advanceTo_classTags (d : Dev) (t : Nat) : (d.advanceTo t).classTags = d.classTags := Dev.pass_classTags _ _
@[simp] theorem Dev.advanceTo_classTime (d : Dev) (t : Nat) : (d.advanceTo t).classTime = d.classTime := Dev.pass_classTime _ _
@[simp] theorem Dev.advanceTo_fns (d : Dev) (t : Nat) : (d.advanceTo t).fns = d.fns := Dev.pass_fns _ _
@[simp] theorem Dev.advanceTo_views (d : Dev) (t : Nat) : (d.advanceTo t).views = d.views := Dev.pass_views _ _
@[simp] theorem Dev.advanceTo_barsFound (d : Dev) (t : Nat) : (d.advanceTo t).barsFound = d.barsFound := Dev.pass_barsFound _ _
@[simp] theorem Dev.advanceTo_gam (d : Dev) (t : Nat) : (d.advanceTo t).gam = d.gam := Dev.pass_gam _ _
@[simp] theorem Dev.advanceTo_gamDead (d : Dev) (t : Nat) : (d.advanceTo t).gamDead = d.gamDead := Dev.pass_gamDead _ _
@[simp] theorem Dev.advanceTo_trackW (d : Dev) (t : Nat) : (d.advanceTo t).trackW = d.trackW := Dev.pass_trackW _ _
@[simp] theorem Dev.advanceTo_trackE (d : Dev) (t : Nat) : (d.advanceTo t).trackE = d.trackE := Dev.pass_trackE _ _
@[simp] theorem Dev.advanceTo_trackRetired (d : Dev) (t : Nat) : (d.advanceTo t).trackRetired = d.trackRetired := Dev.pass_trackRetired _ _
@[simp] theorem Dev.advanceTo_bfl (d : Dev) (t : Nat) : (d.advanceTo t).bfl = d.bfl := Dev.pass_bfl _ _
@[simp] theorem Dev.advanceTo_homes (d : Dev) (t : Nat) : (d.advanceTo t).homes = d.homes := Dev.pass_homes _ _
@[simp] theorem Dev.advanceTo_rme (d : Dev) (t : Nat) : (d.advanceTo t).rme = d.rme := Dev.pass_rme _ _
@[simp] theorem Dev.advanceTo_log (d : Dev) (t : Nat) : (d.advanceTo t).log = d.log := Dev.pass_log _ _
@[simp] theorem Dev.advanceTo_slots (d : Dev) (t : Nat) : (d.advanceTo t).slots = d.slots := Dev.pass_slots _ _
@[simp] theorem Dev.advanceTo_sb (d : Dev) (t : Nat) : (d.advanceTo t).sb = d.sb := Dev.pass_sb _ _
@[simp] theorem Dev.advanceTo_stray (d : Dev) (t : Nat) : (d.advanceTo t).stray = d.stray := Dev.pass_stray _ _
@[simp] theorem Dev.advanceTo_wordsRead (d : Dev) (t : Nat) : (d.advanceTo t).wordsRead = d.wordsRead := Dev.pass_wordsRead _ _
@[simp] theorem Dev.advanceTo_pwr (d : Dev) (t : Nat) : (d.advanceTo t).pwr = d.pwr := Dev.pass_pwr _ _
@[simp] theorem Dev.advanceTo_per (d : Dev) (t : Nat) : (d.advanceTo t).per = d.per := Dev.pass_per _ _
@[simp] theorem Dev.advanceTo_tele (d : Dev) (t : Nat) : (d.advanceTo t).tele = d.tele := Dev.pass_tele _ _
@[simp] theorem Dev.advanceTo_test (d : Dev) (t : Nat) : (d.advanceTo t).test = d.test := Dev.pass_test _ _
@[simp] theorem Dev.advanceTo_out (d : Dev) (t : Nat) : (d.advanceTo t).out = d.out := Dev.pass_out _ _

/-- A device that waits for an instant is the same in everything but its clock, its fabric time and the pair's slew. -/
theorem Dev.advanceTo_eq (d : Dev) (t : Nat) :
    d.advanceTo t = { d with clk := (d.advanceTo t).clk, pair := (d.advanceTo t).pair, clocks := (d.advanceTo t).clocks } := by
  rw [Dev.advanceTo, Dev.pass_same]

@[simp] theorem Dev.num_advanceTo (d : Dev) (t : Nat) (k : Key) : (d.advanceTo t).num k = d.num k := by
  rw [Dev.advanceTo_eq]
  rfl

@[simp] theorem State.withDev_pending (s : State) (d : Dev) : ({ s with dev := d } : State).pending = s.pending := rfl
@[simp] theorem State.withDev_otp (s : State) (d : Dev) : ({ s with dev := d } : State).otp = s.otp := rfl
@[simp] theorem State.withDev_commitLock (s : State) (d : Dev) : ({ s with dev := d } : State).commitLock = s.commitLock := rfl
@[simp] theorem State.withDev_dev (s : State) (d : Dev) : ({ s with dev := d } : State).dev = d := rfl
@[simp] theorem State.withPending_pending (s : State) (l : List Instr) : ({ s with pending := l } : State).pending = l := rfl
@[simp] theorem State.withPending_otp (s : State) (l : List Instr) : ({ s with pending := l } : State).otp = s.otp := rfl
@[simp] theorem State.withPending_commitLock (s : State) (l : List Instr) : ({ s with pending := l } : State).commitLock = s.commitLock := rfl
@[simp] theorem State.withPending_dev (s : State) (l : List Instr) : ({ s with pending := l } : State).dev = s.dev := rfl
@[simp] theorem State.withOtp_pending (s : State) (o : Otp) : ({ s with otp := o } : State).pending = s.pending := rfl
@[simp] theorem State.withOtp_otp (s : State) (o : Otp) : ({ s with otp := o } : State).otp = o := rfl
@[simp] theorem State.withOtp_commitLock (s : State) (o : Otp) : ({ s with otp := o } : State).commitLock = s.commitLock := rfl
@[simp] theorem State.withOtp_dev (s : State) (o : Otp) : ({ s with otp := o } : State).dev = s.dev := rfl
@[simp] theorem State.withLock_pending (s : State) (b : Bool) : ({ s with commitLock := b } : State).pending = s.pending := rfl
@[simp] theorem State.withLock_otp (s : State) (b : Bool) : ({ s with commitLock := b } : State).otp = s.otp := rfl
@[simp] theorem State.withLock_commitLock (s : State) (b : Bool) : ({ s with commitLock := b } : State).commitLock = b := rfl
@[simp] theorem State.withLock_dev (s : State) (b : Bool) : ({ s with commitLock := b } : State).dev = s.dev := rfl

end Sys2Proof.Machine
end

