-- ==== Sys2Proof/Machine/Pads.lean ====
section
/-!
DEFINITION. Sys2Proof/Machine/Pads.lean: the signals of the package outside lanes, slots and sideband (R29), and what each pad
shows in each state of the device (R40, R43, R44), as functions of the state.
-/
namespace Sys2Proof.Machine

/-! Non-lane signals (R29). -/

/-- The non-lane signals of R29. -/
inductive Signal where
  | porstN
  | perstinN (st : Fin 16)
  | wakeN
  | alertN
  | thermtripN
  /-- MGMT_P and MGMT_N -/
  | mgmt
  | xspiSck (h : Half)
  | xspiCsN (h : Half)
  /-- DQ[7:0] and DQS -/
  | xspiDq (h : Half)
  | xspiRstN (h : Half)
  | tck
  | tms
  | tdi
  | tdo
  | trstN
  /-- AO_XIN and AO_XOUT -/
  | aoCrystal
  | rext (h : Half)
  | refclk
  deriving DecidableEq, Repr

inductive Direction where
  | input
  | output
  | outOpenDrain
  | bidir
  | bidirOpenDrain
  | analog
  deriving DecidableEq, Repr

inductive Supply where
  | vao18
  | vio18
  /-- VIO18, 3.3 V tolerant -/
  | vio18Tolerant
  | vpa
  | vpmaHi
  deriving DecidableEq, Repr

/-- What a pad shows. -/
inductive PadState where
  /-- driven to a level -/
  | driven (high : Bool)
  /-- open drain, not driven -/
  | released
  | highZ
  | pullUp
  | pullDown
  /-- works as its protocol has it -/
  | active
  /-- an input that is sampled; by the PA die's wake logic in Sleep and Deep sleep -/
  | polled
  | wakeLogic
  | notSeen
  | inputOnly
  | unpowered
  /-- a lane's transmitter and receiver, without and with the receiver's termination -/
  | electricalIdle (terminated : Bool)
  | crystal
  | resistor
  deriving DecidableEq, Repr

/-- Direction, supply and reset state of a signal (R29); PORST_N has no reset state. -/
def Signal.facts : Signal → Direction × Supply × Option PadState
  | .porstN => (.input, .vao18, none)
  | .perstinN _ => (.input, .vio18Tolerant, some .pullUp)
  | .wakeN => (.bidirOpenDrain, .vao18, some .released)
  | .alertN => (.outOpenDrain, .vao18, some .released)
  | .thermtripN => (.outOpenDrain, .vao18, some .released)
  | .mgmt => (.bidir, .vpa, some .highZ)
  | .xspiSck _ => (.output, .vio18, some (.driven false))
  | .xspiCsN _ => (.output, .vio18, some (.driven true))
  | .xspiDq _ => (.bidir, .vio18, some .pullDown)
  | .xspiRstN _ => (.output, .vio18, some (.driven false))
  | .tck => (.input, .vio18, some .pullUp)
  | .tms => (.input, .vio18, some .pullUp)
  | .tdi => (.input, .vio18, some .pullUp)
  | .tdo => (.output, .vio18, some .highZ)
  | .trstN => (.input, .vio18, some .pullDown)
  | .aoCrystal => (.analog, .vao18, some .crystal)
  | .rext _ => (.analog, .vpmaHi, some .resistor)
  | .refclk => (.input, .vpmaHi, some .highZ)

/-! Pads by device state (R40). -/

/-- The columns of R40, and the reset state in front of them (R44). -/
inductive PadMode where
  | reset
  | run
  | warm
  | crocus
  | sleep
  | deep
  | off
  deriving DecidableEq, Repr

def Dev.padMode (d : Dev) : PadMode :=
  if !d.pins.porstN then .reset
  else if d.num Obj.pwrState = PwrSt.off then .off
  else if d.num Obj.pwrState = PwrSt.deep then .deep
  else if d.num Obj.pwrState = PwrSt.sleep then .sleep
  else if d.crocus then .crocus
  else if d.boot.released then .run
  else .warm

/-- A non-lane signal as the device drives or sees it. -/
def Dev.signal (d : Dev) (x : Signal) : PadState :=
  let idle := x.facts.2.2.getD .inputOnly
  match x, d.padMode with
  | _, .reset => idle
  | .mgmt, .deep | .mgmt, .off => .highZ
  | .mgmt, _ => .active
  | .xspiSck _, .off | .xspiCsN _, .off | .xspiDq _, .off | .xspiRstN _, .off => .unpowered
  | .xspiCsN _, .sleep | .xspiCsN _, .deep => .driven true
  | .xspiSck h, _ | .xspiDq h, _ | .xspiRstN h, _ | .xspiCsN h, _ => if d.padHeld (21 + h.code) then idle else .active
  | .wakeN, .off => .inputOnly
  | .wakeN, _ => if d.clk < d.pins.wakePulseEnd then .driven false else .released
  | .alertN, .off | .thermtripN, .off => .released
  | .alertN, _ => if d.alertAsserted then .driven false else .released
  | .thermtripN, _ => if d.pins.thermtrip then .driven false else .released
  | _, _ => idle

/-- A lane's transmitter and receiver (R40): in its reset state and in Off high impedance, latched or in Crocus mode without
termination, in a warm reset in electrical idle, else as its test or its link has them; a near-end loopback keeps TX in
electrical idle, but the serial one with `test.lane.tx_pads` 1 (05, "PMA loopbacks"). -/
def Dev.lanePad (d : Dev) (l : Nat) : PadState :=
  match d.padMode with
  | .reset | .off => .highZ
  | .sleep | .deep | .crocus => .electricalIdle false
  | .warm => .electricalIdle true
  | .run =>
    if d.padHeld (l / 16) then .electricalIdle false
    else if d.num (Obj.testLaneLoopback l) = 1 then (if d.num (Obj.testLaneTxPads l) = 1 then .active else .electricalIdle true)
    else if d.num (Obj.testLaneLoopback l) = 2 then .electricalIdle true
    else if d.inTest l || (d.portOfLane l).any (fun p => d.dlUp p) then .active else .electricalIdle true

/-- The pads of a slot: gates A, B and H and AUX_EN, SB_PERST_N, SB_PWRBRK_N, SB_PRSNT_N with SB_ATTN_N, and the two LEDs. -/
structure SlotPads where
  gateA : Bool
  gateB : Bool
  gateH : Bool
  aux : Bool
  perst : PadState
  brake : PadState
  sensed : PadState
  leds : Nat × Nat
  deriving DecidableEq, Repr

/-- The pads of a slot in a state of the device (R40). -/
def Dev.slotPads (d : Dev) (k : Nat) : SlotPads :=
  let s := d.slot k
  let m := d.padMode
  { gateA := s.gateA, gateB := s.gateB, gateH := s.gateH, aux := s.aux,
    perst := if m = .off then .unpowered else .driven s.perstRel,
    brake := if m = .off then .unpowered else if s.brake then .driven false else .released,
    sensed := if m = .off then .notSeen else if m = .sleep ∨ m = .deep then .wakeLogic else .polled,
    leds := d.leds k }

end Sys2Proof.Machine
end

