-- ==== Sys2Proof/Laws/Pads.lean ====
section
/-!
SUPPORT. Sys2Proof/Laws/Pads.lean: what the pads show while PORST_N is low (R44).
-/
namespace Sys2Proof.Machine

/-- While PORST_N is low, every signal is in its reset state. -/
theorem Dev.signal_reset (d : Dev) (x : Signal) (h : d.pins.porstN = false) : d.signal x = x.facts.2.2.getD .inputOnly := by
  have m : d.padMode = .reset := by simp [Dev.padMode, h]
  unfold Dev.signal
  rw [m]

/-- While PORST_N is low, every lane is in its reset state. -/
theorem Dev.lanePad_reset (d : Dev) (l : Nat) (h : d.pins.porstN = false) : d.lanePad l = .highZ := by
  have m : d.padMode = .reset := by simp [Dev.padMode, h]
  unfold Dev.lanePad
  rw [m]

theorem Dev.foldl_setNum_pins {α : Type} (f : α → Key) (g : α → Nat) (l : List α) (d : Dev) :
    (l.foldl (fun d a => d.setNum (f a) (g a)) d).pins = d.pins := by rw [Dev.foldl_setNum]

/-- A falling edge of PORST_N leaves PORST_N low, in whatever state the device was (R44). -/
theorem Dev.porstReset_pins (d : Dev) : d.porstReset.pins = { d.pins with porstN := false, thermtrip := false, wakePulseEnd := 0 } := by
  unfold Dev.porstReset
  dsimp only
  split <;> simp only [Dev.setNum_pins, Dev.foldl_setNum_pins]

/-- A falling edge of PORST_N brings every signal and every lane to its reset state (R44). -/
theorem Dev.porstReset_pads (d : Dev) (x : Signal) (l : Nat) :
    d.porstReset.signal x = x.facts.2.2.getD .inputOnly ∧ d.porstReset.lanePad l = .highZ := by
  have h : d.porstReset.pins.porstN = false := by rw [Dev.porstReset_pins]
  exact ⟨Dev.signal_reset _ _ h, Dev.lanePad_reset _ _ h⟩

end Sys2Proof.Machine
end

