-- ==== Sys2Proof/Laws/Slots.lean ====
section
/-!
SUPPORT. Sys2Proof/Laws/Slots.lean: the OR gates that follow their feeds change the slot channels alone (R324).
-/
namespace Sys2Proof.Machine

/-- The OR gates of a channel are its only change. -/
theorem Dev.followFeeds_same (d : Dev) (k : Nat) : d.followFeeds k = { d with slots := (d.followFeeds k).slots } := rfl

/-- The OR gates of every channel are the only change. -/
theorem Dev.followAllFeeds_same (d : Dev) : d.followAllFeeds = { d with slots := d.followAllFeeds.slots } := by
  refine foldl_keeps Dev.followFeeds (fun e => e = { d with slots := e.slots }) ?_ _ _ rfl
  intro b k h
  rw [Dev.followFeeds_same, h]

@[simp] theorem Dev.followFeeds_objs (d : Dev) (k : Nat) : (d.followFeeds k).objs = d.objs := rfl

@[simp] theorem Dev.num_followFeeds (d : Dev) (k : Nat) (j : Key) : (d.followFeeds k).num j = d.num j := rfl

@[simp] theorem Dev.followAllFeeds_objs (d : Dev) : d.followAllFeeds.objs = d.objs := by rw [Dev.followAllFeeds_same]

@[simp] theorem Dev.num_followAllFeeds (d : Dev) (k : Key) : d.followAllFeeds.num k = d.num k := by rw [Dev.followAllFeeds_same]; rfl

end Sys2Proof.Machine
end

