-- ==== Sys2Proof/Tests/Slice0.lean ====
section
/-!
SUPPORT. Sys2Proof/Tests/Slice0.lean: the manual's worked examples, well-formed and ill-formed commands, and for every
statement of Certificates/Slice0/Obligations.lean states and operands that meet its hypotheses, clause by clause.
-/
namespace Sys2Proof.Tests
open Sys2Proof.Machine Sys2Proof.Safety
set_option linter.unusedVariables false
set_option linter.unusedTactic false
set_option linter.unreachableTactic false

/-! States and operands for the tests. -/

/-- A state of a device with nothing waiting. -/
abbrev st (d : Dev) : State := { dev := d }

/-- Numbers of objects. -/
abbrev ob (l : List (Key × Nat)) : List (Key × Val) := l.map (fun e => (e.1, .num e.2))

/-- A device whose halves have been released. -/
abbrev rel (l : List (Key × Nat) := []) : Dev :=
  { pins := { porstN := true }, pa := { strapped := true, viewW := ⟨true, 1⟩, viewE := ⟨false, 1⟩, wdW := { running := true }, wdE := { running := true } },
    boot := { released := true, romPassW := true, romPassE := true }, objs := ob (l ++ [(Obj.rakeHolder, 0), (Obj.rakeEpoch, 1)]) }

/-- A device that runs firmware in both halves, its seam trained. -/
abbrev up (l : List (Key × Nat) := []) : Dev :=
  { rel with
    boot := { released := true, romPassW := true, romPassE := true, slotChosen := true, firmwareW := true, firmwareE := true, bootCommitDone := true, laneCalDone := true },
    objs := ob (l ++ [(Obj.rakeHolder, 0), (Obj.rakeEpoch, 1), (Obj.bootHealthyState, 1), (Obj.coreSeamState, 2)]) }

/-- An owner's session over the field network. -/
abbrev ses : Session := { sid := 1, transport := .net, role := .owner, scope := 0xFFFF, half := .west }

/-- A device with one session. -/
abbrev on (x : Session) (l : List (Key × Nat) := []) : State := st { up l with sessions := [x] }

/-- A request with one item. -/
abbrev rq (op : Nat) (i : Item) : FbpRequest := ⟨op, false, 1, [i]⟩

/-- Its bytes. -/
abbrev msg (op : Nat) (i : Item) : List Byte :=
  let b := encodeItem ⟨i.idx, i.sub, i.type, 0, i.data⟩
  beBytes 1 16 ++ beBytes 1 op ++ beBytes 2 0 ++ beBytes 4 1 ++ beBytes 2 0 ++ beBytes 2 1 ++ beBytes 2 b.length ++ beBytes 2 0 ++ b

/-- An item. -/
abbrev it (idx sub : Nat) (data : List Byte := []) : Item := ⟨idx, sub, 0, data⟩

/-- A session whose request waits. -/
abbrev held (op : Nat) (w : Wait) (i : Item) (x : Session := ses) : Session :=
  { x with exec := some { rid := 1, opcode := op, staged := false, todo := [i], done := [], wait := w, raw := msg op i } }

/-- The row of an object, with its record. -/
abbrev rowOf (idx sub : Nat) : ObjRow := ((findRec idx).bind (fun r => r.row sub)).getD ⟨0, .u8, .ro, .num 0, .none, .constant, .any, false⟩

abbrev recOf (idx : Nat) : ObjRec := (findRec idx).getD ⟨0, 0, 0, []⟩

theorem some_of {α : Type} (o : Option α) (d : α) (h : o.isSome = true) : o = some (o.getD d) := by
  cases o with
  | none => cases h
  | some a => rfl

/-- A posted write of four bytes. -/
abbrev tlp : Tlp := { type := .memWrite, addr := 0x1000, len := 4, data := zeros 4 }

abbrev fr : Frame := ⟨.tlp tlp, none⟩

/-- It in a queue: from port 0 to port 8, class IC1. -/
abbrev qf : QFrame := { id := 1, frame := fr, inPort := 0, inHalf := .west, outPort := 8, outHalf := .west, cls := 1, qcls := 1, colour := .green, cells := 1, account := .pool, node := none, enq := 0, c1 := 0, barrier := [], stallHeld := false, crossed := false }

/-- A port's objects: enabled in a role. -/
abbrev usedPort (p role : Nat) : List (Key × Nat) := [(Obj.portEnable p, 1), (Obj.portRole p, role)]

/-- A port whose link is up at 16 lanes and 64 GT/s. -/
abbrev livePort (p role : Nat) : List (Key × Nat) := usedPort p role ++ [(Obj.pstLtssm p, 3), (Obj.pstWidth p, 16), (Obj.pstRate p, 6)]

/-- A tracking entry of binding 5, and a completion of it. -/
abbrev tr : Track := { entry := 16384 * 3 + 7, host := some 0, fromTwin := false, link := 0, requester := 0, tag := 1, tc := 0, binding := 5, due := 8, issued := 0, type := .memRead, cls := 1, grant := 0, reg := none }

abbrev cpl (len due : Nat) : Tlp := { type := .completion, len := len, byteCount := due, requester := 16 + 3, tag := 7, completer := 0x1000 }

/-- A request that waits for a tracking entry. -/
abbrev waits : State := st { up with bufW := { frames := [{ qf with track := some { tr with entry := 0 } }] } }

abbrev tracked : Nat × Frame × Dev :=
  ((waits.dev.buf .west).frames.findSome? (fun q => q.track.bind (fun t => (waits.dev.takeTrack .west q.frame t).map (fun r => (q.id, r.1, r.2))))).getD (0, fr, {})

/-- A bound function behind a synthetic slot of host 63. -/
abbrev bnd : State := st { up [(Obj.bindRid 8191, 0x1000), (Obj.bindHost 8191, 63), (Obj.bindVdsp 8191, 255), (Obj.bindVfn 8191, 0), (Obj.bindState 8191, 2), (Obj.fabricModeActive, 1)] with cfg := [((.synthetic 63 255, .secondaryBus), 1)] }

/-- A host's port that a write comes in at. -/
abbrev inp : State := st (up ([(Obj.portRole 0, 1), (Obj.portPartition 0, 0), (Obj.vsState 0, 2), (Obj.vsUpstream 0, 0), (Obj.vsEnable 0, 1)] ++ livePort 0 0))

abbrev entered : Option Dev := inp.dev.enter { inPort := (Ingress.port 0).number, inHalf := (Ingress.port 0).half, cls := inp.dev.classOf (.port 0) fr, facts := ⟨true, true⟩ } fr
  (inp.dev.route (.port 0) (inp.dev.classOf (.port 0) fr) fr)

/-- A queue pair of slice 0 that is ready: number 0x010003, its partner 0x010004. -/
abbrev qp0 : Qp := { slice := 0, incarnation := 1, st := .ready, rights := 7, remote := 0x010004, remoteSet := true }

/-- A key of slice 0 with every right, and its value. -/
abbrev ke : KeyEntry := { valid := true, allocated := true, slice := 0, generation := 5, rights := 31, base := 0x1000, lenM1 := 4095 }

abbrev keyVal : Nat := 2048 * 9 + 5

/-- A completion queue of slice 0. -/
abbrev cq0 : Cq := { slice := 0, base := 0, size := 64, vector := 0 }

/-- The objects of slice 0, active and owned by node 63. -/
abbrev slice0 : List (Key × Nat) := [(Obj.rmeSliceState 0, 1), (Obj.rmeSliceOwner 0, 63), (Obj.rmeSliceQpQuota 0, 4), (Obj.rmeSliceCqQuota 0, 4), (Obj.rmeSliceKeyQuota 0, 4),
  (Obj.rmeSliceMsixCount 0, 8), (Obj.rmeSliceCmdqLog 0, 6)]

/-- A device with RME contexts. -/
abbrev rm (r : Rme) (l : List (Key × Nat) := []) : State := st { up (l ++ slice0) with rme := r, cfg := [((.rme 63, .command), 4)] }

abbrev oneQp (q : Qp) (l : List (Key × Nat) := []) : State := rm { qps := [(3, q)], keys := [(9, ke)], cqs := [(0, cq0)] } l

/-- A slice whose command waits to be executed. -/
abbrev cmd (w : Wqe) (r : Rme := {}) (l : List (Key × Nat) := []) : State := rm { r with slices := [(0, { cmdFetched := 1, cmd := some w })] } l

/-- A packet for that queue pair. -/
abbrev pk (op : RmeOp) (syn : Nat := 0) (psn : Nat := 1) : RmePacket := { op := op, destQpn := 0x010003, srcQpn := 0x010004, psn := psn, syndrome := syn, key := keyVal }

/-- A send-queue entry. -/
abbrev lw (op : Nat) (len : Nat := 4096) (key : Nat := keyVal) : LiveWqe := { index := 0, wqe := { opcode := op, len := len, localAddr := 0x1000, localKey := key, imm := key } }

/-- A slot bus with work, its slot fitted. -/
abbrev bus (b : Sb) (l : List (Key × Nat) := []) : State := st { up l with slots := [(31, { present := true, aux := true })], sb := [(31, { b with busUp := true })] }

/-- An MCTP requester's session at the endpoint of node 63, in the clear and secured. -/
abbrev mc : Session := { ses with transport := .mctp 63 8 }

abbrev mcs : State := st { up [(Obj.vsState 63, 2)] with sessions := [mc] }

abbrev mcs2 : State := st { up [(Obj.vsState 63, 2)] with sessions := [{ mc with secured := true }] }

/-- A port whose link runs on lane 240. -/
abbrev sleeper : State := st { up (livePort 120 0) with ports := [(120, { lanes := [240] })] }

/-- A seam with module 0 in service in both directions. -/
abbrev seamRun : State := st { up [(Obj.coreSeamModulesWe, 255), (Obj.coreSeamModulesEw, 255)] with seam := { we := [(0, { st := .active })], ew := [(0, { st := .active })] } }

/-- A BFL that trains. -/
abbrev narrow : State := st (up (usedPort 120 2 ++ [(Obj.bflPort 15, 120), (Obj.bflState 15, 1), (Obj.fabricModeActive, 1)]))

/-- A QP parameter block: mask, state and MTU. -/
abbrev blk (mask state mtu : Nat) : List Byte := leBytes 4 mask ++ leBytes 1 state ++ leBytes 1 mtu ++ [6] ++ zeros 57

/-- A far write. -/
abbrev far : FarReq := ⟨1, true, 0x50, 0, false, 1, [1], none, none, 0⟩

/-- A queue of two commands. -/
abbrev two : State := { pending := [.porstNFall 999, .vao18Ramp], otp := { revoked := 14 }, commitLock := true }

/-- An item that writes `per.period`, and its message. -/
abbrev wi (v : List Byte) : Item := ⟨0x9100, 3, ObjType.u16.code, v⟩

theorem ok_of {α : Type} [DecidableEq α] (e : Except Nat α) (a : α) (h : (match e with | .ok b => decide (b = a) | .error _ => false) = true) : e = .ok a := by
  cases e with
  | error _ => cases h
  | ok b => exact congrArg _ (of_decide_eq_true h)

/-- A session whose staging set is full. -/
def full : Session := { ses with staged := List.replicate 4096 (⟨0xFFFF, 0, 0⟩, .num 0) }

theorem find_replicate (n : Nat) (a k : Key) (v : Val) (h : a ≠ k) : tabFind (List.replicate n (a, v)) k = none := by
  induction n with
  | zero => rfl
  | succ n ih => rw [List.replicate_succ]; unfold tabFind; rw [if_neg h]; exact ih

/-- Transfers of a session: one that reads, one that has begun to write, one that has written all. -/
abbrev rdb : Blob := ⟨1, ⟨0x5100, 6, 0⟩, false, 8, zeros 8, 0⟩

abbrev opn : List Byte := beBytes 4 5261 ++ [1, 0, 0, 0]

abbrev wrb : Blob := ⟨1, ⟨0xC000, 3, 0⟩, true, 8, [], 0⟩

abbrev seg4 : List Byte := [0, 1, 0, 0] ++ beBytes 4 8

abbrev cls : List Byte := [0, 1, 0, 0] ++ zeros 32

abbrev wrf : Blob := ⟨1, ⟨0x7522, 6, 0⟩, true, 4, [1, 2, 3, 4], 0⟩

abbrev closes : State := taken (on { ses with blob := some wrf }) { ses with blob := some wrf } (rq Opcode.blobClose (it 0 0 cls)) (msg Opcode.blobClose (it 0 0 cls))

/-- A reset message of BFL. -/
abbrev rst : BflReset := { node := 0, link := 0, reason := 0, width := 1, rate := 6, nextExpected := 0, inc := 0, tag := zeros 8 }

/-! The manual's worked examples, with their numbers. -/

/-- 02, "reading back the straps": the board of the example latches 0x00B2. -/
theorem test_straps : strapValue 178 178 178 = 0x00B2 := by decide +kernel

/-- R33: of three samples that differ in one, the majority counts. -/
theorem test_strap_majority : strapValue 178 0 178 = 0x00B2 := by decide +kernel

/-- 03, "a guarded commit": the bytes of the request. -/
theorem test_guarded_commit : encodeWrites 0x101 [(0x1F00, 8, .u32, 42), (0x1F00, 1, .u8, 1)] =
    [0x10, 0x02, 0, 0, 0, 0, 1, 1, 0, 0, 0, 2, 0, 0x18, 0, 0, 0x1F, 0, 8, 4, 0, 4, 0, 0, 0, 0, 0, 0x2A, 0x1F, 0, 1, 2, 0, 1, 0, 0, 1, 0, 0, 0] := by decide +kernel

/-- Three failed attempts one after the other. -/
def failed : Dev := (((({} : Dev).failAttempt 0x05 0).failAttempt 0x04 0).failAttempt 0x06 1)

/-- 04, "three failed attempts": the newest reason, its half and the history. -/
theorem test_failed_attempts : failed.num Obj.bootCrocusHistory = 0x50406 ∧ failed.num Obj.bootLastFail = 0x06 := by decide +kernel

/-- Lane 137 of the example, 10 s after its checker locked. -/
def lane137 : Dev :=
  { clk := sec 10, objs := ob [(Obj.testLaneRate 137, 7), (Obj.testLaneLoopback 137, 1), (Obj.testLaneGen 137, 9), (Obj.testLaneChk 137, 255), (Obj.testLaneChkStatus 137, 2), (Obj.testLaneInject 137, 0x9E000000)] }

/-- 05, "checking a lane with injected errors": bits compared, and errors injected and counted. -/
theorem test_lane_errors : lane137.testBits 137 = 1280000000000 ∧ lane137.testInjected 137 = 1192 ∧ lane137.testErrors 137 = 1192 := by decide +kernel

/-- VS3 of the example, in station S6. -/
def vs3 : Dev :=
  { objs := ob ([(Obj.staSplitActive 6, 7), (Obj.portPartition 48, 3), (Obj.portPartition 49, 3), (Obj.portPartition 50, 3), (Obj.portPartition 51, 3), (Obj.portPartition 52, 3)] ++
      usedPort 48 0 ++ usedPort 49 0 ++ usedPort 50 0 ++ usedPort 51 0 ++ usedPort 52 1) }

/-- 06, "a partition in one station": the bits of `vs.dsp_lo` and the upstream port. -/
theorem test_vs3 : vs3.dspBits 3 0 = 0x000F000000000000 ∧ vs3.upPort 3 = 52 := by decide +kernel

/-- Meter marks of the example, in bytes. -/
def marked (tc tp : Nat) : Colour × Meter := markFrame 1 0 (1024 * 4120) ⟨1024 * tc, 1024 * tp, 0⟩

/-- 11, "colouring a burst": the colours and buckets of the rows of meter 401. -/
theorem test_burst : marked 8192 16384 = (.green, ⟨1024 * 4072, 1024 * 12264, 0⟩) ∧ marked 4088 12296 = (.yellow, ⟨1024 * 4088, 1024 * 8176, 0⟩) ∧
    marked 4120 4120 = (.green, ⟨0, 0, 0⟩) ∧ marked 16 32 = (.red, ⟨1024 * 16, 1024 * 32, 0⟩) := by decide +kernel

/-- Station S5 with an x8 port at offset 8, and the two contracts of the example. -/
def p44 : Dev :=
  { objs := ob ([(Obj.staSplitActive 5, 1), (Obj.portMaxRate 44, 6), (Obj.trellisPort 0, 44), (Obj.trellisNode 0, 3), (Obj.trellisIngress 0, 40), (Obj.trellisRate 0, 10000000), (Obj.trellisBurst 0, 8192),
      (Obj.trellisFrameMax 0, 4224), (Obj.trellisDeadline 0, 800000), (Obj.trellisPort 1, 44), (Obj.trellisNode 1, 7), (Obj.trellisIngress 1, 100), (Obj.trellisRate 1, 20000000), (Obj.trellisBurst 1, 16384),
      (Obj.trellisFrameMax 1, 2112), (Obj.trellisDeadline 1, 1000000)] ++ usedPort 44 0) }

/-- 11, "admitting and refusing at one port": the capacity and the two bounds. -/
theorem test_p44 : p44.capacity 44 = 472000 ∧ p44.contractBound p44 0 = 759815 ∧ p44.contractBound p44 1 = 766315 := by decide +kernel

/-- 14, "two fields in one word": temperature and current after their scaling. -/
theorem test_scaling :
    let a : MapEntry := mapEntry ({ objs := ob [(Obj.sbmapFlags 0, 0x18), (Obj.sbmapSrc 0, 0x30B), (Obj.sbmapScale 0, 0x14000), (Obj.sbmapDst 0, 0x10)] } : Dev).num 0
    let b : MapEntry := mapEntry ({ objs := ob [(Obj.sbmapSrc 0, 0x00C), (Obj.sbmapScale 0, 0x6666)] } : Dev).num 0
    scaleField a (srcField a [0x0B, 0x45]) = 450 ∧ scaleField b (srcField b [0xE5, 0x07]) = 808 := by decide +kernel

/-- 09, "Link header, 80 bits": SEQ 0x140, VC 3, CR_POOL 8, CR_TOTAL 0x1234, FIRST 5, CONT 1 and INC 0xBEEF, bit by bit. -/
theorem test_link_header : headerBytes { seq := 0x140, vc := 3, crPool := 8, crTotal := 0x1234, first := 5, cont := true, inc := 0xBEEF } =
    [0x14, 0x03, 0x81, 0x23, 0x41, 0x60, 0xBE, 0xEF, 0, 0] := by decide +kernel

/-- The published check value of the CRC of R223 (polynomial 0x04C11DB7, all ones, complemented, bits as assumption log 91 has them)
over the ASCII digits 1 to 9. -/
theorem test_crc : crc32 [0x31, 0x32, 0x33, 0x34, 0x35, 0x36, 0x37, 0x38, 0x39] = 0xFC891918 := by decide +kernel

/-- R5 and 10, "WQE, 64 bytes": IMM at offset 4 and WR_ID at 8, least significant byte first. -/
theorem test_wqe : (Wqe.ofBytes ([1, 2, 0, 0, 0x78, 0x56, 0x34, 0x12, 0xEF] ++ zeros 55)).imm = 0x12345678 ∧
    (Wqe.ofBytes ([1, 2, 0, 0, 0x78, 0x56, 0x34, 0x12, 0xEF] ++ zeros 55)).wrId = 0xEF := by decide +kernel

/-- R223 and R224: a flit is read as it is written, its header and its payload. -/
theorem test_flit :
    readHeader (flitBytes { seq := 0x140, vc := 3, first := 63, cont := true, inc := 0xBEEF } (List.replicate 236 0xA5)) = { seq := 0x140, vc := 3, first := 63, cont := true, inc := 0xBEEF } ∧
    flitPayload (flitBytes { seq := 0x140, vc := 3, first := 63, cont := true, inc := 0xBEEF } (List.replicate 236 0xA5)) = List.replicate 236 0xA5 := by decide +kernel

/-! A command of each row that has a check is well formed with its operands at home. -/

theorem test_well_formed_0 : ([
  .strapSample 0 0 0,
  .healthyDeclare 0 0,
  .warmResetRequest 0 0,
  .crocusForce 0 0,
  .crocusExit 0 0,
  .crocusExitDefaults 0 0,
  .otpCommit 0 0,
  .otpRevoke 0 0 0,
  .rakeHandover 0 0,
  .read 0 (msg 0x1 (it 0 0)),
  .write 0 (msg 0x2 (it 0 0)),
  .describe 0 (msg 0x3 (it 0 0)),
  .blobOpen 0 (msg 0x10 (it 0 0)),
  .blobData 0 (msg 0x11 (it 0 0)),
  .blobClose 0 (msg 0x12 (it 0 0)),
  .blobAbort 0 (msg 0x13 (it 0 0)),
  .ping 0 (msg 0x30 (it 0 0)),
  .notifyAck 0 0,
  .fbpResponseDiscard 0 (beBytes 1 17 ++ zeros 15),
  .objectWrite 0 0 0 0 0 [],
  .cfgCommit 0 0,
  .cfgDiscard 0 0,
  .cfgCheck 0 0,
  .commitConfirm .west 0 [],
  .commitLockWrite 0 0 0,
  .ownerCredentialWrite 0 0 (zeros 32),
  .spdmKeyExchange (⟨.net, zeros 1952⟩) false,
  .getMeasurements .net (⟨0, zeros 32⟩),
  .icmpv6NeighbourDiscovery 0,
  .mbGo 0 [],
  .setEndpointId 0 0,
  .padHoldRelease 0 0 0,
  .eyeScan 0 0 0,
  .laneCalBackground 0 0 0,
  .laneCalFull 0 0 0,
  .laneBist 0 0 0,
  .laneCalFullForced 0 0 0,
  .laneBistForced 0 0 0,
  .testLoopbackSet 0 0 0 0,
  .testGenSet 0 0 0 0] : List Instr).all (fun i => i.wellFormed) = true := by decide +kernel

theorem test_well_formed_1 : ([
  .testRateSet 0 0 0 0,
  .testChkSet 0 0 0 0,
  .testInjectSingle 0 0 0,
  .testInjectPeriodic 0 0 0 10,
  .testInjectBurst 0 0 0 1,
  .portRetrain 0 0 0,
  .portHotReset 0 0 0,
  .portLinkDisable 0 0 0,
  .l0pWidthRequest 0 none none,
  .configWrite (.upstream 0) .command 0,
  .ptmOffsetRefresh 0 0,
  .mldTrained 0 0,
  .seamFrameReceive 0 0 fr,
  .seamMgmtRequest .west false 0 0 0 0,
  .fabricCfgRead 0 0,
  .fabricCfgWrite 0 0,
  .fabricCfgCompletion 0 .sc 0,
  .fportReadyWrite 0 0 0 [],
  .hostConfigRequest 0 .command none 0 0,
  .pairSessionRefused 1,
  .pairsync 0 0 0 (zeros 8),
  .pairObjectsTransfer 0 (⟨[], []⟩),
  .pairPrepare [] 0,
  .bflDataFlit 0 (zeros 256),
  .ack 0 0,
  .nak 0 0 0,
  .credit 0 0 (List.replicate 7 0),
  .heartbeat 0 0 0 0,
  .time 0 0 0 0 0,
  .resetReq 0 rst,
  .resetAck 0 rst,
  .bflFullReset 0 0 0,
  .bflForcedReset 0 0 0,
  .bflEvacuate 0 0 0,
  .evacQuery 0 0 0,
  .evacReply 0 0 0 0,
  .sqDb 0 0 (zeros 2) (zeros 2) 0,
  .rqDb 0 0 (zeros 2) (zeros 2) 0,
  .cqDb 0 0 (zeros 2) (zeros 2) 0,
  .cqArm 0 0 (zeros 2) (zeros 2) 0] : List Instr).all (fun i => i.wellFormed) = true := by decide +kernel

theorem test_well_formed_2 : ([
  .cmdDb 0 0 (zeros 2) 0,
  .hostReadCompletion (.sqWqe 0 (zeros 64)) .ok,
  .wqeWrite 0 [],
  .wqeWriteImm 0 [],
  .wqeRead 0,
  .wqeSend 0 [],
  .wqeSendImm 0 [],
  .wqeFetchAdd 0,
  .wqeCompSwap 0,
  .wqeLocalInv 0,
  .wqeRecv 0,
  .createQp 0 (zeros 64),
  .modifyQp 0 (zeros 64),
  .modifyQpReset 0 (zeros 64),
  .modifyQpInit 0 (zeros 64),
  .modifyQpReady 0 (zeros 64),
  .modifyQpError 0 (zeros 64),
  .dict 0 (zeros 16),
  .qpFlushed 0,
  .packetWrite .west { op := .write },
  .packetWriteImm .west { op := .writeImm },
  .packetSend .west { op := .send },
  .packetSendImm .west { op := .sendImm },
  .packetReadReq .west { op := .readReq },
  .packetFetchAdd .west { op := .fetchAdd },
  .packetCompSwap .west { op := .compSwap },
  .readResp .west { op := .readResp },
  .atomicResp .west { op := .atomicResp },
  .rmeAck .west { op := .ack, syndrome := 0 },
  .rmeSelectiveNak .west { op := .ack, syndrome := 1 },
  .rmeRnrNak .west { op := .ack, syndrome := 2 },
  .rmeNakRemoteAccess .west { op := .ack, syndrome := 3 },
  .rmeNakRemoteInvalid .west { op := .ack, syndrome := 4 },
  .rmeNakKeyGeneration .west { op := .ack, syndrome := 5 },
  .skimNotice .west { op := .skimNotice },
  .rmeRetxTimeout 0,
  .rmeRnrDelayExpiry 0,
  .rmeEchoDue 0,
  .rmeCcIncrease 0,
  .sliceQuiesce 0 0 0] : List Instr).all (fun i => i.wellFormed) = true := by decide +kernel

theorem test_well_formed_3 : ([
  .sliceResume 0 0 0,
  .sliceRelease 0 0 0,
  .shaperRateWrite 0 0 .west 0 0,
  .shaperBurstWrite 0 0 .west 0 0,
  .alertAck 0 0 0,
  .plogClear 0 0,
  .slotEnableWrite 0 0 0 0,
  .slotClearFaults 0 0 0,
  .slotClearEnergy 0 0 0,
  .sbValueWrite 0 0 0 0,
  .sbFarRead 0 0,
  .sbFarWrite 0 0,
  .sbStrayClear 0 0,
  .pwrRunRequest 0 0,
  .pwrIdleArm 0 0,
  .pwrSleepRequest 0 0,
  .pwrDeepSleepRequest 0 0,
  .pwrOffRequest 0 0,
  .thermalSample (List.replicate 28 20),
  .perMeasureNow 0 0,
  .perReplanNow 0 0,
  .perRetuneSeam 0 0,
  .railFollowTimeout .west 0,
  .pmuSnap 0 0,
  .pmuCtrClear 0 0 0,
  .samplingEnable 0 0 false,
  .harvestEnableWrite 0 0 false,
  .harvestClear 0 0,
  .testUnlockEnd 0 0,
  .testUnlockLevel1 0 0,
  .testUnlockLevel2 0 0,
  .testUnlockResponse 0 0 (zeros 1952) (zeros 3309),
  .jtagUnlock .west 1 (zeros 1952) (zeros 3309),
  .jtagDict .west 0 0,
  .pertArm 0 0 0,
  .pertDisarm 0 0 0,
  .linkRecoveryEnd 0 .linkLost] : List Instr).all (fun i => i.wellFormed) = true := by decide +kernel

/-! The same commands with one operand off are not: an ill-formed term for each check. -/

theorem test_ill_formed_0 : ([
  .strapSample (2 ^ 10) 0 0,
  .strapSample 0 (2 ^ 10) 0,
  .strapSample 0 0 (2 ^ 10),
  .healthyDeclare 0 (2 ^ 32),
  .warmResetRequest 0 (2 ^ 32),
  .crocusForce 0 (2 ^ 32),
  .crocusExit 0 (2 ^ 32),
  .crocusExitDefaults 0 (2 ^ 32),
  .otpCommit 0 (2 ^ 32),
  .otpRevoke 0 (2 ^ 32) 0,
  .otpRevoke 0 0 (2 ^ 8),
  .rakeHandover 0 (2 ^ 32),
  .read 0 [],
  .read 0 (msg 0x7F (it 0 0)),
  .write 0 [],
  .write 0 (msg 0x7F (it 0 0)),
  .describe 0 [],
  .describe 0 (msg 0x7F (it 0 0)),
  .blobOpen 0 [],
  .blobOpen 0 (msg 0x7F (it 0 0)),
  .blobData 0 [],
  .blobData 0 (msg 0x7F (it 0 0)),
  .blobClose 0 [],
  .blobClose 0 (msg 0x7F (it 0 0)),
  .blobAbort 0 [],
  .blobAbort 0 (msg 0x7F (it 0 0)),
  .ping 0 [],
  .ping 0 (msg 0x7F (it 0 0)),
  .notifyAck 0 (2 ^ 32),
  .fbpResponseDiscard 0 [],
  .fbpResponseDiscard 0 (zeros 16),
  .objectWrite 0 (2 ^ 32) 0 0 0 [],
  .objectWrite 0 0 (2 ^ 16) 0 0 [],
  .objectWrite 0 0 0 (2 ^ 8) 0 [],
  .objectWrite 0 0 0 0 (2 ^ 8) [],
  .objectWrite 0 0 0 0 0 (zeros 961),
  .cfgCommit 0 (2 ^ 32),
  .cfgDiscard 0 (2 ^ 32),
  .cfgCheck 0 (2 ^ 32),
  .commitConfirm .west (2 ^ 16) []] : List Instr).all (fun i => !i.wellFormed) = true := by decide +kernel

theorem test_ill_formed_1 : ([
  .commitLockWrite 0 (2 ^ 32) 0,
  .commitLockWrite 0 0 (2 ^ 8),
  .ownerCredentialWrite 0 (2 ^ 32) (zeros 32),
  .ownerCredentialWrite 0 0 [],
  .spdmKeyExchange (⟨.net, []⟩) false,
  .getMeasurements .net (⟨256, zeros 32⟩),
  .getMeasurements .net (⟨0, []⟩),
  .icmpv6NeighbourDiscovery (2 ^ 128),
  .mbGo 0 (zeros 1025),
  .setEndpointId 0 (2 ^ 8),
  .padHoldRelease 0 (2 ^ 32) 0,
  .padHoldRelease 0 0 (2 ^ 32),
  .eyeScan 0 (2 ^ 16) 0,
  .eyeScan 0 0 (2 ^ 16),
  .laneCalBackground 0 (2 ^ 32) 0,
  .laneCalFull 0 (2 ^ 32) 0,
  .laneBist 0 (2 ^ 32) 0,
  .laneCalFullForced 0 (2 ^ 32) 0,
  .laneBistForced 0 (2 ^ 32) 0,
  .testLoopbackSet 0 (2 ^ 32) 0 0,
  .testLoopbackSet 0 0 0 (2 ^ 8),
  .testGenSet 0 (2 ^ 32) 0 0,
  .testGenSet 0 0 0 (2 ^ 8),
  .testRateSet 0 (2 ^ 32) 0 0,
  .testRateSet 0 0 0 (2 ^ 8),
  .testChkSet 0 (2 ^ 32) 0 0,
  .testChkSet 0 0 0 (2 ^ 8),
  .testInjectSingle 0 (2 ^ 32) 0,
  .testInjectPeriodic 0 (2 ^ 32) 0 10,
  .testInjectPeriodic 0 0 0 41,
  .testInjectPeriodic 0 0 0 9,
  .testInjectBurst 0 (2 ^ 32) 0 1,
  .testInjectBurst 0 0 0 256,
  .testInjectBurst 0 0 0 0,
  .portRetrain 0 (2 ^ 32) 0,
  .portHotReset 0 (2 ^ 32) 0,
  .portLinkDisable 0 (2 ^ 32) 0,
  .l0pWidthRequest 0 (some 3) none,
  .l0pWidthRequest 0 none (some 3),
  .configWrite (.upstream 0) .command (2 ^ 32)] : List Instr).all (fun i => !i.wellFormed) = true := by decide +kernel

theorem test_ill_formed_2 : ([
  .ptmOffsetRefresh 0 (2 ^ 64),
  .mldTrained 0 17,
  .seamFrameReceive 0 (2 ^ 16) fr,
  .seamMgmtRequest .west false (2 ^ 16) 0 0 0,
  .seamMgmtRequest .west false 0 (2 ^ 8) 0 0,
  .seamMgmtRequest .west false 0 0 (2 ^ 32) 0,
  .seamMgmtRequest .west false 0 0 0 (2 ^ 64),
  .fabricCfgRead 0 (2 ^ 32),
  .fabricCfgWrite 0 (2 ^ 32),
  .fabricCfgCompletion 0 .sc (2 ^ 32),
  .fportReadyWrite 0 (2 ^ 32) 0 [],
  .hostConfigRequest 0 .command (some (2 ^ 32)) 0 0,
  .hostConfigRequest 0 .command none (2 ^ 16) 0,
  .hostConfigRequest 0 .command none 0 (2 ^ 14),
  .pairSessionRefused 5,
  .pairSessionRefused 0,
  .pairsync (2 ^ 1) 0 0 (zeros 8),
  .pairsync 0 (2 ^ 3) 0 (zeros 8),
  .pairsync 0 0 (2 ^ 32) (zeros 8),
  .pairsync 0 0 0 [],
  .pairObjectsTransfer (2 ^ 32) (⟨[], []⟩),
  .pairPrepare [] (2 ^ 32),
  .bflDataFlit 0 [],
  .ack 0 (2 ^ 12),
  .nak 0 (2 ^ 12) 0,
  .nak 0 0 3,
  .credit 0 1 (List.replicate 7 0),
  .credit 0 0 [],
  .credit 0 0 (List.replicate 7 (2 ^ 16)),
  .heartbeat 0 (2 ^ 4) 0 0,
  .heartbeat 0 0 (2 ^ 16) 0,
  .heartbeat 0 0 0 (2 ^ 12),
  .time 0 (2 ^ 8) 0 0 0,
  .time 0 0 (2 ^ 64) 0 0,
  .time 0 0 0 (2 ^ 24) 0,
  .time 0 0 0 0 (2 ^ 8),
  .resetReq 0 { rst with node := 2 },
  .resetReq 0 { rst with link := 16 },
  .resetReq 0 { rst with reason := 3 },
  .resetReq 0 { rst with width := 4 }] : List Instr).all (fun i => !i.wellFormed) = true := by decide +kernel

theorem test_ill_formed_3 : ([
  .resetReq 0 { rst with rate := 5 },
  .resetReq 0 { rst with nextExpected := 4096 },
  .resetReq 0 { rst with inc := 65536 },
  .resetReq 0 { rst with tag := [] },
  .resetAck 0 { rst with node := 2 },
  .resetAck 0 { rst with link := 16 },
  .resetAck 0 { rst with reason := 3 },
  .resetAck 0 { rst with width := 4 },
  .resetAck 0 { rst with rate := 5 },
  .resetAck 0 { rst with nextExpected := 4096 },
  .resetAck 0 { rst with inc := 65536 },
  .resetAck 0 { rst with tag := [] },
  .bflFullReset 0 (2 ^ 32) 0,
  .bflForcedReset 0 (2 ^ 32) 0,
  .bflEvacuate 0 (2 ^ 32) 0,
  .evacQuery 0 0 (2 ^ 16),
  .evacReply 0 0 (2 ^ 12) 0,
  .evacReply 0 0 0 (2 ^ 16),
  .sqDb 0 0 [] (zeros 2) 0,
  .sqDb 0 0 (zeros 2) [] 0,
  .sqDb 0 0 (zeros 2) (zeros 2) 33,
  .rqDb 0 0 [] (zeros 2) 0,
  .rqDb 0 0 (zeros 2) [] 0,
  .rqDb 0 0 (zeros 2) (zeros 2) 33,
  .cqDb 0 0 [] (zeros 2) 0,
  .cqDb 0 0 (zeros 2) [] 0,
  .cqDb 0 0 (zeros 2) (zeros 2) 33,
  .cqArm 0 0 [] (zeros 2) 0,
  .cqArm 0 0 (zeros 2) [] 0,
  .cqArm 0 0 (zeros 2) (zeros 2) 33,
  .cmdDb 0 0 [] 0,
  .cmdDb 0 0 (zeros 2) 33,
  .hostReadCompletion (.sqWqe 0 []) .ok,
  .hostReadCompletion (.rqWqe 0 []) .ok,
  .hostReadCompletion (.command 0 []) .ok,
  .hostReadCompletion (.readReq 0 { op := .readReq, readLen := 4 } []) .ok,
  .hostReadCompletion (.atomicOp 0 { op := .fetchAdd } (2 ^ 64)) .ok,
  .wqeWrite (2 ^ 24) [],
  .wqeWriteImm (2 ^ 24) [],
  .wqeRead (2 ^ 24)] : List Instr).all (fun i => !i.wellFormed) = true := by decide +kernel

theorem test_ill_formed_4 : ([
  .wqeSend (2 ^ 24) [],
  .wqeSendImm (2 ^ 24) [],
  .wqeFetchAdd (2 ^ 24),
  .wqeCompSwap (2 ^ 24),
  .wqeLocalInv (2 ^ 24),
  .wqeRecv (2 ^ 24),
  .createQp 0 [],
  .modifyQp 0 [],
  .modifyQpReset 0 [],
  .modifyQpInit 0 [],
  .modifyQpReady 0 [],
  .modifyQpError 0 [],
  .dict 0 (zeros 15),
  .dict 0 (zeros 1025),
  .qpFlushed (2 ^ 24),
  .packetWrite .west { op := .ack },
  .packetWrite .west { op := .write, destQpn := 2 ^ 24 },
  .packetWrite .west { op := .write, srcQpn := 2 ^ 24 },
  .packetWrite .west { op := .write, psn := 2 ^ 24 },
  .packetWrite .west { op := .write, dnode := 2 },
  .packetWrite .west { op := .write, snode := 2 },
  .packetWrite .west { op := .write, payload := zeros 4097 },
  .packetWriteImm .west { op := .ack },
  .packetSend .west { op := .ack },
  .packetSendImm .west { op := .ack },
  .packetReadReq .west { op := .ack },
  .packetFetchAdd .west { op := .ack },
  .packetCompSwap .west { op := .ack },
  .readResp .west { op := .ack },
  .atomicResp .west { op := .ack },
  .rmeAck .west { op := .send, syndrome := 0 },
  .rmeAck .west { op := .ack, syndrome := 1 },
  .rmeSelectiveNak .west { op := .send, syndrome := 1 },
  .rmeSelectiveNak .west { op := .ack, syndrome := 2 },
  .rmeRnrNak .west { op := .send, syndrome := 2 },
  .rmeRnrNak .west { op := .ack, syndrome := 3 },
  .rmeNakRemoteAccess .west { op := .send, syndrome := 3 },
  .rmeNakRemoteAccess .west { op := .ack, syndrome := 4 },
  .rmeNakRemoteInvalid .west { op := .send, syndrome := 4 },
  .rmeNakRemoteInvalid .west { op := .ack, syndrome := 5 }] : List Instr).all (fun i => !i.wellFormed) = true := by decide +kernel

theorem test_ill_formed_5 : ([
  .rmeNakKeyGeneration .west { op := .send, syndrome := 5 },
  .rmeNakKeyGeneration .west { op := .ack, syndrome := 6 },
  .skimNotice .west { op := .ack },
  .rmeRetxTimeout (2 ^ 24),
  .rmeRnrDelayExpiry (2 ^ 24),
  .rmeEchoDue (2 ^ 24),
  .rmeCcIncrease (2 ^ 24),
  .sliceQuiesce 0 (2 ^ 32) 0,
  .sliceResume 0 (2 ^ 32) 0,
  .sliceRelease 0 (2 ^ 32) 0,
  .shaperRateWrite 0 (2 ^ 32) .west 0 0,
  .shaperRateWrite 0 0 .west 0 (2 ^ 32),
  .shaperBurstWrite 0 (2 ^ 32) .west 0 0,
  .shaperBurstWrite 0 0 .west 0 (2 ^ 32),
  .alertAck 0 (2 ^ 32) 0,
  .alertAck 0 0 (2 ^ 32),
  .plogClear 0 (2 ^ 32),
  .slotEnableWrite 0 (2 ^ 32) 0 0,
  .slotEnableWrite 0 0 0 (2 ^ 8),
  .slotClearFaults 0 (2 ^ 32) 0,
  .slotClearEnergy 0 (2 ^ 32) 0,
  .sbValueWrite 0 (2 ^ 32) 0 0,
  .sbValueWrite 0 0 0 (2 ^ 32),
  .sbFarRead 0 (2 ^ 32),
  .sbFarWrite 0 (2 ^ 32),
  .sbStrayClear 0 (2 ^ 32),
  .pwrRunRequest 0 (2 ^ 32),
  .pwrIdleArm 0 (2 ^ 32),
  .pwrSleepRequest 0 (2 ^ 32),
  .pwrDeepSleepRequest 0 (2 ^ 32),
  .pwrOffRequest 0 (2 ^ 32),
  .thermalSample [],
  .thermalSample (List.replicate 28 (2 ^ 15)),
  .perMeasureNow 0 (2 ^ 32),
  .perReplanNow 0 (2 ^ 32),
  .perRetuneSeam 0 (2 ^ 32),
  .railFollowTimeout .west (2 ^ 16),
  .pmuSnap 0 (2 ^ 32),
  .pmuCtrClear 0 (2 ^ 32) 0,
  .pmuCtrClear 0 0 (2 ^ 32)] : List Instr).all (fun i => !i.wellFormed) = true := by decide +kernel

theorem test_ill_formed_6 : ([
  .samplingEnable 0 (2 ^ 32) false,
  .harvestEnableWrite 0 (2 ^ 32) false,
  .harvestClear 0 (2 ^ 32),
  .testUnlockEnd 0 (2 ^ 32),
  .testUnlockLevel1 0 (2 ^ 32),
  .testUnlockLevel2 0 (2 ^ 32),
  .testUnlockResponse 0 (2 ^ 32) (zeros 1952) (zeros 3309),
  .testUnlockResponse 0 0 [] (zeros 3309),
  .testUnlockResponse 0 0 (zeros 1952) [],
  .jtagUnlock .west 3 (zeros 1952) (zeros 3309),
  .jtagUnlock .west 0 (zeros 1952) (zeros 3309),
  .jtagUnlock .west 1 [] (zeros 3309),
  .jtagUnlock .west 1 (zeros 1952) [],
  .jtagDict .west (2 ^ 16) 0,
  .jtagDict .west 0 (2 ^ 8),
  .pertArm 0 (2 ^ 32) 0,
  .pertDisarm 0 (2 ^ 32) 0,
  .linkRecoveryEnd 0 (.l0 (some 3))] : List Instr).all (fun i => !i.wellFormed) = true := by decide +kernel

/-! States and operands that meet the hypotheses of each statement, one per clause that has any. -/

theorem witness_PowerOnEvents :
    (∃ (s : State), s.dev.pins.vao18 = true ∧ s.dev.clocks.aoRunning = false) ∧
    (∃ (n : Nat), n < 1000) ∧
    (∃ (s : State) (n : Nat), 10000 ≤ n ∧ (∀ e ∈ s.dev.slots, e.1 < 32)) ∧
    (∃ (s : State), s.dev.pins.porstN = false) ∧
    (∃ (s : State), s.dev.pins.porstN = true ∧ s.dev.pa.strapped = false) :=
  ⟨⟨st { pins := { vao18 := true } }, by decide⟩,
   ⟨999, by decide⟩,
   ⟨st {}, 10000, by decide⟩,
   ⟨st {}, by decide⟩,
   ⟨st { pins := { porstN := true } }, by decide⟩⟩

theorem witness_ReleaseAndRomEvents :
    (∃ (s : State), s.dev.pins.porstN = true ∧ s.dev.pa.strapped = true ∧ s.dev.boot.released = false ∧ s.dev.pa.forceFlag = false ∧ s.dev.num Obj.bootAttempts < s.dev.num Obj.bootAttemptThreshold) ∧
    (∃ (s : State), s.dev.pins.porstN = true ∧ s.dev.pa.strapped = true ∧ s.dev.boot.released = false ∧ s.dev.pa.forceFlag = true) ∧
    (∃ (s : State) (h : Half), s.dev.boot.released = true ∧ s.dev.romStopped h = false) ∧
    (∃ (s : State) (h : Half), s.dev.boot.released = true ∧ s.dev.romPassed h = false ∧ s.dev.romStopped h = false) ∧
    (∃ (s : State) (h : Half), s.dev.boot.released = true ∧ s.dev.romPassed h = false ∧ s.dev.romStopped h = false) ∧
    (∃ (s : State) (k : Fin 4), s.dev.boot.released = true ∧ k.val ∉ s.dev.boot.qdrTrained) ∧
    (∃ (s : State) (k : Fin 4), s.dev.boot.released = true ∧ s.dev.crocus = false ∧ k.val ∉ s.dev.boot.qdrTrained ∧ s.dev.boot.slotChosen = false) ∧
    (∃ (s : State), s.dev.boot.released = true ∧ s.dev.crocus = false ∧ s.dev.boot.slotChosen = false) ∧
    (∃ (s : State), s.dev.boot.released = true ∧ s.dev.crocus = false ∧ s.dev.boot.slotChosen = false ∧ s.dev.seamUp = false) ∧
    (∃ (s : State), s.dev.boot.released = true ∧ s.dev.crocus = false ∧ s.dev.boot.slotChosen = false ∧ s.dev.boot.qdrTrained = []) ∧
    (∃ (s : State) (h : Half), s.dev.boot.released = true ∧ s.dev.crocus = false ∧ s.dev.boot.slotChosen = false ∧ s.dev.romPassed h = false) ∧
    (∃ (s : State), s.dev.boot.released = true ∧ s.dev.crocus = false ∧ s.dev.boot.slotChosen = true ∧ s.dev.boot.bootCommitDone = false) :=
  ⟨⟨st { pins := { porstN := true }, pa := { strapped := true } }, by decide⟩,
   ⟨st { pins := { porstN := true }, pa := { strapped := true, forceFlag := true } }, by decide⟩,
   ⟨st rel, .west, by decide⟩,
   ⟨st { boot := { released := true } }, .east, by decide⟩,
   ⟨st { boot := { released := true } }, .east, by decide⟩,
   ⟨st rel, 3, by decide⟩,
   ⟨st rel, 3, by decide⟩,
   ⟨st rel, by decide⟩,
   ⟨st rel, by decide⟩,
   ⟨st rel, by decide⟩,
   ⟨st { boot := { released := true } }, .west, by decide⟩,
   ⟨st { rel with boot := { released := true, slotChosen := true } }, by decide⟩⟩

theorem witness_RakeEvents :
    (∃ (s : State) (h : Half), s.dev.boot.released = true ∧ s.dev.romPassed h = true ∧ s.dev.holder = none ∧ byHalf h s.dev.boot.paLostW s.dev.boot.paLostE = false) ∧
    (∃ (s : State) (h : Half) (w : _), s.dev.boot.released = true ∧ s.dev.romPassed h = true ∧ s.dev.holder = some w ∧ byHalf h s.dev.boot.paLostW s.dev.boot.paLostE = false) ∧
    (∃ (s : State), s.dev.boot.released = true ∧ s.dev.romPassed s.dev.preferred.other = true ∧ s.dev.holder = none ∧ byHalf s.dev.preferred.other s.dev.boot.paLostW s.dev.boot.paLostE = false) ∧
    (∃ (s : State), s.dev.boot.released = true ∧ s.dev.holder = none ∧ s.dev.crocus = false) ∧
    (∃ (s : State), s.dev.boot.released = true ∧ s.dev.holder = none ∧ s.dev.boot.paLostW = false ∧ s.dev.boot.paLostE = false) ∧
    (∃ (s : State) (h : Half), s.dev.boot.released = true ∧ s.dev.holder = some h.other ∧ s.dev.boot.paLostW = false ∧ s.dev.boot.paLostE = false) ∧
    (∃ (s : State) (h : Half), s.dev.boot.released = true ∧ s.dev.holder = none ∧ byHalf h.other s.dev.boot.paLostW s.dev.boot.paLostE = true) ∧
    (∃ (s : State) (h : Half), (s.dev.rakeView h).holds = true ∧ s.dev.holder ≠ some h ∧ s.dev.commit = none ∧ s.dev.seamUp = true) :=
  ⟨⟨st { boot := { released := true, romPassW := true } }, .west, by decide⟩,
   ⟨st rel, .east, .west, by decide⟩,
   ⟨st { boot := { released := true, romPassE := true } }, by decide⟩,
   ⟨st { boot := { released := true } }, by decide⟩,
   ⟨st { boot := { released := true } }, by decide⟩,
   ⟨st rel, .east, by decide⟩,
   ⟨st { boot := { released := true, paLostE := true } }, .west, by decide⟩,
   ⟨st { up with pa := { viewE := ⟨true, 1⟩ } }, .east, by decide⟩⟩

theorem witness_ImageAndWatchdogEvents :
    (∃ (s : State) (h : Half), s.dev.boot.released = true ∧ s.dev.romPassed h = true ∧ s.dev.holder.isSome = true ∧ s.dev.crocus = false ∧ s.dev.boot.slotChosen = false ∧ s.dev.boot.checks = []) ∧
    (∃ (s : State) (h : Half) (sl : FwSlot) (img : ImageFacts), s.dev.boot.released = true ∧ s.dev.romPassed h = true ∧ s.dev.holder.isSome = true ∧ s.dev.crocus = false ∧ s.dev.boot.slotChosen = false ∧ s.dev.boot.checks = [] ∧ tabFind s.dev.flash (h, sl) = none ∧ img.empty = true) ∧
    (∃ (s : State) (d : Dev), s.dev.boot.slotChosen = true ∧ s.dev.boot.bootCommitDone = false ∧ s.dev.crocus = false ∧ s.dev.boot.firmwareW = false ∧ s.dev.boot.firmwareE = false ∧ s.dev.pa.skipStore = true ∧ ((s.dev.imageRuns.clusterStarts .west).clusterStarts .east).applyBoot [] = some d) ∧
    (∃ (s : State), s.dev.boot.bootCommitDone = true ∧ s.dev.boot.laneCalDone = false) ∧
    (∃ (s : State) (h : Half), (s.dev.watchdog h).running = true ∧ byHalf h s.dev.boot.haltW s.dev.boot.haltE = false) ∧
    (∃ (s : State) (h : Half), (s.dev.watchdog h).running = true ∧ (s.dev.watchdog h).suspended = false ∧ s.dev.flag Obj.bootHealthyState = false) ∧
    (∃ (s : State) (h : Half), (s.dev.watchdog h).running = true ∧ (s.dev.watchdog h).suspended = false ∧ s.dev.flag Obj.bootHealthyState = true ∧ s.dev.holder ≠ some h) ∧
    (∃ (s : State) (h : Half), s.dev.boot.bootCommitDone = true ∧ byHalf h s.dev.boot.firmwareW s.dev.boot.firmwareE = false ∧ byHalf h s.dev.boot.haltW s.dev.boot.haltE = false) :=
  ⟨⟨st rel, .west, by decide⟩,
   ⟨st rel, .west, .a, { empty := true }, by decide⟩,
   ⟨st { boot := { slotChosen := true }, pa := { skipStore := true } }, (((({ boot := { slotChosen := true }, pa := { skipStore := true } } : Dev).imageRuns.clusterStarts .west).clusterStarts .east).applyBoot []).getD {}, ⟨by decide, by decide, by decide, by decide, by decide, by decide, some_of _ _ (by decide +kernel)⟩⟩,
   ⟨st { boot := { bootCommitDone := true } }, by decide⟩,
   ⟨st rel, .east, by decide⟩,
   ⟨st rel, .east, by decide⟩,
   ⟨st { rel with objs := ob [(Obj.rakeHolder, 0), (Obj.bootHealthyState, 1)] }, .east, by decide⟩,
   ⟨st { boot := { bootCommitDone := true, firmwareW := true } }, .east, by decide⟩⟩

theorem witness_TripSupplyAndSeamTraining :
    (∃ (c : _), c < 115) ∧
    (∃ (c : _), 115 ≤ c) ∧
    (∃ (s : State), s.dev.pins.vpa = false) ∧
    (∃ (s : State) (x : SeamDir) (m : Fin 8), (s.dev.seamMod x m).st = .training ∧ s.dev.seam.lost = false ∧ s.dev.holder.isSome = true) ∧
    (∃ (s : State), s.dev.holder.isSome = true ∧ s.dev.crocus = false ∧ s.dev.seam.lost = false ∧ s.dev.untrained .we ++ s.dev.untrained .ew ≠ []) :=
  ⟨⟨114, by decide⟩,
   ⟨115, by decide⟩,
   ⟨st { pins := { vpa := false } }, by decide⟩,
   ⟨st rel, .ew, 7, by decide⟩,
   ⟨st rel, by decide⟩⟩

theorem witness_RequestsAreAnswered :
    (∃ (s : State) (x : Session) (m : List Byte) (r : FbpRequest), ready s x r.rid = true ∧ parseFbp m = .request r ∧ r.opcode = Opcode.ping) ∧
    (∃ (s : State) (x : Session) (m : List Byte) (r : FbpRequest) (i : Item) (q : ObjRec) (o : ObjRow) (k : Key), ready s x r.rid = true ∧ parseFbp m = .request r ∧ r.opcode = Opcode.read ∧ r.items = [i] ∧ i.idx < 0xF000 ∧ locate (taken s x r m) (takenSes s x r m) i = .ok (q, o, k) ∧ (i.type = 0 ∨ i.type = o.ty.code) ∧ (taken s x r m).dev.modeForbids k false = false ∧ (taken s x r m).dev.harvestBusy k = false ∧ (taken s x r m).dev.tooFar (takenSes s x r m) k = false ∧ (encodeVal o.ty (readObj (taken s x r m) (takenSes s x r m) k o r.staged).2).length ≤ 960) ∧
    (∃ (s : State) (x : Session) (m : List Byte) (r : FbpRequest) (i : Item) (q : ObjRec) (o : ObjRow) (k : Key), ready s x r.rid = true ∧ parseFbp m = .request r ∧ r.opcode = Opcode.describe ∧ r.items = [i] ∧ i.idx < 0xF000 ∧ locate (taken s x r m) (takenSes s x r m) i = .ok (q, o, k) ∧ (i.type = 0 ∨ i.type = o.ty.code) ∧ (taken s x r m).dev.modeForbids k false = false ∧ (taken s x r m).dev.tooFar (takenSes s x r m) k = false) ∧
    (∃ (s : State) (x : Session) (m : List Byte) (r : FbpRequest) (i : Item) (q : ObjRec) (o : ObjRow) (k : Key) (v : _), ready s x r.rid = true ∧ parseFbp m = .request r ∧ r.opcode = Opcode.write ∧ r.items = [i] ∧ i.idx < 0xF000 ∧ locate (taken s x r m) (takenSes s x r m) i = .ok (q, o, k) ∧ checkWrite (taken s x r m) (takenSes s x r m) q k o i.type (decodeVal o.ty i.data) = .ok (v, false) ∧ o.cls = .staged ∧ (taken s x r m).dev.stageWrite (takenSes s x r m) k v = ((taken s x r m).dev.modSes x.sid (fun y => { y with staged := tabSet Key.code y.staged k v }), Status.ok)) ∧
    (∃ (s : State) (x : Session) (rid : _) (idx : _) (sub : _) (ty : _) (n : Nat) (q : ObjRec) (o : ObjRow), accepts s x rid idx sub ty n = true ∧ idx < 0xF000 ∧ sub < 256 ∧ findRec idx = some q ∧ q.row sub = some o ∧ o.cls = .staged ∧ (begunSes s x rid [(idx, sub, ty, n)]).staged.length < 4096 ∧ (begun s x rid [(idx, sub, ty, n)]).dev.stagedTotal < 16384) ∧
    (∃ (s : State) (x : Session) (m : List Byte), s.dev.ses x.sid = some x ∧ x.sid < 2 ^ 32 ∧ x.keysSpent = false ∧ parseFbp m = .response) ∧
    (∃ (s : State) (x : Session) (n : Nat), s.dev.ses x.sid = some x ∧ x.sid < 2 ^ 32 ∧ x.keysSpent = false ∧ n < 2 ^ 32) ∧
    (∃ (s : State) (x : Session) (raw : _) (rest : _) (r : FbpRequest), s.dev.ses x.sid = some x ∧ x.sid < 2 ^ 32 ∧ x.exec = none ∧ x.queue = raw :: rest ∧ requestOf raw = some r) :=
  ⟨⟨on ses, ses, msg Opcode.ping (it 0 0), rq Opcode.ping (it 0 0), by decide⟩,
   ⟨on ses, ses, msg Opcode.read (it 0x1000 1), rq Opcode.read (it 0x1000 1), it 0x1000 1, recOf 0x1000, rowOf 0x1000 1, ⟨0x1000, 1, 0⟩, by and_intros <;> first | decide | rfl⟩,
   ⟨on ses, ses, msg Opcode.describe (it 0x1000 1), rq Opcode.describe (it 0x1000 1), it 0x1000 1, recOf 0x1000, rowOf 0x1000 1, ⟨0x1000, 1, 0⟩, by and_intros <;> first | decide | rfl⟩,
   ⟨on ses, ses, msg Opcode.write ⟨0x9100, 3, ObjType.u16.code, [5, 160]⟩, rq Opcode.write ⟨0x9100, 3, ObjType.u16.code, [5, 160]⟩, ⟨0x9100, 3, ObjType.u16.code, [5, 160]⟩, recOf 0x9100, rowOf 0x9100 3, ⟨0x9100, 3, 0⟩, .num 1440, by and_intros <;> first | decide | rfl⟩,
   ⟨on ses, ses, 1, 0x9100, 3, .u16, 1440, recOf 0x9100, rowOf 0x9100 3, by decide⟩,
   ⟨on ses, ses, beBytes 1 17 ++ zeros 15, by decide⟩,
   ⟨on ses, ses, 4294967295, by decide⟩,
   ⟨on { ses with queue := [msg Opcode.ping (it 0 0)] }, { ses with queue := [msg Opcode.ping (it 0 0)] }, msg Opcode.ping (it 0 0), [], rq Opcode.ping (it 0 0), by decide⟩⟩

theorem witness_TransferRequests :
    (∃ (s : State) (x : Session) (m : List Byte) (r : FbpRequest) (i : Item) (q : ObjRec) (o : ObjRow) (k : Key), ready s x r.rid = true ∧ parseFbp m = .request r ∧ r.opcode = Opcode.blobOpen ∧ r.items = [i] ∧ x.blob = none ∧ locate (taken s x r m) (takenSes s x r m) i = .ok (q, o, k) ∧ o.ty = .blob ∧ i.data.length = 8 ∧ beNat (slice i.data 4 1) = 0 ∧ (taken s x r m).dev.modeForbids k false = false ∧ (taken s x r m).dev.harvestBusy k = false ∧ (taken s x r m).dev.tooFar (takenSes s x r m) k = false) ∧
    (∃ (s : State) (x : Session) (m : List Byte) (r : FbpRequest) (i : Item) (q : ObjRec) (o : ObjRow) (k : Key), ready s x r.rid = true ∧ parseFbp m = .request r ∧ r.opcode = Opcode.blobOpen ∧ r.items = [i] ∧ x.blob = none ∧ locate (taken s x r m) (takenSes s x r m) i = .ok (q, o, k) ∧ beNat (slice i.data 4 1) = 1 ∧ checkOpen (taken s x r m) (takenSes s x r m) q k o i (beNat (slice i.data 0 4)) = none ∧ (taken s x r m).dev.tooFar (takenSes s x r m) k = false) ∧
    (∃ (s : State) (x : Session) (m : List Byte) (r : FbpRequest) (i : Item) (b : Blob), ready s x r.rid = true ∧ parseFbp m = .request r ∧ r.opcode = Opcode.blobData ∧ r.items = [i] ∧ x.blobOf i.data = some b ∧ 8 ≤ i.data.length ∧ b.isWrite = false ∧ beNat (slice i.data 4 4) ≤ b.total) ∧
    (∃ (s : State) (x : Session) (m : List Byte) (r : FbpRequest) (i : Item) (b : Blob), ready s x r.rid = true ∧ parseFbp m = .request r ∧ r.opcode = Opcode.blobData ∧ r.items = [i] ∧ x.blobOf i.data = some b ∧ 8 ≤ i.data.length ∧ b.isWrite = true ∧ beNat (slice i.data 4 4) = b.data.length ∧ i.data.length ≤ 968) ∧
    (∃ (s : State) (x : Session) (m : List Byte) (r : FbpRequest) (i : Item) (b : Blob), ready s x r.rid = true ∧ parseFbp m = .request r ∧ r.opcode = Opcode.blobClose ∧ r.items = [i] ∧ x.blobOf i.data = some b ∧ i.data.length = 36 ∧ b.isWrite = false) ∧
    (∃ (s : State) (x : Session) (m : List Byte) (r : FbpRequest) (i : Item) (b : Blob) (q : ObjRec) (o : ObjRow) (st' : State), ready s x r.rid = true ∧ parseFbp m = .request r ∧ r.opcode = Opcode.blobClose ∧ r.items = [i] ∧ x.blobOf i.data = some b ∧ i.data.length = 36 ∧ b.isWrite = true ∧ b.data.length = b.total ∧ findRec b.key.idx = some q ∧ q.row b.key.sub = some o ∧ checkWrite (taken s x r m) (takenSes s x r m) q b.key o o.ty.code (some (.bytes b.data)) = .ok (.bytes b.data, false) ∧ performWrite (taken s x r m) (takenSes s x r m) b.key o (.bytes b.data) = (st', .done Status.ok)) ∧
    (∃ (s : State) (x : Session) (m : List Byte) (r : FbpRequest) (i : Item) (b : Blob), ready s x r.rid = true ∧ parseFbp m = .request r ∧ r.opcode = Opcode.blobAbort ∧ r.items = [i] ∧ x.blobOf i.data = some b ∧ i.data.length = 4) ∧
    (∃ (s : State) (x : Session) (b : Blob), s.dev.ses x.sid = some x ∧ x.sid < 2 ^ 32 ∧ x.blob = some b) :=
  ⟨⟨on ses, ses, msg Opcode.blobOpen (it 0x5100 6 (beBytes 4 0 ++ zeros 4)), rq Opcode.blobOpen (it 0x5100 6 (zeros 8)), it 0x5100 6 (zeros 8), recOf 0x5100, rowOf 0x5100 6, ⟨0x5100, 6, 0⟩, by and_intros <;> first | decide | rfl⟩,
   ⟨on ses, ses, msg Opcode.blobOpen (it 0xC000 3 opn), rq Opcode.blobOpen (it 0xC000 3 opn), it 0xC000 3 opn, recOf 0xC000, rowOf 0xC000 3, ⟨0xC000, 3, 0⟩, by and_intros <;> first | decide | rfl⟩,
   ⟨on { ses with blob := some rdb }, { ses with blob := some rdb }, msg Opcode.blobData (it 0 0 seg4), rq Opcode.blobData (it 0 0 seg4), it 0 0 seg4, rdb, by decide⟩,
   ⟨on { ses with blob := some wrb }, { ses with blob := some wrb }, msg Opcode.blobData (it 0 0 (zeros 1 ++ [1] ++ zeros 10)), rq Opcode.blobData (it 0 0 (zeros 1 ++ [1] ++ zeros 10)), it 0 0 (zeros 1 ++ [1] ++ zeros 10), wrb, by decide⟩,
   ⟨on { ses with blob := some rdb }, { ses with blob := some rdb }, msg Opcode.blobClose (it 0 0 cls), rq Opcode.blobClose (it 0 0 cls), it 0 0 cls, rdb, by decide⟩,
   ⟨on { ses with blob := some wrf }, { ses with blob := some wrf }, msg Opcode.blobClose (it 0 0 cls), rq Opcode.blobClose (it 0 0 cls), it 0 0 cls, wrf, recOf 0x7522, rowOf 0x7522 6, (performWrite closes (takenSes (on { ses with blob := some wrf }) { ses with blob := some wrf } (rq Opcode.blobClose (it 0 0 cls)) (msg Opcode.blobClose (it 0 0 cls))) ⟨0x7522, 6, 0⟩ (rowOf 0x7522 6) (.bytes [1, 2, 3, 4])).1, by and_intros <;> first | decide | rfl⟩,
   ⟨on { ses with blob := some rdb }, { ses with blob := some rdb }, msg Opcode.blobAbort (it 0 0 [0, 1, 0, 0]), rq Opcode.blobAbort (it 0 0 [0, 1, 0, 0]), it 0 0 [0, 1, 0, 0], rdb, by decide⟩,
   ⟨on { ses with blob := some rdb }, { ses with blob := some rdb }, rdb, by decide⟩⟩

theorem witness_SessionsAndTransports :
    (∃ (s : State) (x : Session), s.dev.ses x.sid = some x ∧ x.sid < 2 ^ 32 ∧ (∀ v, x.transport ≠ .mailbox v)) ∧
    (∃ (s : State) (x : Session), s.dev.ses x.sid = some x ∧ x.sid < 2 ^ 32 ∧ x.idles = true) ∧
    (∃ (s : State), s.dev.portOn = true ∧ s.dev.sessions.countP Session.isNet < 8) ∧
    (∃ (s : State) (v : Fin 64), s.dev.endpointServed v = true) ∧
    (∃ (s : State) (v : Fin 64) (eid : Fin 256) (x : Session), s.dev.endpointServed v = true ∧ s.dev.sessions.find? (fun y => y.transport == .mctp v eid) = some x ∧ x.keysSpent = false) ∧
    (∃ (s : State) (x : Session), s.dev.ses x.sid = some x ∧ x.sid < 2 ^ 32 ∧ x.secured = true) ∧
    (∃ (s : State) (b : Nat) (l : List Byte), s.dev.served = true ∧ measured s b = some l) ∧
    (∃ (s : State) (v : Fin 64) (b : Nat) (l : List Byte), s.dev.endpointServed v = true ∧ measured s b = some l) ∧
    (∃ (s : State) (v : Fin 64) (eid : Fin 256) (b : Nat) (l : List Byte) (x : Session), s.dev.endpointServed v = true ∧ measured s b = some l ∧ s.dev.sessions.find? (fun y => y.transport == .mctp v eid) = some x ∧ x.keysSpent = false) ∧
    (∃ (s : State) (u : Datagram), s.dev.portOn = true ∧ u.port = 47590 ∧ u.fragmented = false ∧ 4 ≤ u.data.length ∧ u.data.length ≤ 1280 ∧ beNat (u.data.take 1) = 3) ∧
    (∃ (s : State), s.dev.portOn = true) ∧
    (∃ (s : State), s.dev.portOn = true) :=
  ⟨⟨on ses, ses, by and_intros <;> first | decide | rfl | (intro v h; cases h)⟩,
   ⟨on ses, ses, by decide⟩,
   ⟨on ses, by decide⟩,
   ⟨st (up [(Obj.vsState 63, 2)]), 63, by decide⟩,
   ⟨mcs, 63, 8, mc, by decide⟩,
   ⟨on { ses with secured := true }, { ses with secured := true }, by decide⟩,
   ⟨on ses, 0, [8], by decide⟩,
   ⟨st (up [(Obj.vsState 63, 2)]), 63, 0, [8], by decide⟩,
   ⟨mcs, 63, 8, 0, [8], mc, by decide⟩,
   ⟨on ses, ⟨47590, false, [3] ++ zeros 1279⟩, by decide, by decide, by decide, by decide +kernel, by decide +kernel, by decide +kernel⟩,
   ⟨on ses, by decide⟩,
   ⟨on ses, by decide⟩⟩

theorem witness_EndpointEvents :
    (∃ (s : State) (v : Fin 64) (x : Session), s.dev.endpointServed v = true ∧ (s.dev.mailbox v).busy = false ∧ s.dev.sessions.find? (fun y => y.transport == .mailbox v) = some x) ∧
    (∃ (s : State) (v : Fin 64) (x : Session), s.dev.sessions.find? (fun y => y.transport == .mailbox v) = some x ∧ (s.dev.mailbox v).busy = true ∧ x.exec = none) ∧
    (∃ (s : State) (v : Fin 64) (x : Session), s.dev.sessions.find? (fun y => y.transport == .mailbox v) = some x) ∧
    (∃ (s : State) (v : Fin 64), s.dev.endpointServed v = true ∧ s.dev.endpointSecured v = true) ∧
    (∃ (s : State) (v : Fin 64), s.dev.endpointServed v = true ∧ s.dev.endpointSecured v = true) :=
  ⟨⟨st { up [(Obj.vsState 63, 2)] with sessions := [{ ses with transport := .mailbox 63 }] }, 63, { ses with transport := .mailbox 63 }, by decide⟩,
   ⟨st { up [(Obj.vsState 63, 2)] with sessions := [{ ses with transport := .mailbox 63 }], mailboxes := [(63, { busy := true })] }, 63, { ses with transport := .mailbox 63 }, by decide⟩,
   ⟨st { up with sessions := [{ ses with transport := .mailbox 63 }] }, 63, { ses with transport := .mailbox 63 }, by decide⟩,
   ⟨mcs2, 63, by decide⟩,
   ⟨mcs2, 63, by decide⟩⟩

theorem witness_WaitingRequestsEnd :
    (∃ (s : State) (n : Nat) (i : Item), s.dev.waitsFor n = some (.farAccess, i) ∧ (¬ (i.idx = 0x1F00 ∧ i.sub = 1)) ∧ inPaDie ⟨i.idx, i.sub, 0⟩ = false) ∧
    (∃ (s : State) (n : Nat) (i : Item), s.dev.waitsFor n = some (.farAccess, i) ∧ i.idx = 0x1F00 ∧ i.sub = 1 ∧ inPaDie ⟨i.idx, i.sub, 0⟩ = false) ∧
    (∃ (s : State) (n : Nat) (i : Item), s.dev.waitsFor n = some (.farAccess, i) ∧ i.idx ≠ 0x1F00 ∧ inPaDie ⟨i.idx, i.sub, 0⟩ = true) ∧
    (∃ (s : State) (n : Nat) (i : Item), s.dev.waitsFor n = some (.cfgRequest, i) ∧ beNat i.data = 1) ∧
    (∃ (s : State) (n : Nat) (i : Item) (st : CplStatus), s.dev.waitsFor n = some (.cfgRequest, i) ∧ st ≠ .sc) ∧
    (∃ (s : State) (n : Nat) (i : Item), s.dev.waitsFor n = some (.cfgRequest, i)) ∧
    (∃ (s : State) (t : Fin 16) (i : Fin 16) (inc : Nat) (n : Nat) (mark : Nat), (s.dev.link i).evac = some (t.val, n, mark) ∧ inc < 2 ^ 16) ∧
    (∃ (s : State) (i : Fin 16) (t : Nat) (n : Nat) (mark : Nat), (s.dev.link i).evac = some (t, n, mark)) ∧
    (∃ (s : State) (n : Nat) (x : Session) (i : Item) (t : Nat), s.dev.waitsFor n = some (.snapshot, i) ∧ s.dev.ses n = some x ∧ tabFind s.dev.tele.snapAt x.pmuScope = some t) :=
  ⟨⟨on (held Opcode.read .farAccess (it 0x5000 2)), 1, it 0x5000 2, by decide⟩,
   ⟨on (held Opcode.write .farAccess (it 0x1F00 1 [1])), 1, it 0x1F00 1 [1], by decide⟩,
   ⟨on (held Opcode.read .farAccess (it 0x9000 1)), 1, it 0x9000 1, by decide⟩,
   ⟨on (held Opcode.write .cfgRequest (it 0x3102 5 [1])), 1, it 0x3102 5 [1], by decide⟩,
   ⟨on (held Opcode.write .cfgRequest (it 0x3102 5 [2])), 1, it 0x3102 5 [2], .ur, by decide⟩,
   ⟨on (held Opcode.write .cfgRequest (it 0x3102 5 [2])), 1, it 0x3102 5 [2], by decide⟩,
   ⟨st { up with bfl := [(15, { evac := some (0, 1, 9) })] }, 0, 15, 65535, 1, 9, by decide⟩,
   ⟨st { up with bfl := [(15, { evac := some (0, 1, 9) })] }, 15, 0, 1, 9, by decide⟩,
   ⟨st { (on (held Opcode.write .snapshot (it 0x8000 5 [1]))).dev with tele := { snapAt := [((held Opcode.write .snapshot (it 0x8000 5 [1])).pmuScope, 7)] } }, 1, held Opcode.write .snapshot (it 0x8000 5 [1]), it 0x8000 5 [1], 7, by decide⟩⟩

theorem witness_AWaitEndsOnce : ∃ (s : State) (n : Nat) (e : Exec) (i : Item) (rest : List Item) (st : Nat), (s.dev.ses n).bind (fun x => x.exec) = some e ∧ e.wait ≠ .none ∧ e.todo = i :: rest ∧ succeeded st = false :=
  ⟨on (held Opcode.read .farAccess (it 0x5000 2)), 1, { rid := 1, opcode := Opcode.read, staged := false, todo := [it 0x5000 2], done := [], wait := .farAccess, raw := msg Opcode.read (it 0x5000 2) }, it 0x5000 2, [], Status.farTimeout, by decide⟩

theorem witness_BootRequests :
    (∃ (s : State) (x : Session) (rid : _), accepts s x rid 0x1020 3 .u8 1 = true ∧ s.dev.boot.released = true ∧ s.dev.elapsed s.dev.boot.releaseClk (sec 60) = true ∧ s.dev.pa.wdW.running = true ∧ s.dev.pa.wdE.running = true) ∧
    (∃ (s : State) (x : Session) (rid : _), accepts s x rid 0x1020 6 .u8 1 = true) ∧
    (∃ (s : State) (x : Session) (rid : _), accepts s x rid 0x1030 5 .u8 1 = true) ∧
    (∃ (s : State) (x : Session) (rid : _), accepts s x rid 0x1030 6 .u8 1 = true ∧ s.dev.crocus = true) ∧
    (∃ (s : State) (x : Session) (rid : _), accepts s x rid 0x1030 6 .u8 2 = true ∧ s.dev.crocus = true) ∧
    (∃ (s : State) (x : Session) (rid : _) (c : _), accepts s x rid 0xB010 2 .u8 1 = true ∧ s.dev.runningCheck .west = some c ∧ s.dev.flag Obj.bootHealthyState = true) ∧
    (∃ (s : State) (x : Session) (rid : _) (c : _) (n : Nat), accepts s x rid 0xB010 3 .u8 n = true ∧ s.dev.runningCheck .west = some c ∧ s.dev.flag Obj.bootHealthyState = true ∧ bitOf (s.otp.revoked ||| field n 0 4) c.keySlot = false ∧ s.otp.revoked ||| field n 0 4 ≠ 15) ∧
    (∃ (s : State) (x : Session) (rid : _) (h : Half), accepts s x rid 0xB040 3 .u8 1 = true ∧ s.dev.holder = some h ∧ (s.dev.watchdog h.other).running = true ∧ s.dev.romPassed h.other = true ∧ s.dev.seamUp = true) ∧
    (∃ (s : State) (x : Session) (rid : _) (n : Nat), accepts s x rid 0x9010 2 .u32 n = true ∧ (∀ g ∈ bitsSet 23 (s.dev.num Obj.pwrPadHoldHeld &&& n), s.dev.groupAwake g = true)) :=
  ⟨⟨st { up with clk := sec 60, sessions := [{ ses with transport := .firmware .west }] }, { ses with transport := .firmware .west }, 0, by decide⟩,
   ⟨on ses, ses, 1, by decide⟩,
   ⟨on ses, ses, 1, by decide⟩,
   ⟨on ses [(Obj.bootCrocusActive, 1)], ses, 1, by decide⟩,
   ⟨on ses [(Obj.bootCrocusActive, 1)], ses, 1, by decide⟩,
   ⟨st { up [(Obj.fwActiveSlot, 0)] with boot := { up.boot with checks := [⟨.west, .a, 0, [], 1, 64, 3⟩] }, sessions := [ses] }, ses, 1, ⟨.west, .a, 0, [], 1, 64, 3⟩, by decide⟩,
   ⟨st { up [(Obj.fwActiveSlot, 0)] with boot := { up.boot with checks := [⟨.west, .a, 0, [], 1, 64, 3⟩] }, sessions := [ses] }, ses, 1, ⟨.west, .a, 0, [], 1, 64, 3⟩, 7, by decide⟩,
   ⟨on ses, ses, 1, .west, by decide⟩,
   ⟨on ses [(Obj.pwrState, 2), (Obj.pwrPadHoldHeld, 65536)], ses, 1, 65536, by decide⟩⟩

theorem witness_LaneCommands :
    (∃ (s : State) (x : Session) (rid : _) (l : Fin 256), accepts s x rid (0x2200 + l) 9 .u8 1 = true ∧ s.dev.calBusy l = false ∧ s.dev.rxActive l = true) ∧
    (∃ (s : State) (x : Session) (rid : _) (l : Fin 256), accepts s x rid (0x2200 + l) 9 .u8 2 = true ∧ s.dev.inTest l = false ∧ s.dev.calBusy l = false ∧ s.dev.lanePortDown l = true) ∧
    (∃ (s : State) (x : Session) (rid : _) (l : Fin 256), accepts s x rid (0x2200 + l) 9 .u8 3 = true ∧ s.dev.inTest l = false ∧ s.dev.calBusy l = false ∧ s.dev.lanePortDown l = true) ∧
    (∃ (s : State) (x : Session) (rid : _) (l : Fin 256), accepts s x rid (0x2200 + l) 9 .u8 0x82 = true ∧ s.dev.inTest l = false ∧ s.dev.calBusy l = false ∧ s.dev.lanePortDown l = true) ∧
    (∃ (s : State) (x : Session) (rid : _) (l : Fin 256) (p : _), accepts s x rid (0x2200 + l) 9 .u8 0x82 = true ∧ s.dev.inTest l = false ∧ s.dev.calBusy l = false ∧ s.dev.lanePortDown l = false ∧ s.dev.portOfLane l = some p) ∧
    (∃ (s : State) (x : Session) (rid : _) (l : Fin 256) (p : _), accepts s x rid (0x2200 + l) 9 .u8 0x83 = true ∧ s.dev.inTest l = false ∧ s.dev.calBusy l = false ∧ s.dev.lanePortDown l = false ∧ s.dev.portOfLane l = some p) ∧
    (∃ (s : State) (x : Session) (rid : _) (l : Fin 256), accepts s x rid (0x2200 + l) 9 .u8 0x83 = true ∧ s.dev.inTest l = false ∧ s.dev.calBusy l = false ∧ s.dev.lanePortDown l = true) :=
  ⟨⟨on ses, ses, 1, 255, by decide⟩,
   ⟨on ses, ses, 1, 255, by decide⟩,
   ⟨on ses, ses, 1, 255, by decide⟩,
   ⟨on ses, ses, 1, 255, by decide⟩,
   ⟨on ses [(Obj.pstLtssm 120, 3)], ses, 1, 255, 120, by decide⟩,
   ⟨on ses [(Obj.pstLtssm 120, 3)], ses, 1, 255, 120, by decide⟩,
   ⟨on ses, ses, 1, 255, by decide⟩⟩

theorem witness_PortLinkAndSliceCommands :
    (∃ (s : State) (x : Session) (rid : _) (p : Fin 128), accepts s x rid (0x2000 + p) 0x0E .u8 1 = true ∧ s.dev.flag (Obj.portEnable p) = true) ∧
    (∃ (s : State) (x : Session) (rid : _) (p : Fin 128), accepts s x rid (0x2000 + p) 0x0E .u8 2 = true ∧ s.dev.flag (Obj.portEnable p) = true ∧ s.dev.num (Obj.portRole p) = 0 ∧ s.dev.num (Obj.pstLtssm p) ≠ Ltssm.recovery) ∧
    (∃ (s : State) (x : Session) (rid : _) (p : Fin 128), accepts s x rid (0x2000 + p) 0x0E .u8 2 = true ∧ s.dev.flag (Obj.portEnable p) = true ∧ s.dev.num (Obj.portRole p) = 0 ∧ s.dev.num (Obj.pstLtssm p) = Ltssm.recovery) ∧
    (∃ (s : State) (x : Session) (rid : _) (p : Fin 128), accepts s x rid (0x2000 + p) 0x0E .u8 3 = true ∧ s.dev.flag (Obj.portEnable p) = true) ∧
    (∃ (s : State) (x : Session) (rid : _) (p : _) (off : _) (size : _), accepts s x rid 0x3102 5 .u8 1 = true ∧ s.dev.fabricMode = true ∧ s.dev.portOfBus ((x.loc Obj.fabricCfgreqRid).toNum / 256) = some p ∧ (x.loc Obj.fabricCfgreqOffset).toNum = off ∧ (x.loc Obj.fabricCfgreqSize).toNum = size ∧ off % size = 0) ∧
    (∃ (s : State) (x : Session) (rid : _) (p : _) (off : _) (size : _), accepts s x rid 0x3102 5 .u8 2 = true ∧ s.dev.fabricMode = true ∧ s.dev.portOfBus ((x.loc Obj.fabricCfgreqRid).toNum / 256) = some p ∧ (x.loc Obj.fabricCfgreqOffset).toNum = off ∧ (x.loc Obj.fabricCfgreqSize).toNum = size ∧ off % size = 0) ∧
    (∃ (s : State) (x : Session) (rid : _) (i : Fin 16), accepts s x rid (0x3400 + i) 10 .u8 1 = true ∧ s.dev.linkSt i = LinkSt.active ∧ (¬ (s.dev.num Obj.pairState = PairSt.formed ∧ s.dev.activeLinks.length = 1))) ∧
    (∃ (s : State) (x : Session) (rid : _) (i : Fin 16), accepts s x rid (0x3400 + i) 10 .u8 0x81 = true ∧ s.dev.linkSt i = LinkSt.active) ∧
    (∃ (s : State) (x : Session) (rid : _) (i : Fin 16), accepts s x rid (0x3400 + i) 10 .u8 2 = true ∧ (s.dev.link i).evac = none ∧ s.dev.linkSt i = LinkSt.held ∧ s.dev.num (Obj.bflEvacTarget i) < 16 ∧ s.dev.linkSt (s.dev.num (Obj.bflEvacTarget i)) = LinkSt.active ∧ s.dev.num (Obj.bflEvacTarget i) ≠ i ∧ s.dev.num Obj.pairState = PairSt.formed) ∧
    (∃ (s : State) (x : Session) (rid : _) (n : Fin 4096), accepts s x rid (0x6000 + n) 12 .u8 1 = true ∧ s.dev.num (Obj.rmeSliceState n) = SliceSt.active) ∧
    (∃ (s : State) (x : Session) (rid : _) (n : Fin 4096), accepts s x rid (0x6000 + n) 12 .u8 2 = true ∧ s.dev.num (Obj.rmeSliceState n) = SliceSt.quiesced ∧ s.dev.flag (Obj.rmeSliceLostHost n) = false) ∧
    (∃ (s : State) (x : Session) (rid : _) (n : Fin 4096), accepts s x rid (0x6000 + n) 12 .u8 3 = true ∧ s.dev.num (Obj.rmeSliceState n) = SliceSt.quiesced) :=
  ⟨⟨on ses [(Obj.portEnable 127, 1)], ses, 1, 127, by decide⟩,
   ⟨on ses [(Obj.portEnable 127, 1)], ses, 1, 127, by decide⟩,
   ⟨on ses [(Obj.portEnable 127, 1), (Obj.pstLtssm 127, 4)], ses, 1, 127, by decide⟩,
   ⟨on ses [(Obj.portEnable 127, 1)], ses, 1, 127, by decide⟩,
   ⟨on { ses with locals := [(Obj.fabricCfgreqRid, .num 0x1000), (Obj.fabricCfgreqOffset, .num 4092), (Obj.fabricCfgreqSize, .num 4)] } [(Obj.fabricModeActive, 1), (Obj.portEnable 8, 1), (Obj.fportBusBase 8, 16), (Obj.fportBusCount 8, 1)], { ses with locals := [(Obj.fabricCfgreqRid, .num 0x1000), (Obj.fabricCfgreqOffset, .num 4092), (Obj.fabricCfgreqSize, .num 4)] }, 1, 8, 4092, 4, by decide⟩,
   ⟨on { ses with locals := [(Obj.fabricCfgreqRid, .num 0x1000), (Obj.fabricCfgreqOffset, .num 4092), (Obj.fabricCfgreqSize, .num 4)] } [(Obj.fabricModeActive, 1), (Obj.portEnable 8, 1), (Obj.fportBusBase 8, 16), (Obj.fportBusCount 8, 1)], { ses with locals := [(Obj.fabricCfgreqRid, .num 0x1000), (Obj.fabricCfgreqOffset, .num 4092), (Obj.fabricCfgreqSize, .num 4)] }, 1, 8, 4092, 4, by decide⟩,
   ⟨on ses [(Obj.bflState 15, 2), (Obj.fabricModeActive, 1)], ses, 1, 15, by decide⟩,
   ⟨on ses [(Obj.bflState 15, 2), (Obj.fabricModeActive, 1)], ses, 1, 15, by decide⟩,
   ⟨on ses [(Obj.bflState 15, 4), (Obj.bflState 0, 2), (Obj.bflEvacTarget 15, 0), (Obj.pairState, 2), (Obj.fabricModeActive, 1)], ses, 1, 15, by decide⟩,
   ⟨on ses [(Obj.rmeSliceState 4095, 1), (Obj.fabricModeActive, 1)], ses, 1, 4095, by decide⟩,
   ⟨on ses [(Obj.rmeSliceState 4095, 3), (Obj.fabricModeActive, 1)], ses, 1, 4095, by decide⟩,
   ⟨on ses [(Obj.rmeSliceState 4095, 3), (Obj.fabricModeActive, 1)], ses, 1, 4095, by decide⟩⟩

theorem witness_CommitRequests :
    (∃ (s : State) (x : Session) (rid : _), accepts s x rid 0x1F00 1 .u8 1 = true ∧ s.dev.commit = none ∧ s.dev.commitQueue = [] ∧ s.dev.xspiHeld = false ∧ s.dev.reachesHolder x.half = true ∧ (begun s x rid [(0x1F00, 1, .u8, 1)]).dev.commitChecks s.commitLock (begunSes s x rid [(0x1F00, 1, .u8, 1)]) = none ∧ s.dev.pairRefusesSet x.staged = none) ∧
    (∃ (s : State) (x : Session) (rid : _), accepts s x rid 0x1F00 1 .u8 2 = true) ∧
    (∃ (s : State) (x : Session) (rid : _), accepts s x rid 0x1F00 1 .u8 3 = true ∧ (begun s x rid [(0x1F00, 1, .u8, 3)]).dev.commitChecks s.commitLock (begunSes s x rid [(0x1F00, 1, .u8, 3)]) = none) ∧
    (∃ (s : State) (x : Session) (rid : _) (v : _), accepts s x rid 0x1F00 7 .u8 v = true) :=
  ⟨⟨on ses, ses, 1, by decide +kernel⟩,
   ⟨on ses, ses, 1, by decide⟩,
   ⟨on ses, ses, 1, by decide +kernel⟩,
   ⟨on ses, ses, 1, 1, by decide⟩⟩

theorem witness_CommitEvents :
    (∃ (s : State) (w : _) (rest : _) (x : Session), s.dev.commit = none ∧ s.dev.commitQueue = w :: rest ∧ ({ s.dev with commitQueue := rest } : Dev).ses w.sid = some x ∧ s.dev.xspiHeld = false ∧ s.dev.reachesHolder x.half = true ∧ ({ s.dev with commitQueue := rest } : Dev).commitChecks s.commitLock x = none ∧ s.dev.pairRefusesSet x.staged = none) ∧
    (∃ (s : State) (n : Nat) (w : _), s.dev.commitQueue.find? (fun w => w.sid == n) = some w) ∧
    (∃ (s : State) (c : _) (p : _), s.dev.commit = some c ∧ c.applyAt = none ∧ c.waitFor.contains p = true ∧ (¬ (p = .paDie ∧ s.dev.rakeOk c.half = false)) ∧ (c.waitFor.filter (fun y => y != p)) ≠ []) ∧
    (∃ (s : State) (c : _) (p : _) (found : _), s.dev.commit = some c ∧ c.applyAt = none ∧ c.waitFor.contains p = true ∧ (¬ (p = .paDie ∧ s.dev.rakeOk c.half = false)) ∧ c.waitFor.filter (fun y => y != p) = [] ∧ s.dev.headerCheck (confirmed c p found) = none) ∧
    (∃ (s : State) (c : _) (p : _), s.dev.commit = some c ∧ c.applyAt = none ∧ c.waitFor.contains p = true) ∧
    (∃ (s : State) (c : _) (t : _), s.dev.applyTwin.commit = some c ∧ c.applyAt = some t) ∧
    (∃ (s : State) (g : _), s.dev.storeWrite = some g) :=
  ⟨⟨st { up with commitQueue := [⟨1, 0⟩], sessions := [ses] }, ⟨1, 0⟩, [], ses, by decide +kernel⟩,
   ⟨st { up with commitQueue := [⟨1, 0⟩] }, 1, ⟨1, 0⟩, by decide⟩,
   ⟨st { up with commit := some ⟨1, .west, [], [.paDie, .west], none, 0, []⟩ }, ⟨1, .west, [], [.paDie, .west], none, 0, []⟩, .paDie, by decide⟩,
   ⟨st { up with commit := some ⟨1, .west, [], [.paDie], none, 0, []⟩ }, ⟨1, .west, [], [.paDie], none, 0, []⟩, .paDie, [], by decide⟩,
   ⟨st { up with commit := some ⟨1, .west, [], [.paDie], none, 0, []⟩ }, ⟨1, .west, [], [.paDie], none, 0, []⟩, .paDie, by decide⟩,
   ⟨st { up with commit := some ⟨1, .west, [], [], some 8, 0, []⟩ }, ⟨1, .west, [], [], some 8, 0, []⟩, 8, by decide⟩,
   ⟨st { up with storeWrite := some 2 }, 2, by decide⟩⟩

theorem witness_ShaperAndRecordRequests :
    (∃ (s : State) (x : Session) (rid : _) (h : Half) (i : Fin 8192) (n : Nat), acceptsEntry s x rid (0x4200 + h.code) i 3 .u32 n = true ∧ s.dev.shaperUser h i ≠ 3) ∧
    (∃ (s : State) (x : Session) (rid : _) (h : Half) (i : Fin 8192) (n : Nat), acceptsEntry s x rid (0x4200 + h.code) i 4 .u32 n = true ∧ s.dev.shaperUser h i ≠ 3) ∧
    (∃ (s : State) (x : Session) (rid : _) (n : Nat), accepts s x rid 0xA000 6 .u32 n = true) ∧
    (∃ (s : State) (x : Session) (rid : _), accepts s x rid 0xA000 7 .u8 1 = true) ∧
    (∃ (s : State) (x : Session) (rid : _), accepts s x rid 0x8000 5 .u8 1 = true) ∧
    (∃ (s : State) (x : Session) (rid : _) (v : _), acceptsEntry s x rid 0x8010 v 8 .u8 1 = true) ∧
    (∃ (s : State) (x : Session) (rid : _), accepts s x rid 0x8100 1 .bool 1 = true ∧ s.dev.flag Obj.smpEnable = false) ∧
    (∃ (s : State) (x : Session) (rid : _), accepts s x rid 0x8100 1 .bool 0 = true) ∧
    (∃ (s : State) (x : Session) (rid : _), accepts s x rid 0x5100 1 .bool 1 = true) ∧
    (∃ (s : State) (x : Session) (rid : _), accepts s x rid 0x5100 1 .bool 0 = true) ∧
    (∃ (s : State) (x : Session) (rid : _), accepts s x rid 0x5100 7 .u8 1 = true) :=
  ⟨⟨on ses, ses, 1, .east, 8191, 1000, by decide⟩,
   ⟨on ses, ses, 1, .east, 8191, 65536, by decide⟩,
   ⟨on ses, ses, 1, 0, by decide⟩,
   ⟨on ses, ses, 1, by decide⟩,
   ⟨on ses, ses, 1, by decide⟩,
   ⟨on ses, ses, 1, 0, by decide⟩,
   ⟨on ses, ses, 1, by decide⟩,
   ⟨on ses, ses, 1, by decide⟩,
   ⟨on ses, ses, 1, by decide⟩,
   ⟨on ses, ses, 1, by decide⟩,
   ⟨on ses, ses, 1, by decide⟩⟩

theorem witness_SlotSidebandAndPowerRequests :
    (∃ (s : State) (x : Session) (rid : _) (k : Fin 32) (v : _), accepts s x rid (0x7400 + k) 2 .u8 v = true ∧ (v ≠ 2 ∨ (s.dev.fabricMode = false ∧ (s.dev.portOfSlot k).isSome = true))) ∧
    (∃ (s : State) (x : Session) (rid : _) (k : Fin 32), accepts s x rid (0x7400 + k) 0x15 .u8 1 = true) ∧
    (∃ (s : State) (x : Session) (rid : _) (k : Fin 32), accepts s x rid (0x7400 + k) 0x15 .u8 2 = true) ∧
    (∃ (s : State) (x : Session) (rid : _) (w : Fin 256) (v : _) (e : _), acceptsEntry s x rid 0x7521 w 3 .u32 v = true ∧ s.dev.writeEntry w = some e ∧ s.dev.busUp (s.dev.mapE e).slot = true ∧ (s.dev.sbus (s.dev.mapE e).slot).queue.length < 4) ∧
    (∃ (s : State) (x : Session) (rid : _) (n : Nat), accepts s x rid 0x7522 7 .u8 1 = true ∧ (x.loc Obj.sbfarSlot).toNum = n ∧ s.dev.busUp n = true ∧ (s.dev.sbus n).queue.length < 4) ∧
    (∃ (s : State) (x : Session) (rid : _) (n : Nat), accepts s x rid 0x7522 7 .u8 2 = true ∧ (x.loc Obj.sbfarSlot).toNum = n ∧ s.dev.busUp n = true ∧ (s.dev.sbus n).queue.length < 4) ∧
    (∃ (s : State) (x : Session) (rid : _), accepts s x rid 0x7524 3 .u8 1 = true) ∧
    (∃ (s : State) (x : Session) (rid : _), accepts s x rid 0x9000 2 .u8 0 = true ∧ (s.dev.num Obj.pwrState = PwrSt.run ∨ s.dev.num Obj.pwrState = PwrSt.idle)) ∧
    (∃ (s : State) (x : Session) (rid : _), accepts s x rid 0x9000 2 .u8 0 = true ∧ s.dev.num Obj.pwrState = PwrSt.sleep) ∧
    (∃ (s : State) (x : Session) (rid : _), accepts s x rid 0x9000 2 .u8 1 = true ∧ (s.dev.num Obj.pwrState = PwrSt.run ∨ s.dev.num Obj.pwrState = PwrSt.idle)) ∧
    (∃ (s : State) (x : Session) (rid : _), accepts s x rid 0x9000 2 .u8 2 = true ∧ (s.dev.num Obj.pwrState = PwrSt.run ∨ s.dev.num Obj.pwrState = PwrSt.idle) ∧ s.dev.sleepCheck 2 = Status.ok) ∧
    (∃ (s : State) (x : Session) (rid : _), accepts s x rid 0x9000 2 .u8 3 = true ∧ (s.dev.num Obj.pwrState = PwrSt.run ∨ s.dev.num Obj.pwrState = PwrSt.idle) ∧ s.dev.sleepCheck 3 = Status.ok) ∧
    (∃ (s : State) (x : Session) (rid : _), accepts s x rid 0x9000 2 .u8 4 = true ∧ (s.dev.num Obj.pwrState = PwrSt.run ∨ s.dev.num Obj.pwrState = PwrSt.idle) ∧ s.dev.sleepCheck 4 = Status.ok) ∧
    (∃ (s : State) (x : Session) (rid : _), accepts s x rid 0x9100 0x13 .u8 1 = true ∧ s.dev.flag Obj.perEnable = true) ∧
    (∃ (s : State) (x : Session) (rid : _), accepts s x rid 0x9100 0x13 .u8 2 = true) ∧
    (∃ (s : State) (x : Session) (rid : _), accepts s x rid 0x9100 0x13 .u8 3 = true ∧ s.dev.seamUp = true ∧ s.dev.seam.retune = none) :=
  ⟨⟨on ses, ses, 1, 31, 1, by decide⟩,
   ⟨on ses, ses, 1, 31, by decide⟩,
   ⟨on ses, ses, 1, 31, by decide⟩,
   ⟨st { up [(Obj.sbmapSlot 7, 31), (Obj.sbmapFlags 7, 1), (Obj.sbmapDst 7, 255 * 65536)] with sessions := [ses], slots := [(31, { present := true, aux := true })], sb := [(31, { busUp := true })] }, ses, 1, 255, 5, 7, by decide⟩,
   ⟨st { up with sessions := [{ ses with locals := [(Obj.sbfarSlot, .num 31)] }], slots := [(31, { present := true, aux := true })], sb := [(31, { busUp := true })] }, { ses with locals := [(Obj.sbfarSlot, .num 31)] }, 1, 31, by decide⟩,
   ⟨st { up with sessions := [{ ses with locals := [(Obj.sbfarSlot, .num 31)] }], slots := [(31, { present := true, aux := true })], sb := [(31, { busUp := true })] }, { ses with locals := [(Obj.sbfarSlot, .num 31)] }, 1, 31, by decide⟩,
   ⟨on ses, ses, 1, by decide⟩,
   ⟨on ses, ses, 1, by decide⟩,
   ⟨on ses [(Obj.pwrState, 2)], ses, 1, by decide⟩,
   ⟨on ses, ses, 1, by decide⟩,
   ⟨on ses, ses, 1, by decide⟩,
   ⟨on ses, ses, 1, by decide⟩,
   ⟨on ses, ses, 1, by decide⟩,
   ⟨on ses, ses, 1, by decide⟩,
   ⟨on ses, ses, 1, by decide⟩,
   ⟨on ses, ses, 1, by decide⟩⟩

theorem witness_TestRequests :
    (∃ (s : State) (x : Session) (rid : _) (l : Fin 256) (c : _), acceptsEntry s x rid 0xC010 l 3 .u8 c = true ∧ (c = 0 ∨ s.dev.testMayStart l = true) ∧ (c ≠ 3 ∨ s.dev.flag (Obj.testLaneGen l) = false)) ∧
    (∃ (s : State) (x : Session) (rid : _) (l : Fin 256) (c : _), acceptsEntry s x rid 0xC010 l 5 .u8 c = true ∧ (c = 0 ∨ (s.dev.testMayStart l = true ∧ s.dev.num (Obj.testLaneLoopback l) ≠ 3)) ∧ (needsPam4 c = false ∨ 6 ≤ s.dev.num (Obj.testLaneRate l))) ∧
    (∃ (s : State) (x : Session) (rid : _) (l : Fin 256) (c : _), acceptsEntry s x rid 0xC010 l 7 .u8 c = true) ∧
    (∃ (s : State) (x : Session) (rid : _) (l : Fin 256) (c : _), acceptsEntry s x rid 0xC010 l 9 .u8 c = true ∧ (c = 0 ∨ s.dev.testMayStart l = true) ∧ (needsPam4 c = false ∨ 6 ≤ s.dev.num (Obj.testLaneRate l))) ∧
    (∃ (s : State) (x : Session) (rid : _) (l : Fin 256), acceptsEntry s x rid 0xC010 l 8 .u32 (2 ^ 30) = true ∧ s.dev.flag (Obj.testLaneGen l) = true) ∧
    (∃ (s : State) (x : Session) (rid : _) (l : Fin 256) (k : Nat), k < 64 ∧ acceptsEntry s x rid 0xC010 l 8 .u32 (2 * 2 ^ 30 + k * 2 ^ 24) = true ∧ s.dev.flag (Obj.testLaneGen l) = true) ∧
    (∃ (s : State) (x : Session) (rid : _) (l : Fin 256) (n : Nat), n < 256 ∧ acceptsEntry s x rid 0xC010 l 8 .u32 (3 * 2 ^ 30 + n * 2 ^ 16) = true ∧ s.dev.flag (Obj.testLaneGen l) = true) ∧
    (∃ (s : State) (x : Session) (rid : _), accepts s x rid 0xC000 1 .u8 0 = true) ∧
    (∃ (s : State) (x : Session) (rid : _), accepts s x rid 0xC000 1 .u8 1 = true) ∧
    (∃ (s : State) (x : Session) (rid : _), accepts s x rid 0xC000 1 .u8 2 = true ∧ s.commitLock = false) ∧
    (∃ (s : State) (x : Session) (rid : _) (e : Fin 32), acceptsEntry s x rid 0xC020 e 9 .bool 1 = true) ∧
    (∃ (s : State) (x : Session) (rid : _) (e : Fin 32), acceptsEntry s x rid 0xC020 e 9 .bool 0 = true) :=
  ⟨⟨on ses [(Obj.testUnlockLevel, 2)], ses, 1, 255, 3, by decide⟩,
   ⟨on ses [(Obj.testUnlockLevel, 2)], ses, 1, 255, 1, by decide⟩,
   ⟨on ses [(Obj.testUnlockLevel, 2)], ses, 1, 255, 6, by decide⟩,
   ⟨on ses [(Obj.testUnlockLevel, 2)], ses, 1, 255, 1, by decide⟩,
   ⟨on ses [(Obj.testUnlockLevel, 2), (Obj.testLaneGen 255, 1)], ses, 1, 255, by decide⟩,
   ⟨on ses [(Obj.testUnlockLevel, 2), (Obj.testLaneGen 255, 1)], ses, 1, 255, 40, by decide⟩,
   ⟨on ses [(Obj.testUnlockLevel, 2), (Obj.testLaneGen 255, 1)], ses, 1, 255, 255, by decide⟩,
   ⟨on ses, ses, 1, by decide⟩,
   ⟨on ses, ses, 1, by decide⟩,
   ⟨on ses, ses, 1, by decide⟩,
   ⟨on ses [(Obj.testUnlockLevel, 2)], ses, 1, 31, by decide⟩,
   ⟨on ses [(Obj.testUnlockLevel, 2)], ses, 1, 31, by decide⟩⟩

theorem witness_LaneEvents :
    (∃ (s : State) (l : Fin 256), s.dev.laneLevel l .rx = 0 ∧ s.dev.laneBit l LaneBit.los = false ∧ s.dev.laneBit l LaneBit.lol = false) ∧
    (∃ (s : State) (l : Fin 256) (a : _), s.dev.laneBit l LaneBit.los = false ∧ s.dev.losExpected l a = false) ∧
    (∃ (s : State) (l : Fin 256) (a : _), s.dev.laneBit l LaneBit.los = false ∧ s.dev.losExpected l a = true) ∧
    (∃ (s : State) (l : Fin 256) (p : _), s.dev.portOfLane l = some p ∧ s.dev.laneMaySleep p l = true) ∧
    (∃ (s : State) (l : Fin 256) (p : _), s.dev.portOfLane l = some p ∧ s.dev.laneMaySleep p l = true) ∧
    (∃ (s : State) (l : Fin 256), s.dev.num (Obj.testLaneChkStatus l) = 1) ∧
    (∃ (s : State) (l : Fin 256), s.dev.num (Obj.testLaneChkStatus l) = 2) :=
  ⟨⟨st rel, 255, by decide⟩,
   ⟨st { rel [(Obj.pstLtssm 120, 3)] with pins := {} }, 255, false, by decide⟩,
   ⟨st rel, 255, true, by decide⟩,
   ⟨sleeper, 240, 120, by decide⟩,
   ⟨sleeper, 240, 120, by decide⟩,
   ⟨st (rel [(Obj.testLaneChkStatus 255, 1)]), 255, by decide⟩,
   ⟨st (rel [(Obj.testLaneChkStatus 255, 2)]), 255, by decide⟩⟩

theorem witness_CalibrationEvents :
    (∃ (s : State) (l : Fin 256), s.dev.rxActive l = true ∧ s.dev.num (Obj.laneCalStatus l) ≠ Cal.pending ∧ s.dev.num (Obj.laneCalStatus l) ≠ Cal.running) ∧
    (∃ (s : State) (l : Fin 256), (s.dev.num (Obj.laneCalStatus l) = Cal.pending ∨ (s.dev.lane l).run = 1) ∧ s.dev.rxActive l = true ∧ s.dev.samplerForPass l = true) ∧
    (∃ (s : State) (l : Fin 256), (s.dev.lane l).run = 1 ∧ (s.dev.lane l).samplerUser = 3 ∧ s.dev.rxActive l = true) ∧
    (∃ (s : State) (l : Fin 256), (s.dev.lane l).run = 1 ∧ (s.dev.lane l).samplerUser = 3 ∧ s.dev.rxActive l = true) ∧
    (∃ (s : State) (l : Fin 256), (s.dev.lane l).run = 1 ∧ (s.dev.lane l).samplerUser = 3) ∧
    (∃ (s : State) (l : Fin 256), s.dev.rxActive l = true ∧ (s.dev.lane l).samplerUser = 0 ∧ s.dev.num (Obj.laneCalStatus l) ≠ Cal.pending ∧ s.dev.flag Obj.perEnable = true) ∧
    (∃ (s : State) (l : Fin 256) (n : Nat), s.dev.rxActive l = true ∧ n ≤ 32) ∧
    (∃ (s : State) (l : Fin 256) (n : Nat), s.dev.rxActive l = true ∧ n ≤ 64) ∧
    (∃ (s : State) (l : Fin 256), 2 ≤ (s.dev.lane l).run ∧ (s.dev.lane l).forced = false) ∧
    (∃ (s : State) (l : Fin 256), 2 ≤ (s.dev.lane l).run ∧ (s.dev.lane l).forced = true) :=
  ⟨⟨st rel, 255, by decide⟩,
   ⟨st { rel [(Obj.laneCalStatus 255, 1)] with lanes := [(255, { run := 1 })] }, 255, by decide⟩,
   ⟨st { rel with lanes := [(255, { run := 1, samplerUser := 3 })] }, 255, by decide⟩,
   ⟨st { rel with lanes := [(255, { run := 1, samplerUser := 3 })] }, 255, by decide⟩,
   ⟨st { rel with lanes := [(255, { run := 1, samplerUser := 3 })] }, 255, by decide⟩,
   ⟨st rel, 255, by decide⟩,
   ⟨st rel, 255, 32, by decide⟩,
   ⟨st rel, 255, 64, by decide⟩,
   ⟨st { rel with lanes := [(255, { run := 2 })] }, 255, by decide⟩,
   ⟨st { rel with lanes := [(255, { run := 3, forced := true })] }, 255, by decide⟩⟩

theorem witness_CalibrationOutcome : ∃ (o : CalOutcome), o ≠ CalOutcome.pass :=
  ⟨.fail 1, by decide⟩

theorem witness_SeamEvents :
    (∃ (s : State) (x : SeamDir) (m : Fin 8), s.dev.seam.lost = false ∧ (s.dev.seamMod x m).st = .active) ∧
    (∃ (s : State) (x : SeamDir) (m : Fin 8), s.dev.seam.lost = false ∧ (s.dev.seamMod x m).st = .retry ∧ (s.dev.seamMod x m).fails ≠ 3) ∧
    (∃ (s : State) (x : SeamDir) (m : Fin 8), s.dev.seam.lost = false ∧ (s.dev.seamMod x m).st = .retry ∧ (s.dev.seamMod x m).fails = 3) ∧
    (∃ (s : State) (x : SeamDir) (m : Fin 8), (s.dev.seamMod x m).st = .retry) ∧
    (∃ (s : State) (x : SeamDir) (m : Fin 8), s.dev.seam.lost = false ∧ (s.dev.seamMod x m).st = .retrain) ∧
    (∃ (s : State) (x : SeamDir) (m : Fin 8), s.dev.seam.lost = false ∧ (s.dev.seamMod x m).st = .retrain) ∧
    (∃ (s : State) (h : Half), s.dev.controlUp (SeamDir.ofSender h) = true) ∧
    (∃ (s : State), s.dev.seamUp = true) ∧
    (∃ (s : State), s.dev.controlUp .we = true ∧ s.dev.controlUp .ew = true) ∧
    (∃ (s : State) (st : Fin 16) (c : Fin 5) (m : Nat) (f : SeamFrame) (a : Account), s.dev.seamOpen = true ∧ s.dev.stationModule st = some m ∧ s.dev.seamHead st c = some f ∧ (s.dev.seamMod (SeamDir.ofSender (Half.ofStation st)) m).st = .active ∧ (s.dev.seamMod (SeamDir.ofSender (Half.ofStation st)) m).credit c = true ∧ s.dev.seamTurn m st = true ∧ s.dev.uncreditedAccount (Half.ofStation st).other f.q.outPort f.q.qcls f.q.cells = some a) ∧
    (∃ (s : State) (st : Fin 16) (q : Nat) (fr : Frame) (f : SeamFrame) (m : Nat), s.dev.seamOpen = true ∧ q < 65536 ∧ tabGet s.dev.seam.rxSeq st.val 0 = q ∧ (s.dev.buf (Half.ofStation st)).seamQueue.find? (fun f => f.station == st.val && f.sent.any (fun x => x.1 == q) && f.q.frame == fr) = some f ∧ f.sent = some (q, m)) ∧
    (∃ (s : State) (st : Fin 16) (q : Nat), s.dev.seamOpen = true ∧ q < 65536 ∧ tabGet s.dev.seam.rxSeq st.val 0 ≠ q ∧ (tabGet s.dev.seam.rxSeq st.val 0 + 65536 - q) % 65536 ≤ 32768) ∧
    (∃ (s : State) (h : Half), s.dev.boot.released = true ∧ s.dev.halted h = false ∧ s.dev.num Obj.errPolHalfFatalAction = 0) :=
  ⟨⟨st { up with seam := { we := [(7, { st := .active })] } }, .we, 7, by decide⟩,
   ⟨st { up with seam := { we := [(7, { st := .retry, fails := 2 })] } }, .we, 7, by decide⟩,
   ⟨st { up with seam := { we := [(7, { st := .retry, fails := 3 })] } }, .we, 7, by decide⟩,
   ⟨st { up with seam := { we := [(7, { st := .retry, fails := 2 })] } }, .we, 7, by decide⟩,
   ⟨st { up with seam := { ew := [(7, { st := .retrain })] } }, .ew, 7, by decide⟩,
   ⟨st { up with seam := { ew := [(7, { st := .retrain })] } }, .ew, 7, by decide⟩,
   ⟨seamRun, .west, by decide⟩,
   ⟨st up, by decide⟩,
   ⟨seamRun, by decide⟩,
   ⟨st { seamRun.dev with bufW := { seamQueue := [⟨0, 0, qf, none, .pool, false⟩] } }, 0, 0, 0, ⟨0, 0, qf, none, .pool, false⟩, .pool, by decide⟩,
   ⟨st { up with seam := { rxSeq := [(15, 65535)] }, bufE := { seamQueue := [⟨15, 0, qf, some (65535, 0), .pool, false⟩] } }, 15, 65535, qf.frame, ⟨15, 0, qf, some (65535, 0), .pool, false⟩, 0, by decide⟩,
   ⟨st { up with seam := { rxSeq := [(15, 0)] } }, 15, 65535, by decide⟩,
   ⟨st rel, .west, by decide⟩⟩

theorem witness_LinkEvents :
    (∃ (s : State) (p : Fin 128) (f : _), s.dev.num (Obj.pstLtssm p) ≠ Ltssm.hotReset ∧ s.dev.mayTrain p = true ∧ s.dev.linkFits p f = true) ∧
    (∃ (s : State) (p : Fin 128), s.dev.num (Obj.pstLtssm p) = Ltssm.hotReset) ∧
    (∃ (s : State) (p : Fin 128) (f : _) (i : Nat), s.dev.num (Obj.pstLtssm p) ≠ Ltssm.hotReset ∧ s.dev.mayTrain p = true ∧ s.dev.linkFits p f = false ∧ s.dev.num (Obj.portRole p) = 2 ∧ s.dev.linkOfPort p = some i ∧ f.width < 4 ∧ s.dev.linkSt i = LinkSt.training) ∧
    (∃ (s : State) (p : Fin 128), s.dev.dlUp p = true) ∧
    (∃ (s : State) (p : Fin 128), s.dev.dlUp p = true) ∧
    (∃ (s : State) (p : Fin 128), s.dev.num (Obj.pstLtssm p) = Ltssm.l0) ∧
    (∃ (s : State) (p : Fin 128), s.dev.num (Obj.pstLtssm p) = Ltssm.l0) ∧
    (∃ (s : State) (p : Fin 128), s.dev.num (Obj.pstLtssm p) = Ltssm.recovery ∧ (s.dev.port p).afterRecovery = 0) ∧
    (∃ (s : State) (p : Fin 128), s.dev.num (Obj.pstLtssm p) = Ltssm.recovery ∧ (s.dev.port p).afterRecovery = 0) ∧
    (∃ (s : State) (p : Fin 128), s.dev.num (Obj.pstLtssm p) = Ltssm.recovery ∧ (s.dev.port p).afterRecovery = 0) ∧
    (∃ (s : State) (p : Fin 128), s.dev.num (Obj.pstLtssm p) = Ltssm.recovery ∧ (s.dev.port p).afterRecovery = 2) ∧
    (∃ (s : State) (p : Fin 128), s.dev.num (Obj.pstLtssm p) = Ltssm.recovery ∧ (s.dev.port p).afterRecovery = 3) ∧
    (∃ (s : State) (p : Fin 128) (r : Fin 8), s.dev.dlUp p = true ∧ s.dev.linkRateFits p (s.dev.num (Obj.pstProtocol p)) r (s.dev.flag (Obj.pstFlit p)) = true) ∧
    (∃ (s : State) (p : Fin 128) (r : Fin 8), s.dev.num (Obj.portRole p) = 0 ∧ s.dev.num (Obj.pstLtssm p) = Ltssm.l0 ∧ s.dev.dlUp p = true ∧ s.dev.linkRateFits p (s.dev.num (Obj.pstProtocol p)) r (s.dev.flag (Obj.pstFlit p)) = true) ∧
    (∃ (s : State) (p : Fin 128) (w : _), s.dev.num (Obj.pstLtssm p) = Ltssm.l0 ∧ s.dev.dlUp p = true ∧ s.dev.flag (Obj.pstFlit p) = true ∧ bitOf (s.dev.linkField p (Obj.portLpm p)) 0 = true ∧ s.dev.num (Obj.portRole p) ≠ 2 ∧ [1, 2, 4, 8, 16].contains w = true ∧ w ≤ s.dev.num (Obj.pstWidth p)) ∧
    (∃ (s : State) (p : Fin 128) (w : _), s.dev.num (Obj.pstLtssm p) = Ltssm.l0 ∧ s.dev.dlUp p = true ∧ s.dev.flag (Obj.pstFlit p) = true ∧ bitOf (s.dev.linkField p (Obj.portLpm p)) 0 = true ∧ s.dev.num (Obj.portRole p) ≠ 2 ∧ [1, 2, 4, 8, 16].contains w = true ∧ w ≤ s.dev.num (Obj.pstWidth p) ∧ (s.dev.port p).l0pRetry = none) ∧
    (∃ (s : State) (p : Fin 128) (w : _) (u : _), s.dev.num (Obj.pstLtssm p) = Ltssm.l0 ∧ s.dev.dlUp p = true ∧ s.dev.flag (Obj.pstFlit p) = true ∧ bitOf (s.dev.linkField p (Obj.portLpm p)) 0 = true ∧ s.dev.num (Obj.portRole p) = 1 ∧ [1, 2, 4, 8, 16].contains w = true ∧ w ≤ s.dev.num (Obj.pstWidth p) ∧ (s.dev.port p).l0pRetry = none ∧ [1, 2, 4, 8, 16].contains u = true ∧ u ≤ s.dev.num (Obj.pstWidth p)) :=
  ⟨⟨st (up (usedPort 120 0 ++ [(Obj.vsState 0, 2)])), 120, { width := 16, rate := 5, flit := false, protocol := 0 }, by decide⟩,
   ⟨st (up [(Obj.pstLtssm 120, 7)]), 120, by decide⟩,
   ⟨narrow, 120, { width := 2, rate := 6, flit := true, protocol := 2 }, 15, by decide⟩,
   ⟨st (up (livePort 120 0)), 120, by decide⟩,
   ⟨st (up (livePort 120 0)), 120, by decide⟩,
   ⟨st (up (livePort 120 0)), 120, by decide⟩,
   ⟨st (up (livePort 120 0)), 120, by decide⟩,
   ⟨st (up [(Obj.pstLtssm 120, 4)]), 120, by decide⟩,
   ⟨st (up [(Obj.pstLtssm 120, 4)]), 120, by decide⟩,
   ⟨st (up [(Obj.pstLtssm 120, 4)]), 120, by decide⟩,
   ⟨st { up [(Obj.pstLtssm 120, 4)] with ports := [(120, { afterRecovery := 2 })] }, 120, by decide⟩,
   ⟨st { up [(Obj.pstLtssm 120, 4)] with ports := [(120, { afterRecovery := 3 })] }, 120, by decide⟩,
   ⟨st (up (livePort 120 0)), 120, 1, by decide⟩,
   ⟨st (up (livePort 120 0)), 120, 1, by decide⟩,
   ⟨st (up ([(Obj.pstFlit 120, 1), (Obj.portLpm 120, 1), (Obj.portRole 120, 1)] ++ livePort 120 0)), 120, 16, by decide⟩,
   ⟨st (up ([(Obj.pstFlit 120, 1), (Obj.portLpm 120, 1), (Obj.portRole 120, 1)] ++ livePort 120 0)), 120, 16, by decide⟩,
   ⟨st (up ([(Obj.pstFlit 120, 1), (Obj.portLpm 120, 1), (Obj.portRole 120, 1)] ++ livePort 120 0)), 120, 16, 1, by decide⟩⟩

theorem witness_NodeAndStationEvents :
    (∃ (s : State) (v : Fin 64), s.dev.nodeState v = 2) ∧
    (∃ (s : State) (v : Fin 64), s.dev.nodeState v = 2) ∧
    (∃ (s : State) (v : Fin 64), s.dev.nodeState v = 3 ∧ (s.dev.node v).resetBy = 2) ∧
    (∃ (s : State) (v : Fin 64), s.dev.nodeState v = 3 ∧ (s.dev.node v).resetBy = 3 ∧ (s.dev.upstreamOf v).all s.dev.perstHigh = true) ∧
    (∃ (s : State) (f : _), s.dev.funcExists f = true) ∧
    (∃ (s : State) (p : Fin 128) (v : _), s.dev.num (Obj.portPartition p) = v ∧ s.dev.dlUp p = true ∧ s.dev.num (Obj.portRole p) = 0 ∧ s.dev.portOf p v = true ∧ bitOf (s.dev.cfgReg (usp v) .ptmControl) 0 = true ∧ s.dev.ptmValid v = true) ∧
    (∃ (s : State) (v : Fin 64), s.dev.nodeEnabled v = true ∧ s.dev.nodeState v = 2 ∧ bitOf (s.dev.cfgReg (usp v) .ptmControl) 0 = true) ∧
    (∃ (s : State), field (strapOf s.dev.objs) 3 2 = 1) ∧
    (∃ (s : State), field (strapOf s.dev.objs) 3 2 = 1) ∧
    (∃ (s : State) (p : Fin 128) (n : Nat), s.dev.dlUp p = true ∧ (s.dev.port p).isMld = true ∧ n ≤ 16 ∧ s.dev.fabricMode = false ∧ (s.dev.ldUsed.filter (fun e => s.dev.num (Obj.cxlLdPort e) == p.val)) = [] ∧ s.dev.ldUsed.length + n ≤ 256) ∧
    (∃ (s : State) (p : Fin 128) (n : Nat), s.dev.dlUp p = true ∧ (s.dev.port p).isMld = true ∧ n ≤ 16 ∧ s.dev.fabricMode = false ∧ (s.dev.ldUsed.filter (fun e => s.dev.num (Obj.cxlLdPort e) == p.val)) = [] ∧ 256 < s.dev.ldUsed.length + n) ∧
    (∃ (s : State) (p : Fin 128), (s.dev.port p).isMld = true ∧ s.dev.dlUp p = false) ∧
    (∃ (s : State) (v : Fin 64), s.dev.upPort v < 128) :=
  ⟨⟨st (up [(Obj.vsState 63, 2)]), 63, by decide⟩,
   ⟨st (up [(Obj.vsState 63, 2)]), 63, by decide⟩,
   ⟨st { up [(Obj.vsState 63, 3)] with nodes := [(63, { resetBy := 2 })] }, 63, by decide⟩,
   ⟨st { up [(Obj.vsState 63, 3), (Obj.vsEnable 63, 1), (Obj.portEnable 120, 1), (Obj.portRole 120, 1), (Obj.portPartition 120, 63)] with nodes := [(63, { resetBy := 3 })] }, 63, by decide⟩,
   ⟨st (up [(Obj.vsState 63, 2), (Obj.vsEnable 63, 1)]), .upstream 63, by decide⟩,
   ⟨st { up ([(Obj.vsPtmValid 3, 1), (Obj.portPartition 120, 3)] ++ livePort 120 0) with cfg := [((usp 3, .ptmControl), 1)] }, 120, 3, by decide⟩,
   ⟨st { up [(Obj.vsState 63, 2), (Obj.vsEnable 63, 1)] with cfg := [((usp 63, .ptmControl), 1)] }, 63, by decide⟩,
   ⟨st (up [(Obj.bootStrapValue, 8)]), by decide⟩,
   ⟨st (up [(Obj.bootStrapValue, 8)]), by decide⟩,
   ⟨st { up (livePort 120 0) with ports := [(120, { isMld := true })] }, 120, 16, by decide⟩,
   ⟨st { up (livePort 120 0 ++ (List.range 241).map (fun e => (Obj.cxlLdPort e, 5))) with ports := [(120, { isMld := true })] }, 120, 16, by and_intros <;> first | decide +kernel | rfl⟩,
   ⟨st { up with ports := [(120, { isMld := true })] }, 120, by decide⟩,
   ⟨st (up [(Obj.portEnable 127, 1), (Obj.portRole 127, 1), (Obj.portPartition 127, 63)]), 63, by decide⟩⟩

theorem witness_FabricEvents :
    (∃ (s : State) (t : Tlp), s.dev.portOfBus (t.completer / 256) = none) ∧
    (∃ (s : State) (t : Tlp) (p : Nat), s.dev.portOfBus (t.completer / 256) = some p ∧ ((s.dev.track (Half.ofCode (field t.requester 4 1))).find? (fun x => x.entry == 16384 * field t.requester 0 4 + t.tag)).all (fun x => t.completer != s.dev.num (Obj.bindRid x.binding)) = true) ∧
    (∃ (s : State) (t : Tlp) (p : Nat) (x : Track), s.dev.portOfBus (t.completer / 256) = some p ∧ (s.dev.track (Half.ofCode (field t.requester 4 1))).find? (fun x => x.entry == 16384 * field t.requester 0 4 + t.tag) = some x ∧ t.completer = s.dev.num (Obj.bindRid x.binding)) ∧
    (∃ (s : State) (h : Half) (e : Fin 262144) (t : Track), (s.dev.track h).find? (fun t => t.entry == e.val) = some t) ∧
    (∃ (s : State) (h : Half) (i : Nat) (f : Frame) (d : Dev), (s.dev.buf h).frames.findSome? (fun q => q.track.bind (fun t => (s.dev.takeTrack h q.frame t).map (fun r => (q.id, r.1, r.2)))) = some (i, f, d)) ∧
    (∃ (s : State) (v : Fin 64) (k : Fin 256) (b0 : _) (bs : _), (s.dev.boundTo v).filter (fun b => s.dev.num (Obj.bindVdsp b) == k.val && s.dev.num (Obj.bindState b) == 2) = b0 :: bs) ∧
    (∃ (s : State) (v : Fin 64) (k : Fin 256) (b0 : _) (bs : _), (s.dev.boundTo v).filter (fun b => s.dev.num (Obj.bindVdsp b) == k.val && s.dev.num (Obj.bindState b) == 3) = b0 :: bs) ∧
    (∃ (s : State) (b : Fin 8192) (rid : Nat), s.dev.num (Obj.bindRid b) ≠ 0 ∧ s.dev.isBound b = true ∧ s.dev.hostRid b = some rid ∧ s.dev.dpcSet (s.dev.synthOf b) = false) ∧
    (∃ (s : State) (b : Fin 8192) (rid : Nat), s.dev.num (Obj.bindRid b) ≠ 0 ∧ s.dev.isBound b = true ∧ s.dev.hostRid b = some rid ∧ s.dev.dpcSet (s.dev.synthOf b) = false) ∧
    (∃ (s : State) (b : Fin 8192) (rid : Nat), s.dev.num (Obj.bindRid b) ≠ 0 ∧ s.dev.isBound b = true ∧ s.dev.hostRid b = some rid ∧ s.dev.dpcSet (s.dev.synthOf b) = false ∧ s.dev.num (Obj.bindKind b) = 3) ∧
    (∃ (s : State) (b : Fin 8192) (rid : Nat), s.dev.num (Obj.bindRid b) ≠ 0 ∧ s.dev.isBound b = true ∧ s.dev.hostRid b = some rid ∧ s.dev.dpcSet (s.dev.synthOf b) = false) ∧
    (∃ (s : State) (b : Fin 8192) (rid : Nat), s.dev.num (Obj.bindRid b) ≠ 0 ∧ s.dev.isBound b = true ∧ s.dev.hostRid b = some rid ∧ s.dev.dpcSet (s.dev.synthOf b) = false) ∧
    (∃ (s : State) (b : Fin 8192) (rid : _), s.dev.num (Obj.bindRid b) ≠ 0 ∧ s.dev.isBound b = true ∧ s.dev.hostRid b = some rid ∧ s.dev.dpcSet (s.dev.synthOf b) = true) ∧
    (∃ (s : State) (b : Fin 8192), s.dev.num (Obj.bindRid b) ≠ 0 ∧ s.dev.isBound b = true ∧ s.dev.hostRid b = none) :=
  ⟨⟨st up, tlp, by decide⟩,
   ⟨st (up [(Obj.fabricModeActive, 1), (Obj.portEnable 8, 1), (Obj.fportBusBase 8, 16), (Obj.fportBusCount 8, 1)]), cpl 4 8, 8, by decide⟩,
   ⟨st { up [(Obj.bindRid 5, 0x1000), (Obj.fabricModeActive, 1), (Obj.portEnable 8, 1), (Obj.fportBusBase 8, 16), (Obj.fportBusCount 8, 1)] with trackE := [tr] }, cpl 8 8, 8, tr, by decide⟩,
   ⟨st { up with trackE := [{ tr with entry := 262143 }] }, .east, 262143, { tr with entry := 262143 }, by decide⟩,
   ⟨waits, .west, tracked.1, tracked.2.1, tracked.2.2, some_of _ (0, fr, {}) (by decide +kernel)⟩,
   ⟨st (up [(Obj.bindRid 8191, 0x1000), (Obj.bindHost 8191, 63), (Obj.bindVdsp 8191, 255), (Obj.bindState 8191, 2), (Obj.fabricModeActive, 1)]), 63, 255, 8191, [], by decide⟩,
   ⟨st (up [(Obj.bindRid 8191, 0x1000), (Obj.bindHost 8191, 63), (Obj.bindVdsp 8191, 255), (Obj.bindState 8191, 3), (Obj.fabricModeActive, 1)]), 63, 255, 8191, [], by decide⟩,
   ⟨bnd, 8191, 256, by decide⟩,
   ⟨bnd, 8191, 256, by decide⟩,
   ⟨st { bnd.dev with objs := (Obj.bindKind 8191, .num 3) :: bnd.dev.objs }, 8191, 256, by decide⟩,
   ⟨bnd, 8191, 256, by decide⟩,
   ⟨bnd, 8191, 256, by decide⟩,
   ⟨st { bnd.dev with cfg := ((.synthetic 63 255, .dpcStatus), 1) :: bnd.dev.cfg }, 8191, 256, by decide⟩,
   ⟨st { bnd.dev with cfg := [] }, 8191, by decide⟩⟩

theorem witness_CoreEvents :
    (∃ (s : State) (i : Ingress) (f : Frame) (facts : CoreFacts) (d : Dev), s.dev.sourceOpen i f = true ∧ f.bytes ≤ s.dev.num Obj.schedFrameMax ∧ s.dev.enter { inPort := i.number, inHalf := i.half, cls := s.dev.classOf i f, facts := facts } f (s.dev.route i (s.dev.classOf i f) f) = some d) ∧
    (∃ (s : State) (p : Fin 128) (q : QFrame), s.dev.pertAt 1 p = none ∧ s.dev.select p = some q) ∧
    (∃ (s : State) (p : Fin 128), s.dev.pertAt 1 p = none ∧ s.dev.select p = none) ∧
    (∃ (s : State) (p : Fin 128), s.dev.dlUp p = true) ∧
    (∃ (s : State) (p : Fin 128) (q : QFrame), s.dev.dlUp p = true ∧ (s.dev.port p).stallLogged = false ∧ q ∈ s.dev.queueAt p ∧ s.dev.eligible p q = true ∧ s.dev.linkReady p q = false ∧ s.dev.num (Obj.portRole p) ≠ 0) ∧
    (∃ (s : State) (h : Half), s.dev.flag Obj.coreTallyEnable = true ∧ (s.dev.buf h).scanning = false) ∧
    (∃ (s : State) (h : Half), (s.dev.buf h).scanning = true) :=
  ⟨⟨inp, .port 0, fr, ⟨true, true⟩, entered.getD {}, by decide, by decide, some_of _ _ (by decide +kernel)⟩,
   ⟨st { up (livePort 8 0) with bufW := { frames := [qf] }, ports := [(8, { credits := ⟨1, 1, 1, 1, 1, 1⟩ })] }, 8, qf, by decide⟩,
   ⟨st up, 127, by decide⟩,
   ⟨st (up (livePort 120 0)), 120, by decide⟩,
   ⟨st { up ([(Obj.portRole 8, 1)] ++ livePort 8 0) with bufW := { frames := [qf] } }, 8, qf, by decide⟩,
   ⟨st up, .east, by decide⟩,
   ⟨st { up with bufE := { scanning := true } }, .east, by decide⟩⟩

theorem witness_PairEvents :
    (∃ (s : State), s.dev.num Obj.pairState = PairSt.joining ∧ s.dev.activeLinks ≠ []) ∧
    (∃ (s : State) (r : Nat), s.dev.num Obj.pairState = PairSt.joining ∧ 1 ≤ r ∧ r ≤ 4) ∧
    (∃ (s : State) (t : Nat), s.dev.num Obj.pairState = PairSt.joining ∧ s.dev.pair.joinSince = some t) ∧
    (∃ (s : State), s.dev.num Obj.pairState = PairSt.refused ∧ s.dev.flag Obj.pairEnable = true) ∧
    (∃ (s : State), s.dev.num Obj.pairState = PairSt.resync) ∧
    (∃ (s : State) (t : Nat), s.dev.num Obj.pairState = PairSt.formed ∧ s.dev.pair.genDiffSince = some t) ∧
    (∃ (s : State) (t : Nat), s.dev.num Obj.pairState = PairSt.formed ∧ s.dev.pair.genDiffSince = none ∧ s.dev.pair.digestDiffSince = some t) ∧
    (∃ (s : State), (s.dev.num Obj.pairState = PairSt.formed ∨ s.dev.num Obj.pairState = PairSt.resync) ∧ s.dev.activeLinks ≠ []) ∧
    (∃ (s : State) (t : Nat), (s.dev.num Obj.pairState = PairSt.formed ∨ s.dev.num Obj.pairState = PairSt.resync) ∧ s.dev.activeLinks = [] ∧ s.dev.pair.linksLostAt = some t) ∧
    (∃ (s : State), (s.dev.num Obj.pairState = PairSt.formed ∨ s.dev.num Obj.pairState = PairSt.resync) ∧ s.dev.activeLinks ≠ []) ∧
    (∃ (s : State) (node : Nat), (s.dev.num Obj.pairState = PairSt.formed ∨ s.dev.num Obj.pairState = PairSt.resync) ∧ node ≠ s.dev.ownNode) ∧
    (∃ (s : State), s.dev.num Obj.pairState = PairSt.resync) ∧
    (∃ (s : State) (objs : _) (o : Offence), s.dev.num Obj.pairState = PairSt.formed ∧ s.dev.pair.ownPrepare = false ∧ s.dev.twinFault objs = some o) ∧
    (∃ (s : State), s.dev.num Obj.pairState = PairSt.formed ∧ s.dev.pair.ownPrepare = true ∧ s.dev.ownNode ≠ 0) ∧
    (∃ (s : State) (objs : _), s.dev.num Obj.pairState = PairSt.formed ∧ s.dev.pair.ownPrepare = false ∧ s.dev.twinFault objs = none) ∧
    (∃ (s : State), s.dev.num Obj.pairState = PairSt.formed ∧ s.dev.pair.ownPrepare = true ∧ s.dev.ownNode = 0) ∧
    (∃ (s : State), s.dev.num Obj.pairState ≠ PairSt.formed) :=
  ⟨⟨st (up [(Obj.pairState, 1), (Obj.pairLinksActive, 1)]), by decide⟩,
   ⟨st (up [(Obj.pairState, 1)]), 4, by decide⟩,
   ⟨st { up [(Obj.pairState, 1)] with pair := { joinSince := some 0 } }, 0, by decide⟩,
   ⟨st (up [(Obj.pairState, 5), (Obj.pairEnable, 1)]), by decide⟩,
   ⟨st (up [(Obj.pairState, 3)]), by decide⟩,
   ⟨st { up [(Obj.pairState, 2)] with pair := { genDiffSince := some 0 } }, 0, by decide⟩,
   ⟨st { up [(Obj.pairState, 2)] with pair := { digestDiffSince := some 0 } }, 0, by decide⟩,
   ⟨st (up [(Obj.pairState, 3), (Obj.pairLinksActive, 32768)]), by decide⟩,
   ⟨st { up [(Obj.pairState, 2)] with pair := { linksLostAt := some 0 } }, 0, by decide⟩,
   ⟨st (up [(Obj.pairState, 3), (Obj.pairLinksActive, 32768)]), by decide⟩,
   ⟨st (up [(Obj.pairState, 3)]), 1, by decide⟩,
   ⟨st (up [(Obj.pairState, 3)]), by decide⟩,
   ⟨st (up [(Obj.pairState, 2)]), [(0x3300, 4, 0, 5)], ((up [(Obj.pairState, 2)]).twinFault [(0x3300, 4, 0, 5)]).getD ⟨0, ⟨0, 0, 0⟩⟩, by and_intros <;> first | decide | exact some_of _ _ (by decide +kernel)⟩,
   ⟨st { up [(Obj.pairState, 2), (Obj.pairNode, 1)] with pair := { ownPrepare := true } }, by decide⟩,
   ⟨st (up [(Obj.pairState, 2)]), [], by decide⟩,
   ⟨st { up [(Obj.pairState, 2)] with pair := { ownPrepare := true } }, by decide⟩,
   ⟨st up, by decide⟩⟩

theorem witness_BflMessages :
    (∃ (s : State) (i : Fin 16) (q : Nat) (rest : List SentFlit), s.dev.linkSt i = LinkSt.active ∧ s.dev.armed 4 0x0B i = none ∧ (s.dev.link i).replay.any (fun f => f.seq == q) = true ∧ ((s.dev.link i).replay.dropWhile (fun f => f.seq != q)).drop 1 = rest) ∧
    (∃ (s : State) (i : Fin 16) (q : Nat) (f : SentFlit) (t : List SentFlit), s.dev.linkSt i = LinkSt.active ∧ s.dev.armed 4 0x0B i = none ∧ (s.dev.link i).replay = f :: t ∧ (f :: t).any (fun f => f.seq == q) = false ∧ q ≠ (f.seq + 4095) % 4096) ∧
    (∃ (s : State) (i : Fin 16) (q : Nat) (c : Nat), s.dev.linkSt i = LinkSt.active ∧ c ≤ 2 ∧ s.dev.armed 4 0x0B i = none ∧ (s.dev.link i).inSpan q = true) ∧
    (∃ (s : State) (i : Fin 16) (q : Nat) (c : Nat), s.dev.linkSt i = LinkSt.active ∧ c ≤ 2 ∧ s.dev.armed 4 0x0B i = none ∧ (s.dev.link i).inSpan q = false) ∧
    (∃ (s : State) (i : Fin 16), s.dev.linkSt i = LinkSt.active ∧ (s.dev.link i).timerOn = true) ∧
    (∃ (s : State) (i : Fin 16) (b : List Byte), s.dev.linkSt i = LinkSt.active ∧ flitCrcOk b = false ∧ (s.dev.link i).lastCrcNak = none) ∧
    (∃ (s : State) (i : Fin 16), s.dev.linkSt i = LinkSt.active ∧ 0 < (s.dev.link i).sinceAck) ∧
    (∃ (s : State) (i : Fin 16) (p : Nat), s.dev.linkSt i = LinkSt.active ∧ (p = 0 ∨ p = 7)) ∧
    (∃ (s : State) (i : Fin 16), s.dev.linkSt i = LinkSt.active) ∧
    (∃ (s : State) (i : Fin 16), (s.dev.linkSt i = LinkSt.active ∨ s.dev.linkSt i = LinkSt.retrain)) ∧
    (∃ (s : State) (i : Fin 16), s.dev.linkSt i ≠ LinkSt.down ∧ s.dev.dlUp (s.dev.num (Obj.bflPort i)) = true) ∧
    (∃ (s : State) (i : Fin 16) (q : Nat) (at' : Nat), s.dev.linkSt i = LinkSt.active ∧ (s.dev.link i).lastTime = some (q, at')) ∧
    (∃ (s : State) (i : Fin 16), s.dev.linkSt i = LinkSt.active) :=
  ⟨⟨st { up [(Obj.bflState 15, 2)] with bfl := [(15, { replay := [{ seq := 4095, vc := 0, frames := [], replays := 0 }, { seq := 0, vc := 0, frames := [], replays := 0 }] })] }, 15, 4095, [{ seq := 0, vc := 0, frames := [], replays := 0 }], by decide⟩,
   ⟨st { up [(Obj.bflState 15, 2)] with bfl := [(15, { replay := [{ seq := 0, vc := 0, frames := [], replays := 0 }] })] }, 15, 1, { seq := 0, vc := 0, frames := [], replays := 0 }, [], by decide⟩,
   ⟨st { up [(Obj.bflState 15, 2)] with bfl := [(15, { replay := [{ seq := 4095, vc := 0, frames := [], replays := 0 }] })] }, 15, 4095, 2, by decide⟩,
   ⟨st (up [(Obj.bflState 15, 2)]), 15, 7, 2, by decide⟩,
   ⟨st { up [(Obj.bflState 15, 2)] with bfl := [(15, { timerOn := true })] }, 15, by decide⟩,
   ⟨st (up [(Obj.bflState 15, 2)]), 15, [], by decide⟩,
   ⟨st { up [(Obj.bflState 15, 2)] with bfl := [(15, { sinceAck := 1 })] }, 15, by decide⟩,
   ⟨st (up [(Obj.bflState 15, 2)]), 15, 7, by decide⟩,
   ⟨st (up [(Obj.bflState 15, 2)]), 15, by decide⟩,
   ⟨st (up [(Obj.bflState 15, 3)]), 15, by decide⟩,
   ⟨st (up [(Obj.bflState 15, 3), (Obj.bflPort 15, 120), (Obj.pstWidth 120, 5)]), 15, by decide⟩,
   ⟨st { up [(Obj.bflState 15, 2)] with bfl := [(15, { lastTime := some (3, 4) })] }, 15, 3, 4, by decide⟩,
   ⟨st (up [(Obj.bflState 15, 2)]), 15, by decide⟩⟩

theorem witness_BflLinkEvents :
    (∃ (s : State) (i : Fin 16), s.dev.linkSt i = LinkSt.active) ∧
    (∃ (s : State) (i : Fin 16), s.dev.linkSt i = LinkSt.retrain) ∧
    (∃ (s : State) (i : Fin 16) (w : Nat) (r : Nat), s.dev.linkSt i = LinkSt.retrain ∧ (¬ (w = s.dev.num (Obj.bflWidth i) ∧ r = s.dev.num (Obj.bflRate i)))) ∧
    (∃ (s : State) (i : Fin 16), s.dev.linkSt i = LinkSt.retrain) ∧
    (∃ (s : State) (i : Fin 16) (r : BflReset), s.dev.initialising i = true ∧ r.reason = 0 ∧ s.dev.resetCheck i r = 0) ∧
    (∃ (s : State) (i : Fin 16) (r : BflReset), s.dev.initialising i = true ∧ r.reason = 0 ∧ s.dev.resetCheck i r ≠ 0) ∧
    (∃ (s : State) (i : Fin 16) (r : BflReset), s.dev.linkSt i = LinkSt.active ∧ r.reason ≠ 0 ∧ s.dev.resetCheck i r ≠ 0) ∧
    (∃ (s : State) (i : Fin 16) (r : BflReset), s.dev.linkSt i = LinkSt.active ∧ r.reason ≠ 0 ∧ s.dev.resetCheck i r = 0 ∧ ((s.dev.link i).resetReq = none ∨ s.dev.ownNode ≠ 1)) ∧
    (∃ (s : State) (i : Fin 16) (r : BflReset) (q : Nat × Nat × Nat), s.dev.linkSt i = LinkSt.active ∧ r.reason ≠ 0 ∧ (s.dev.link i).resetReq = some q ∧ s.dev.ownNode = 1) ∧
    (∃ (s : State) (i : Fin 16) (r : BflReset), s.dev.initialising i = true ∧ r.reason = 0) ∧
    (∃ (s : State) (i : Fin 16) (r : BflReset) (q : Nat × Nat × Nat), s.dev.linkSt i = LinkSt.active ∧ r.reason ≠ 0 ∧ (s.dev.link i).resetReq = some q ∧ q.1 = r.reason) ∧
    (∃ (s : State) (i : Fin 16) (r : Nat) (w : Nat) (b : Nat), (s.dev.link i).resetReq = some (r, w, b) ∧ (s.dev.link i).selfAcked = false) ∧
    (∃ (s : State) (i : Fin 16), s.dev.initialising i = true ∧ (s.dev.link i).selfAcked = false) ∧
    (∃ (s : State) (i : Fin 16), (s.dev.link i).needFullTrain = true) ∧
    (∃ (s : State) (t : Fin 16) (i : Fin 16), s.dev.linkSt t = LinkSt.active ∧ t ≠ i) :=
  ⟨⟨st (up [(Obj.bflState 15, 2)]), 15, by decide⟩,
   ⟨st (up [(Obj.bflState 15, 3)]), 15, by decide⟩,
   ⟨st (up [(Obj.bflState 15, 3)]), 15, 4, 6, by decide⟩,
   ⟨st (up [(Obj.bflState 15, 3)]), 15, by decide⟩,
   ⟨st { up [(Obj.bflState 15, 1), (Obj.bflPort 15, 120), (Obj.pstWidth 120, 5)] with bfl := [(15, { resetReq := some (0, 3, 6) })], objs := (Obj.pairTwinKeyHash, .bytes (List.replicate 32 7)) :: (up [(Obj.bflState 15, 1), (Obj.bflPort 15, 120), (Obj.pstWidth 120, 5)]).objs }, 15, ⟨true, 1, 15, 0, 3, 6, 0, 0, List.replicate 8 7⟩, by decide⟩,
   ⟨st { up [(Obj.bflState 15, 1)] with bfl := [(15, { resetReq := some (0, 3, 6) })] }, 15, ⟨true, 1, 15, 0, 3, 6, 0, 0, []⟩, by decide⟩,
   ⟨st (up [(Obj.bflState 15, 2)]), 15, ⟨true, 1, 15, 1, 3, 6, 0, 0, []⟩, by decide⟩,
   ⟨st { up [(Obj.bflState 15, 2), (Obj.bflPort 15, 120), (Obj.pstWidth 120, 5)] with objs := (Obj.pairTwinKeyHash, .bytes (List.replicate 32 7)) :: (up [(Obj.bflState 15, 2), (Obj.bflPort 15, 120), (Obj.pstWidth 120, 5)]).objs }, 15, ⟨true, 1, 15, 1, 3, 6, 0, 0, List.replicate 8 7⟩, by decide⟩,
   ⟨st { up [(Obj.bflState 15, 2), (Obj.pairNode, 1)] with bfl := [(15, { resetReq := some (1, 3, 6) })] }, 15, ⟨true, 1, 15, 1, 3, 6, 0, 0, []⟩, (1, 3, 6), by decide⟩,
   ⟨st { up [(Obj.bflState 15, 1)] with bfl := [(15, { resetReq := some (0, 3, 6) })] }, 15, ⟨true, 1, 15, 0, 3, 6, 0, 0, []⟩, by decide⟩,
   ⟨st { up [(Obj.bflState 15, 2)] with bfl := [(15, { resetReq := some (1, 3, 6) })] }, 15, ⟨true, 1, 15, 1, 3, 6, 0, 0, []⟩, (1, 3, 6), by decide⟩,
   ⟨st { up [(Obj.bflState 15, 2)] with bfl := [(15, { resetReq := some (1, 3, 6) })] }, 15, 1, 3, 6, by decide⟩,
   ⟨st { up [(Obj.bflState 15, 4)] with bfl := [(15, { resetReq := some (0, 3, 6) })] }, 15, by decide⟩,
   ⟨st { up with bfl := [(15, { needFullTrain := true })] }, 15, by decide⟩,
   ⟨st (up [(Obj.bflState 0, 2)]), 0, 15, by decide⟩⟩

theorem witness_Doorbells :
    (∃ (s : State) (n : Fin 4096) (node : Fin 64) (a : List Byte) (b : List Byte) (q : Qp) (x : Nat), s.dev.qp (halfKey (Half.ofSlice n) (dbField a)) = some q ∧ q.slice = n.val ∧ newProducer q.sqFetched q.sqSize (dbField b) = some x ∧ s.dev.num (Obj.rmeSliceState n) = 1 ∧ s.dev.num (Obj.rmeSliceOwner n) = node.val) ∧
    (∃ (s : State) (n : Fin 4096) (node : Fin 64) (a : List Byte) (b : List Byte) (q : Qp) (x : Nat), s.dev.qp (halfKey (Half.ofSlice n) (dbField a)) = some q ∧ q.slice = n.val ∧ q.rqLog ≠ 0 ∧ newProducer q.rqFetched q.rqSize (dbField b) = some x ∧ s.dev.num (Obj.rmeSliceState n) = 1 ∧ s.dev.num (Obj.rmeSliceOwner n) = node.val) ∧
    (∃ (s : State) (n : Fin 4096) (node : Fin 64) (a : List Byte) (b : List Byte) (c : Cq) (x : Nat), tabFind s.dev.rme.cqs (halfKey (Half.ofSlice n) (dbField a)) = some c ∧ c.slice = n.val ∧ c.overflow = false ∧ newConsumer c.cons c.prod (dbField b) = some x ∧ s.dev.num (Obj.rmeSliceState n) = 1 ∧ s.dev.num (Obj.rmeSliceOwner n) = node.val) ∧
    (∃ (s : State) (n : Fin 4096) (node : Fin 64) (a : List Byte) (b : List Byte) (c : Cq) (x : Nat), tabFind s.dev.rme.cqs (halfKey (Half.ofSlice n) (dbField a)) = some c ∧ c.slice = n.val ∧ c.overflow = false ∧ newConsumer c.cons c.prod (dbField b) = some x ∧ s.dev.num (Obj.rmeSliceState n) = 1 ∧ s.dev.num (Obj.rmeSliceOwner n) = node.val) ∧
    (∃ (s : State) (n : Fin 4096) (node : Fin 64) (b : List Byte) (p : Nat), (s.dev.slice n).stopped = false ∧ newProducer (s.dev.slice n).cmdFetched (2 ^ s.dev.num (Obj.rmeSliceCmdqLog n)) (dbField b) = some p ∧ s.dev.num (Obj.rmeSliceState n) = 1 ∧ s.dev.num (Obj.rmeSliceOwner n) = node.val) ∧
    (∃ (s : State) (n : Fin 4096) (a : List Byte) (b : List Byte) (q : Qp), s.dev.qp (halfKey (Half.ofSlice n) (dbField a)) = some q ∧ newProducer q.sqFetched q.sqSize (dbField b) = none) ∧
    (∃ (s : State) (n : Fin 4096) (a : List Byte) (b : List Byte) (q : Qp), s.dev.qp (halfKey (Half.ofSlice n) (dbField a)) = some q ∧ newProducer q.rqFetched q.rqSize (dbField b) = none) ∧
    (∃ (s : State) (n : Fin 4096) (node : Fin 64) (z : Nat), (z ≠ 32 ∨ s.dev.num (Obj.rmeSliceState n) ≠ 1 ∨ s.dev.num (Obj.rmeSliceOwner n) ≠ node.val)) :=
  ⟨⟨oneQp qp0, 0, 63, [3, 0], [64, 0], qp0, 64, by decide⟩,
   ⟨oneQp { qp0 with rqLog := 6 }, 0, 63, [3, 0], [64, 0], { qp0 with rqLog := 6 }, 64, by decide⟩,
   ⟨rm { cqs := [(0, { cq0 with prod := 64 })] }, 0, 63, [0, 0], [64, 0], { cq0 with prod := 64 }, 64, by decide⟩,
   ⟨rm { cqs := [(0, cq0)] }, 0, 63, [0, 0], [0, 0], cq0, 0, by decide⟩,
   ⟨rm {}, 0, 63, [64, 0], 64, by decide⟩,
   ⟨oneQp qp0, 0, [3, 0], [65, 0], qp0, by decide⟩,
   ⟨oneQp qp0, 0, [3, 0], [255, 255], qp0, by decide⟩,
   ⟨rm {}, 4095, 63, 16, by decide⟩⟩

theorem witness_RequesterEntries :
    (∃ (s : State) (qpn : Nat) (q : Qp) (w : LiveWqe) (data : List Byte), s.dev.qpByNumber qpn = some q ∧ q.st = .ready ∧ w.wqe.len ≤ 2 ^ 30 ∧ data.length = w.wqe.len ∧ (0 < w.wqe.len → s.dev.localCheck q.slice w.wqe.localKey w.wqe.localAddr w.wqe.len false = none ∧ s.dev.hostOpen q.slice = true)) ∧
    (∃ (s : State) (qpn : Nat) (q : Qp) (w : LiveWqe) (st : Nat), s.dev.qpByNumber qpn = some q ∧ q.st = .ready ∧ w.wqe.len ≤ 2 ^ 30 ∧ 0 < w.wqe.len ∧ s.dev.localCheck q.slice w.wqe.localKey w.wqe.localAddr w.wqe.len false = some st) ∧
    (∃ (s : State) (qpn : Nat) (q : Qp) (w : LiveWqe), s.dev.qpByNumber qpn = some q ∧ q.st = .ready ∧ q.turn 3 = some w ∧ w.wqe.len ≤ 2 ^ 30 ∧ 0 < w.wqe.len ∧ s.dev.localCheck q.slice w.wqe.localKey w.wqe.localAddr w.wqe.len true = none) ∧
    (∃ (s : State) (qpn : Nat) (q : Qp) (w : LiveWqe), s.dev.qpByNumber qpn = some q ∧ q.st = .ready ∧ s.dev.localCheck q.slice w.wqe.localKey w.wqe.localAddr 8 true = none ∧ q.turn 6 = some w) ∧
    (∃ (s : State) (qpn : Nat) (q : Qp) (w : LiveWqe), s.dev.qpByNumber qpn = some q ∧ q.st = .ready ∧ s.dev.localCheck q.slice w.wqe.localKey w.wqe.localAddr 8 true = none ∧ q.turn 7 = some w) ∧
    (∃ (s : State) (qpn : Nat) (q : Qp) (w : LiveWqe) (st : Nat), s.dev.qpByNumber qpn = some q ∧ q.st = .ready ∧ s.dev.localCheck q.slice w.wqe.localKey w.wqe.localAddr 8 true = some st ∧ q.turn 6 = some w) ∧
    (∃ (s : State) (qpn : Nat) (q : Qp) (w : LiveWqe) (st : Nat), s.dev.qpByNumber qpn = some q ∧ q.st = .ready ∧ s.dev.localCheck q.slice w.wqe.localKey w.wqe.localAddr 8 true = some st ∧ q.turn 7 = some w) ∧
    (∃ (s : State) (qpn : Nat) (q : Qp) (w : LiveWqe) (ws : List LiveWqe) (e : KeyEntry), s.dev.qpByNumber qpn = some q ∧ q.st = .ready ∧ q.sq = w :: ws ∧ w.wqe.opcode = 8 ∧ w.started = false ∧ s.dev.keyOf (keyHalf (qpnKey qpn)) w.wqe.imm = some e ∧ e.valid = true ∧ e.slice = q.slice ∧ e.generation = keyGen w.wqe.imm) ∧
    (∃ (s : State) (qpn : Nat) (q : Qp) (w : LiveWqe) (ws : List LiveWqe), s.dev.qpByNumber qpn = some q ∧ q.st = .ready ∧ q.sq = w :: ws ∧ w.wqe.opcode = 8 ∧ w.started = false ∧ s.dev.keyOf (keyHalf (qpnKey qpn)) w.wqe.imm = none) :=
  ⟨⟨oneQp { qp0 with sq := [lw 0 8] }, 0x010003, { qp0 with sq := [lw 0 8] }, lw 0 8, zeros 8, by decide⟩,
   ⟨oneQp { qp0 with sq := [lw 0 4097] }, 0x010003, { qp0 with sq := [lw 0 4097] }, lw 0 4097, 1, by decide⟩,
   ⟨oneQp { qp0 with sq := [lw 3] }, 0x010003, { qp0 with sq := [lw 3] }, lw 3, by decide⟩,
   ⟨oneQp { qp0 with sq := [lw 6] }, 0x010003, { qp0 with sq := [lw 6] }, lw 6, by decide⟩,
   ⟨oneQp { qp0 with sq := [lw 7] }, 0x010003, { qp0 with sq := [lw 7] }, lw 7, by decide⟩,
   ⟨oneQp { qp0 with sq := [lw 6 8 0] }, 0x010003, { qp0 with sq := [lw 6 8 0] }, lw 6 8 0, 2, by decide⟩,
   ⟨oneQp { qp0 with sq := [lw 7 8 0] }, 0x010003, { qp0 with sq := [lw 7 8 0] }, lw 7 8 0, 2, by decide⟩,
   ⟨oneQp { qp0 with sq := [lw 8] }, 0x010003, { qp0 with sq := [lw 8] }, lw 8, [], ke, by decide⟩,
   ⟨oneQp { qp0 with sq := [lw 8 0 0] }, 0x010003, { qp0 with sq := [lw 8 0 0] }, lw 8 0 0, [], by decide⟩⟩

theorem witness_RequesterResponses :
    (∃ (s : State) (h : Half) (p : RmePacket) (k : Nat) (q : Qp), s.dev.stepOne h p = some (k, q) ∧ q.st = .ready ∧ p.op = .ack ∧ p.syndrome = 0) ∧
    (∃ (s : State) (h : Half) (p : RmePacket) (k : Nat) (q : Qp), s.dev.stepOne h p = some (k, q) ∧ q.st = .ready ∧ p.op = .ack ∧ p.syndrome = 1) ∧
    (∃ (s : State) (h : Half) (p : RmePacket) (k : Nat) (q : Qp), s.dev.stepOne h p = some (k, q) ∧ q.st = .ready ∧ p.op = .ack ∧ p.syndrome = 2) ∧
    (∃ (s : State) (h : Half) (p : RmePacket) (k : Nat) (q : Qp), s.dev.stepOne h p = some (k, q) ∧ q.st = .ready ∧ p.op = .ack ∧ p.syndrome = 3) ∧
    (∃ (s : State) (h : Half) (p : RmePacket) (k : Nat) (q : Qp), s.dev.stepOne h p = some (k, q) ∧ q.st = .ready ∧ p.op = .ack ∧ p.syndrome = 4) ∧
    (∃ (s : State) (h : Half) (p : RmePacket) (k : Nat) (q : Qp), s.dev.stepOne h p = some (k, q) ∧ q.st = .ready ∧ p.op = .ack ∧ p.syndrome = 5) ∧
    (∃ (s : State) (h : Half) (p : RmePacket) (k : Nat) (q : Qp), s.dev.stepOne h p = some (k, q) ∧ q.st = .ready ∧ p.op = .readResp) ∧
    (∃ (s : State) (h : Half) (p : RmePacket) (k : Nat) (q : Qp), s.dev.stepOne h p = some (k, q) ∧ q.st = .ready ∧ p.op = .atomicResp) ∧
    (∃ (s : State) (h : Half) (p : RmePacket) (k : Nat) (q : Qp), (s.dev.inc64 Obj.rmeStatSkimNotices).stepOne h p = some (k, q) ∧ q.st = .ready ∧ p.op = .skimNotice ∧ q.unacked.any (fun x => x.pkt.psn == p.psn) = true) ∧
    (∃ (s : State) (h : Half) (p : RmePacket), s.dev.stepOne h p = none ∧ p.op = .readResp) ∧
    (∃ (s : State) (h : Half) (p : RmePacket), s.dev.stepOne h p = none ∧ p.op = .ack ∧ p.syndrome = 0) ∧
    (∃ (s : State) (qpn : Nat) (q : Qp), s.dev.qpByNumber qpn = some q ∧ q.st = .ready ∧ q.timerOn = true ∧ s.dev.pathOpen q = true ∧ s.dev.num Obj.rmeRetryLimit < q.expiries + 1) ∧
    (∃ (s : State) (qpn : Nat) (q : Qp), s.dev.qpByNumber qpn = some q ∧ q.st = .ready ∧ q.timerOn = true ∧ s.dev.pathOpen q = true ∧ q.expiries + 1 ≤ s.dev.num Obj.rmeRetryLimit) ∧
    (∃ (s : State) (qpn : Nat) (q : Qp) (t : Nat), s.dev.qpByNumber qpn = some q ∧ q.rnrWait = some t ∧ q.st = .ready) ∧
    (∃ (s : State) (qpn : Nat) (q : Qp), s.dev.qpByNumber qpn = some q ∧ q.st = .ready) :=
  ⟨⟨oneQp qp0, .west, pk .ack, 3, qp0, by decide⟩,
   ⟨oneQp qp0, .west, pk .ack 1, 3, qp0, by decide⟩,
   ⟨oneQp qp0, .west, pk .ack 2, 3, qp0, by decide⟩,
   ⟨oneQp qp0, .west, pk .ack 3, 3, qp0, by decide⟩,
   ⟨oneQp qp0, .west, pk .ack 4, 3, qp0, by decide⟩,
   ⟨oneQp qp0, .west, pk .ack 5, 3, qp0, by decide⟩,
   ⟨oneQp qp0, .west, pk .readResp, 3, qp0, by decide⟩,
   ⟨oneQp qp0, .west, pk .atomicResp, 3, qp0, by decide⟩,
   ⟨oneQp { qp0 with unacked := [⟨pk .write, 0, true, []⟩] }, .west, pk .skimNotice, 3, { qp0 with unacked := [⟨pk .write, 0, true, []⟩] }, by decide⟩,
   ⟨rm {}, .west, pk .readResp, by decide⟩,
   ⟨rm {}, .west, pk .ack, by decide⟩,
   ⟨oneQp { qp0 with timerOn := true, expiries := 7 } [(Obj.rmeRetryLimit, 7)], 0x010003, { qp0 with timerOn := true, expiries := 7 }, by decide⟩,
   ⟨oneQp { qp0 with timerOn := true, expiries := 6 } [(Obj.rmeRetryLimit, 7)], 0x010003, { qp0 with timerOn := true, expiries := 6 }, by decide⟩,
   ⟨oneQp { qp0 with rnrWait := some 5 }, 0x010003, { qp0 with rnrWait := some 5 }, 5, by decide⟩,
   ⟨oneQp qp0, 0x010003, qp0, by decide⟩⟩

theorem witness_QueueDrains :
    (∃ (s : State) (qpn : Nat) (q : Qp), s.dev.qpByNumber qpn = some q) ∧
    (∃ (s : State) (n : Fin 4096), s.dev.num (Obj.rmeSliceState n) = 2 ∧ (s.dev.slice n).cmd = none ∧ (s.dev.slice n).cmdFetched = (s.dev.slice n).cmdDone ∧ (∀ k ∈ s.dev.qpsOfSlice n, ∀ q, s.dev.qp k = some q → (q.st = .reset ∨ q.st = .flushed) ∧ q.staged = [])) ∧
    (∃ (s : State) (n : Fin 4096), s.dev.num (Obj.rmeSliceState n) ≠ 2) ∧
    (∃ (s : State) (n : Fin 4096), s.dev.num (Obj.rmeSliceState n) ≠ 2) ∧
    (∃ (s : State) (n : Fin 4096), s.dev.num (Obj.rmeSliceState n) = 2) :=
  ⟨⟨oneQp qp0, 0x010003, qp0, by decide⟩,
   ⟨rm {} [(Obj.rmeSliceState 4095, 2)], 4095, by and_intros <;> first | decide | rfl | (intro k hk; exact absurd hk (by decide))⟩,
   ⟨rm {}, 4095, by decide⟩,
   ⟨rm {}, 4095, by decide⟩,
   ⟨rm {} [(Obj.rmeSliceState 4095, 2)], 4095, by decide⟩⟩

theorem witness_ResponderPackets :
    (∃ (s : State) (h : Half) (p : RmePacket), s.dev.stepOne h p = none) ∧
    (∃ (s : State) (h : Half) (p : RmePacket) (k : Nat) (q : Qp), s.dev.stepOne h p = some (k, q) ∧ q.st ≠ .ready ∧ q.lastNak4 = none) ∧
    (∃ (s : State) (h : Half) (p : RmePacket) (k : Nat) (q : Qp) (t : Nat), s.dev.stepOne h p = some (k, q) ∧ q.st ≠ .ready ∧ q.lastNak4 = some t ∧ s.dev.elapsed t (us 10) = false) ∧
    (∃ (s : State) (h : Half) (p : RmePacket) (k : Nat) (q : Qp), s.dev.stepOne h p = some (k, q) ∧ q.st = .ready ∧ 2 ^ 23 ≤ psnDiff p.psn (psnAdd q.completed 1) ∧ p.ce = false) ∧
    (∃ (s : State) (h : Half) (p : RmePacket) (k : Nat) (q : Qp), s.dev.stepOne h p = some (k, q) ∧ q.st = .ready ∧ psnDiff p.psn (psnAdd q.completed 1) < 2 ^ 23 ∧ 512 ≤ psnDiff p.psn (psnAdd q.completed 1) ∧ p.ce = false) ∧
    (∃ (s : State) (h : Half) (p : RmePacket) (k : Nat) (q : Qp), s.dev.stepOne h p = some (k, q) ∧ q.st = .ready ∧ psnDiff p.psn (psnAdd q.completed 1) < 512 ∧ p.ce = false ∧ q.window.contains p.psn = true) ∧
    (∃ (s : State) (h : Half) (p : RmePacket) (k : Nat) (q : Qp), s.dev.stepOne h p = some (k, q) ∧ q.st = .ready ∧ psnDiff p.psn (psnAdd q.completed 1) < 512 ∧ p.ce = false ∧ q.window.contains p.psn = false ∧ q.opcodeOk p = false) ∧
    (∃ (s : State) (h : Half) (p : RmePacket) (k : Nat) (q : Qp) (syn : Nat), s.dev.stepOne h p = some (k, q) ∧ q.st = .ready ∧ psnDiff p.psn (psnAdd q.completed 1) < 512 ∧ p.ce = false ∧ q.window.contains p.psn = false ∧ q.opcodeOk p = true ∧ s.dev.keyCheck k q p = some syn) ∧
    (∃ (s : State) (h : Half) (p : RmePacket) (k : Nat) (q : Qp), s.dev.stepOne h p = some (k, q) ∧ q.st = .ready ∧ psnDiff p.psn (psnAdd q.completed 1) = 0 ∧ p.ce = false ∧ q.window.contains p.psn = false ∧ q.opcodeOk p = true ∧ s.dev.keyCheck k q p = none) ∧
    (∃ (s : State) (h : Half) (p : RmePacket) (k : Nat) (q : Qp), s.dev.stepOne h p = some (k, q) ∧ q.st = .ready ∧ 0 < psnDiff p.psn (psnAdd q.completed 1) ∧ psnDiff p.psn (psnAdd q.completed 1) < 512 ∧ p.ce = false ∧ q.window.contains p.psn = false ∧ q.opcodeOk p = true ∧ s.dev.keyCheck k q p = none) ∧
    (∃ (s : State) (h : Half) (p : RmePacket) (k : Nat) (q : Qp), s.dev.stepOne h p = some (k, q) ∧ q.st = .ready ∧ psnDiff p.psn (psnAdd q.completed 1) = 0 ∧ p.ce = true ∧ q.window.contains p.psn = false ∧ q.opcodeOk p = true) ∧
    (∃ (s : State) (qpn : Nat) (q : Qp), s.dev.qpByNumber qpn = some q) ∧
    (∃ (s : State) (qpn : Nat) (q : Qp), s.dev.qpByNumber qpn = some q ∧ q.rq = []) ∧
    (∃ (s : State) (qpn : Nat) (q : Qp), s.dev.qpByNumber qpn = some q ∧ q.rq ≠ []) :=
  ⟨⟨rm {}, .west, pk .write, by decide⟩,
   ⟨oneQp { qp0 with st := .init }, .west, pk .write, 3, { qp0 with st := .init }, by decide⟩,
   ⟨oneQp { qp0 with st := .error, lastNak4 := some 0 }, .west, pk .write, 3, { qp0 with st := .error, lastNak4 := some 0 }, 0, by decide⟩,
   ⟨oneQp qp0, .west, pk .write 0 8388609, 3, qp0, by decide⟩,
   ⟨oneQp qp0, .west, pk .write 0 513, 3, qp0, by decide⟩,
   ⟨oneQp { qp0 with window := [512] }, .west, pk .write 0 512, 3, { qp0 with window := [512] }, by decide⟩,
   ⟨oneQp { qp0 with rights := 5 }, .west, pk .write, 3, { qp0 with rights := 5 }, by decide⟩,
   ⟨oneQp qp0, .west, { pk .write with key := 0 }, 3, qp0, 3, by decide⟩,
   ⟨oneQp qp0, .west, pk .write, 3, qp0, by decide⟩,
   ⟨oneQp qp0, .west, pk .write 0 512, 3, qp0, by decide⟩,
   ⟨oneQp qp0, .west, { pk .write with ce := true }, 3, qp0, by decide⟩,
   ⟨oneQp qp0, 0x010003, qp0, by decide⟩,
   ⟨oneQp qp0, 0x010003, qp0, by decide⟩,
   ⟨oneQp { qp0 with rq := [lw 0] }, 0x010003, { qp0 with rq := [lw 0] }, by decide⟩⟩

theorem witness_HostReads :
    (∃ (s : State) (n : Fin 4096), (s.dev.slice n).cmdDone < (s.dev.slice n).cmdFetched ∧ s.dev.flag (Obj.rmeSliceLostHost n) = false ∧ (s.dev.slice n).cmd = none) ∧
    (∃ (s : State) (n : Fin 4096) (st : ReadStatus), (s.dev.slice n).cmdDone < (s.dev.slice n).cmdFetched ∧ s.dev.flag (Obj.rmeSliceLostHost n) = false ∧ st ≠ .ok) ∧
    (∃ (s : State) (qpn : Nat) (q : Qp), s.dev.qpByNumber qpn = some q ∧ q.sqFetched < q.sqAsked ∧ q.st = .ready) ∧
    (∃ (s : State) (qpn : Nat) (q : Qp) (st : ReadStatus), s.dev.qpByNumber qpn = some q ∧ q.sqFetched < q.sqAsked ∧ q.st = .ready ∧ st ≠ .ok) ∧
    (∃ (s : State) (qpn : Nat) (q : Qp), s.dev.qpByNumber qpn = some q ∧ q.rqFetched < q.rqAsked ∧ q.st = .ready) ∧
    (∃ (s : State) (qpn : Nat) (psn : Nat) (q : Qp) (w : LiveWqe) (st : ReadStatus), s.dev.qpByNumber qpn = some q ∧ q.st = .ready ∧ st ≠ .ok ∧ s.dev.wqeOfPsn (qpnKey qpn) psn = some w) ∧
    (∃ (s : State) (qpn : Nat) (p : RmePacket) (data : List Byte) (q : Qp), s.dev.qpByNumber qpn = some q ∧ q.st = .ready ∧ data.length = p.readLen ∧ q.busy = some p) ∧
    (∃ (s : State) (qpn : Nat) (p : RmePacket) (q : Qp), s.dev.qpByNumber qpn = some q ∧ q.st = .ready ∧ q.busy = some p) ∧
    (∃ (s : State) (qpn : Nat) (p : RmePacket) (q : Qp) (st : ReadStatus), s.dev.qpByNumber qpn = some q ∧ q.st = .ready ∧ q.busy = some p ∧ st ≠ .ok) :=
  ⟨⟨rm { slices := [(0, { cmdFetched := 1 })] }, 0, by decide⟩,
   ⟨rm { slices := [(0, { cmdFetched := 1 })] }, 0, .timeout, by decide⟩,
   ⟨oneQp { qp0 with sqAsked := 1 }, 0x010003, { qp0 with sqAsked := 1 }, by decide⟩,
   ⟨oneQp { qp0 with sqAsked := 1 }, 0x010003, { qp0 with sqAsked := 1 }, .ur, by decide⟩,
   ⟨oneQp { qp0 with rqAsked := 1 }, 0x010003, { qp0 with rqAsked := 1 }, by decide⟩,
   ⟨oneQp { qp0 with sq := [lw 0], unacked := [⟨pk .write, 0, true, []⟩] }, 0x010003, 1, { qp0 with sq := [lw 0], unacked := [⟨pk .write, 0, true, []⟩] }, lw 0, .ca, by decide⟩,
   ⟨oneQp { qp0 with busy := some { pk .readReq with readLen := 4 } }, 0x010003, { pk .readReq with readLen := 4 }, zeros 4, { qp0 with busy := some { pk .readReq with readLen := 4 } }, by decide⟩,
   ⟨oneQp { qp0 with busy := some (pk .fetchAdd) }, 0x010003, pk .fetchAdd, { qp0 with busy := some (pk .fetchAdd) }, by decide⟩,
   ⟨oneQp { qp0 with busy := some (pk .fetchAdd) }, 0x010003, pk .fetchAdd, { qp0 with busy := some (pk .fetchAdd) }, .ur, by decide⟩⟩

theorem witness_RegionAndCqCommands :
    (∃ (s : State) (n : Fin 4096) (w : Wqe) (e : Nat), s.dev.cmdOf n 0x20 = some w ∧ 0 < w.len ∧ w.len ≤ 2 ^ 30 ∧ s.dev.boundOk n w = true ∧ w.remoteKey = 0 ∧ s.dev.keysUsed n < s.dev.num (Obj.rmeSliceKeyQuota n) ∧ s.dev.freeKey (Half.ofSlice n) = some e) ∧
    (∃ (s : State) (n : Fin 4096) (w : Wqe) (x : KeyEntry), s.dev.cmdOf n 0x20 = some w ∧ 0 < w.len ∧ w.len ≤ 2 ^ 30 ∧ s.dev.boundOk n w = true ∧ w.remoteKey ≠ 0 ∧ s.dev.keyOf (Half.ofSlice n) w.remoteKey = some x ∧ x.allocated = true ∧ x.slice = n.val ∧ x.generation = keyGen w.remoteKey ∧ x.valid = false) ∧
    (∃ (s : State) (n : Fin 4096) (w : Wqe), s.dev.cmdOf n 0x20 = some w ∧ (w.len = 0 ∨ 2 ^ 30 < w.len ∨ s.dev.boundOk n w = false)) ∧
    (∃ (s : State) (n : Fin 4096) (w : Wqe), s.dev.cmdOf n 0x20 = some w ∧ 0 < w.len ∧ w.len ≤ 2 ^ 30 ∧ s.dev.boundOk n w = true ∧ w.remoteKey = 0 ∧ s.dev.num (Obj.rmeSliceKeyQuota n) ≤ s.dev.keysUsed n) ∧
    (∃ (s : State) (n : Fin 4096) (w : Wqe) (x : KeyEntry), s.dev.cmdOf n 0x21 = some w ∧ s.dev.keyOf (Half.ofSlice n) w.remoteKey = some x ∧ x.allocated = true ∧ x.slice = n.val ∧ x.generation = keyGen w.remoteKey ∧ (x.qpBound = true → ∀ q, s.dev.qp (halfKey (Half.ofSlice n) x.boundQp) = some q → q.slice = n.val → q.st = .reset)) ∧
    (∃ (s : State) (n : Fin 4096) (w : Wqe) (x : KeyEntry) (q : Qp), s.dev.cmdOf n 0x21 = some w ∧ s.dev.keyOf (Half.ofSlice n) w.remoteKey = some x ∧ x.allocated = true ∧ x.slice = n.val ∧ x.generation = keyGen w.remoteKey ∧ x.qpBound = true ∧ s.dev.qp (halfKey (Half.ofSlice n) x.boundQp) = some q ∧ q.slice = n.val ∧ q.st ≠ .reset) ∧
    (∃ (s : State) (n : Fin 4096) (w : Wqe) (i : Nat), s.dev.cmdOf n 0x25 = some w ∧ cqSizeOk w.len = true ∧ s.dev.num (Obj.rmeSliceMsixBase n) ≤ field w.imm 0 16 ∧ field w.imm 0 16 < s.dev.num (Obj.rmeSliceMsixBase n) + s.dev.num (Obj.rmeSliceMsixCount n) ∧ (s.dev.cqsOfSlice n).length < s.dev.num (Obj.rmeSliceCqQuota n) ∧ s.dev.cqsOfHalf (Half.ofSlice n) < 65536 ∧ firstFree (fun i => (tabFind s.dev.rme.cqs (halfKey (Half.ofSlice n) i)).isSome) 65536 (s.dev.rme.cqs.length + 1) (s.dev.free % 65536) = some i) ∧
    (∃ (s : State) (n : Fin 4096) (w : Wqe), s.dev.cmdOf n 0x25 = some w ∧ cqSizeOk w.len = false) ∧
    (∃ (s : State) (n : Fin 4096) (w : Wqe), s.dev.cmdOf n 0x26 = some w ∧ w.imm < 65536 ∧ (s.dev.cqOf n w.imm).isSome = true ∧ s.dev.qpsOfCq (halfKey (Half.ofSlice n) w.imm) = []) ∧
    (∃ (s : State) (n : Fin 4096) (w : Wqe), s.dev.cmdOf n 0x26 = some w ∧ w.imm < 65536 ∧ (s.dev.cqOf n w.imm).isSome = true ∧ s.dev.qpsOfCq (halfKey (Half.ofSlice n) w.imm) ≠ []) :=
  ⟨⟨cmd { opcode := 0x20, len := 2 ^ 30 }, 0, { opcode := 0x20, len := 2 ^ 30 }, (cmd { opcode := 0x20, len := 2 ^ 30 }).dev.free % 1048576 % 1048576, by and_intros <;> first | decide | rfl⟩,
   ⟨cmd { opcode := 0x20, len := 1, remoteKey := keyVal } { keys := [(9, { ke with valid := false })] }, 0, { opcode := 0x20, len := 1, remoteKey := keyVal }, { ke with valid := false }, by and_intros <;> first | decide | rfl⟩,
   ⟨cmd { opcode := 0x20, len := 2 ^ 30 + 1 }, 0, { opcode := 0x20, len := 2 ^ 30 + 1 }, by decide⟩,
   ⟨cmd { opcode := 0x20, len := 1 } {} [(Obj.rmeSliceKeyQuota 0, 0)], 0, { opcode := 0x20, len := 1 }, by decide⟩,
   ⟨cmd { opcode := 0x21, remoteKey := keyVal } { keys := [(9, ke)] }, 0, { opcode := 0x21, remoteKey := keyVal }, ke, by and_intros <;> first | decide | (intro h; cases h)⟩,
   ⟨cmd { opcode := 0x21, remoteKey := keyVal } { keys := [(9, { ke with qpBound := true, boundQp := 3 })], qps := [(3, qp0)] }, 0, { opcode := 0x21, remoteKey := keyVal }, { ke with qpBound := true, boundQp := 3 }, qp0, by and_intros <;> first | decide | rfl⟩,
   ⟨cmd { opcode := 0x25, len := 65536, imm := 7 }, 0, { opcode := 0x25, len := 65536, imm := 7 }, (cmd { opcode := 0x25, len := 65536, imm := 7 }).dev.free % 65536 % 65536, by and_intros <;> first | decide | rfl⟩,
   ⟨cmd { opcode := 0x25, len := 63 }, 0, { opcode := 0x25, len := 63 }, by decide⟩,
   ⟨cmd { opcode := 0x26 } { cqs := [(0, cq0)] }, 0, { opcode := 0x26 }, by decide⟩,
   ⟨cmd { opcode := 0x26 } { cqs := [(0, cq0)], qps := [(3, qp0)] }, 0, { opcode := 0x26 }, by decide⟩⟩

theorem witness_QueuePairCommands :
    (∃ (s : State) (n : Fin 4096) (y : List Byte) (b : QpBlock) (w : Wqe) (i : Nat), b = QpBlock.ofBytes y ∧ s.dev.cmdOf n 0x22 = some w ∧ s.dev.blockOk n b = true ∧ (∀ c, s.dev.cqOf n b.sendCq = some c → c.overflow = false) ∧ (∀ c, s.dev.cqOf n b.recvCq = some c → c.overflow = false) ∧ (s.dev.qpsOfSlice n).length < s.dev.num (Obj.rmeSliceQpQuota n) ∧ s.dev.qpsOfHalf (Half.ofSlice n) < 65536 ∧ firstFree (fun i => !s.dev.indexReady (Half.ofSlice n) i) 65536 (min 65536 (s.dev.rme.qps.length + s.dev.rme.qpHist.length + 1)) 0 = some i) ∧
    (∃ (s : State) (n : Fin 4096) (y : List Byte) (b : QpBlock) (w : Wqe), b = QpBlock.ofBytes y ∧ s.dev.cmdOf n 0x22 = some w ∧ s.dev.blockOk n b = false) ∧
    (∃ (s : State) (n : Fin 4096) (y : List Byte) (b : QpBlock) (w : Wqe) (k : Nat) (q : Qp), b = QpBlock.ofBytes y ∧ s.dev.cmdOf n 0x23 = some w ∧ s.dev.qpOfCmd n w = some (k, q) ∧ q.lost = false ∧ (bitOf b.mask 1 = true → b.mtu ≤ 2) ∧ q.st = .reset ∧ bitOf b.mask 0 = true ∧ b.state = 1) ∧
    (∃ (s : State) (n : Fin 4096) (y : List Byte) (b : QpBlock) (w : Wqe) (k : Nat) (q : Qp), b = QpBlock.ofBytes y ∧ s.dev.cmdOf n 0x23 = some w ∧ s.dev.qpOfCmd n w = some (k, q) ∧ q.lost = false ∧ (bitOf b.mask 1 = true → b.mtu ≤ 2) ∧ q.st = .init ∧ bitOf b.mask 0 = true ∧ b.state = 2 ∧ (giveAttrs q b).remoteSet = true ∧ (giveAttrs q b).sendSet = true ∧ (giveAttrs q b).recvSet = true) ∧
    (∃ (s : State) (n : Fin 4096) (y : List Byte) (b : QpBlock) (w : Wqe) (k : Nat) (q : Qp), b = QpBlock.ofBytes y ∧ s.dev.cmdOf n 0x23 = some w ∧ s.dev.qpOfCmd n w = some (k, q) ∧ q.lost = false ∧ (bitOf b.mask 1 = true → b.mtu ≤ 2) ∧ (q.st = .reset ∨ q.st = .init ∨ (q.st = .ready ∧ bitOf b.mask 1 = false ∧ bitOf b.mask 2 = false ∧ bitOf b.mask 3 = false ∧ bitOf b.mask 4 = false)) ∧ bitOf b.mask 0 = true ∧ b.state = 3) ∧
    (∃ (s : State) (n : Fin 4096) (y : List Byte) (b : QpBlock) (w : Wqe) (k : Nat) (q : Qp), b = QpBlock.ofBytes y ∧ s.dev.cmdOf n 0x23 = some w ∧ s.dev.qpOfCmd n w = some (k, q) ∧ q.lost = false ∧ bitOf b.mask 1 = false ∧ bitOf b.mask 2 = false ∧ bitOf b.mask 3 = false ∧ bitOf b.mask 4 = false ∧ (q.st = .error ∨ q.st = .flushed) ∧ bitOf b.mask 0 = true ∧ b.state = 0) ∧
    (∃ (s : State) (n : Fin 4096) (y : List Byte) (b : QpBlock) (w : Wqe) (k : Nat) (q : Qp), b = QpBlock.ofBytes y ∧ s.dev.cmdOf n 0x23 = some w ∧ s.dev.qpOfCmd n w = some (k, q) ∧ q.lost = false ∧ (bitOf b.mask 1 = true → b.mtu ≤ 2) ∧ (q.st = .reset ∨ q.st = .init) ∧ bitOf b.mask 0 = false) ∧
    (∃ (s : State) (n : Fin 4096) (y : List Byte) (b : QpBlock) (w : Wqe) (k : Nat) (q : Qp), b = QpBlock.ofBytes y ∧ s.dev.cmdOf n 0x23 = some w ∧ s.dev.qpOfCmd n w = some (k, q) ∧ q.lost = false ∧ bitOf b.mask 1 = false ∧ (bitOf b.mask 2 = true ∨ bitOf b.mask 3 = true ∨ bitOf b.mask 4 = true) ∧ q.st ≠ .reset ∧ q.st ≠ .init ∧ bitOf b.mask 0 = false) ∧
    (∃ (s : State) (n : Fin 4096) (w : Wqe) (k : Nat) (q : Qp), s.dev.cmdOf n 0x24 = some w ∧ s.dev.qpOfCmd n w = some (k, q)) ∧
    (∃ (s : State) (n : Fin 4096) (w : Wqe), s.dev.cmdOf n 0x24 = some w ∧ s.dev.qpOfCmd n w = none) :=
  ⟨⟨cmd { opcode := 0x22 } { cqs := [(0, cq0)] }, 0, blk 0 0 0, QpBlock.ofBytes (blk 0 0 0), { opcode := 0x22 }, 0, by and_intros <;> first | decide | (intro c h; cases h; rfl)⟩,
   ⟨cmd { opcode := 0x22 } { cqs := [(0, cq0)] }, 0, blk 0 0 3, QpBlock.ofBytes (blk 0 0 3), { opcode := 0x22 }, by decide⟩,
   ⟨cmd { opcode := 0x23, imm := 0x010003 } { qps := [(3, { qp0 with st := .reset })] }, 0, blk 1 1 0, QpBlock.ofBytes (blk 1 1 0), { opcode := 0x23, imm := 0x010003 }, 3, { qp0 with st := .reset }, by decide⟩,
   ⟨cmd { opcode := 0x23, imm := 0x010003 } { qps := [(3, { qp0 with st := .init })] }, 0, blk 31 2 2, QpBlock.ofBytes (blk 31 2 2), { opcode := 0x23, imm := 0x010003 }, 3, { qp0 with st := .init }, by decide⟩,
   ⟨cmd { opcode := 0x23, imm := 0x010003 } { qps := [(3, qp0)] }, 0, blk 1 3 0, QpBlock.ofBytes (blk 1 3 0), { opcode := 0x23, imm := 0x010003 }, 3, qp0, by decide⟩,
   ⟨cmd { opcode := 0x23, imm := 0x010003 } { qps := [(3, { qp0 with st := .flushed })] }, 0, blk 1 0 0, QpBlock.ofBytes (blk 1 0 0), { opcode := 0x23, imm := 0x010003 }, 3, { qp0 with st := .flushed }, by decide⟩,
   ⟨cmd { opcode := 0x23, imm := 0x010003 } { qps := [(3, { qp0 with st := .init })] }, 0, blk 2 0 2, QpBlock.ofBytes (blk 2 0 2), { opcode := 0x23, imm := 0x010003 }, 3, { qp0 with st := .init }, by decide⟩,
   ⟨cmd { opcode := 0x23, imm := 0x010003 } { qps := [(3, qp0)] }, 0, blk 16 0 0, QpBlock.ofBytes (blk 16 0 0), { opcode := 0x23, imm := 0x010003 }, 3, qp0, by decide⟩,
   ⟨cmd { opcode := 0x24, imm := 0x010003 } { qps := [(3, qp0)] }, 0, { opcode := 0x24, imm := 0x010003 }, 3, qp0, by decide⟩,
   ⟨cmd { opcode := 0x24, imm := 0x010003 }, 0, { opcode := 0x24, imm := 0x010003 }, by decide⟩⟩

theorem witness_ScrubberReads :
    (∃ (s : State), s.dev.test.armed = []) ∧
    (∃ (s : State), s.dev.test.armed = []) ∧
    (∃ (s : State), s.dev.test.armed = []) ∧
    (∃ (s : State), s.dev.test.armed = []) ∧
    (∃ (s : State), s.dev.test.armed = []) ∧
    (∃ (s : State), s.dev.test.armed = []) :=
  ⟨⟨st up, by decide⟩,
   ⟨st up, by decide⟩,
   ⟨st up, by decide⟩,
   ⟨st up, by decide⟩,
   ⟨st up, by decide⟩,
   ⟨st up, by decide⟩⟩

theorem witness_FeedAndTripEvents :
    (∃ (s : State) (k : Fin 32) (mv : Nat), s.dev.num (Obj.slotUv k) ≤ mv ∧ mv ≤ s.dev.num (Obj.slotOv k)) ∧
    (∃ (s : State) (k : Fin 32) (mv : Nat), (mv < s.dev.num (Obj.slotUv k) ∨ s.dev.num (Obj.slotOv k) < mv)) ∧
    (∃ (s : State) (k : Fin 32) (f : Feed) (mv : Nat), feedGood (s.dev.slot k) f = true ∧ (mv + 200 < s.dev.num (Obj.slotUv k) ∨ s.dev.num (Obj.slotOv k) + 200 < mv)) ∧
    (∃ (s : State) (k : Fin 32) (mv : Nat), s.dev.num (Obj.slotUv k) ≤ mv + 200 ∧ mv ≤ s.dev.num (Obj.slotOv k) + 200) ∧
    (∃ (s : State) (k : Fin 32) (f : Feed), feedGood (s.dev.slot k) f = true) ∧
    (∃ (s : State) (k : Fin 32) (f : Feed), feedGood (s.dev.slot k) f = false) ∧
    (∃ (s : State) (k : Fin 32), (s.dev.num (Obj.slotState k) = SlotSt.ramp ∨ s.dev.num (Obj.slotState k) = SlotSt.on)) ∧
    (∃ (s : State) (k : Fin 32), (s.dev.num (Obj.slotState k) = SlotSt.ramp ∨ s.dev.num (Obj.slotState k) = SlotSt.on)) ∧
    (∃ (s : State) (k : Fin 32), s.dev.num (Obj.slotState k) ≠ SlotSt.ramp ∧ s.dev.num (Obj.slotState k) ≠ SlotSt.on) ∧
    (∃ (s : State) (k : Fin 32), s.dev.num (Obj.slotState k) ≠ SlotSt.ramp ∧ s.dev.num (Obj.slotState k) ≠ SlotSt.on) :=
  ⟨⟨st up, 31, (st up).dev.num (Obj.slotUv 31), by decide⟩,
   ⟨st up, 31, (st up).dev.num (Obj.slotOv 31) + 1, by decide⟩,
   ⟨st { up with slots := [(31, { goodA := true })] }, 31, .a, (st up).dev.num (Obj.slotOv 31) + 201, by decide⟩,
   ⟨st up, 31, (st up).dev.num (Obj.slotOv 31) + 200, by decide⟩,
   ⟨st { up with slots := [(31, { goodA := true })] }, 31, .a, by decide⟩,
   ⟨st up, 31, .b, by decide⟩,
   ⟨st (up [(Obj.slotState 31, 3)]), 31, by decide⟩,
   ⟨st (up [(Obj.slotState 31, 4)]), 31, by decide⟩,
   ⟨st up, 31, by decide⟩,
   ⟨st up, 31, by decide⟩⟩

theorem witness_SlotChannelEvents :
    (∃ (s : State) (k : Fin 32), s.dev.num (Obj.slotState k) = SlotSt.ramp) ∧
    (∃ (s : State) (k : Fin 32), s.dev.num (Obj.slotState k) = SlotSt.ramp) ∧
    (∃ (s : State) (k : Fin 32), (s.dev.slot k).present = false) ∧
    (∃ (s : State) (k : Fin 32), (s.dev.slot k).present = true) ∧
    (∃ (s : State) (k : Fin 32), s.dev.num (Obj.slotState k) = SlotSt.inserting) ∧
    (∃ (s : State) (k : Fin 32), s.dev.mayStart k = true ∧ s.dev.firstToStart k = true ∧ s.dev.ramping (k.val / 8) < s.dev.num (Obj.sgrpRampMax (k.val / 8))) ∧
    (∃ (s : State) (k : Fin 32), (s.dev.mayStart k = false ∨ s.dev.num (Obj.sgrpRampMax (k.val / 8)) ≤ s.dev.ramping (k.val / 8))) ∧
    (∃ (s : State) (k : Fin 32) (t : Nat), (s.dev.slot k).cooldownEnd = some t ∧ s.dev.num (Obj.slotState k) = SlotSt.cooldown) ∧
    (∃ (s : State) (k : Fin 32), s.dev.num (Obj.slotState k) = SlotSt.absent) ∧
    (∃ (s : State) (k : Fin 32), s.dev.num (Obj.slotState k) = SlotSt.on ∧ s.dev.num (Obj.slotPerst k) = 1 ∧ s.dev.slotNodeInReset k = false ∧ s.dev.padHeld 20 = false) ∧
    (∃ (s : State) (k : Fin 32), (s.dev.num (Obj.slotState k) ≠ SlotSt.on ∨ s.dev.num (Obj.slotPerst k) ≠ 1 ∨ s.dev.slotNodeInReset k = true ∨ s.dev.padHeld 20 = true)) ∧
    (∃ (s : State) (g : Fin 4), s.dev.num (Obj.sgrpBrakeMw g) ≠ 0 ∧ s.dev.padHeld 20 = false) ∧
    (∃ (s : State) (g : Fin 4), (s.dev.num (Obj.sgrpBrakeMw g) = 0 ∨ s.dev.padHeld 20 = true)) ∧
    (∃ (s : State), s.dev.padHeld 20 = false) ∧
    (∃ (s : State), s.dev.padHeld 20 = true) :=
  ⟨⟨st (up [(Obj.slotState 31, 3)]), 31, by decide⟩,
   ⟨st (up [(Obj.slotState 31, 3)]), 31, by decide⟩,
   ⟨st up, 31, by decide⟩,
   ⟨st { up with slots := [(31, { present := true })] }, 31, by decide⟩,
   ⟨st (up [(Obj.slotState 31, 1)]), 31, by decide⟩,
   ⟨st { up [(Obj.slotState 31, 2), (Obj.slotEnable 31, 1)] with slots := [(31, { goodA := true, goodB := true, present := true, pg := true })] }, 31, by decide⟩,
   ⟨st up, 31, by decide⟩,
   ⟨st { up [(Obj.slotState 31, 5)] with slots := [(31, { cooldownEnd := some 9 })] }, 31, 9, by decide⟩,
   ⟨st up, 31, by decide⟩,
   ⟨st (up [(Obj.slotState 31, 4), (Obj.slotPerst 31, 1)]), 31, by decide⟩,
   ⟨st (up [(Obj.slotState 31, 4), (Obj.slotPerst 31, 1), (Obj.pwrPadHoldHeld, 1048576)]), 31, by decide⟩,
   ⟨st (up [(Obj.sgrpBrakeMw 3, 1)]), 3, by decide⟩,
   ⟨st (up [(Obj.sgrpBrakeMw 3, 1), (Obj.pwrPadHoldHeld, 1048576)]), 3, by decide⟩,
   ⟨st up, by decide⟩,
   ⟨st (up [(Obj.pwrPadHoldHeld, 1048576)]), by decide⟩⟩

theorem witness_SidebandEvents :
    (∃ (s : State) (k : Fin 32), s.dev.busMayRun k = true ∧ (s.dev.sbus k).busUp = false) ∧
    (∃ (s : State) (k : Fin 32), (s.dev.slot k).present = true) ∧
    (∃ (s : State) (k : Fin 32), (s.dev.slot k).present = false) ∧
    (∃ (s : State) (e : Nat), (s.dev.mapE e).slot < 32 ∧ (s.dev.mapE e).isWrite = false ∧ s.dev.busUp (s.dev.mapE e).slot = true ∧ ((s.dev.mapE e).demand = false ∨ s.dev.wordsRead.contains (s.dev.mapE e).word = true)) ∧
    (∃ (s : State) (k : Fin 32), s.dev.busUp k = true ∧ s.dev.num (Obj.sbAlertPoll k) ≠ 0) ∧
    (∃ (s : State) (k : Fin 32) (f : FarReq) (q : List FarReq), s.dev.busUp k = true ∧ (s.dev.sbus k).txn = none ∧ (s.dev.sbus k).queue = f :: q) ∧
    (∃ (s : State) (k : Fin 32), s.dev.busUp k = true ∧ (s.dev.sbus k).txn = none ∧ (s.dev.sbus k).queue = [] ∧ (s.dev.sbus k).alertDue = true) ∧
    (∃ (s : State) (k : Fin 32) (e : Nat) (t : List Nat) (a : Nat) (r : Nat) (l : Nat) (ds : List Nat) (sp : List Nat), s.dev.busUp k = true ∧ (s.dev.sbus k).txn = none ∧ (s.dev.sbus k).queue = [] ∧ (s.dev.sbus k).alertDue = false ∧ (s.dev.sbus k).due = e :: t ∧ s.dev.readTxn k e (e :: t) = .read a r l ds sp) ∧
    (∃ (s : State) (k : Fin 32), s.dev.busUp k = true ∧ (s.dev.sbus k).txn = none ∧ (s.dev.sbus k).queue = [] ∧ (s.dev.sbus k).alertDue = false ∧ (s.dev.sbus k).due = []) ∧
    (∃ (s : State) (k : Fin 32), s.dev.pecUsed k = false) ∧
    (∃ (s : State) (k : Fin 32) (a : Nat) (b : Nat) (l : Nat) (due : List Nat) (sp : List Nat), (s.dev.sbus k).txn = some (.read a b l due sp)) ∧
    (∃ (s : State) (k : Fin 32) (a : Nat) (b : Nat) (l : Nat) (due : List Nat) (sp : List Nat), (s.dev.sbus k).txn = some (.read a b l due sp)) ∧
    (∃ (s : State) (k : Fin 32) (a : Nat) (b : Nat) (l : Nat) (due : List Nat) (sp : List Nat), (s.dev.sbus k).txn = some (.read a b l due sp) ∧ s.dev.pecUsed k = true) ∧
    (∃ (s : State) (k : Fin 32) (a : Nat) (b : Nat) (l : Nat) (due : List Nat) (sp : List Nat), (s.dev.sbus k).txn = some (.read a b l due sp)) ∧
    (∃ (s : State) (k : Fin 32), (s.dev.sbus k).txn = some .alert) ∧
    (∃ (s : State) (k : Fin 32), (s.dev.sbus k).txn = some .alert) ∧
    (∃ (s : State) (k : Fin 32), (s.dev.sbus k).txn = some .alert ∧ s.dev.pecUsed k = true) ∧
    (∃ (s : State) (k : Fin 32) (f : FarReq), (s.dev.sbus k).txn = some (.far f) ∧ f.rmw ≠ none) ∧
    (∃ (s : State) (k : Fin 32) (f : FarReq) (w : Nat) (off : _) (n : Nat) (v : Nat), (s.dev.sbus k).txn = some (.far f) ∧ f.rmw = none ∧ f.isWrite = true ∧ f.word = some (w, off, n, v)) ∧
    (∃ (s : State) (k : Fin 32) (f : FarReq), (s.dev.sbus k).txn = some (.far f) ∧ f.rmw = none ∧ f.isWrite = false ∧ f.word = none) ∧
    (∃ (s : State) (k : Fin 32) (f : FarReq), (s.dev.sbus k).txn = some (.far f)) ∧
    (∃ (s : State) (k : Fin 32) (f : FarReq), (s.dev.sbus k).txn = some (.far f) ∧ s.dev.pecUsed k = true) ∧
    (∃ (s : State) (k : Fin 32) (f : FarReq), (s.dev.sbus k).txn = some (.far f)) ∧
    (∃ (s : State) (sid : Nat) (x : Session) (e : Exec), s.dev.ses sid = some x ∧ x.exec = some e ∧ e.wait = .farWrite) :=
  ⟨⟨st { up with slots := [(31, { present := true, aux := true })] }, 31, by decide⟩,
   ⟨bus {}, 31, by decide⟩,
   ⟨st up, 31, by decide⟩,
   ⟨bus {} [(Obj.sbmapSlot 511, 31)], 511, by decide⟩,
   ⟨bus {} [(Obj.sbAlertPoll 31, 1)], 31, by decide⟩,
   ⟨bus { queue := [far] }, 31, far, [], by decide⟩,
   ⟨bus { alertDue := true }, 31, by decide⟩,
   ⟨bus { due := [7] } [(Obj.sbmapSlot 7, 31), (Obj.sbmapAddr 7, 0x50), (Obj.sbmapReg 7, 2), (Obj.sbmapLen 7, 4), (Obj.sbMerge 31, 0)], 31, 7, [], 0x50, 2, 4, [7], [], by decide⟩,
   ⟨bus {}, 31, by decide⟩,
   ⟨bus { txn := some .alert }, 31, by decide⟩,
   ⟨bus { txn := some (.read 0x50 2 4 [7] []) }, 31, 0x50, 2, 4, [7], [], by decide⟩,
   ⟨bus { txn := some (.read 0x50 2 4 [7] []) }, 31, 0x50, 2, 4, [7], [], by decide⟩,
   ⟨bus { txn := some (.read 0x50 2 4 [7] []) } [(Obj.sbPec 31, 1)], 31, 0x50, 2, 4, [7], [], by decide⟩,
   ⟨bus { txn := some (.read 0x50 2 4 [7] []) }, 31, 0x50, 2, 4, [7], [], by decide⟩,
   ⟨bus { txn := some .alert }, 31, by decide⟩,
   ⟨bus { txn := some .alert }, 31, by decide⟩,
   ⟨bus { txn := some .alert } [(Obj.sbPec 31, 1)], 31, by decide⟩,
   ⟨bus { txn := some (.far { far with rmw := some (0, 4, 5, false) }) }, 31, { far with rmw := some (0, 4, 5, false) }, by decide⟩,
   ⟨bus { txn := some (.far { far with word := some (255, 8, 8, 9) }) }, 31, { far with word := some (255, 8, 8, 9) }, 255, 8, 8, 9, by decide⟩,
   ⟨bus { txn := some (.far { far with isWrite := false }) }, 31, { far with isWrite := false }, by decide⟩,
   ⟨bus { txn := some (.far far) }, 31, far, by decide⟩,
   ⟨bus { txn := some (.far far) } [(Obj.sbPec 31, 1)], 31, far, by decide⟩,
   ⟨bus { txn := some (.far far) }, 31, far, by decide⟩,
   ⟨on (held Opcode.write .farWrite (it 0x7522 7)), 1, held Opcode.write .farWrite (it 0x7522 7), { rid := 1, opcode := Opcode.write, staged := false, todo := [it 0x7522 7], done := [], wait := .farWrite, raw := msg Opcode.write (it 0x7522 7) }, by decide⟩⟩

theorem witness_PowerStateEvents :
    (∃ (s : State), s.dev.num Obj.pwrState = 0 ∧ s.dev.flag Obj.pwrIdleArmed = true ∧ s.dev.quiet = true) ∧
    (∃ (s : State), s.dev.quiet = false) ∧
    (∃ (s : State), s.dev.num Obj.pwrState = 1) ∧
    (∃ (s : State), s.dev.num Obj.pwrState = 5 ∧ s.dev.pwr.target = 2) ∧
    (∃ (s : State), s.dev.num Obj.pwrState = 5 ∧ s.dev.pwr.target = 3) ∧
    (∃ (s : State), s.dev.num Obj.pwrState = 5 ∧ s.dev.pwr.target = 4) ∧
    (∃ (s : State) (w : WakeSource), (s.dev.num Obj.pwrState = 2 ∨ s.dev.num Obj.pwrState = 3) ∧ wakeActs w (s.dev.num Obj.pwrState) = true ∧ s.dev.wakeEnabled w = true) ∧
    (∃ (s : State) (w : WakeSource), s.dev.num Obj.pwrState = 5 ∧ wakeActs w s.dev.pwr.target = true ∧ s.dev.wakeEnabled w = true) ∧
    (∃ (s : State) (w : WakeSource), s.dev.num Obj.pwrState = 4 ∧ wakeActs w (s.dev.num Obj.pwrState) = true ∧ s.dev.wakeEnabled w = true) ∧
    (∃ (s : State) (w : WakeSource), (s.dev.wakeEnabled w = false ∨ wakeActs w (if s.dev.num Obj.pwrState = 5 then s.dev.pwr.target else s.dev.num Obj.pwrState) = false)) ∧
    (∃ (s : State), s.dev.num Obj.pwrState = 6) ∧
    (∃ (s : State), s.dev.pwr.off = true ∧ s.dev.pwr.exitFrom = 4) ∧
    (∃ (s : State), s.dev.pwr.off = true ∧ s.dev.pwr.exitFrom = 4) :=
  ⟨⟨st (up [(Obj.pwrIdleArmed, 1)]), by decide⟩,
   ⟨st (up [(Obj.bflState 15, 2)]), by decide⟩,
   ⟨st (up [(Obj.pwrState, 1)]), by decide⟩,
   ⟨st { up [(Obj.pwrState, 5)] with pwr := { target := 2 } }, by decide⟩,
   ⟨st { up [(Obj.pwrState, 5)] with pwr := { target := 3 } }, by decide⟩,
   ⟨st { up [(Obj.pwrState, 5)] with pwr := { target := 4 } }, by decide⟩,
   ⟨st (up [(Obj.pwrState, 3)]), .wakeN, by decide⟩,
   ⟨st { up [(Obj.pwrState, 5)] with pwr := { target := 4 } }, .wakeN, by decide⟩,
   ⟨st (up [(Obj.pwrState, 4)]), .wakeN, by decide⟩,
   ⟨st (up [(Obj.pwrState, 4)]), .thermal, by decide⟩,
   ⟨st (up [(Obj.pwrState, 6)]), by decide⟩,
   ⟨st { up [(Obj.pwrState, 6)] with pwr := { off := true, exitFrom := 4 } }, by decide⟩,
   ⟨st { up [(Obj.pwrState, 6)] with pwr := { off := true, exitFrom := 4 } }, by decide⟩⟩

theorem witness_ThermalAndPerennialEvents :
    (∃ (s : State), s.dev.clocks.aoRunning = true ∧ s.dev.num Obj.pwrAoSource = 0) ∧
    (∃ (s : State), s.dev.num Obj.pwrAoSource = 1) ∧
    (∃ (s : State) (h : Half), s.dev.num Obj.pwrThermThrottle * 65536 ≤ s.dev.hottest h ∧ byHalf h s.dev.pwr.throttleW s.dev.pwr.throttleE = 0) ∧
    (∃ (s : State) (h : Half), s.dev.num Obj.pwrThermThrottle * 65536 ≤ s.dev.hottest h ∧ 0 < byHalf h s.dev.pwr.throttleW s.dev.pwr.throttleE) ∧
    (∃ (s : State) (h : Half), s.dev.hottest h < s.dev.num Obj.pwrThermThrottle * 65536 - 3 * 65536 ∧ 0 < byHalf h s.dev.pwr.throttleW s.dev.pwr.throttleE) ∧
    (∃ (s : State), s.dev.flag Obj.perEnable = true ∧ s.dev.num Obj.pwrState = 0) ∧
    (∃ (s : State), s.dev.flag Obj.perEnable = false) ∧
    (∃ (s : State), s.dev.per.baselineTaken = true) ∧
    (∃ (s : State), s.dev.per.baselineTaken = true ∧ s.dev.flag Obj.perEnable = true) ∧
    (∃ (s : State), (s.dev.per.baselineTaken = false ∨ s.dev.flag Obj.perEnable = false)) ∧
    (∃ (s : State) (h : Half) (m : Nat), ((let d := s.dev.setNum (measuredKey h) (m % 2 ^ 16); d.num (requestKey h) + 10 < m ∨ m + 10 < d.num (requestKey h)))) ∧
    (∃ (s : State) (h : Half) (m : Nat), (let d := s.dev.setNum (measuredKey h) (m % 2 ^ 16); m ≤ d.num (requestKey h) + 10 ∧ d.num (requestKey h) ≤ m + 10)) :=
  ⟨⟨st { up with clocks := { aoRunning := true } }, by decide⟩,
   ⟨st (up [(Obj.pwrAoSource, 1)]), by decide⟩,
   ⟨st (up [(Obj.pwrSensorTemp 25, (up).num Obj.pwrThermThrottle * 65536)]), .east, by decide⟩,
   ⟨st { up [(Obj.pwrSensorTemp 25, (up).num Obj.pwrThermThrottle * 65536)] with pwr := { throttleE := 1 } }, .east, by decide⟩,
   ⟨st { up with pwr := { throttleE := 1 } }, .east, by decide⟩,
   ⟨st up, by decide⟩,
   ⟨st (up [(Obj.perEnable, 0)]), by decide⟩,
   ⟨st { up with per := { baselineTaken := true } }, by decide⟩,
   ⟨st { up with per := { baselineTaken := true } }, by decide⟩,
   ⟨st up, by decide⟩,
   ⟨st up, .west, 761, by decide⟩,
   ⟨st up, .west, 760, by decide⟩⟩

theorem witness_TelemetryEvents :
    (∃ (s : State) (h : Half) (i : Ingress) (f : Frame) (out : Nat), s.dev.flag Obj.smpEnable = true ∧ i.half = h ∧ s.dev.sampleCandidate i f out = true) ∧
    (∃ (s : State) (h : Half) (i : Ingress) (f : Frame) (out : Nat), (s.dev.flag Obj.smpEnable = false ∨ i.half ≠ h ∨ s.dev.sampleCandidate i f out = false)) ∧
    (∃ (s : State) (h : Half) (held : Option Nat) (r : List Byte) (rest : List (Option Nat × List Byte)), s.dev.writer h = (held, r) :: rest ∧ s.dev.num Obj.harvMode ≠ 1) ∧
    (∃ (s : State) (h : Half), s.dev.writer h = []) ∧
    (∃ (s : State) (n : Fin 4096) (w : Wqe) (x : Session), s.dev.cmdOf n 0x30 = some w ∧ s.dev.sessions.find? (fun x => x.transport == .tenant n) = some x ∧ (s.dev.slice n).dictOpen = false ∧ 16 ≤ w.len ∧ w.len ≤ 1024 ∧ 1024 ≤ field w.operand1 0 16) ∧
    (∃ (s : State) (n : Fin 4096) (w : Wqe) (x : Session), s.dev.cmdOf n 0x30 = some w ∧ s.dev.sessions.find? (fun x => x.transport == .tenant n) = some x ∧ (s.dev.slice n).dictOpen = false ∧ (w.len < 16 ∨ 1024 < w.len ∨ field w.operand1 0 16 < 1024)) :=
  ⟨⟨st (up [(Obj.smpEnable, 1)]), .west, .port 0, fr, 8, by decide⟩,
   ⟨st up, .west, .port 0, fr, 8, by decide⟩,
   ⟨st { up with tele := { writerE := [(none, zeros 64)] } }, .east, none, zeros 64, [], by decide⟩,
   ⟨st up, .east, by decide⟩,
   ⟨st { (cmd { opcode := 0x30, len := 1024, operand1 := 1024 }).dev with sessions := [{ ses with transport := .tenant 0 }] }, 0, { opcode := 0x30, len := 1024, operand1 := 1024 }, { ses with transport := .tenant 0 }, by decide⟩,
   ⟨st { (cmd { opcode := 0x30, len := 15, operand1 := 1024 }).dev with sessions := [{ ses with transport := .tenant 0 }] }, 0, { opcode := 0x30, len := 15, operand1 := 1024 }, { ses with transport := .tenant 0 }, by decide⟩⟩

theorem witness_UnlockEvents :
    (∃ (s : State) (c : List Byte) (l : Nat) (e : Nat), s.dev.test.challenge = some (c, l, e)) ∧
    (∃ (s : State), s.dev.unlocked = true) ∧
    (∃ (s : State), s.dev.unlocked = false) ∧
    (∃ (s : State) (h : Half) (c : List Byte), byHalf h s.dev.test.jtagChallengeW s.dev.test.jtagChallengeE = some c) ∧
    (∃ (s : State) (h : Half), byHalf h s.dev.test.jtagChallengeW s.dev.test.jtagChallengeE = none) ∧
    (∃ (s : State) (h : Half), s.dev.jtagOpen h = false) ∧
    (∃ (s : State) (h : Half) (idx : Nat) (sub : Nat), s.dev.jtagOpen h = true ∧ inCrocusSet ⟨idx, sub, 0⟩ false = false) ∧
    (∃ (s : State) (h : Half) (idx : Nat) (sub : Nat) (t : State) (x : DoneItem), s.dev.jtagOpen h = true ∧ inCrocusSet ⟨idx, sub, 0⟩ false = true ∧ readItem s (ownerView h) { rid := 0, opcode := Opcode.read, staged := false, todo := [], done := [], wait := .none, raw := [] } { idx := idx, sub := sub, type := 0, data := [] } = (t, .done x)) ∧
    (∃ (s : State) (x : Session), s.dev.ses x.sid = some x ∧ x.sid < 2 ^ 32 ∧ x.blob ≠ none) ∧
    (∃ (s : State) (x : Session) (key : List Byte) (sig : List Byte), s.dev.ses x.sid = some x ∧ x.blob = none ∧ key.length = 1952 ∧ sig.length = 3309) :=
  ⟨⟨st { up with test := { challenge := some ([1], 1, 5) } }, [1], 1, 5, by decide⟩,
   ⟨st (up [(Obj.testUnlockLevel, 1)]), by decide⟩,
   ⟨st up, by decide⟩,
   ⟨st { up with test := { jtagChallengeE := some [1] } }, .east, [1], by decide⟩,
   ⟨st up, .east, by decide⟩,
   ⟨st up, .east, by decide⟩,
   ⟨st { up with test := { jtagLevelE := 1 } }, .east, 0x2000, 0, by decide⟩,
   ⟨st { up with test := { jtagLevelE := 1 } }, .east, 0x1000, 0, (readItem (st { up with test := { jtagLevelE := 1 } }) (ownerView .east) { rid := 0, opcode := Opcode.read, staged := false, todo := [], done := [], wait := .none, raw := [] } (it 0x1000 0)).1, ⟨0x1000, 0, ObjType.u8.code, 0, [3]⟩, by and_intros <;> first | decide | rfl⟩,
   ⟨on { ses with blob := some ⟨1, Obj.testUnlockResponse, true, 5261, [], 0⟩ }, { ses with blob := some ⟨1, Obj.testUnlockResponse, true, 5261, [], 0⟩ }, by decide⟩,
   ⟨on ses, ses, zeros 1952, zeros 3309, by decide, by decide, @List.length_replicate Byte 1952 0, @List.length_replicate Byte 3309 0⟩⟩

theorem witness_ReservedIndexes :
    (∃ (s : State) (x : Session) (m : List Byte) (r : FbpRequest) (i : Item), ready s x r.rid = true ∧ parseFbp m = .request r ∧ r.items = [i] ∧ 0xF000 ≤ i.idx ∧ r.opcode = Opcode.write) ∧
    (∃ (s : State) (x : Session) (m : List Byte) (r : FbpRequest) (i : Item), ready s x r.rid = true ∧ parseFbp m = .request r ∧ r.items = [i] ∧ 0xF000 ≤ i.idx ∧ r.opcode = Opcode.read ∧ (i.type = 0 ∨ i.type = ObjType.u32.code) ∧ s.dev.modeForbids ⟨i.idx, i.sub, 0⟩ false = false) ∧
    (∃ (s : State) (x : Session) (m : List Byte) (r : FbpRequest) (i : Item), ready s x r.rid = true ∧ parseFbp m = .request r ∧ r.items = [i] ∧ 0xF000 ≤ i.idx ∧ r.opcode = Opcode.describe ∧ s.dev.modeForbids ⟨i.idx, i.sub, 0⟩ false = false) ∧
    (∃ (s : State) (x : Session) (m : List Byte) (r : FbpRequest) (i : Item), ready s x r.rid = true ∧ parseFbp m = .request r ∧ r.items = [i] ∧ 0xF000 ≤ i.idx ∧ s.dev.modeForbids ⟨i.idx, i.sub, 0⟩ false = true ∧ r.opcode = Opcode.read ∧ (i.type = 0 ∨ i.type = ObjType.u32.code)) ∧
    (∃ (s : State) (x : Session) (m : List Byte) (r : FbpRequest) (i : Item), ready s x r.rid = true ∧ parseFbp m = .request r ∧ r.items = [i] ∧ 0xF000 ≤ i.idx ∧ s.dev.modeForbids ⟨i.idx, i.sub, 0⟩ false = true ∧ r.opcode = Opcode.describe) :=
  ⟨⟨on ses, ses, msg Opcode.write ⟨0xFFFF, 255, 1, [5]⟩, rq Opcode.write ⟨0xFFFF, 255, 1, [5]⟩, ⟨0xFFFF, 255, 1, [5]⟩, by decide⟩,
   ⟨on ses, ses, msg Opcode.read (it 0xFFFF 255), rq Opcode.read (it 0xFFFF 255), it 0xFFFF 255, by decide⟩,
   ⟨on ses, ses, msg Opcode.describe (it 0xF000 0), rq Opcode.describe (it 0xF000 0), it 0xF000 0, by decide⟩,
   ⟨on ses [(Obj.bootCrocusActive, 1)], ses, msg Opcode.read (it 0xFFFF 255), rq Opcode.read (it 0xFFFF 255), it 0xFFFF 255, by decide⟩,
   ⟨on ses [(Obj.pwrState, PwrSt.sleep)], ses, msg Opcode.describe (it 0xF000 0), rq Opcode.describe (it 0xF000 0), it 0xF000 0, by decide⟩⟩

theorem witness_CrocusRestrictedSet :
    (∃ (s : State) (x : Session) (m : List Byte) (r : FbpRequest) (i : Item) (q : ObjRec) (o : ObjRow) (k : Key), ready s x r.rid = true ∧ parseFbp m = .request r ∧ r.items = [i] ∧ i.idx < 0xF000 ∧ s.dev.crocus = true ∧ locate (taken s x r m) (takenSes s x r m) i = .ok (q, o, k) ∧ inCrocusSet k false = false ∧ r.opcode = Opcode.read ∧ (i.type = 0 ∨ i.type = o.ty.code)) ∧
    (∃ (s : State) (x : Session) (m : List Byte) (r : FbpRequest) (i : Item) (q : ObjRec) (o : ObjRow) (k : Key), ready s x r.rid = true ∧ parseFbp m = .request r ∧ r.items = [i] ∧ i.idx < 0xF000 ∧ s.dev.crocus = true ∧ locate (taken s x r m) (takenSes s x r m) i = .ok (q, o, k) ∧ inCrocusSet k false = false ∧ r.opcode = Opcode.describe ∧ (i.type = 0 ∨ i.type = o.ty.code)) ∧
    (∃ (s : State) (x : Session) (m : List Byte) (r : FbpRequest) (i : Item) (q : ObjRec) (o : ObjRow) (k : Key), ready s x r.rid = true ∧ parseFbp m = .request r ∧ r.items = [i] ∧ i.idx < 0xF000 ∧ s.dev.crocus = true ∧ locate (taken s x r m) (takenSes s x r m) i = .ok (q, o, k) ∧ inCrocusSet k false = false ∧ r.opcode = Opcode.blobOpen ∧ beNat (slice i.data 4 1) = 0 ∧ o.ty = .blob ∧ i.data.length = 8) ∧
    (∃ (s : State) (x : Session) (m : List Byte) (r : FbpRequest) (i : Item) (q : ObjRec) (o : ObjRow) (k : Key) (v : Val), ready s x r.rid = true ∧ parseFbp m = .request r ∧ r.items = [i] ∧ i.idx < 0xF000 ∧ s.dev.crocus = true ∧ locate (taken s x r m) (takenSes s x r m) i = .ok (q, o, k) ∧ (inCrocusSet k true = false ∨ k.idx = 0x1F00 ∧ k.sub = 1) ∧ mayWrite (takenSes s x r m) q o k.idx k.sub = true ∧ r.opcode = Opcode.write ∧ i.type = o.ty.code ∧ decodeVal o.ty i.data = some v ∧ wrongLength o v = false) ∧
    (∃ (s : State) (x : Session) (m : List Byte) (r : FbpRequest) (i : Item) (q : ObjRec) (o : ObjRow) (k : Key), ready s x r.rid = true ∧ parseFbp m = .request r ∧ r.items = [i] ∧ i.idx < 0xF000 ∧ s.dev.crocus = true ∧ locate (taken s x r m) (takenSes s x r m) i = .ok (q, o, k) ∧ (inCrocusSet k true = false ∨ k.idx = 0x1F00 ∧ k.sub = 1) ∧ mayWrite (takenSes s x r m) q o k.idx k.sub = true ∧ r.opcode = Opcode.blobOpen ∧ beNat (slice i.data 4 1) = 1 ∧ o.ty = .blob ∧ i.data.length = 8) :=
  ⟨⟨on ses [(Obj.bootCrocusActive, 1)], ses, msg Opcode.read (it 0x5000 2), rq Opcode.read (it 0x5000 2), it 0x5000 2, recOf 0x5000, rowOf 0x5000 2, ⟨0x5000, 2, 0⟩, by and_intros <;> first | decide | rfl⟩,
   ⟨on ses [(Obj.bootCrocusActive, 1)], ses, msg Opcode.describe (it 0x1F00 1), rq Opcode.describe (it 0x1F00 1), it 0x1F00 1, recOf 0x1F00, rowOf 0x1F00 1, ⟨0x1F00, 1, 0⟩, by and_intros <;> first | decide | rfl⟩,
   ⟨on ses [(Obj.bootCrocusActive, 1)], ses, msg Opcode.blobOpen (it 0x5100 6 (zeros 8)), rq Opcode.blobOpen (it 0x5100 6 (zeros 8)), it 0x5100 6 (zeros 8), recOf 0x5100, rowOf 0x5100 6, ⟨0x5100, 6, 0⟩, by and_intros <;> first | decide | rfl⟩,
   ⟨on ses [(Obj.bootCrocusActive, 1)], ses, msg Opcode.write ⟨0x1F00, 1, ObjType.u8.code, [1]⟩, rq Opcode.write ⟨0x1F00, 1, ObjType.u8.code, [1]⟩, ⟨0x1F00, 1, ObjType.u8.code, [1]⟩, recOf 0x1F00, rowOf 0x1F00 1, ⟨0x1F00, 1, 0⟩, .num 1, by and_intros <;> first | decide | rfl⟩,
   ⟨on ses [(Obj.bootCrocusActive, 1)], ses, msg Opcode.blobOpen (it 0xC000 3 opn), rq Opcode.blobOpen (it 0xC000 3 opn), it 0xC000 3 opn, recOf 0xC000, rowOf 0xC000 3, ⟨0xC000, 3, 0⟩, by and_intros <;> first | decide | rfl⟩⟩

theorem witness_StepTakesTheFrontCommand :
    (∃ (s : State) (c : Instr) (rest : List Instr), s.pending = c :: rest) ∧
    (∃ (s : State), s.pending = []) :=
  ⟨⟨two, .porstNFall 999, [.vao18Ramp], by decide⟩,
   ⟨st up, by decide⟩⟩

theorem witness_EveryCommandIsCarriedOut : ∃ (c : Instr), stops c = false :=
  ⟨.porstNFall 10000, by decide⟩

theorem witness_PorstPulseWidths :
    (∃ (n : Nat), 1000 ≤ n ∧ n < 10000) ∧
    (∃ (n : Nat), n < 1000) ∧
    (∃ (n : Nat), 10000 ≤ n) :=
  ⟨⟨1000, by decide⟩,
   ⟨999, by decide⟩,
   ⟨10000, by decide⟩⟩

theorem witness_QueueIsFirstInFirstOut : ∃ (n : Nat) (s : State) (t : State), runs n s = some t :=
  ⟨2, two, (runs 2 two).getD two, some_of _ _ (by decide +kernel)⟩

theorem witness_OtpIsNeverTakenBack : ∃ (n : Nat) (s : State) (t : State), runs n s = some t :=
  ⟨2, two, (runs 2 two).getD two, some_of _ _ (by decide +kernel)⟩

theorem witness_OtpStaysSound : ∃ (s : State) (t : State), otpSound s.otp ∧ step s = .next t :=
  ⟨two, { two with pending := [.vao18Ramp] }, (by decide : (14 : Nat) < 15), rfl⟩

theorem witness_CommitLockStaysSet : ∃ (n : Nat) (s : State) (t : State), runs n s = some t ∧ s.commitLock = true ∧ (∀ c ∈ s.pending.take n, clearsLock c = false) :=
  ⟨2, two, (runs 2 two).getD two, some_of _ _ (by decide +kernel), rfl, by decide⟩

theorem witness_RefusedWrites :
    (∃ (s : State) (x : Session) (m : List Byte) (r : FbpRequest) (i : Item), ready s x r.rid = true ∧ parseFbp m = .request r ∧ r.opcode = Opcode.write ∧ r.items = [i] ∧ 0xF000 ≤ i.idx) ∧
    (∃ (s : State) (x : Session) (m : List Byte) (r : FbpRequest) (i : Item), ready s x r.rid = true ∧ parseFbp m = .request r ∧ r.opcode = Opcode.write ∧ r.items = [i] ∧ i.idx < 0xF000 ∧ findRec i.idx = none) ∧
    (∃ (s : State) (x : Session) (m : List Byte) (r : FbpRequest) (i : Item) (q : ObjRec) (o : ObjRow) (k : Key), ready s x r.rid = true ∧ parseFbp m = .request r ∧ r.opcode = Opcode.write ∧ r.items = [i] ∧ i.idx < 0xF000 ∧ locate (taken s x r m) (takenSes s x r m) i = .ok (q, o, k) ∧ mayWrite (takenSes s x r m) q o k.idx k.sub = false) ∧
    (∃ (s : State) (x : Session) (m : List Byte) (r : FbpRequest) (i : Item) (q : ObjRec) (o : ObjRow) (k : Key), ready s x r.rid = true ∧ parseFbp m = .request r ∧ r.opcode = Opcode.write ∧ r.items = [i] ∧ i.idx < 0xF000 ∧ locate (taken s x r m) (takenSes s x r m) i = .ok (q, o, k) ∧ mayWrite (takenSes s x r m) q o k.idx k.sub = true ∧ i.type ≠ o.ty.code) ∧
    (∃ (s : State) (x : Session) (m : List Byte) (r : FbpRequest) (i : Item) (q : ObjRec) (o : ObjRow) (k : Key) (v : Val), ready s x r.rid = true ∧ parseFbp m = .request r ∧ r.opcode = Opcode.write ∧ r.items = [i] ∧ i.idx < 0xF000 ∧ locate (taken s x r m) (takenSes s x r m) i = .ok (q, o, k) ∧ mayWrite (takenSes s x r m) q o k.idx k.sub = true ∧ i.type = o.ty.code ∧ decodeVal o.ty i.data = some v ∧ wrongLength o v = false ∧ s.dev.modeForbids k true = true) ∧
    (∃ (s : State) (x : Session) (m : List Byte) (r : FbpRequest) (i : Item) (q : ObjRec) (o : ObjRow) (k : Key) (v : Val), ready s x r.rid = true ∧ parseFbp m = .request r ∧ r.opcode = Opcode.write ∧ r.items = [i] ∧ i.idx < 0xF000 ∧ locate (taken s x r m) (takenSes s x r m) i = .ok (q, o, k) ∧ mayWrite (takenSes s x r m) q o k.idx k.sub = true ∧ i.type = o.ty.code ∧ decodeVal o.ty i.data = some v ∧ wrongLength o v = false ∧ s.dev.modeForbids k true = false ∧ o.cls = .staged ∧ s.commitLock = true ∧ o.access = .rwl) :=
  ⟨⟨on ses, ses, msg Opcode.write ⟨0xF000, 1, 1, [5]⟩, rq Opcode.write ⟨0xF000, 1, 1, [5]⟩, ⟨0xF000, 1, 1, [5]⟩, by decide⟩,
   ⟨on ses, ses, msg Opcode.write ⟨0xEFFF, 1, 1, [5]⟩, rq Opcode.write ⟨0xEFFF, 1, 1, [5]⟩, ⟨0xEFFF, 1, 1, [5]⟩, by decide⟩,
   ⟨on ses, ses, msg Opcode.write ⟨0x1000, 0, 1, [5]⟩, rq Opcode.write ⟨0x1000, 0, 1, [5]⟩, ⟨0x1000, 0, 1, [5]⟩, recOf 0x1000, rowOf 0x1000 0, ⟨0x1000, 0, 0⟩, by and_intros <;> first | decide | rfl⟩,
   ⟨on ses, ses, msg Opcode.write ⟨0x9100, 3, 99, [5]⟩, rq Opcode.write ⟨0x9100, 3, 99, [5]⟩, ⟨0x9100, 3, 99, [5]⟩, recOf 0x9100, rowOf 0x9100 3, ⟨0x9100, 3, 0⟩, by and_intros <;> first | decide | rfl⟩,
   ⟨on ses [(Obj.bootCrocusActive, 1)], ses, msg Opcode.write (wi [5, 160]), rq Opcode.write (wi [5, 160]), wi [5, 160], recOf 0x9100, rowOf 0x9100 3, ⟨0x9100, 3, 0⟩, .num 1440, by and_intros <;> first | decide | rfl⟩,
   ⟨{ on ses with commitLock := true }, ses, msg Opcode.write ⟨0x3100, 1, ObjType.u8.code, [1]⟩, rq Opcode.write ⟨0x3100, 1, ObjType.u8.code, [1]⟩, ⟨0x3100, 1, ObjType.u8.code, [1]⟩, recOf 0x3100, rowOf 0x3100 1, ⟨0x3100, 1, 0⟩, .num 1, by and_intros <;> first | decide | rfl⟩⟩

theorem witness_StagingLimits :
    (∃ (s : State) (x : Session) (m : List Byte) (r : FbpRequest) (i : Item) (q : ObjRec) (o : ObjRow) (k : Key) (v : Val), ready s x r.rid = true ∧ parseFbp m = .request r ∧ r.opcode = Opcode.write ∧ r.items = [i] ∧ i.idx < 0xF000 ∧ locate (taken s x r m) (takenSes s x r m) i = .ok (q, o, k) ∧ checkWrite (taken s x r m) (takenSes s x r m) q k o i.type (decodeVal o.ty i.data) = .ok (v, false) ∧ o.cls = .staged ∧ tabFind x.staged k = none ∧ (4096 ≤ x.staged.length ∨ 16384 ≤ (taken s x r m).dev.stagedTotal)) ∧
    (∃ (s : State) (x : Session) (m : List Byte) (r : FbpRequest) (i : Item) (q : ObjRec) (o : ObjRow) (k : Key) (v : Val), ready s x r.rid = true ∧ parseFbp m = .request r ∧ r.opcode = Opcode.write ∧ r.items = [i] ∧ i.idx < 0xF000 ∧ locate (taken s x r m) (takenSes s x r m) i = .ok (q, o, k) ∧ checkWrite (taken s x r m) (takenSes s x r m) q k o i.type (decodeVal o.ty i.data) = .ok (v, false) ∧ o.cls = .staged ∧ (tabFind x.staged k ≠ none ∨ (x.staged.length < 4096 ∧ (taken s x r m).dev.stagedTotal < 16384))) :=
  ⟨⟨on full, full, msg Opcode.write (wi [5, 160]), rq Opcode.write (wi [5, 160]), wi [5, 160], recOf 0x9100, rowOf 0x9100 3, ⟨0x9100, 3, 0⟩, .num 1440, (ready_iff _ _ _).2 ⟨rfl, by decide, by decide, by decide, rfl, rfl, by decide, rfl, rfl⟩, by decide, rfl, rfl, by decide, ok_of _ _ (by decide), ok_of _ _ (by decide +kernel), by decide, find_replicate 4096 _ _ _ (by decide), Or.inl (Nat.le_of_eq (List.length_replicate (n := 4096)).symm)⟩,
   ⟨on ses, ses, msg Opcode.write (wi [5, 160]), rq Opcode.write (wi [5, 160]), wi [5, 160], recOf 0x9100, rowOf 0x9100 3, ⟨0x9100, 3, 0⟩, .num 1440, by and_intros <;> first | decide | rfl⟩⟩

theorem witness_ThermalWarnings :
    (∃ (d : Dev) (h : Half), d.hottest h < d.num Obj.pwrThermWarn * 65536) ∧
    (∃ (d : Dev) (h : Half) (t : Nat), byHalf h d.pwr.warnW d.pwr.warnE = some t ∧ d.elapsed t (sec 60) = false) ∧
    (∃ (d : Dev) (h : Half), d.num Obj.pwrThermWarn * 65536 ≤ d.hottest h ∧ (∀ t, byHalf h d.pwr.warnW d.pwr.warnE = some t → d.elapsed t (sec 60) = true)) :=
  ⟨⟨up, .west, by decide⟩,
   ⟨{ up with pwr := { warnW := some 0 } }, .west, 0, by decide⟩,
   ⟨up [(Obj.pwrSensorTemp 12, (up).num Obj.pwrThermWarn * 65536)], .west, by and_intros <;> first | decide | (intro t h; cases h)⟩⟩

theorem witness_PathWeightsKeepTheirSum : ∃ (l : List (Nat × Nat)), (l.map (fun e => e.1)).Nodup :=
  ⟨[(0, 21846), (1, 21845), (2, 21845)], by decide⟩

end Sys2Proof.Tests
end

/-!
PROOFS. The rows that end a request's wait (R23, R199, R243, R378): what each of them answers when the session waits for
it, one equation per row, and from them the statement `Obligations.WaitingRequestsEnd`.
-/
namespace Sys2Proof.Machine

/-! The equation of each row in a state where its wait stands. -/

theorem exec_farTimeout_of_farAccess {s : State} {n : Nat} {i : Item} (h : s.dev.waitsFor n = some (.farAccess, i)) :
    exec (.farTimeout n) s =
      (let d := if i.idx = 0x1F00 ∧ i.sub = 1 then s.dev.setCommitResult n Status.farTimeout 0 noEntry else s.dev
       let d := if inPaDie ⟨i.idx, i.sub, 0⟩ then d.logEvent d.holderHalf Scope.device 0 1 0x0602 else d
       .next (answerWait { s with dev := d } n Status.farTimeout)) := by
  show execFarTimeout n s = _
  simp only [execFarTimeout, h]

/-- What a completion leaves in the requester's session: the status always, the data of a read that succeeded. -/
def Session.cfgCompleted (x : Session) (i : Item) (st : CplStatus) (data : Nat) : Session :=
  let x := x.setLoc Obj.fabricCfgreqCplStatus (.num st.code)
  if st = .sc ∧ beNat i.data = 1 then
    x.setLoc Obj.fabricCfgreqData (.num (data % 2 ^ (8 * (x.loc Obj.fabricCfgreqSize).toNum)))
  else x

theorem Session.cfgCompleted_read_sc (x : Session) {i : Item} (data : Nat) (hread : beNat i.data = 1) :
    x.cfgCompleted i .sc data =
      (x.setLoc Obj.fabricCfgreqCplStatus (.num 0)).setLoc Obj.fabricCfgreqData
        (.num (data % 2 ^ (8 * ((x.setLoc Obj.fabricCfgreqCplStatus (.num 0)).loc Obj.fabricCfgreqSize).toNum))) :=
  if_pos ⟨rfl, hread⟩

theorem Session.cfgCompleted_of_ne_sc (x : Session) (i : Item) {st : CplStatus} (data : Nat) (hst : st ≠ .sc) :
    x.cfgCompleted i st data = x.setLoc Obj.fabricCfgreqCplStatus (.num st.code) :=
  if_neg fun h => hst h.1

theorem exec_fabricCfgCompletion_of_cfgRequest {s : State} {n : Nat} {i : Item} (st : CplStatus) (data : Nat)
    (h : s.dev.waitsFor n = some (.cfgRequest, i)) :
    exec (.fabricCfgCompletion n st data) s =
      .next (answerWait { s with dev := s.dev.modSes n (fun x => x.cfgCompleted i st data) } n
        (if st = .sc then Status.ok else Status.farNak)) := by
  show execFabricCfgCompletion n st data s = _
  simp only [execFabricCfgCompletion, h, Session.cfgCompleted]

theorem exec_fabricCfgTimeout_of_cfgRequest {s : State} {n : Nat} {i : Item} (h : s.dev.waitsFor n = some (.cfgRequest, i)) :
    exec (.fabricCfgTimeout n) s =
      .next (answerWait { s with dev := s.dev.modSes n (fun x => x.setLoc Obj.fabricCfgreqCplStatus (.num 0xFF)) } n
        Status.farTimeout) := by
  show execFabricCfgTimeout n s = _
  simp only [execFabricCfgTimeout, h]

/-- An answer that names the link the evacuation goes to, with an incarnation that fits its field. -/
theorem exec_evacReply_of_evac {s : State} {t i : Fin 16} {inc n mark : Nat} (q : Nat)
    (h : (s.dev.link i).evac = some (t.val, n, mark)) (hinc : inc < 2 ^ 16) :
    exec (.evacReply t i q inc) s = .next (answerWait { s with dev := s.dev.evacuate i t mark q } n Status.ok) := by
  show execEvacReply t i q inc s = _
  simp only [execEvacReply, h]
  exact if_pos ⟨trivial, hinc⟩

theorem exec_bflEvacTimeout_of_evac {s : State} {i : Fin 16} {t n mark : Nat} (h : (s.dev.link i).evac = some (t, n, mark)) :
    exec (.bflEvacTimeout i) s =
      .next (answerWait { s with dev := s.dev.modLink i (fun x => { x with evac := none }) } n Status.farTimeout) := by
  show execBflEvacTimeout i s = _
  simp only [execBflEvacTimeout, h]

theorem tabGet_of_tabFind {κ ν : Type} [DecidableEq κ] {l : List (κ × ν)} {k : κ} {v : ν} (d : ν) (h : tabFind l k = some v) :
    tabGet l k d = v := by
  simp [tabGet, h]

theorem exec_pmuSnapLatch_of_snapshot {s : State} {n t : Nat} {x : Session} {i : Item}
    (hwait : s.dev.waitsFor n = some (.snapshot, i)) (hses : s.dev.ses n = some x)
    (hat : tabFind s.dev.tele.snapAt x.pmuScope = some t) :
    exec (.pmuSnapLatch n) s =
      (let d := (s.dev.advanceTo (s.dev.clk + (t - s.dev.time x.half))).latchSnap x.pmuScope t
       let d := { d with tele := { d.tele with snapAt := tabDel d.tele.snapAt x.pmuScope } }
       .next ((d.sessions.filter (fun y => y.pmuScope == x.pmuScope && y.exec.any (fun e => e.wait == .snapshot))).foldl
         (fun s y => answerWait s y.sid Status.ok) { s with dev := d })) := by
  show execPmuSnapLatch n s = _
  simp only [execPmuSnapLatch, hwait, hses, tabGet_of_tabFind _ hat]

/-- Settles O18: each row's equation above, with the tests of its far access or completion decided by the hypotheses. -/
theorem waitingRequestsEnd : Obligations.WaitingRequestsEnd := by
  refine ⟨?farOther, ?farCommit, ?farPaDie, ?cfgRead, ?cfgFailed, ?cfgTimeout, ?evacuated, ?evacTimeout, ?latched⟩
  case farOther =>
    intro s n i h hcommit hpa
    simp [exec_farTimeout_of_farAccess h, hcommit, hpa]
  case farCommit =>
    intro s n i h hidx hsub hpa
    rw [exec_farTimeout_of_farAccess h, if_pos ⟨hidx, hsub⟩]
    simp [hpa]
  case farPaDie =>
    intro s n i h hidx hpa
    simp [exec_farTimeout_of_farAccess h, hidx, hpa]
  case cfgRead =>
    intro s n i data h hread
    simp only [exec_fabricCfgCompletion_of_cfgRequest .sc data h, Session.cfgCompleted_read_sc _ data hread, if_true]
  case cfgFailed =>
    intro s n i st data h hst
    simp only [exec_fabricCfgCompletion_of_cfgRequest st data h, Session.cfgCompleted_of_ne_sc _ i data hst, if_neg hst]
  case cfgTimeout => exact fun s n i h => exec_fabricCfgTimeout_of_cfgRequest h
  case evacuated => exact fun s t i q inc n mark h hinc => exec_evacReply_of_evac q h hinc
  case evacTimeout => exact fun s i t n mark h => exec_bflEvacTimeout_of_evac h
  case latched => exact fun s n x i t hwait hses hat => exec_pmuSnapLatch_of_snapshot hwait hses hat

end Sys2Proof.Machine

/-!
PROOFS. The step relation as a whole (R30, R62): the three widths of a PORST_N pulse, what every other command keeps, and
from the two what a step and a run keep. The statements `Obligations.PorstPulseWidths`,
`Obligations.EveryCommandIsCarriedOut` and `Obligations.CommitLockStaysSet` follow.
-/
namespace Sys2Proof.Safety
open Sys2Proof.Machine

/-! PORST_N pulses by their width (R30). -/

theorem exec_porstNFall_short (s : State) {n : Nat} (h : n < 1000) : exec (.porstNFall n) s = .next s := if_pos h

theorem exec_porstNFall_undefined (s : State) {n : Nat} (h1 : 1000 ≤ n) (h2 : n < 10000) :
    exec (.porstNFall n) s = .fault .undefinedPorstPulse :=
  (if_neg (Nat.not_lt.2 h1)).trans (if_pos h2)

theorem exec_porstNFall_long (s : State) {n : Nat} (h : 10000 ≤ n) :
    exec (.porstNFall n) s = .next { s with commitLock := false, dev := s.dev.porstReset } :=
  (if_neg (by omega)).trans (if_neg (Nat.not_lt.2 h))

@[simp] theorem clearsLock_porstNFall (n : Nat) : clearsLock (.porstNFall n) = decide (10000 ≤ n) := rfl

@[simp] theorem stops_porstNFall (n : Nat) : stops (.porstNFall n) = (decide (1000 ≤ n) && decide (n < 10000)) := rfl

/-! Every other command. -/

/-- Every command but PORST_N_FALL answers a next state that keeps the queue, the OTP cells' order and the commit lock:
one arm per command, as in `exec`. -/
theorem exec_gives (s : State) : ∀ c : Instr, (∀ n, c ≠ .porstNFall n) → Gives s (exec c s)
  | .vao18Ramp, _ => gives_vao18Ramp s
  | .aoCrystalStart, _ => gives_aoCrystalStart s
  | .porstNFall n, h => absurd rfl (h n)
  | .porstNRise, _ => gives_porstNRise s
  | .strapSample s1 s2 s3, _ => gives_strapSample s s1 s2 s3
  | .halvesRelease, _ => gives_halvesRelease s
  | .romPass h, _ => gives_romPass s h
  | .romSelfcheckRetry h passed, _ => gives_romSelfcheckRetry s h passed
  | .rakeClaim h, _ => gives_rakeClaim s h
  | .rakePrefDelayExpiry, _ => gives_rakePrefDelayExpiry s
  | .rakeClaimTimeout, _ => gives_rakeClaimTimeout s
  | .paDieUnreachable h, _ => gives_paDieUnreachable s h
  | .seamTrained d m, _ => gives_seamTrained s d m
  | .seamTrainTimeout, _ => gives_seamTrainTimeout s
  | .qdrTrained stack, _ => gives_qdrTrained s stack
  | .qdrTrainTimeout stack, _ => gives_qdrTrainTimeout s stack
  | .imageVerified h slot img, _ => gives_imageVerified s h slot img
  | .firmwareStart, _ => gives_firmwareStart s
  | .bootStageTimeout st h, _ => gives_bootStageTimeout s st h
  | .bootLaneCalibration failed, _ => gives_bootLaneCalibration s failed
  | .healthyDeclare sid rid, _ => gives_healthyDeclare s sid rid
  | .watchdogKick h, _ => gives_watchdogKick s h
  | .watchdogExpiry h, _ => gives_watchdogExpiry s h
  | .clusterRejoin h, _ => gives_clusterRejoin s h
  | .warmResetRequest sid rid, _ => gives_warmResetRequest s sid rid
  | .crocusForce sid rid, _ => gives_crocusForce s sid rid
  | .crocusExit sid rid, _ => gives_crocusExit s sid rid
  | .crocusExitDefaults sid rid, _ => gives_crocusExitDefaults s sid rid
  | .otpCommit sid rid, _ => gives_otpCommit s sid rid
  | .otpRevoke sid rid slots, _ => gives_otpRevoke s sid rid slots
  | .rakeHandover sid rid, _ => gives_rakeHandover s sid rid
  | .holderDemote h, _ => gives_holderDemote s h
  | .farTimeout sid, _ => gives_farTimeout s sid
  | .read sid msg, _ => gives_read s sid msg
  | .write sid msg, _ => gives_write s sid msg
  | .describe sid msg, _ => gives_describe s sid msg
  | .blobOpen sid msg, _ => gives_blobOpen s sid msg
  | .blobData sid msg, _ => gives_blobData s sid msg
  | .blobClose sid msg, _ => gives_blobClose s sid msg
  | .blobAbort sid msg, _ => gives_blobAbort s sid msg
  | .blobTimeout sid, _ => gives_blobTimeout s sid
  | .ping sid msg, _ => gives_ping s sid msg
  | .notifyAck sid requestId, _ => gives_notifyAck s sid requestId
  | .fbpResponseDiscard sid msg, _ => gives_fbpResponseDiscard s sid msg
  | .requestExecute sid, _ => gives_requestExecute s sid
  | .objectWrite sid rid index sub type data, _ => gives_objectWrite s sid rid index sub type data
  | .cfgCommit sid rid, _ => gives_cfgCommit s sid rid
  | .cfgDiscard sid rid, _ => gives_cfgDiscard s sid rid
  | .cfgCheck sid rid, _ => gives_cfgCheck s sid rid
  | .commitStart, _ => gives_commitStart s
  | .commitWaitTimeout sid, _ => gives_commitWaitTimeout s sid
  | .commitConfirm part status found, _ => gives_commitConfirm s part status found
  | .commitPrepareTimeout part, _ => gives_commitPrepareTimeout s part
  | .commitApply, _ => gives_commitApply s
  | .storeWriteTimeout, _ => gives_storeWriteTimeout s
  | .commitLockWrite sid rid v, _ => gives_commitLockWrite s sid rid v
  | .ownerCredentialWrite sid rid hash, _ => gives_ownerCredentialWrite s sid rid hash
  | .notifyResend sid, _ => gives_notifyResend s sid
  | .sessionIdleTimeout sid, _ => gives_sessionIdleTimeout s sid
  | .spdmKeyExchange offer proved, _ => gives_spdmKeyExchange s offer proved
  | .spdmKeyUpdate sid, _ => gives_spdmKeyUpdate s sid
  | .getMeasurements via ask, _ => gives_getMeasurements s via ask
  | .fbpClearDatagram msg, _ => gives_fbpClearDatagram s msg
  | .icmpv6NeighbourDiscovery target, _ => gives_icmpv6NeighbourDiscovery s target
  | .icmpv6Echo data, _ => gives_icmpv6Echo s data
  | .mbGo node request, _ => gives_mbGo s node request
  | .mbAbort node, _ => gives_mbAbort s node
  | .mbNtfTail node tail, _ => gives_mbNtfTail s node tail
  | .setEndpointId node eid, _ => gives_setEndpointId s node eid
  | .padHoldRelease sid rid groups, _ => gives_padHoldRelease s sid rid groups
  | .thermalTrip sensor celsius, _ => gives_thermalTrip s sensor celsius
  | .vpaLow, _ => gives_vpaLow s
  | .vpaRecover, _ => gives_vpaRecover s
  | .laneLolAssert l, _ => gives_laneLolAssert s l
  | .laneLolClear l, _ => gives_laneLolClear s l
  | .laneLosAssert l announced, _ => gives_laneLosAssert s l announced
  | .laneLosDeassert l, _ => gives_laneLosDeassert s l
  | .laneRateChange p rate, _ => gives_laneRateChange s p rate
  | .laneSleepChange l d level, _ => gives_laneSleepChange s l d level
  | .laneWake l d, _ => gives_laneWake s l d
  | .bgcalPeriodExpiry l, _ => gives_bgcalPeriodExpiry s l
  | .bgcalTempTrigger st, _ => gives_bgcalTempTrigger s st
  | .freeSamplerGrant l, _ => gives_freeSamplerGrant s l
  | .samplerSwap l agreed, _ => gives_samplerSwap s l agreed
  | .bgcalPassEnd l ok, _ => gives_bgcalPassEnd s l ok
  | .eyeScan l height width, _ => gives_eyeScan s l height width
  | .marginCommand l start, _ => gives_marginCommand s l start
  | .laneCalBackground sid rid l, _ => gives_laneCalBackground s sid rid l
  | .laneCalFull sid rid l, _ => gives_laneCalFull s sid rid l
  | .laneBist sid rid l, _ => gives_laneBist s sid rid l
  | .laneCalFullForced sid rid l, _ => gives_laneCalFullForced s sid rid l
  | .laneBistForced sid rid l, _ => gives_laneBistForced s sid rid l
  | .laneCalEnd l o, _ => gives_laneCalEnd s l o
  | .testLoopbackSet sid rid l code, _ => gives_testLoopbackSet s sid rid l code
  | .testGenSet sid rid l code, _ => gives_testGenSet s sid rid l code
  | .testRateSet sid rid l code, _ => gives_testRateSet s sid rid l code
  | .testChkSet sid rid l code, _ => gives_testChkSet s sid rid l code
  | .checkerLock l, _ => gives_checkerLock s l
  | .checkerLockLost l bits errors, _ => gives_checkerLockLost s l bits errors
  | .testInjectSingle sid rid l, _ => gives_testInjectSingle s sid rid l
  | .testInjectPeriodic sid rid l k, _ => gives_testInjectPeriodic s sid rid l k
  | .testInjectBurst sid rid l len, _ => gives_testInjectBurst s sid rid l len
  | .portRetrain sid rid p, _ => gives_portRetrain s sid rid p
  | .portHotReset sid rid p, _ => gives_portHotReset s sid rid p
  | .portLinkDisable sid rid p, _ => gives_portLinkDisable s sid rid p
  | .linkUp p f, _ => gives_linkUp s p f
  | .linkDown p surprise, _ => gives_linkDown s p surprise
  | .replayNumRollover p, _ => gives_replayNumRollover s p
  | .speedChange p rate, _ => gives_speedChange s p rate
  | .l0pWidthRequest p own partner, _ => gives_l0pWidthRequest s p own partner
  | .perstinFall st, _ => gives_perstinFall s st
  | .perstinRise st, _ => gives_perstinRise s st
  | .hotResetReceived node hot, _ => gives_hotResetReceived s node hot
  | .hotResetEnd node, _ => gives_hotResetEnd s node
  | .configWrite f r value, _ => gives_configWrite s f r value
  | .ptmRequest p, _ => gives_ptmRequest s p
  | .ptmOffsetRefresh node offset, _ => gives_ptmOffsetRefresh s node offset
  | .stationRefclkSelect st toggles, _ => gives_stationRefclkSelect s st toggles
  | .mldTrained p lds, _ => gives_mldTrained s p lds
  | .mldReleaseTimeout p, _ => gives_mldReleaseTimeout s p
  | .cxlMemUnclaimed node isWrite len, _ => gives_cxlMemUnclaimed s node isWrite len
  | .frameIngress j f facts, _ => gives_frameIngress s j f facts
  | .egressSelect p ecc, _ => gives_egressSelect s p ecc
  | .linkCreditUpdate p c, _ => gives_linkCreditUpdate s p c
  | .skimEvict h, _ => gives_skimEvict s h
  | .tallyScanStart h, _ => gives_tallyScanStart s h
  | .tallyScanEnd h found, _ => gives_tallyScanEnd s h found
  | .seamFrameReceive st seq f, _ => gives_seamFrameReceive s st seq f
  | .seamAdmission st channel, _ => gives_seamAdmission s st channel
  | .seamCrcError d m, _ => gives_seamCrcError s d m
  | .seamReplayAck d m, _ => gives_seamReplayAck s d m
  | .seamRetrainDone d m, _ => gives_seamRetrainDone s d m
  | .seamRetrainTimeout d m, _ => gives_seamRetrainTimeout s d m
  | .seamHeartbeatSend h, _ => gives_seamHeartbeatSend s h
  | .seamHeartbeatTimeout, _ => gives_seamHeartbeatTimeout s
  | .seamTimeExchange, _ => gives_seamTimeExchange s
  | .seamMgmtRequest h w i k e v, _ => gives_seamMgmtRequest s h w i k e v
  | .halfHalt h cause, _ => gives_halfHalt s h cause
  | .fabricCfgRead sid rid, _ => gives_fabricCfgRead s sid rid
  | .fabricCfgWrite sid rid, _ => gives_fabricCfgWrite s sid rid
  | .fabricCfgCompletion sid st data, _ => gives_fabricCfgCompletion s sid st data
  | .fabricCfgTimeout sid, _ => gives_fabricCfgTimeout s sid
  | .fportReadyWrite sid rid p bars, _ => gives_fportReadyWrite s sid rid p bars
  | .hostConfigRequest b r write requester tag, _ => gives_hostConfigRequest s b r write requester tag
  | .synthSlotPowerOff node devfn, _ => gives_synthSlotPowerOff s node devfn
  | .synthSlotPowerOn node devfn, _ => gives_synthSlotPowerOn s node devfn
  | .proxyCompletion t, _ => gives_proxyCompletion s t
  | .trackTimeout h entry, _ => gives_trackTimeout s h entry
  | .trackWaitResume h, _ => gives_trackWaitResume s h
  | .pairSessionEstablished twinKey twinFabric twinEnable twinTime, _ => gives_pairSessionEstablished s twinKey twinFabric twinEnable twinTime
  | .pairSessionRefused reason, _ => gives_pairSessionRefused s reason
  | .pairJoinTimeout, _ => gives_pairJoinTimeout s
  | .pairRefusedRetry, _ => gives_pairRefusedRetry s
  | .pairResyncTimeout, _ => gives_pairResyncTimeout s
  | .pairMismatchTimeout, _ => gives_pairMismatchTimeout s
  | .pairLossTimeout, _ => gives_pairLossTimeout s
  | .pairsyncSend, _ => gives_pairsyncSend s
  | .pairsync node pairState generation digest, _ => gives_pairsync s node pairState generation digest
  | .pairObjectsTransfer generation sent, _ => gives_pairObjectsTransfer s generation sent
  | .pairPrepare objs generation, _ => gives_pairPrepare s objs generation
  | .bflDataFlit j f, _ => gives_bflDataFlit s j f
  | .ack j ackSeq, _ => gives_ack s j ackSeq
  | .nak j seq cause, _ => gives_nak s j seq cause
  | .credit j firstPool totals, _ => gives_credit s j firstPool totals
  | .heartbeat j linkState hbSeq ackSeq, _ => gives_heartbeat s j linkState hbSeq ackSeq
  | .time j tseq txTime echoDelay echoSeq, _ => gives_time s j tseq txTime echoDelay echoSeq
  | .resetReq j r, _ => gives_resetReq s j r
  | .resetAck j r, _ => gives_resetAck s j r
  | .bflAckDue j, _ => gives_bflAckDue s j
  | .bflReplayTimeout j, _ => gives_bflReplayTimeout s j
  | .bflHeartbeatSend j, _ => gives_bflHeartbeatSend s j
  | .bflTimeSend j, _ => gives_bflTimeSend s j
  | .bflCreditSend j, _ => gives_bflCreditSend s j
  | .bflHeartbeatTimeout j, _ => gives_bflHeartbeatTimeout s j
  | .bflRetrainL0 j width rate, _ => gives_bflRetrainL0 s j width rate
  | .bflRetrainTimeout j, _ => gives_bflRetrainTimeout s j
  | .bflResetReqSend j, _ => gives_bflResetReqSend s j
  | .bflInitTimeout j, _ => gives_bflInitTimeout s j
  | .bflTrainRetry j, _ => gives_bflTrainRetry s j
  | .bflFullReset sid rid j, _ => gives_bflFullReset s sid rid j
  | .bflForcedReset sid rid j, _ => gives_bflForcedReset s sid rid j
  | .bflEvacuate sid rid j, _ => gives_bflEvacuate s sid rid j
  | .evacQuery t j inc, _ => gives_evacQuery s t j inc
  | .evacReply t j lastSeq inc, _ => gives_evacReply s t j lastSeq inc
  | .bflEvacTimeout j, _ => gives_bflEvacTimeout s j
  | .sqDb n node target index size, _ => gives_sqDb s n node target index size
  | .rqDb n node target index size, _ => gives_rqDb s n node target index size
  | .cqDb n node target index size, _ => gives_cqDb s n node target index size
  | .cqArm n node target index size, _ => gives_cqArm s n node target index size
  | .cmdDb n node index size, _ => gives_cmdDb s n node index size
  | .hostReadCompletion r st, _ => gives_hostReadCompletion s r st
  | .wqeWrite qpn data, _ => gives_wqeWrite s qpn data
  | .wqeWriteImm qpn data, _ => gives_wqeWriteImm s qpn data
  | .wqeRead qpn, _ => gives_wqeRead s qpn
  | .wqeSend qpn data, _ => gives_wqeSend s qpn data
  | .wqeSendImm qpn data, _ => gives_wqeSendImm s qpn data
  | .wqeFetchAdd qpn, _ => gives_wqeFetchAdd s qpn
  | .wqeCompSwap qpn, _ => gives_wqeCompSwap s qpn
  | .wqeLocalInv qpn, _ => gives_wqeLocalInv s qpn
  | .wqeRecv qpn, _ => gives_wqeRecv s qpn
  | .regRegion n, _ => gives_regRegion s n
  | .deregRegion n, _ => gives_deregRegion s n
  | .createQp n b, _ => gives_createQp s n b
  | .modifyQp n b, _ => gives_modifyQp s n b
  | .modifyQpReset n b, _ => gives_modifyQpReset s n b
  | .modifyQpInit n b, _ => gives_modifyQpInit s n b
  | .modifyQpReady n b, _ => gives_modifyQpReady s n b
  | .modifyQpError n b, _ => gives_modifyQpError s n b
  | .destroyQp n, _ => gives_destroyQp s n
  | .createCq n, _ => gives_createCq s n
  | .destroyCq n, _ => gives_destroyCq s n
  | .dict n msg, _ => gives_dict s n msg
  | .qpFlushed qpn, _ => gives_qpFlushed s qpn
  | .packetWrite h p, _ => gives_packetWrite s h p
  | .packetWriteImm h p, _ => gives_packetWriteImm s h p
  | .packetSend h p, _ => gives_packetSend s h p
  | .packetSendImm h p, _ => gives_packetSendImm s h p
  | .packetReadReq h p, _ => gives_packetReadReq s h p
  | .packetFetchAdd h p, _ => gives_packetFetchAdd s h p
  | .packetCompSwap h p, _ => gives_packetCompSwap s h p
  | .readResp h p, _ => gives_readResp s h p
  | .atomicResp h p, _ => gives_atomicResp s h p
  | .rmeAck h p, _ => gives_rmeAck s h p
  | .rmeSelectiveNak h p, _ => gives_rmeSelectiveNak s h p
  | .rmeRnrNak h p, _ => gives_rmeRnrNak s h p
  | .rmeNakRemoteAccess h p, _ => gives_rmeNakRemoteAccess s h p
  | .rmeNakRemoteInvalid h p, _ => gives_rmeNakRemoteInvalid s h p
  | .rmeNakKeyGeneration h p, _ => gives_rmeNakKeyGeneration s h p
  | .skimNotice h p, _ => gives_skimNotice s h p
  | .rmeRetxTimeout qpn, _ => gives_rmeRetxTimeout s qpn
  | .rmeRnrDelayExpiry qpn, _ => gives_rmeRnrDelayExpiry s qpn
  | .rmeEchoDue qpn, _ => gives_rmeEchoDue s qpn
  | .rmeCcIncrease qpn, _ => gives_rmeCcIncrease s qpn
  | .sliceQuiesce sid rid n, _ => gives_sliceQuiesce s sid rid n
  | .sliceResume sid rid n, _ => gives_sliceResume s sid rid n
  | .sliceRelease sid rid n, _ => gives_sliceRelease s sid rid n
  | .sliceQuiesced n, _ => gives_sliceQuiesced s n
  | .sliceQuiesceBudgetExpiry n, _ => gives_sliceQuiesceBudgetExpiry s n
  | .shaperRateWrite sid rid h j rate, _ => gives_shaperRateWrite s sid rid h j rate
  | .shaperBurstWrite sid rid h j burst, _ => gives_shaperBurstWrite s sid rid h j burst
  | .alertAck sid rid seq, _ => gives_alertAck s sid rid seq
  | .plogClear sid rid, _ => gives_plogClear s sid rid
  | .creditStallTimeout p, _ => gives_creditStallTimeout s p
  | .qdrScrub h region entry res, _ => gives_qdrScrub s h region entry res
  | .tableScrub h table entry res, _ => gives_tableScrub s h table entry res
  | .feedGood k f mv, _ => gives_feedGood s k f mv
  | .feedBad k f mv, _ => gives_feedBad s k f mv
  | .reverseTurnOff k f, _ => gives_reverseTurnOff s k f
  | .orGateResume k f, _ => gives_orGateResume s k f
  | .fastTrip k, _ => gives_fastTrip s k
  | .limitTimerExpiry k, _ => gives_limitTimerExpiry s k
  | .powerGood k, _ => gives_powerGood s k
  | .rampTimeout k, _ => gives_rampTimeout s k
  | .presenceAssert k, _ => gives_presenceAssert s k
  | .presenceLoss k, _ => gives_presenceLoss s k
  | .insertDelayExpiry k, _ => gives_insertDelayExpiry s k
  | .channelStart k, _ => gives_channelStart s k
  | .cooldownExpiry k, _ => gives_cooldownExpiry s k
  | .absenceCountClear k, _ => gives_absenceCountClear s k
  | .slotEnableWrite sid rid k v, _ => gives_slotEnableWrite s sid rid k v
  | .slotClearFaults sid rid k, _ => gives_slotClearFaults s sid rid k
  | .slotClearEnergy sid rid k, _ => gives_slotClearEnergy s sid rid k
  | .perstRelease k, _ => gives_perstRelease s k
  | .brakeAssert g, _ => gives_brakeAssert s g
  | .brakeRelease g, _ => gives_brakeRelease s g
  | .sbBusInit k, _ => gives_sbBusInit s k
  | .attentionPress k, _ => gives_attentionPress s k
  | .sbEntryDue e, _ => gives_sbEntryDue s e
  | .sbAlertPoll k, _ => gives_sbAlertPoll s k
  | .sbTransactionStart k, _ => gives_sbTransactionStart s k
  | .sbTransactionEnd k r, _ => gives_sbTransactionEnd s k r
  | .sbBusTimeout k, _ => gives_sbBusTimeout s k
  | .sbValueWrite sid rid w v, _ => gives_sbValueWrite s sid rid w v
  | .sbFarTimeout sid, _ => gives_sbFarTimeout s sid
  | .sbFarRead sid rid, _ => gives_sbFarRead s sid rid
  | .sbFarWrite sid rid, _ => gives_sbFarWrite s sid rid
  | .sbStrayClear sid rid, _ => gives_sbStrayClear s sid rid
  | .pwrRunRequest sid rid, _ => gives_pwrRunRequest s sid rid
  | .pwrIdleArm sid rid, _ => gives_pwrIdleArm s sid rid
  | .pwrSleepRequest sid rid, _ => gives_pwrSleepRequest s sid rid
  | .pwrDeepSleepRequest sid rid, _ => gives_pwrDeepSleepRequest s sid rid
  | .pwrOffRequest sid rid, _ => gives_pwrOffRequest s sid rid
  | .idleEnter, _ => gives_idleEnter s
  | .idleExit, _ => gives_idleExit s
  | .pwrEntryDone, _ => gives_pwrEntryDone s
  | .wakeEvent w, _ => gives_wakeEvent s w
  | .pwrExitDone, _ => gives_pwrExitDone s
  | .offWakeRailsGood, _ => gives_offWakeRailsGood s
  | .offWakeTimeout, _ => gives_offWakeTimeout s
  | .aoCrystalStop, _ => gives_aoCrystalStop s
  | .aoCrystalResume, _ => gives_aoCrystalResume s
  | .thermalSample temps, _ => gives_thermalSample s temps
  | .throttleStep h, _ => gives_throttleStep s h
  | .perennialMeasure h ageing slack qdrOk seamOk, _ => gives_perennialMeasure s h ageing slack qdrOk seamOk
  | .perennialSummary h, _ => gives_perennialSummary s h
  | .perennialReplan h, _ => gives_perennialReplan s h
  | .perMeasureNow sid rid, _ => gives_perMeasureNow s sid rid
  | .perReplanNow sid rid, _ => gives_perReplanNow s sid rid
  | .perRetuneSeam sid rid, _ => gives_perRetuneSeam s sid rid
  | .railFollowTimeout h measured, _ => gives_railFollowTimeout s h measured
  | .pmuSnap sid rid, _ => gives_pmuSnap s sid rid
  | .pmuSnapLatch sid, _ => gives_pmuSnapLatch s sid
  | .pmuCtrClear sid rid v, _ => gives_pmuCtrClear s sid rid v
  | .samplingEnable sid rid on, _ => gives_samplingEnable s sid rid on
  | .sampleSelect h j f out, _ => gives_sampleSelect s h j f out
  | .harvestRecordWritten h, _ => gives_harvestRecordWritten s h
  | .harvestEnableWrite sid rid on, _ => gives_harvestEnableWrite s sid rid on
  | .harvestClear sid rid, _ => gives_harvestClear s sid rid
  | .testUnlockEnd sid rid, _ => gives_testUnlockEnd s sid rid
  | .testUnlockLevel1 sid rid, _ => gives_testUnlockLevel1 s sid rid
  | .testUnlockLevel2 sid rid, _ => gives_testUnlockLevel2 s sid rid
  | .testUnlockResponse sid rid key signature, _ => gives_testUnlockResponse s sid rid key signature
  | .testChallengeExpiry, _ => gives_testChallengeExpiry s
  | .testUnlockTimeout, _ => gives_testUnlockTimeout s
  | .jtagChallenge h, _ => gives_jtagChallenge s h
  | .jtagUnlock h level key signature, _ => gives_jtagUnlock s h level key signature
  | .jtagDict h i k, _ => gives_jtagDict s h i k
  | .pertArm sid rid e, _ => gives_pertArm s sid rid e
  | .pertDisarm sid rid e, _ => gives_pertDisarm s sid rid e
  | .vao18Loss, _ => gives_vao18Loss s
  | .linkRecoveryEntry p, _ => gives_linkRecoveryEntry s p
  | .linkRecoveryEnd p r, _ => gives_linkRecoveryEnd s p r
  | .stationPllLockLoss st clockAbsent, _ => gives_stationPllLockLoss s st clockAbsent
  | .ideKm node activate key, _ => gives_ideKm s node activate key

/-- A command that does not take the commit lock back keeps it, where it answers a next state at all. -/
theorem exec_kept {c : Instr} {s t : State} (hc : clearsLock c = false) (h : exec c s = .next t) : Kept s t := by
  by_cases hp : ∃ n, c = .porstNFall n
  · obtain ⟨n, rfl⟩ := hp
    have hn : n < 10000 := by simpa using hc
    by_cases hs : n < 1000
    · rw [exec_porstNFall_short s hs] at h
      cases h
      exact Kept.refl s
    · rw [exec_porstNFall_undefined s (Nat.not_lt.1 hs) hn] at h
      cases h
  · obtain ⟨u, hu, hk⟩ := exec_gives s c (not_exists.1 hp)
    rw [hu] at h
    cases h
    exact hk

/-! Steps and runs. -/

/-- A step takes the front command off the queue and, where that command does not take the commit lock back, keeps the rest. -/
theorem step_kept {s t : State} (h : step s = .next t) (hc : ∀ c ∈ s.pending.head?, clearsLock c = false) :
    Kept { s with pending := s.pending.tail } t := by
  unfold step at h
  split at h
  next hp =>
    cases h
    have htail : s.pending.tail = s.pending := by rw [hp, List.tail_nil]
    rw [htail]
    exact Kept.dev s _
  next c rest hp =>
    rw [hp] at hc ⊢
    exact exec_kept (hc c rfl) h

theorem runs_succ {n : Nat} {s t : State} (h : runs (n + 1) s = some t) : ∃ u, step s = .next u ∧ runs n u = some t := by
  unfold runs at h
  split at h
  next u hu => exact ⟨u, hu, h⟩
  next => cases h

/-- Settles O4: the three widths one by one. -/
theorem porstPulseWidths : Obligations.PorstPulseWidths :=
  ⟨fun _ s h1 h2 => exec_porstNFall_undefined s h1 h2, fun _ s h => exec_porstNFall_short s h,
    fun _ s h => ⟨_, exec_porstNFall_long s h, rfl, rfl, rfl⟩⟩

/-- Settles O3: a PORST_N pulse by its width, and `exec_gives` for every other command. -/
theorem everyCommandIsCarriedOut : Obligations.EveryCommandIsCarriedOut := by
  intro c s hc
  by_cases hp : ∃ n, c = .porstNFall n
  · obtain ⟨n, rfl⟩ := hp
    by_cases hs : n < 1000
    · exact ⟨s, exec_porstNFall_short s hs, rfl⟩
    · have hl : 10000 ≤ n := by simpa [Nat.not_lt.1 hs] using hc
      exact ⟨_, exec_porstNFall_long s hl, rfl⟩
  · obtain ⟨t, ht, hpending, -⟩ := exec_gives s c (not_exists.1 hp)
    exact ⟨t, ht, hpending⟩

/-- Settles O8, by induction on the number of steps: the first command keeps the lock, and those of the remaining run stand
in the queue that the step leaves. -/
theorem commitLockStaysSet : Obligations.CommitLockStaysSet := by
  intro n
  induction n with
  | zero =>
    intro s t h hlock _
    cases h
    exact hlock
  | succ n ih =>
    intro s t h hlock hc
    obtain ⟨u, hstep, hrun⟩ := runs_succ h
    have hfront : ∀ c ∈ s.pending.head?, clearsLock c = false := fun c hm =>
      hc c (List.mem_of_mem_head? (by rwa [List.head?_take, if_neg n.succ_ne_zero]))
    obtain ⟨hpending, -, -, hkeeps⟩ := step_kept hstep hfront
    refine ih u t hrun (hkeeps hlock) fun c hm => hc c (List.mem_of_mem_tail ?_)
    rw [hpending] at hm
    rwa [List.tail_take_eq_take_tail]

end Sys2Proof.Safety

/-!
PROOFS. Supplies, PORST_N, the thermal trip and the training of the seam (R30, R31, R33, R44, R87, R88, R90, R320, R397):
what a long PORST_N pulse leaves of the device, what shutting the slot channels and recording a failed attempt leave alone,
and from them the statements `Obligations.PowerOnEvents` and `Obligations.TripSupplyAndSeamTraining`.
-/
namespace Sys2Proof.Machine
open Sys2Proof.Safety

/-! A falling edge of PORST_N that lasts (R44). -/

/-- What has no power to lose stays, and everything that the halves hold is gone. -/
theorem Dev.porstReset_frame (d : Dev) :
    d.porstReset.sessions = [] ∧ d.porstReset.commit = none ∧ d.porstReset.bufW = {} ∧ d.porstReset.bufE = {} ∧
    d.porstReset.rme = {} ∧ d.porstReset.boot = {} ∧ d.porstReset.storeW = d.storeW ∧ d.porstReset.storeE = d.storeE ∧
    d.porstReset.clk = d.clk := by
  unfold Dev.porstReset
  simp only [Dev.foldl_setNum]
  split <;> exact ⟨rfl, rfl, rfl, rfl, rfl, rfl, rfl, rfl, rfl⟩

/-- Outside the slot channels and the boot attempts, an object holds what the non-volatile cells give it, or its default. -/
theorem Dev.porstReset_num (d : Dev) (k : Key) (hslots : ∀ e ∈ d.slots, e.1 < 32) (hk : slotKey k = false)
    (ha : k ≠ Obj.bootAttempts) :
    d.porstReset.num k = numOf (d.objs.filter (fun e => nonVolatileKeys.contains e.1)) k := by
  have hstates : ∀ c ∈ (d.slots.filter (fun e => e.2.present)).map (fun e => e.1),
      k ≠ Obj.slotState c ∧ Obj.slotState c ≠ Obj.bootStrapValue := by
    intro c hc
    obtain ⟨e, he, rfl⟩ := List.mem_map.1 hc
    have hlt := hslots e (List.mem_filter.1 he).1
    constructor
    · rintro rfl
      simp [slotKey] at hk
      omega
    · simp
      omega
  unfold Dev.porstReset
  simp only [Dev.foldl_setNum, Dev.num_eq]
  split
  · rw [Dev.setNum_objs, numOf_set_ne _ _ _ _ ha (by simp)]
    exact numOf_foldl_ne _ _ _ _ _ hstates
  · exact numOf_foldl_ne _ _ _ _ _ hstates

/-- An object that is neither of the slot channels nor non-volatile reads its default. -/
theorem Dev.porstReset_num_default (d : Dev) (k : Key) (hslots : ∀ e ∈ d.slots, e.1 < 32) (hk : slotKey k = false)
    (hv : nonVolatileKeys.contains k = false) :
    d.porstReset.num k = (defaultVal (d.objs.filter (fun e => nonVolatileKeys.contains e.1)) k).toNum := by
  rw [Dev.porstReset_num d k hslots hk (by rintro rfl; simp [nonVolatileKeys] at hv)]
  refine numOf_none _ _ ?_
  rw [tabFind_filter _ (fun j => nonVolatileKeys.contains j), hv]
  rfl

/-- After the reset the rake is unclaimed, with epoch 0 (R44). -/
theorem Dev.porstReset_rake (d : Dev) (hslots : ∀ e ∈ d.slots, e.1 < 32) :
    d.porstReset.num Obj.rakeHolder = 2 ∧ d.porstReset.num Obj.rakeEpoch = 0 :=
  ⟨Dev.porstReset_num_default d _ hslots rfl rfl, Dev.porstReset_num_default d _ hslots rfl rfl⟩

/-! The straps (R33). -/

theorem strapValue_low_bits (a b c : Nat) : strapValue a b c % 512 = (a &&& b ||| a &&& c ||| b &&& c) % 512 := by
  unfold strapValue majority
  dsimp only
  split <;> omega

theorem exec_strapSample_of_unstrapped {s : State} (a b c : Nat) (hporst : s.dev.pins.porstN = true) (hstrap : s.dev.pa.strapped = false) :
    exec (.strapSample a b c) s =
      .next { s with dev := { (s.dev.advanceTo (s.dev.boot.riseClk + us 66)).setNum Obj.bootStrapValue (strapValue a b c) with
        pa := { s.dev.pa with strapped := true } } } := by
  show execStrapSample a b c s = _
  simp only [execStrapSample, hporst, hstrap, Bool.not_false, Bool.and_self, if_true, onDev, Dev.advanceTo_pa]

/-! Objects returned to their defaults. -/

theorem Dev.clearObjs_tabFind (d : Dev) (p : Key → Bool) (k : Key) :
    tabFind (d.clearObjs p).objs k = if p k then none else tabFind d.objs k := by
  simp only [Dev.clearObjs]
  rw [tabFind_filter _ (fun j => !p j)]
  cases p k <;> rfl

/-- Settles O9: the whole next state by the row's meaning, or its fields by the facts about `Dev.porstReset` and the
cleared strap value. -/
theorem powerOnEvents : Obligations.PowerOnEvents := by
  refine ⟨fun _ => rfl, ?crystal, fun s _ h => exec_porstNFall_short s h, ?porstFall, ?porstRise, ?straps, ?loss⟩
  case crystal =>
    intro s hsupply hstopped
    show execAoCrystalStart s = _
    simp [execAoCrystalStart, hsupply, hstopped, onDev]
  case porstFall =>
    intro s n hn hslots
    obtain ⟨hsessions, hcommit, hbufW, hbufE, hrme, hboot, hstoreW, hstoreE, hclk⟩ := Dev.porstReset_frame s.dev
    have hpins := Dev.porstReset_pins s.dev
    obtain ⟨hholder, hepoch⟩ := Dev.porstReset_rake s.dev hslots
    exact ⟨_, exec_porstNFall_long s hn, rfl, rfl, rfl, congrArg Pins.porstN hpins, congrArg Pins.thermtrip hpins, hsessions,
      hcommit, hbufW, hbufE, hrme, hboot, hstoreW, hstoreE, hclk, hholder, hepoch⟩
  case porstRise =>
    intro s hlow
    show execPorstNRise s = _
    simp [execPorstNRise, hlow, onDev]
  case straps =>
    intro s a b c hporst hstrap
    exact ⟨_, exec_strapSample_of_unstrapped a b c hporst hstrap, rfl,
      (congrArg (· % 512) (Dev.num_setNum_self _ _ _)).trans (strapValue_low_bits a b c)⟩
  case loss =>
    intro s
    have hcleared := Dev.clearObjs_tabFind s.dev (fun k => k == Obj.bootStrapValue)
    refine ⟨_, rfl, rfl, rfl, rfl, rfl, rfl, numOf_none _ _ ?_, rfl, fun k hk => ?_⟩
    · exact (hcleared _).trans (if_pos (beq_self_eq_true _))
    · exact (hcleared k).trans (if_neg (by simpa using hk))

/-! What the thermal trip and the supplies share. -/

theorem Dev.allSlotsShut_pins (d : Dev) : d.allSlotsShut.pins = d.pins := by
  have h := Dev.allSlotsShut_same d
  unfold SameButSlots at h
  rw [h]

@[simp] theorem Dev.recordFail_pins (d : Dev) (r half : Nat) : (d.recordFail r half).pins = d.pins := rfl

@[simp] theorem Dev.recordFail_slots (d : Dev) (r half : Nat) : (d.recordFail r half).slots = d.slots := rfl

/-- The device after a trip, but for the failed attempt that it may be: THERMTRIP_N asserted, the event logged, every slot
channel off and SB_PERST_N low (R31, R320). -/
def Dev.tripped (d : Dev) (sensor : Nat) : Dev :=
  let d := { d with pins := { d.pins with thermtrip := true } }
  let d := (d.logEvent d.holderHalf Scope.device 0 2 0x0601 (beBytes 2 sensor)).allSlotsShut
  { d with slots := d.slots.map (fun e => (e.1, { e.2 with perstRel := false })) }

theorem Dev.tripped_thermtrip (d : Dev) (sensor : Nat) : (d.tripped sensor).pins.thermtrip = true := by
  simp only [Dev.tripped, Dev.allSlotsShut_pins, Dev.logEvent_pins]

theorem Dev.tripped_perst (d : Dev) (sensor : Nat) : ∀ e ∈ (d.tripped sensor).slots, e.2.perstRel = false := by
  intro e he
  simp only [Dev.tripped, List.mem_map] at he
  obtain ⟨_, _, rfl⟩ := he
  rfl

/-- The code of the half that a sensor's trip is recorded for: 0 to 12 West, 13 to 25 East, and the others neither (R98). -/
def tripHalf (sensor : Nat) : Nat := if sensor < 13 then 0 else if sensor < 26 then 1 else 2

/-- The device after a trip: the tripped device, and before health a failed attempt recorded with reason 0x0A (R98). -/
def Dev.trip (d : Dev) (sensor : Nat) : Dev :=
  let d := d.tripped sensor
  if d.boot.released && !d.flag Obj.bootHealthyState && !d.crocus then d.recordFail 0x0A (tripHalf sensor) else d

theorem Dev.trip_eq (d : Dev) (sensor : Nat) :
    d.trip sensor = d.tripped sensor ∨ d.trip sensor = (d.tripped sensor).recordFail 0x0A (tripHalf sensor) := by
  unfold Dev.trip
  dsimp only
  split
  · exact .inr rfl
  · exact .inl rfl

theorem Dev.trip_thermtrip (d : Dev) (sensor : Nat) : (d.trip sensor).pins.thermtrip = true := by
  rcases Dev.trip_eq d sensor with h | h <;> simp only [h, Dev.recordFail_pins, Dev.tripped_thermtrip]

theorem Dev.trip_perst (d : Dev) (sensor : Nat) : ∀ e ∈ (d.trip sensor).slots, e.2.perstRel = false := by
  rcases Dev.trip_eq d sensor with h | h <;> rw [h]
  · exact Dev.tripped_perst d sensor
  · rw [Dev.recordFail_slots]
    exact Dev.tripped_perst d sensor

theorem exec_thermalTrip (s : State) (n : Fin 28) {c : Nat} (h : 115 ≤ c) :
    exec (.thermalTrip n c) s = .next { s with dev := s.dev.trip n } := by
  show execThermalTrip n c s = _
  unfold execThermalTrip
  rw [if_neg (Nat.not_lt.2 h)]
  unfold Dev.trip Dev.tripped tripHalf onDev
  dsimp only

/-! Training of the seam (R90). -/

/-- The time-out that a command reports leaves the modules as they are. -/
@[simp] theorem Dev.untrained_advanceTo (d : Dev) (t : Nat) (x : SeamDir) : (d.advanceTo t).untrained x = d.untrained x := by
  cases x <;> simp only [Dev.untrained, Dev.seamMod, Dev.seamMods, Dev.advanceTo_seam]

/-- Settles O13: each row's meaning with its test decided by the hypotheses; for a trip, what `Dev.trip` holds. -/
theorem tripSupplyAndSeamTraining : Obligations.TripSupplyAndSeamTraining := by
  refine ⟨fun _ _ _ h => if_pos h, ?trip, fun _ => rfl, ?recover, ?trained, ?timeout⟩
  case trip =>
    intro s n c h
    refine ⟨_, exec_thermalTrip s n h, ?_, ?_, rfl, rfl, rfl⟩
    · simp only [Dev.trip_thermtrip]
    · simpa only using Dev.trip_perst s.dev n
  case recover =>
    intro s h
    show execVpaRecover s = _
    simp [execVpaRecover, h, onDev]
  case trained =>
    intro s x m htraining hseam hholder
    show execSeamTrained x m s = _
    simp [execSeamTrained, htraining, hseam, hholder, onDev]
  case timeout =>
    intro s hholder hcrocus hseam huntrained
    show execSeamTrainTimeout s = _
    simp only [execSeamTrainTimeout, hholder, hcrocus, hseam, bne_iff_ne, ne_eq, huntrained, not_false_eq_true, Bool.not_false,
      Bool.and_self, Bool.true_and, if_true, onDev, Dev.untrained_advanceTo]

end Sys2Proof.Machine

/-!
PROOFS. Requests about boot, OTP, the rake and pads (R42, R89, R95, R97, R102, R106): the objects' own rules in the
states that their rows need, carried to the state in which the request's item is processed, and from them the statement
`Obligations.BootRequests`.
-/
namespace Sys2Proof.Machine
open Sys2Proof.Safety

/-! Which rule a live write follows. -/

theorem liveWrite_of_writeBoot {st : State} {x : Session} {k : Key} {v : Val} {w : Written} (o : ObjRow)
    (h : writeBoot st x k v = some w) : liveWrite st x k o v = w := by
  simp only [liveWrite, h, Option.orElse_eq_orElse, Option.orElse_some]

/-- `pwr.pad_hold.release` (R42). -/
theorem liveWrite_padRelease (st : State) (x : Session) (o : ObjRow) (n : Nat) :
    liveWrite st x ⟨0x9010, 2, 0⟩ o (.num n) = ofDev st (st.dev.writePadRelease n) := by
  unfold liveWrite
  dsimp only
  rw [writeBoot_none _ _ _ _ (by decide), writeMgmt_none _ _ _ _ (by decide), writeLinks_none _ _ _ _ (by simp) (by simp),
    writeEngines_none _ _ _ (by simp) (by simp)]
  rfl

/-- A row whose write follows a rule of `writeBoot` that changes the device alone. -/
theorem writeObject_wrote_boot (s : State) (x : Session) (rid idx sub : Nat) (ty : ObjType) (n : Nat) (f : Dev → Dev)
    (hi : idx < 0xF000) (hs : sub < 256) (hl : liveRow idx sub = true) (h : accepts s x rid idx sub ty n = true)
    (hw : writeBoot (begun s x rid [(idx, sub, ty, n)]) (begunSes s x rid [(idx, sub, ty, n)]) ⟨idx, sub, 0⟩ (.num n) =
      some (ofDev (begun s x rid [(idx, sub, ty, n)]) (f (begun s x rid [(idx, sub, ty, n)]).dev, Status.ok))) :
    writeObject s x.sid rid idx sub ty n = wrote s x rid idx sub ty n f :=
  writeObject_wrote s x rid idx sub ty n f hi hs hl h (fun o => liveWrite_of_writeBoot o hw)

/-- A row whose write follows a rule of `writeBoot` that changes the OTP cells alone (R95). -/
theorem writeObject_wrote_otp (s : State) (x : Session) (rid idx sub : Nat) (ty : ObjType) (n : Nat) (cells : Otp)
    (hi : idx < 0xF000) (hs : sub < 256) (hl : liveRow idx sub = true) (h : accepts s x rid idx sub ty n = true)
    (hw : writeBoot (begun s x rid [(idx, sub, ty, n)]) (begunSes s x rid [(idx, sub, ty, n)]) ⟨idx, sub, 0⟩ (.num n) =
      some ({ begun s x rid [(idx, sub, ty, n)] with otp := cells }, .done Status.ok)) :
    writeObject s x.sid rid idx sub ty n = wrote { s with otp := cells } x rid idx sub ty n id := by
  obtain ⟨r, o, hr, ho, hentries, hcls⟩ := liveRow_spec idx sub hl
  have hk : x.keyFor r idx sub = ⟨idx, sub, 0⟩ := by simp [Session.keyFor, hentries]
  have e := writeObject_live s x rid idx sub ty n r o hi hs h hr ho hcls { begun s x rid [(idx, sub, ty, n)] with otp := cells }
  rw [hk] at e
  exact e.1 (liveWrite_of_writeBoot o hw)

/-! The rules in the states that the rows need. -/

theorem Dev.declareHealth_ok (d : Dev) (hreleased : d.boot.released = true) (hminute : d.elapsed d.boot.releaseClk (sec 60) = true)
    (hwest : d.pa.wdW.running = true) (heast : d.pa.wdE.running = true) :
    d.declareHealth =
      (((((d.setNum Obj.bootAttempts 0).setNum Obj.bootHealthyState 1).setNum Obj.bootPhase 2).takeBaseline.replan .west).replan .east,
        Status.ok) := by
  simp only [Dev.declareHealth, hreleased, hminute, hwest, heast, Bool.and_self, if_true]

/-- Leaving Crocus mode with the values in force, or with `v` = 2 at the defaults (R102). -/
theorem Dev.exitCrocus_ok (d : Dev) (v : Nat) (h : d.crocus = true) :
    d.exitCrocus v =
      (let d := (d.setNum Obj.bootAttempts 0).setNum Obj.bootCrocusHistory 0
       { d with pa := { d.pa with forceFlag := false, skipStore := d.pa.skipStore || v == 2 }, boot := { d.boot with warmAsked := true } },
        Status.ok) := by
  simp only [Dev.exitCrocus, h, Bool.not_true, Bool.false_eq_true, if_false, Dev.askWarm]

theorem commitOtp_ok (st : State) {c : SlotCheck} (hrun : st.dev.runningCheck .west = some c) (hhealthy : st.dev.flag Obj.bootHealthyState = true) :
    commitOtp st = ({ st with otp := { st.otp with counter := max st.otp.counter c.svn } }, .done Status.ok) := by
  simp only [commitOtp, hrun, hhealthy, if_true]

theorem revokeOtp_ok (st : State) {c : SlotCheck} (n : Nat) (hrun : st.dev.runningCheck .west = some c)
    (hhealthy : st.dev.flag Obj.bootHealthyState = true) (hslot : bitOf (st.otp.revoked ||| field n 0 4) c.keySlot = false)
    (hleft : st.otp.revoked ||| field n 0 4 ≠ 15) :
    revokeOtp st n = ({ st with otp := { st.otp with revoked := st.otp.revoked ||| field n 0 4 } }, .done Status.ok) := by
  simp only [revokeOtp, hrun, hhealthy, hslot, beq_eq_false_iff_ne.2 hleft, Bool.not_true, Bool.or_self, Bool.false_eq_true, if_false]

theorem Dev.askHandover_ok (d : Dev) {h : Half} (hholder : d.holder = some h) (hwd : (d.watchdog h.other).running = true)
    (hrom : d.romPassed h.other = true) (hseam : d.seamUp = true) :
    d.askHandover = ({ d with pa := { d.pa with handoverPending := true } }, Status.ok) := by
  simp only [Dev.askHandover, hholder, hwd, hrom, hseam, Bool.and_self, if_true]

theorem Dev.writePadRelease_ok (d : Dev) (n : Nat)
    (hawake : ∀ g ∈ bitsSet 23 (d.num Obj.pwrPadHoldHeld &&& n), d.groupAwake g = true) :
    d.writePadRelease n =
      (d.setNum Obj.pwrPadHoldHeld (d.num Obj.pwrPadHoldHeld - (d.num Obj.pwrPadHoldHeld &&& n)), Status.ok) := by
  have hall : (bitsSet 23 (d.num Obj.pwrPadHoldHeld &&& n)).any (fun g => !d.groupAwake g) = false := by
    rw [List.any_eq_false]
    intro g hg
    simp [hawake g hg]
  simp only [Dev.writePadRelease, hall, Bool.false_eq_true, if_false]

/-- Settles O20: each row is a live write whose rule, in the state its hypotheses describe, takes the branch that carries
it out. -/
theorem bootRequests : Obligations.BootRequests := by
  refine ⟨?healthy, ?warm, ?force, ?exit, ?exitDefaults, ?commit, ?revoke, ?handover, ?pads⟩
  case healthy =>
    intro s x rid h hreleased hminute hwest heast
    refine congrArg Host.Outcome.next (writeObject_wrote_boot s x rid 0x1020 3 .u8 1 _ (by decide) (by decide) (by decide) h ?_)
    exact congrArg (fun r => some (ofDev _ r)) (Dev.declareHealth_ok _ hreleased hminute hwest heast)
  case warm =>
    intro s x rid h
    exact congrArg Host.Outcome.next
      (writeObject_wrote_boot s x rid 0x1020 6 .u8 1 Dev.askWarm (by decide) (by decide) (by decide) h rfl)
  case force =>
    intro s x rid h
    exact congrArg Host.Outcome.next
      (writeObject_wrote_boot s x rid 0x1030 5 .u8 1 Dev.forceCrocus (by decide) (by decide) (by decide) h rfl)
  case exit =>
    intro s x rid h hcrocus
    refine congrArg Host.Outcome.next (writeObject_wrote_boot s x rid 0x1030 6 .u8 1 _ (by decide) (by decide) (by decide) h ?_)
    have hexit := Dev.exitCrocus_ok (begun s x rid [(0x1030, 6, .u8, 1)]).dev 1 hcrocus
    simp only [Nat.reduceBEq, Bool.or_false] at hexit
    exact congrArg (fun r => some (ofDev _ r)) hexit
  case exitDefaults =>
    intro s x rid h hcrocus
    refine congrArg Host.Outcome.next (writeObject_wrote_boot s x rid 0x1030 6 .u8 2 _ (by decide) (by decide) (by decide) h ?_)
    have hexit := Dev.exitCrocus_ok (begun s x rid [(0x1030, 6, .u8, 2)]).dev 2 hcrocus
    simp only [beq_self_eq_true, Bool.or_true] at hexit
    exact congrArg (fun r => some (ofDev _ r)) hexit
  case commit =>
    intro s x rid c h hrun hhealthy
    refine congrArg Host.Outcome.next (writeObject_wrote_otp s x rid 0xB010 2 .u8 1 _ (by decide) (by decide) (by decide) h ?_)
    exact congrArg some (commitOtp_ok (begun s x rid _) hrun hhealthy)
  case revoke =>
    intro s x rid c n h hrun hhealthy hslot hleft
    refine congrArg Host.Outcome.next (writeObject_wrote_otp s x rid 0xB010 3 .u8 n _ (by decide) (by decide) (by decide) h ?_)
    exact congrArg some (revokeOtp_ok (begun s x rid _) n hrun hhealthy hslot hleft)
  case handover =>
    intro s x rid hf h hholder hwd hrom hseam
    refine congrArg Host.Outcome.next (writeObject_wrote_boot s x rid 0xB040 3 .u8 1 _ (by decide) (by decide) (by decide) h ?_)
    exact congrArg (fun r => some (ofDev _ r)) (Dev.askHandover_ok (begun s x rid _).dev hholder hwd hrom hseam)
  case pads =>
    intro s x rid n h hawake
    refine congrArg Host.Outcome.next (writeObject_wrote s x rid 0x9010 2 .u32 n _ (by decide) (by decide) (by decide) h fun o => ?_)
    rw [liveWrite_padRelease]
    exact congrArg (ofDev _) (Dev.writePadRelease_ok (begun s x rid _).dev n hawake)

end Sys2Proof.Machine

/-!
PROOFS. Items of READ, WRITE and DESCRIBE requests by the checks of R53: what each check answers once the earlier ones have
passed, and from them the statements `Obligations.ReservedIndexes`, `Obligations.CrocusRestrictedSet`,
`Obligations.RefusedWrites` and `Obligations.StagingLimits`.
-/
namespace Sys2Proof.Machine
open Sys2Proof.Safety

/-! A request that has been taken up changes its session alone. -/

@[simp] theorem taken_modeForbids (s : State) (x : Session) (r : FbpRequest) (m : List Byte) (k : Key) (w : Bool) :
    (taken s x r m).dev.modeForbids k w = s.dev.modeForbids k w := rfl

theorem runItem_read (st : State) (x : Session) (e : Exec) (i : Item) (h : e.opcode = Opcode.read) :
    runItem st x e i = readItem st x e i := if_pos h

theorem runItem_describe (st : State) (x : Session) (e : Exec) (i : Item) (h : e.opcode = Opcode.describe) :
    runItem st x e i = describeItem st x e i := (if_neg (by rw [h]; decide)).trans (if_pos h)

/-! Values in an answer (R73, R76). -/

theorem withValue_one {e : Exec} {data : List Byte} (i : Item) (ty : Nat) (hdone : e.done = []) (htodo : e.todo.length ≤ 1)
    (hdata : data.length ≤ 960) : withValue e i ty data = .done (answerItem i Status.ok data ty) := by
  have hpad : padded data.length ≤ 960 := by unfold padded; omega
  have hitems : itemsLength e.done = 0 := by rw [hdone]; rfl
  unfold withValue
  rw [if_pos htodo, hitems]
  exact if_neg (by omega)

/-- The value of the one item of a request. -/
theorem withValue_execOf {r : FbpRequest} {m data : List Byte} {i : Item} (ty : Nat) (hi : r.items = [i]) (hdata : data.length ≤ 960) :
    withValue (execOf r m) i ty data = .done (answerItem i Status.ok data ty) :=
  withValue_one i ty rfl (by simp [execOf, hi]) hdata

/-! READ and DESCRIBE items. -/

theorem readItem_reserved {st : State} {i : Item} (x : Session) (e : Exec) (hidx : 0xF000 ≤ i.idx)
    (hty : i.type = 0 ∨ i.type = ObjType.u32.code) :
    readItem st x e i = if st.dev.modeForbids ⟨i.idx, i.sub, 0⟩ false then (st, failed i Status.state)
      else (st, withValue e i ObjType.u32.code (zeros 4)) := by
  rw [readItem, if_pos hidx, if_neg (by tauto)]

theorem describeItem_reserved {st : State} {i : Item} (x : Session) (e : Exec) (hidx : 0xF000 ≤ i.idx) :
    describeItem st x e i = if st.dev.modeForbids ⟨i.idx, i.sub, 0⟩ false then (st, failed i Status.state)
      else (st, withValue e i ObjType.blob.code reservedDescription) := if_pos hidx

section
variable {st : State} {x : Session} {i : Item} {q : ObjRec} {o : ObjRow} {k : Key}

theorem readItem_state (e : Exec) (hidx : i.idx < 0xF000) (hloc : locate st x i = .ok (q, o, k)) (hty : i.type = 0 ∨ i.type = o.ty.code)
    (hmode : st.dev.modeForbids k false = true) : readItem st x e i = (st, failed i Status.state) := by
  rw [readItem, if_neg (Nat.not_le.2 hidx), hloc]
  dsimp only
  rw [if_neg (by tauto), hmode]
  rfl

theorem describeItem_state (e : Exec) (hidx : i.idx < 0xF000) (hloc : locate st x i = .ok (q, o, k))
    (hty : i.type = 0 ∨ i.type = o.ty.code) (hmode : st.dev.modeForbids k false = true) :
    describeItem st x e i = (st, failed i Status.state) := by
  rw [describeItem, if_neg (Nat.not_le.2 hidx), hloc]
  dsimp only
  rw [if_neg (by tauto), hmode]
  rfl

/-! WRITE items. -/

theorem writeItem_reserved (st : State) (x : Session) (hidx : 0xF000 ≤ i.idx) : writeItem st x i = (st, failed i Status.denied) :=
  if_pos hidx

theorem writeItem_noObject (st : State) (x : Session) (hidx : i.idx < 0xF000) (hrec : findRec i.idx = none) :
    writeItem st x i = (st, failed i Status.noObject) := by
  rw [writeItem, if_neg (Nat.not_le.2 hidx), locate, hrec]

theorem writeItem_error {c : Nat} (hidx : i.idx < 0xF000) (hloc : locate st x i = .ok (q, o, k))
    (hcheck : checkWrite st x q k o i.type (decodeVal o.ty i.data) = .error c) (hc : c ≠ Status.notHolder) :
    writeItem st x i = (st, failed i c) := by
  rw [writeItem, if_neg (Nat.not_le.2 hidx), hloc]
  simp only [writeValue, hcheck, if_neg hc]

theorem writeItem_done {v : Val} {st' : State} {c : Nat} (hidx : i.idx < 0xF000) (hloc : locate st x i = .ok (q, o, k))
    (hcheck : checkWrite st x q k o i.type (decodeVal o.ty i.data) = .ok (v, false))
    (hperf : performWrite st x k o v = (st', .done c)) : writeItem st x i = (st', failed i c) := by
  rw [writeItem, if_neg (Nat.not_le.2 hidx), hloc]
  simp only [writeValue, hcheck, hperf, Bool.false_eq_true, and_false, if_false]

/-! The checks of R53 in their order. -/

theorem checkWrite_denied (type : Nat) (value : Option Val) (hmay : mayWrite x q o k.idx k.sub = false) :
    checkWrite st x q k o type value = .error Status.denied := by
  simp only [checkWrite, hmay, Bool.not_false, if_true]

theorem checkWrite_type {type : Nat} (value : Option Val) (hmay : mayWrite x q o k.idx k.sub = true) (hty : type ≠ o.ty.code) :
    checkWrite st x q k o type value = .error Status.type := by
  simp [checkWrite, hmay, hty]

theorem checkWrite_state {v : Val} (hmay : mayWrite x q o k.idx k.sub = true) (hlen : wrongLength o v = false)
    (hmode : st.dev.modeForbids k true = true) : checkWrite st x q k o o.ty.code (some v) = .error Status.state := by
  simp [checkWrite, hmay, hlen, hmode]

theorem checkWrite_locked {v : Val} (hmay : mayWrite x q o k.idx k.sub = true) (hlen : wrongLength o v = false)
    (hmode : st.dev.modeForbids k true = false) (hcls : o.cls = .staged) (hlock : st.commitLock = true) (hacc : o.access = .rwl) :
    checkWrite st x q k o o.ty.code (some v) = .error Status.locked := by
  have hstate : stateRefuses st x k o v = false := by rw [stateRefuses, hcls]; rfl
  have hlocked : lockedWrite st k o v.toNum = true := by simp [lockedWrite, hlock, hacc]
  simp [checkWrite, hmay, hlen, hmode, hstate, hlocked]

end

/-- Reserved indexes answer a DESCRIBE as a read-only volatile U32 without a commit class and with default 0 (R51). -/
theorem reservedDescription_eq :
    reservedDescription = beBytes 1 ObjType.u32.code ++ [0x00, 0x03, 0x02] ++ zeros 4 ++ beBytes 8 0 := by decide

/-- Settles O55: the branch of each item for reserved indexes, by the mode of the device. -/
theorem reservedIndexes : Obligations.ReservedIndexes := by
  intro s x m r i hr hp hi hidx
  refine ⟨fun hop => receive_refused s x m r i _ hr hp hop hi (writeItem_reserved _ _ hidx) rfl, ?read, ?describe,
    fun hmode => ⟨?readState, ?describeState⟩⟩
  case read =>
    intro hop hty hmode
    refine congrArg Host.Outcome.next (receive_one s x m r i _ _ hr hp (.inl hop) hi ?_ rfl)
    rw [runItem_read _ _ _ _ hop, readItem_reserved _ _ hidx hty, taken_modeForbids, hmode]
    exact congrArg (Prod.mk _) (withValue_execOf _ hi (by decide))
  case describe =>
    intro hop hmode
    refine congrArg Host.Outcome.next (receive_one s x m r i _ _ hr hp (.inr (.inr hop)) hi ?_ rfl)
    rw [runItem_describe _ _ _ _ hop, describeItem_reserved _ _ hidx, taken_modeForbids, hmode, ← reservedDescription_eq]
    exact congrArg (Prod.mk _) (withValue_execOf _ hi (by decide))
  case readState =>
    intro hop hty
    refine congrArg Host.Outcome.next (receive_failed s x m r i _ hr hp (.inl hop) hi ?_ rfl)
    rw [runItem_read _ _ _ _ hop, readItem_reserved _ _ hidx hty, taken_modeForbids, hmode]
    rfl
  case describeState =>
    intro hop
    refine congrArg Host.Outcome.next (receive_failed s x m r i _ hr hp (.inr (.inr hop)) hi ?_ rfl)
    rw [runItem_describe _ _ _ _ hop, describeItem_reserved _ _ hidx, taken_modeForbids, hmode]
    rfl

/-- Settles O57: one check of R53 per clause, carried from the item to the request. -/
theorem refusedWrites : Obligations.RefusedWrites := by
  intro s x m r i hr hp hop hi
  have refuse : ∀ c, succeeded c = false → writeItem (taken s x r m) (takenSes s x r m) i = (taken s x r m, failed i c) →
      exec (.write x.sid m) s = .next (refused s x r m i c) := fun c hc hrun => receive_refused s x m r i c hr hp hop hi hrun hc
  refine ⟨fun hidx => refuse _ rfl (writeItem_reserved _ _ hidx), fun hidx hrec => refuse _ rfl (writeItem_noObject _ _ hidx hrec),
    fun q o k hidx hloc => ⟨?denied, ?type, fun v hmay hty hval hlen => ⟨?state, ?locked⟩⟩⟩
  case denied => exact fun hmay => refuse _ rfl (writeItem_error hidx hloc (checkWrite_denied _ _ hmay) (by decide))
  case type => exact fun hmay hty => refuse _ rfl (writeItem_error hidx hloc (checkWrite_type _ hmay hty) (by decide))
  case state =>
    intro hmode
    refine refuse _ rfl (writeItem_error hidx hloc ?_ (by decide))
    rw [hty, hval]
    exact checkWrite_state hmay hlen hmode
  case locked =>
    intro hmode hcls hlock hacc
    refine refuse _ rfl (writeItem_error hidx hloc ?_ (by decide))
    rw [hty, hval]
    exact checkWrite_locked hmay hlen hmode hcls hlock hacc

/-! Staged writes (R59, R61). -/

theorem performWrite_staged {o : ObjRow} (st : State) (x : Session) (k : Key) (v : Val) (h : o.cls = .staged) :
    performWrite st x k o v = ofDev st (st.dev.stageWrite x k v) := by
  simp only [performWrite, h]

theorem Dev.stageWrite_exhausted {d : Dev} {x : Session} {k : Key} (v : Val) (hnew : tabFind x.staged k = none)
    (hfull : 4096 ≤ x.staged.length ∨ 16384 ≤ d.stagedTotal) : d.stageWrite x k v = (d, Status.exhausted) :=
  if_pos ⟨by rw [hnew]; rfl, hfull⟩

theorem Dev.stageWrite_kept {d : Dev} {x : Session} {k : Key} (v : Val)
    (h : tabFind x.staged k ≠ none ∨ (x.staged.length < 4096 ∧ d.stagedTotal < 16384)) :
    d.stageWrite x k v = (d.modSes x.sid (fun y => { y with staged := tabSet Key.code y.staged k v }), Status.ok) := by
  refine if_neg ?_
  rintro ⟨hnew, hfull⟩
  rw [Option.isNone_iff_eq_none] at hnew
  rcases h with h | h
  · exact h hnew
  · omega

/-- A write of a staged object that its session's set takes in is answered with S_OK. -/
theorem receive_staged {s : State} {x : Session} {m : List Byte} {r : FbpRequest} {i : Item} {q : ObjRec} {o : ObjRow} {k : Key} {v : Val}
    {d : Dev} (hr : ready s x r.rid = true) (hp : parseFbp m = .request r) (hop : r.opcode = Opcode.write) (hi : r.items = [i])
    (hidx : i.idx < 0xF000) (hloc : locate (taken s x r m) (takenSes s x r m) i = .ok (q, o, k))
    (hcheck : checkWrite (taken s x r m) (takenSes s x r m) q k o i.type (decodeVal o.ty i.data) = .ok (v, false))
    (hcls : o.cls = .staged) (hstage : (taken s x r m).dev.stageWrite (takenSes s x r m) k v = (d, Status.ok)) :
    receive s x.sid m = finishRequest { taken s x r m with dev := d } x.sid { execOf r m with done := [answerItem i Status.ok] } Status.ok := by
  refine receive_one s x m r i _ _ hr hp (.inr (.inl hop)) hi ?_ rfl
  rw [runItem_write _ _ _ _ hop]
  exact writeItem_done hidx hloc hcheck ((performWrite_staged _ _ _ _ hcls).trans (congrArg (ofDev _) hstage))

/-- Settles O58: the two outcomes of a staged write by the room that the sets have left. -/
theorem stagingLimits : Obligations.StagingLimits := by
  intro s x m r i q o k v hr hp hop hi hidx hloc hcheck hcls
  refine ⟨?exhausted, ?kept⟩
  case exhausted =>
    intro hnew hfull
    refine receive_refused s x m r i _ hr hp hop hi (writeItem_done hidx hloc hcheck ?_) rfl
    exact (performWrite_staged _ _ _ _ hcls).trans (congrArg (ofDev _) (Dev.stageWrite_exhausted v hnew hfull))
  case kept =>
    intro hroom
    exact congrArg Host.Outcome.next (receive_staged hr hp hop hi hidx hloc hcheck hcls (Dev.stageWrite_kept v hroom))

/-! The restricted set of Crocus mode (R71). -/

theorem inCrocusSet_commit {k : Key} (hidx : k.idx = 0x1F00) : inCrocusSet k true = false := by
  simp [inCrocusSet, hidx]

theorem Dev.modeForbids_of_crocus {d : Dev} {k : Key} {w : Bool} (hcrocus : d.crocus = true) (hset : inCrocusSet k w = false) :
    d.modeForbids k w = true := by
  simp only [Dev.modeForbids, hcrocus, hset, Bool.not_false, Bool.and_self, Bool.true_or]

section
variable {st : State} {x : Session} {i : Item} {q : ObjRec} {o : ObjRow} {k : Key}

theorem openItem_read_state (hloc : locate st x i = .ok (q, o, k)) (hdir : beNat (slice i.data 4 1) = 0) (hty : o.ty = .blob)
    (hlen : i.data.length = 8) (hmode : st.dev.modeForbids k false = true) : openItem st x i = (st, failed i Status.state) := by
  simp [openItem, hloc, hdir, hty, hlen, hmode]

theorem openItem_write_refused {c : Nat} (hloc : locate st x i = .ok (q, o, k)) (hdir : beNat (slice i.data 4 1) = 1)
    (hcheck : checkOpen st x q k o i (beNat (slice i.data 0 4)) = some c) : openItem st x i = (st, failed i c) := by
  simp only [openItem, hloc, hdir, if_true, hcheck]

theorem checkOpen_state (total : Nat) (hmay : mayWrite x q o k.idx k.sub = true) (hty : o.ty = .blob) (hlen : i.data.length = 8)
    (hmode : st.dev.modeForbids k true = true) : checkOpen st x q k o i total = some Status.state := by
  simp [checkOpen, hmay, hty, hlen, hmode]

end

/-- A BLOB_OPEN that comes to an answered item. -/
theorem receive_open {s : State} {x : Session} {m : List Byte} {r : FbpRequest} {i : Item} {st' : State} {y : DoneItem}
    (hr : ready s x r.rid = true) (hp : parseFbp m = .request r) (hop : r.opcode = Opcode.blobOpen) (hi : r.items = [i])
    (hrun : openItem (taken s x r m) (takenSes s x r m) i = (st', .done y)) :
    receive s x.sid m = finishRequest st' x.sid { execOf r m with done := [y] } y.status :=
  receive_blob s x m r i st' y hr hp (.inl hop) hi ((if_pos hop).trans hrun)

/-- Settles O56: outside the restricted set the mode forbids the access, which each kind of item checks at its place of R53. -/
theorem crocusRestrictedSet : Obligations.CrocusRestrictedSet := by
  intro s x m r i q o k hr hp hi hidx hcrocus hloc
  refine ⟨fun hset => ?reads, fun hset hmay => ?writes⟩
  case reads =>
    have hmode : (taken s x r m).dev.modeForbids k false = true := Dev.modeForbids_of_crocus hcrocus hset
    refine ⟨fun hop hty => ?read, fun hop hty => ?describe, fun hop hdir hty hlen => ?readOpen⟩
    case read =>
      refine congrArg Host.Outcome.next (receive_failed s x m r i _ hr hp (.inl hop) hi ?_ rfl)
      exact (runItem_read _ _ _ _ hop).trans (readItem_state _ hidx hloc hty hmode)
    case describe =>
      refine congrArg Host.Outcome.next (receive_failed s x m r i _ hr hp (.inr (.inr hop)) hi ?_ rfl)
      exact (runItem_describe _ _ _ _ hop).trans (describeItem_state _ hidx hloc hty hmode)
    case readOpen => exact congrArg Host.Outcome.next (receive_open hr hp hop hi (openItem_read_state hloc hdir hty hlen hmode))
  case writes =>
    have hout : inCrocusSet k true = false := hset.elim id fun h => inCrocusSet_commit h.1
    have hmode : (taken s x r m).dev.modeForbids k true = true := Dev.modeForbids_of_crocus hcrocus hout
    refine ⟨fun v hop hty hval hlen => ?write, fun hop hdir hty hlen => ?writeOpen⟩
    case write =>
      refine receive_refused s x m r i _ hr hp hop hi (writeItem_error hidx hloc ?_ (by decide)) rfl
      rw [hty, hval, checkWrite_state hmay hlen hmode]
    case writeOpen =>
      exact congrArg Host.Outcome.next
        (receive_open hr hp hop hi (openItem_write_refused hloc hdir (checkOpen_state _ hmay hty hlen hmode)))

end Sys2Proof.Machine

/-!
PROOFS. Requests of one item and the messages that are none (R46, R53, R74, R75, R79, R404, R411): PING, READ and DESCRIBE
items that pass their checks, the one-item WRITE that a row spells, and from them the statement
`Obligations.RequestsAreAnswered`.
-/
namespace Sys2Proof.Machine
open Sys2Proof.Safety

/-- A PING has no item to process (03, "FBP opcodes"). -/
theorem execute_ping (s : State) (x : Session) {r : FbpRequest} (m : List Byte) (hop : r.opcode = Opcode.ping) :
    execute { s with dev := counted s x } x.sid r m = finishRequest (taken s x r m) x.sid (execOf r m) Status.ok :=
  if_pos hop

section
variable {st : State} {x : Session} {i : Item} {q : ObjRec} {o : ObjRow} {k : Key} {r : FbpRequest} {m : List Byte}

theorem readItem_ok (hi : r.items = [i]) (hidx : i.idx < 0xF000) (hloc : locate st x i = .ok (q, o, k))
    (hty : i.type = 0 ∨ i.type = o.ty.code) (hmode : st.dev.modeForbids k false = false) (hbusy : st.dev.harvestBusy k = false)
    (hfar : st.dev.tooFar x k = false) (hlen : (encodeVal o.ty (readObj st x k o r.staged).2).length ≤ 960) :
    readItem st x (execOf r m) i = ({ st with dev := (readObj st x k o r.staged).1 },
      .done (answerItem i Status.ok (encodeVal o.ty (readObj st x k o r.staged).2) o.ty.code)) := by
  have hstaged : (execOf r m).staged = r.staged := rfl
  rw [readItem, if_neg (Nat.not_le.2 hidx), hloc]
  dsimp only
  rw [if_neg (by tauto), hmode, hbusy, hfar, hstaged, withValue_execOf _ hi hlen]
  rfl

/-- A DESCRIBE value is 16 bytes (R404). -/
theorem describeBytes_length (st : State) (x : Session) (k : Key) (o : ObjRow) : (describeBytes st x k o).length = 16 := by
  simp [describeBytes, zeros]

theorem describeItem_ok (hi : r.items = [i]) (hidx : i.idx < 0xF000) (hloc : locate st x i = .ok (q, o, k))
    (hty : i.type = 0 ∨ i.type = o.ty.code) (hmode : st.dev.modeForbids k false = false) (hfar : st.dev.tooFar x k = false) :
    describeItem st x (execOf r m) i = (st, .done (answerItem i Status.ok (describeBytes st x k o) ObjType.blob.code)) := by
  have hlen : (describeBytes st x k o).length ≤ 960 := by rw [describeBytes_length]; decide
  rw [describeItem, if_neg (Nat.not_le.2 hidx), hloc]
  dsimp only
  rw [if_neg (by tauto), hmode, hfar, withValue_execOf _ hi hlen]
  rfl

end

/-- A row that writes one object spells the one-item request (R58, R73). -/
theorem encodeWrite_eq (rid idx sub : Nat) (ty : ObjType) (n : Nat) :
    encodeWrite rid idx sub ty.code (beBytes ty.width n) = encodeWrites rid [(idx, sub, ty, n)] := by
  simp [encodeWrite, encodeWrites]

/-- A row whose write goes to the session's staging set. -/
theorem writeObject_staged {s : State} {x : Session} {rid idx sub : Nat} {ty : ObjType} {n : Nat} {q : ObjRec} {o : ObjRow}
    (hidx : idx < 0xF000) (hsub : sub < 256) (h : accepts s x rid idx sub ty n = true) (hrec : findRec idx = some q)
    (hrow : q.row sub = some o) (hcls : o.cls = .staged) (hses : (begunSes s x rid [(idx, sub, ty, n)]).staged.length < 4096)
    (htotal : (begun s x rid [(idx, sub, ty, n)]).dev.stagedTotal < 16384) :
    writeObject s x.sid rid idx sub ty n = answered (begun s x rid [(idx, sub, ty, n)])
      ((begun s x rid [(idx, sub, ty, n)]).dev.modSes x.sid (fun y =>
        { y with staged := tabSet Key.code y.staged (x.keyFor q idx sub) (.num n) })) x rid [(idx, sub, ty, n)] := by
  obtain ⟨q', o', hrec', hrow', -, hwrite⟩ := writeObject_accepted s x rid idx sub ty n hidx hsub h
  obtain rfl : q = q' := Option.some.inj (hrec.symm.trans hrec')
  obtain rfl : o = o' := Option.some.inj (hrow.symm.trans hrow')
  have hstage := congrArg (ofDev (begun s x rid [(idx, sub, ty, n)]))
    (Dev.stageWrite_kept (k := x.keyFor q idx sub) (.num n) (.inr ⟨hses, htotal⟩))
  exact (hwrite _).1 ((performWrite_staged _ _ _ _ hcls).trans hstage)

/-! Messages that are no request (R411). -/

/-- No limit of the session or of its transport holds a well-framed message back (R73, R80, R81). -/
theorem takeMessage_admits {x : Session} {m : List Byte} (hkeys : x.keysSpent = false) (hfits : ∀ n, parseFbp m ≠ .malformed n) :
    (x.keysSpent || (x.isNet && decide (1280 < m.length + 4))) = false := by
  have hlen : ¬ 1280 < m.length + 4 := by have := parseFbp_fits m hfits; omega
  rw [hkeys, decide_eq_false hlen, Bool.and_false, Bool.or_self]

theorem receive_response {s : State} {x : Session} {m : List Byte} (hses : s.dev.ses x.sid = some x) (hsid : x.sid < 2 ^ 32)
    (hkeys : x.keysSpent = false) (hp : parseFbp m = .response) : receive s x.sid m = { s with dev := counted s x } := by
  rw [receive_ses s x m hses hsid, takeMessage, takeMessage_admits hkeys (by simp [hp]), if_neg Bool.false_ne_true]
  simp only [hp]
  rfl

theorem receive_notifyAck {s : State} {x : Session} {m : List Byte} {n : Nat} (hses : s.dev.ses x.sid = some x) (hsid : x.sid < 2 ^ 32)
    (hkeys : x.keysSpent = false) (hp : parseFbp m = .notifyAck n) :
    receive s x.sid m = { s with dev := (counted s x).ackNotice x.sid n } := by
  rw [receive_ses s x m hses hsid, takeMessage, takeMessage_admits hkeys (by simp [hp]), if_neg Bool.false_ne_true]
  simp only [hp]
  rfl

/-- A session without an executing request begins its oldest queued one (R75). -/
theorem nextRequest_queued {s : State} {x : Session} {raw : List Byte} {rest : List (List Byte)} {r : FbpRequest}
    (hses : s.dev.ses x.sid = some x) (hsid : x.sid < 2 ^ 32) (hexec : x.exec = none) (hqueue : x.queue = raw :: rest)
    (hreq : requestOf raw = some r) :
    nextRequest s x.sid = execute { s with dev := s.dev.modSes x.sid (fun y => { y with queue := rest }) } x.sid r raw := by
  simp only [nextRequest, resolve_ready s x hses hsid, hexec, hqueue, hreq]

/-- Settles O14: each row's request or message through the lemma about its item. -/
theorem requestsAreAnswered : Obligations.RequestsAreAnswered := by
  refine ⟨?ping, ?read, ?describe, ?write, ?objectWrite, ?response, ?ack, ?queued⟩
  case ping =>
    intro s x m r hr hp hop
    exact congrArg Host.Outcome.next ((receive_request s x r m hr hp).trans (execute_ping s x m hop))
  case read =>
    intro s x m r i q o k hr hp hop hi hidx hloc hty hmode hbusy hfar hlen
    refine congrArg Host.Outcome.next (receive_one s x m r i _ _ hr hp (.inl hop) hi ?_ rfl)
    exact (runItem_read _ _ _ _ hop).trans (readItem_ok hi hidx hloc hty hmode hbusy hfar hlen)
  case describe =>
    intro s x m r i q o k hr hp hop hi hidx hloc hty hmode hfar
    refine congrArg Host.Outcome.next (receive_one s x m r i _ _ hr hp (.inr (.inr hop)) hi ?_ rfl)
    exact (runItem_describe _ _ _ _ hop).trans (describeItem_ok hi hidx hloc hty hmode hfar)
  case write =>
    intro s x m r i q o k v hr hp hop hi hidx hloc hcheck hcls hstage
    exact congrArg Host.Outcome.next (receive_staged hr hp hop hi hidx hloc hcheck hcls hstage)
  case objectWrite =>
    intro s x rid idx sub ty n q o h hidx hsub hrec hrow hcls hses htotal
    show Host.Outcome.next (receive s x.sid (encodeWrite rid idx sub ty.code (beBytes ty.width n))) = _
    rw [encodeWrite_eq]
    exact congrArg Host.Outcome.next (writeObject_staged hidx hsub h hrec hrow hcls hses htotal)
  case response => exact fun s x m hses hsid hkeys hp => congrArg Host.Outcome.next (receive_response hses hsid hkeys hp)
  case ack =>
    intro s x n hses hsid hkeys hn
    exact congrArg Host.Outcome.next (receive_notifyAck hses hsid hkeys (parseFbp_ack Opcode.notify n hn))
  case queued =>
    exact fun s x raw rest r hses hsid hexec hqueue hreq => congrArg Host.Outcome.next (nextRequest_queued hses hsid hexec hqueue hreq)

end Sys2Proof.Machine

/-!
PROOFS. Segmented transfers (R76, R77, R78): what the item of each transfer request comes to once its checks have passed,
and from them the statement `Obligations.TransferRequests`.
-/
namespace Sys2Proof.Machine
open Sys2Proof.Safety

/-! The transfer requests by their opcode, beside `receive_open`. -/

section
variable {s : State} {x : Session} {m : List Byte} {r : FbpRequest} {i : Item} {st' : State} {y : DoneItem}

theorem receive_data (hr : ready s x r.rid = true) (hp : parseFbp m = .request r) (hop : r.opcode = Opcode.blobData)
    (hi : r.items = [i]) (hrun : dataItem (taken s x r m) (takenSes s x r m) i = (st', .done y)) :
    receive s x.sid m = finishRequest st' x.sid { execOf r m with done := [y] } y.status :=
  receive_blob s x m r i st' y hr hp (.inr (.inl hop)) hi (by rw [if_neg (by rw [hop]; decide), if_pos hop, hrun])

theorem receive_close (hr : ready s x r.rid = true) (hp : parseFbp m = .request r) (hop : r.opcode = Opcode.blobClose)
    (hi : r.items = [i]) (hrun : closeItem (taken s x r m) (takenSes s x r m) i = (st', .done y)) :
    receive s x.sid m = finishRequest st' x.sid { execOf r m with done := [y] } y.status :=
  receive_blob s x m r i st' y hr hp (.inr (.inr (.inl hop))) hi
    (by rw [if_neg (by rw [hop]; decide), if_neg (by rw [hop]; decide), if_pos hop, hrun])

theorem receive_abort (hr : ready s x r.rid = true) (hp : parseFbp m = .request r) (hop : r.opcode = Opcode.blobAbort)
    (hi : r.items = [i]) (hrun : abortItem (taken s x r m) (takenSes s x r m) i = (st', .done y)) :
    receive s x.sid m = finishRequest st' x.sid { execOf r m with done := [y] } y.status :=
  receive_blob s x m r i st' y hr hp (.inr (.inr (.inr hop))) hi
    (by rw [if_neg (by rw [hop]; decide), if_neg (by rw [hop]; decide), if_neg (by rw [hop]; decide), hrun])

end

/-! Items of a session without, and then with, an open transfer. -/

section
variable {st : State} {x : Session} {i : Item} {q : ObjRec} {o : ObjRow} {k : Key} {b : Blob}

theorem openBlob_none (st : State) (k : Key) (i : Item) (isWrite : Bool) (total : Nat) (data digest : List Byte) (h : x.blob = none) :
    openBlob st x k i isWrite total data digest =
      ({ st with dev := st.dev.bump.modSes x.sid (fun y =>
          { y with blob := some ⟨st.dev.free % 2 ^ 16, k, isWrite, total, data, st.dev.clk⟩ }) },
        .done (answerItem i Status.ok (openValue (st.dev.free % 2 ^ 16) total ++ digest) ObjType.blob.code)) := by
  rw [openBlob, h]
  rfl

/-- A transfer that reads opens on the value as it is read then, and carries its digest (R76). -/
theorem openItem_read (hloc : locate st x i = .ok (q, o, k)) (hdir : beNat (slice i.data 4 1) = 0) (hty : o.ty = .blob)
    (hlen : i.data.length = 8) (hmode : st.dev.modeForbids k false = false) (hbusy : st.dev.harvestBusy k = false)
    (hfar : st.dev.tooFar x k = false) :
    openItem st x i = openBlob { st with dev := (readObj st x k o false).1 } x k i false (readObj st x k o false).2.toBytes.length
      (readObj st x k o false).2.toBytes (Config.shake256 (readObj st x k o false).2.toBytes 32) := by
  simp [openItem, hloc, hdir, hty, hlen, hmode, hbusy, hfar]

theorem openItem_write (hloc : locate st x i = .ok (q, o, k)) (hdir : beNat (slice i.data 4 1) = 1)
    (hcheck : checkOpen st x q k o i (beNat (slice i.data 0 4)) = none) (hfar : st.dev.tooFar x k = false) :
    openItem st x i = openBlob st x k i true (beNat (slice i.data 0 4)) [] [] := by
  simp [openItem, hloc, hdir, hcheck, hfar]

/-- A segment of a transfer that reads (R77). -/
theorem dataItem_read (st : State) (hblob : x.blobOf i.data = some b) (hlen : 8 ≤ i.data.length) (hdir : b.isWrite = false)
    (hoff : beNat (slice i.data 4 4) ≤ b.total) :
    dataItem st x i = ({ st with dev := st.dev.modSes x.sid (fun y => { y with blob := some { b with lastMsg := st.dev.clk } }) },
      .done (answerItem i Status.ok (slice b.data (beNat (slice i.data 4 4)) 960) ObjType.blob.code)) := by
  simp only [dataItem, hblob, hdir, if_neg (Nat.not_lt.2 hlen), if_neg (Nat.not_lt.2 hoff), Bool.false_eq_true, if_false]

/-- A segment of a transfer that writes, next to those before it (R77). -/
theorem dataItem_write (st : State) (hblob : x.blobOf i.data = some b) (hlen : 8 ≤ i.data.length) (hdir : b.isWrite = true)
    (hoff : beNat (slice i.data 4 4) = b.data.length) (hseg : i.data.length ≤ 968) :
    dataItem st x i =
      ({ st with dev := st.dev.modSes x.sid (fun y =>
          { y with blob := some { b with data := b.data ++ i.data.drop 8, lastMsg := st.dev.clk } }) }, failed i Status.ok) := by
  have hdrop : ¬ 960 < (i.data.drop 8).length := by rw [List.length_drop]; omega
  simp only [dataItem, hblob, hdir, if_neg (Nat.not_lt.2 hlen), hoff, if_neg hdrop, ne_eq, not_true_eq_false, if_true, if_false]

theorem closeItem_read (st : State) (hblob : x.blobOf i.data = some b) (hlen : i.data.length = 36) (hdir : b.isWrite = false) :
    closeItem st x i = (st.endBlob x.sid, failed i Status.ok) := by
  simp only [closeItem, hblob, hdir, hlen, ne_eq, not_true_eq_false, if_false, Bool.not_false, if_true]

/-- A close whose digest is not that of the data leaves the transfer open (R77). -/
theorem closeItem_digest (st : State) (hblob : x.blobOf i.data = some b) (hlen : i.data.length = 36) (hdir : b.isWrite = true)
    (htotal : b.data.length = b.total) (hdigest : Config.shake256 b.data 32 ≠ slice i.data 4 32) :
    closeItem st x i = (st, failed i Status.blobDigest) := by
  have hclose : closeWrite st x i b = (st, failed i Status.blobDigest) := by
    rw [closeWrite, if_neg (not_not_intro htotal), if_pos hdigest]
  simp only [closeItem, hblob, hdir, hlen, hclose, ne_eq, not_true_eq_false, if_false, Bool.not_true, Bool.false_eq_true]
  rfl

theorem abortItem_open (st : State) (hblob : x.blobOf i.data = some b) (hlen : i.data.length = 4) :
    abortItem st x i = (st.endBlob x.sid, failed i Status.ok) := by
  simp only [abortItem, hblob, hlen, ne_eq, not_true_eq_false, if_false]

end

theorem exec_blobTimeout_of_open {s : State} {x : Session} {b : Blob} (hses : s.dev.ses x.sid = some x) (hsid : x.sid < 2 ^ 32)
    (hblob : x.blob = some b) :
    exec (.blobTimeout x.sid) s = .next (State.endBlob { s with dev := s.dev.advanceTo (b.lastMsg + sec 30) } x.sid) := by
  show execBlobTimeout x.sid s = _
  simp [execBlobTimeout, resolve_ready s x hses hsid, hblob]

/-- Settles O15: the item of each transfer request, carried to the request; a close of a write by whether the digest fits. -/
theorem transferRequests : Obligations.TransferRequests := by
  refine ⟨?openRead, ?openWrite, ?dataRead, ?dataWrite, ?closeRead, ?closeWrite, ?abort, ?timeout⟩
  case openRead =>
    intro s x m r i q o k hr hp hop hi hblob hloc hty hlen hdir hmode hbusy hfar
    exact congrArg Host.Outcome.next (receive_open hr hp hop hi
      ((openItem_read hloc hdir hty hlen hmode hbusy hfar).trans (openBlob_none _ _ _ _ _ _ _ hblob)))
  case openWrite =>
    intro s x m r i q o k hr hp hop hi hblob hloc hdir hcheck hfar
    have hopen := receive_open hr hp hop hi ((openItem_write hloc hdir hcheck hfar).trans (openBlob_none _ _ _ _ _ _ _ hblob))
    rw [List.append_nil] at hopen
    exact congrArg Host.Outcome.next hopen
  case dataRead =>
    intro s x m r i b hr hp hop hi hblob hlen hdir hoff
    exact congrArg Host.Outcome.next (receive_data hr hp hop hi (dataItem_read _ hblob hlen hdir hoff))
  case dataWrite =>
    intro s x m r i b hr hp hop hi hblob hlen hdir hoff hseg
    exact congrArg Host.Outcome.next (receive_data hr hp hop hi (dataItem_write _ hblob hlen hdir hoff hseg))
  case closeRead =>
    intro s x m r i b hr hp hop hi hblob hlen hdir
    exact congrArg Host.Outcome.next (receive_close hr hp hop hi (closeItem_read _ hblob hlen hdir))
  case closeWrite =>
    intro s x m r i b q o st' hr hp hop hi hblob hlen hdir htotal hrec hrow hcheck hperf
    refine congrArg Host.Outcome.next ?_
    by_cases hdigest : Config.shake256 b.data 32 = slice i.data 4 32
    · rw [if_pos hdigest]
      exact receive_close hr hp hop hi
        (close_done _ _ i b q o st' Status.ok hlen hblob hdir htotal hdigest hrec hrow hcheck hperf)
    · rw [if_neg hdigest]
      exact receive_close hr hp hop hi (closeItem_digest _ hblob hlen hdir htotal hdigest)
  case abort =>
    intro s x m r i b hr hp hop hi hblob hlen
    exact congrArg Host.Outcome.next (receive_abort hr hp hop hi (abortItem_open _ hblob hlen))
  case timeout => exact fun s x b hses hsid hblob => exec_blobTimeout_of_open hses hsid hblob

end Sys2Proof.Machine

/-!
PROOFS. Sessions and the transports that carry them (R79 to R84, R110, R111): what each row answers in the states that its
conditions describe, and from them the statements `Obligations.SessionsAndTransports` and `Obligations.EndpointEvents`.
-/
namespace Sys2Proof.Machine
open Sys2Proof.Safety

/-! Sessions that a session number names. -/

/-- Over any transport but a mailbox, whose case `hmailbox` excludes, every notification is delivered again (R79). -/
theorem exec_notifyResend_of_ses {s : State} {x : Session} (hses : s.dev.ses x.sid = some x) (hsid : x.sid < 2 ^ 32)
    (hmailbox : ∀ v, x.transport ≠ .mailbox v) :
    exec (.notifyResend x.sid) s =
      .next { s with dev := x.notices.foldl (fun (d : Dev) n => d.deliver x true n.seq (encodeNotify n.seq n.cls n.items)) s.dev } := by
  show execNotifyResend x.sid s = _
  simp only [execNotifyResend, resolve_ready s x hses hsid, onDev]

theorem exec_sessionIdleTimeout_of_idles {s : State} {x : Session} (hses : s.dev.ses x.sid = some x) (hsid : x.sid < 2 ^ 32)
    (hidles : x.idles = true) :
    exec (.sessionIdleTimeout x.sid) s = .next { s with dev :=
      (s.dev.advanceTo (x.lastMsg + sec (s.dev.num Obj.mgmtSessionIdleTimeout))).endSessions (fun y => y.sid == x.sid) } := by
  show execSessionIdleTimeout x.sid s = _
  simp only [execSessionIdleTimeout, resolve_ready s x hses hsid, hidles, if_true, onDev]

theorem exec_spdmKeyUpdate_of_secured {s : State} {x : Session} (hses : s.dev.ses x.sid = some x) (hsid : x.sid < 2 ^ 32)
    (hsecured : x.secured = true) :
    exec (.spdmKeyUpdate x.sid) s = .next { s with dev :=
      (s.dev.modSes x.sid (fun y => { y with msgs := 0, sent := 0, lastMsg := s.dev.clk })).emit (.spdm 2 []) } := by
  show execSpdmKeyUpdate x.sid s = _
  simp only [execSpdmKeyUpdate, resolve_ready s x hses hsid, hsecured, if_true, onDev]

/-! SPDM messages (R81, R82, R84, R110, R111). -/

/-- An MCTP requester that has a session: it takes the message, and none is opened (R84). -/
theorem Dev.spdmMctp_of_session {d : Dev} {v eid : Nat} {x : Session} (f : Dev → Session → Dev) (hserved : d.endpointServed v = true)
    (hfind : d.sessions.find? (fun y => y.transport == .mctp v eid) = some x) (hkeys : x.keysSpent = false) :
    d.spdmMctp v eid f = f (d.modSes x.sid (fun y => { y with lastMsg := d.clk, msgs := y.msgs + 1 })) x := by
  have hany : d.sessions.any (fun y => y.transport == .mctp v eid) = true :=
    List.any_eq_true.2 ⟨x, List.mem_of_find?_eq_some hfind, by simpa using List.find?_some hfind⟩
  simp only [Dev.spdmMctp, hserved, Bool.not_true, Bool.false_eq_true, if_false, hany, true_or, if_true, hfind, hkeys]

theorem exec_spdmKeyExchange_doe {s : State} {v : Fin 64} (key : List Byte) (proved : Bool) (hserved : s.dev.endpointServed v = true) :
    exec (.spdmKeyExchange ⟨.doe v, key⟩ proved) s =
    .next { s with dev := if s.dev.endpointKeyOk v key proved
        then ({ s.dev with endpoints := tabMod s.dev.endpoints v {} (fun e => { e with doe := true }) } : Dev).emit (.spdm 1 [])
        else s.dev.emit (.spdm 0 []) } := by
  show execSpdmKeyExchange ⟨.doe v, key⟩ proved s = _
  simp only [execSpdmKeyExchange, hserved, Bool.not_true, Bool.false_eq_true, if_false, onDev_ite]

theorem measuredAnswer_of_measured {s : State} {block : Nat} {l : List Byte} (nonce : List Byte) (h : measured s block = some l) :
    measuredAnswer s block nonce = .spdm 3 (l ++ Config.mlDsaSign (l ++ nonce)) := by
  simp only [measuredAnswer, h]

/-! Datagrams outside sessions (R80). -/

theorem exec_fbpClearDatagram_of_taken {s : State} {u : Datagram} (hport : s.dev.portOn = true) (htaken : datagramTaken u = true)
    (hprefix : beNat (u.data.take 1) = 3) :
    exec (.fbpClearDatagram u) s = onDev s (s.dev.emit
      (.clear (encodeResponse (beNat (slice (u.data.drop 4) 1 1)) (beNat (slice (u.data.drop 4) 4 4)) Status.auth []))) := by
  show execFbpClearDatagram u s = _
  simp only [execFbpClearDatagram, hport, htaken, hprefix, beq_self_eq_true, Bool.and_self, if_true]

/-- Settles O16: each row's meaning with its tests decided by the hypotheses. -/
theorem sessionsAndTransports : Obligations.SessionsAndTransports := by
  refine ⟨fun s x => exec_notifyResend_of_ses, fun s x => exec_sessionIdleTimeout_of_idles, ?exchangeNet,
    fun s v key proved => exec_spdmKeyExchange_doe key proved, ?exchangeMctp, fun s x => exec_spdmKeyUpdate_of_secured, ?measureNet,
    ?measureDoe, ?measureMctp, ?datagram, ?neighbour, ?echo⟩
  case exchangeNet =>
    intro s key hport hroom
    show execSpdmKeyExchange ⟨.net, key⟩ true s = _
    have hfull : decide (8 ≤ s.dev.sessions.countP Session.isNet) = false := decide_eq_false (Nat.not_le.2 hroom)
    simp only [execSpdmKeyExchange, hport, hfull, Bool.not_true, Bool.or_self, Bool.false_eq_true, if_false]
    cases s.dev.keyRole (Config.shake256 key 32) <;> rfl
  case exchangeMctp =>
    intro s v eid key proved x hserved hfind hkeys
    exact congrArg (onDev s) (Dev.spdmMctp_of_session _ hserved hfind hkeys)
  case measureNet =>
    intro s b nonce l hserved hblocks
    rw [← measuredAnswer_of_measured nonce hblocks]
    exact if_pos hserved
  case measureDoe =>
    intro s v b nonce l hserved hblocks
    rw [← measuredAnswer_of_measured nonce hblocks]
    exact if_pos hserved
  case measureMctp =>
    intro s v eid b nonce l x hserved hblocks hfind hkeys
    rw [← measuredAnswer_of_measured nonce hblocks]
    exact congrArg (onDev s) (Dev.spdmMctp_of_session _ hserved hfind hkeys)
  case datagram =>
    intro s u hport hudp hwhole hmin hmax hprefix
    exact exec_fbpClearDatagram_of_taken hport (by simp [datagramTaken, hudp, hwhole, hmin, hmax]) hprefix
  case neighbour =>
    intro s hport
    show execIcmpv6NeighbourDiscovery linkLocal s = _
    simp only [execIcmpv6NeighbourDiscovery, hport, beq_self_eq_true, Bool.and_self, if_true, onDev]
  case echo => exact fun s data hport => if_pos hport

/-! Mailbox and link encryption of an endpoint (R83, R111). -/

theorem Dev.mailboxSession_of_find {d : Dev} {v : Nat} {x : Session}
    (hfind : d.sessions.find? (fun y => y.transport == .mailbox v) = some x) : d.mailboxSession v = d :=
  if_pos (List.any_eq_true.2 ⟨x, List.mem_of_find?_eq_some hfind, by simpa using List.find?_some hfind⟩)

/-- Keys are programmed, or activated, over the endpoint's SPDM session. -/
theorem exec_ideKm_of_secured {s : State} {v : Fin 64} (activate : Bool) (key : List Byte) (hserved : s.dev.endpointServed v = true)
    (hsecured : s.dev.endpointSecured v = true) :
    exec (.ideKm v activate key) s = .next { s with dev := { s.dev with endpoints := tabMod s.dev.endpoints v {} (fun e =>
      if activate then { e with ideActive := !e.ideKey.isEmpty } else { e with ideKey := key, ideActive := false }) } } := by
  show execIdeKm v activate key s = _
  simp only [execIdeKm, hserved, hsecured, Bool.not_true, Bool.or_self, Bool.false_eq_true, if_false, onDev]

/-- Settles O17: each row's meaning with its tests decided by the hypotheses. -/
theorem endpointEvents : Obligations.EndpointEvents := by
  refine ⟨?go, ?abort, ?tail, fun _ _ _ => rfl, ?program, ?activate⟩
  case go =>
    intro s v x m hserved hidle hfind
    show execMbGo v m s = _
    simp only [execMbGo, hserved, hidle, Bool.not_true, Bool.or_self, Bool.false_eq_true, if_false, Dev.mailboxSession_of_find hfind,
      Dev.modMailbox_sessions, hfind]
  case abort =>
    intro s v x hfind hbusy hexec
    show execMbAbort v s = _
    simp only [execMbAbort, hfind, hbusy, hexec, Option.isNone_none, Bool.and_self, if_true, onDev]
  case tail =>
    intro s v t x hfind
    show execMbNtfTail v t s = _
    simp only [execMbNtfTail, Dev.modMailbox_sessions, hfind, onDev]
  case program => exact fun s v key hserved hsecured => exec_ideKm_of_secured false key hserved hsecured
  case activate => exact fun s v key hserved hsecured => exec_ideKm_of_secured true key hserved hsecured

end Sys2Proof.Machine

/-!
PROOFS. Commits (R56, R57, R62, R63, R65, R66): the writes of `cfg.commit`, of the commit lock and of the owner credential in
the states that carry them out, the rows by which a commit goes on, and from them the statements
`Obligations.CommitRequests` and `Obligations.CommitEvents`.
-/
namespace Sys2Proof.Machine
open Sys2Proof.Safety

/-! The rules of `cfg.commit` and of stored live objects. -/

theorem liveWrite_of_writeMgmt {st : State} {x : Session} {k : Key} {v : Val} {w : Written} (o : ObjRow)
    (hk : k.idx ∉ [0x1020, 0x1030, 0xB000, 0xB010, 0xB040]) (h : writeMgmt st x k v = some w) : liveWrite st x k o v = w := by
  simp only [liveWrite, writeBoot_none st x k v hk, h, Option.orElse_eq_orElse, Option.orElse_some, Option.orElse_none]

/-- Nothing holds a commit back: its prepare step starts (R63). -/
theorem Dev.beginCommit_prepares {d : Dev} {lock : Bool} {x : Session} (hheld : d.xspiHeld = false) (hreach : d.reachesHolder x.half = true)
    (hchecks : d.commitChecks lock x = none) (hpair : d.pairRefusesSet x.staged = none) :
    d.beginCommit lock x = (d.prepare x, .wait .commit) := by
  simp [Dev.beginCommit, hheld, hreach, hchecks, hpair]

/-- A write of 1 to `cfg.commit` while no commit runs or waits (R66). -/
theorem Dev.askCommit_begins {d : Dev} (lock : Bool) (x : Session) (hcommit : d.commit = none) (hqueue : d.commitQueue = []) :
    d.askCommit lock x = d.beginCommit lock x := by
  simp [Dev.askCommit, hcommit, hqueue]

/-- A write of 1 to `cfg.commit` that starts its commit (R63). -/
theorem writeCommit_starts {st : State} {x : Session} (hcommit : st.dev.commit = none) (hqueue : st.dev.commitQueue = [])
    (hheld : st.dev.xspiHeld = false) (hreach : st.dev.reachesHolder x.half = true)
    (hchecks : st.dev.commitChecks st.commitLock x = none) (hpair : st.dev.pairRefusesSet x.staged = none) :
    writeCommit st x 1 = ofWrite st (st.dev.prepare x, .wait .commit) := by
  rw [writeCommit, Dev.askCommit_begins _ _ hcommit hqueue, Dev.beginCommit_prepares hheld hreach hchecks hpair]

theorem Dev.checkSet_ok {d : Dev} {lock : Bool} {x : Session} (h : d.commitChecks lock x = none) :
    d.checkSet lock x = (d.setCommitResult x.sid Status.ok 0 noEntry, Status.ok) := by
  simp only [Dev.checkSet, h, Dev.reportCheck]

theorem Dev.storeLive_ok {d : Dev} {h : Half} (k : Key) (v : Val) (write : Dev → Dev) (hheld : d.xspiHeld = false)
    (hreach : d.reachesHolder h = true) (hfar : d.farReachable d.holderHalf.other = true) :
    d.storeLive h k v write = ((write d).storeValue k v, .done Status.ok) := by
  simp only [Dev.storeLive, hheld, hreach, hfar, Bool.not_true, Bool.or_self, Bool.false_eq_true, if_false]

/-! The writes as their sessions' requests. -/

/-- A write of `cfg.commit` that is answered at once. -/
theorem writeObject_wrote_commit {s : State} {x : Session} {rid n : Nat} (f : Dev → Dev) (h : accepts s x rid 0x1F00 1 .u8 n = true)
    (hw : writeCommit (begun s x rid [(0x1F00, 1, .u8, n)]) (begunSes s x rid [(0x1F00, 1, .u8, n)]) n =
      ofDev (begun s x rid [(0x1F00, 1, .u8, n)]) (f (begun s x rid [(0x1F00, 1, .u8, n)]).dev, Status.ok)) :
    writeObject s x.sid rid 0x1F00 1 .u8 n = wrote s x rid 0x1F00 1 .u8 n f :=
  writeObject_wrote s x rid 0x1F00 1 .u8 n f (by decide) (by decide) (by decide) h
    (fun o => liveWrite_of_writeMgmt o (by decide) (congrArg some hw))

/-- A write of `cfg.commit` whose request waits for the commit. -/
theorem writeObject_waits_commit {s : State} {x : Session} {rid n : Nat} (f : Dev → Dev) (h : accepts s x rid 0x1F00 1 .u8 n = true)
    (hw : writeCommit (begun s x rid [(0x1F00, 1, .u8, n)]) (begunSes s x rid [(0x1F00, 1, .u8, n)]) n =
      ofWrite (begun s x rid [(0x1F00, 1, .u8, n)]) (f (begun s x rid [(0x1F00, 1, .u8, n)]).dev, .wait .commit)) :
    writeObject s x.sid rid 0x1F00 1 .u8 n = wroteWaits s x rid 0x1F00 1 .u8 n f .commit :=
  writeObject_waits s x rid 0x1F00 1 .u8 n f .commit (by decide) (by decide) (by decide) h
    (fun o => liveWrite_of_writeMgmt o (by decide) (congrArg some hw))

/-- A live write that is answered at once, with the whole state that it leaves. -/
theorem writeObject_answered {s : State} {x : Session} {rid idx sub : Nat} {ty : ObjType} {n : Nat} (st' : State) (hidx : idx < 0xF000)
    (hsub : sub < 256) (hlive : liveRow idx sub = true) (h : accepts s x rid idx sub ty n = true)
    (hw : ∀ o, liveWrite (begun s x rid [(idx, sub, ty, n)]) (begunSes s x rid [(idx, sub, ty, n)]) ⟨idx, sub, 0⟩ o (.num n) =
      (st', .done Status.ok)) :
    writeObject s x.sid rid idx sub ty n = answered st' st'.dev x rid [(idx, sub, ty, n)] := by
  obtain ⟨r, o, hrec, hrow, hentries, hcls⟩ := liveRow_spec idx sub hlive
  have hk : x.keyFor r idx sub = ⟨idx, sub, 0⟩ := by simp [Session.keyFor, hentries]
  refine (writeObject_live s x rid idx sub ty n r o hidx hsub h hrec hrow hcls st').1 ?_
  rw [hk]
  exact hw o

/-- The commit lock is set by a write of 1, and no other value takes it back (R62). -/
theorem writeObject_wrote_lock {s : State} {x : Session} {rid v : Nat} (h : accepts s x rid 0x1F00 7 .u8 v = true) :
    writeObject s x.sid rid 0x1F00 7 .u8 v = wrote { s with commitLock := s.commitLock || v == 1 } x rid 0x1F00 7 .u8 v id :=
  writeObject_answered { begun s x rid [(0x1F00, 7, .u8, v)] with commitLock := s.commitLock || v == 1 } (by decide) (by decide)
    (by decide) h (fun o => liveWrite_of_writeMgmt o (by decide) rfl)

/-- A row that writes bytes to one object spells a one-item request (R57, R73). -/
theorem parseFbp_encodeWrite {rid idx sub type : Nat} {data : List Byte} (hrid : rid < 2 ^ 32) (hidx : idx < 65536) (hsub : sub < 256)
    (htype : type < 256) (hdata : data.length ≤ 960) :
    parseFbp (encodeWrite rid idx sub type data) = .request ⟨Opcode.write, false, rid, [⟨idx, sub, type, data⟩]⟩ :=
  parseFbp_one Opcode.write rid ⟨idx, sub, type, 0, data⟩ (by decide) (by decide) hrid hidx hsub htype hdata

/-- The owner credential goes into both store copies before its answer, and ends the other owner sessions (R57, R405). -/
theorem performWrite_owner {st : State} {x : Session} {o : ObjRow} (hash : List Byte) (hcls : o.cls = .live)
    (htooFar : st.dev.tooFar x ⟨0x1120, 1, 0⟩ = false) (hheld : st.dev.xspiHeld = false) (hreach : st.dev.reachesHolder x.half = true)
    (hfar : st.dev.farReachable st.dev.holderHalf.other = true) :
    performWrite st x ⟨0x1120, 1, 0⟩ o (.bytes hash) =
      ({ st with dev := (st.dev.setOwner x (.bytes hash)).storeValue ⟨0x1120, 1, 0⟩ (.bytes hash) }, .done Status.ok) := by
  rw [performWrite_live _ _ _ _ _ hcls (.inr htooFar)]
  refine liveWrite_of_writeMgmt o (by decide) ?_
  exact congrArg (fun w => some (ofWrite st w)) (Dev.storeLive_ok _ _ _ hheld hreach hfar)

/-- Settles O23: each row is a write whose rule, in the state its hypotheses describe, takes the branch that carries it out. -/
theorem commitRequests : Obligations.CommitRequests := by
  refine ⟨?commit, ?discard, ?check, fun s x rid v h => congrArg Host.Outcome.next (writeObject_wrote_lock h), ?owner⟩
  case commit =>
    intro s x rid h hcommit hqueue hheld hreach hchecks hpair
    exact congrArg Host.Outcome.next (writeObject_waits_commit _ h (writeCommit_starts hcommit hqueue hheld hreach hchecks hpair))
  case discard =>
    intro s x rid h
    exact congrArg Host.Outcome.next (writeObject_wrote_commit _ h rfl)
  case check =>
    intro s x rid h hchecks
    exact congrArg Host.Outcome.next (writeObject_wrote_commit (fun d => d.setCommitResult x.sid Status.ok 0 noEntry) h
      (congrArg (ofDev _) (Dev.checkSet_ok hchecks)))
  case owner =>
    intro s x rid hash q o k i m r t y hr hlen hloc hk hcls htooFar hcheck hheld hreach hfar
    subst hk
    have hp : parseFbp m = .request r :=
      parseFbp_encodeWrite ((ready_iff s x rid).1 hr).2.2.1 (by decide) (by decide) (by decide) hlen
    refine congrArg Host.Outcome.next (receive_one s x m r i _ _ hr hp (.inr (.inl rfl)) rfl ?_ rfl)
    rw [runItem_write _ _ _ _ rfl]
    exact writeItem_done (show (0x1120 : Nat) < 0xF000 by decide) hloc hcheck (performWrite_owner hash hcls htooFar hheld hreach hfar)

/-! The progress of a commit. -/

/-- The commit of a waiting session starts, in the device whose queue holds it no more (R66). -/
def Dev.startCommitOf (d : Dev) (lock : Bool) (sid : Nat) : Dev :=
  match d.ses sid with
  | none => d
  | some x =>
    match d.beginCommit lock x with
    | (d, .done st) => (d.failWaiting sid st).settle
    | (d, .wait w) => d.modSes sid (fun y => { y with exec := y.exec.map (fun e => { e with wait := w }) })

/-- COMMIT_START takes the oldest waiting commit. -/
theorem Dev.startWaiting_eq {d : Dev} {w : WaitingCommit} {rest : List WaitingCommit} (lock : Bool) (hcommit : d.commit = none)
    (hqueue : d.commitQueue = w :: rest) : d.startWaiting lock = ({ d with commitQueue := rest } : Dev).startCommitOf lock w.sid := by
  unfold Dev.startWaiting
  split
  next w' rest' _ hq =>
    obtain ⟨rfl, rfl⟩ := List.cons.inj (hqueue.symm.trans hq)
    rfl
  next hno => exact absurd hqueue (hno w rest hcommit)

theorem Dev.startCommitOf_prepares {d : Dev} {lock : Bool} {sid : Nat} {x : Session} (hses : d.ses sid = some x)
    (hheld : d.xspiHeld = false) (hreach : d.reachesHolder x.half = true) (hchecks : d.commitChecks lock x = none)
    (hpair : d.pairRefusesSet x.staged = none) :
    d.startCommitOf lock sid =
      (d.prepare x).modSes sid (fun y => { y with exec := y.exec.map (fun e => { e with wait := .commit }) }) := by
  simp only [Dev.startCommitOf, hses, Dev.beginCommit_prepares hheld hreach hchecks hpair]

theorem exec_commitWaitTimeout_of_waiting {s : State} {n : Nat} {w : WaitingCommit}
    (h : s.dev.commitQueue.find? (fun w => w.sid == n) = some w) :
    exec (.commitWaitTimeout n) s = .next { s with dev := (s.dev.advanceTo (w.arrived + sec 2)).commitNotRun n Status.busy } := by
  show execCommitWaitTimeout n s = _
  simp only [execCommitWaitTimeout, h, onDev]

/-- A part that the commit waits for confirms it (R63 step 5). -/
theorem Dev.commitConfirm_ok {d : Dev} {c : RunningCommit} {p : CommitPart} (found : List (Nat × FnInfo)) (hcommit : d.commit = some c)
    (happly : c.applyAt = none) (hwait : c.waitFor.contains p = true) (hrake : ¬ (p = .paDie ∧ d.rakeOk c.half = false)) :
    d.commitConfirm p Status.ok found = d.partConfirms c p found := by
  have hstatus : ¬ (p = .paDie ∧ (!d.rakeOk c.half) = true) := by simpa using hrake
  have hlisted : Status.listed Status.ok = true := rfl
  simp only [Dev.commitConfirm, hcommit, happly, hwait, if_neg hstatus, hlisted, Option.isSome_none, Bool.not_true, Bool.or_self,
    Bool.false_eq_true, if_false, if_true]

theorem Dev.partConfirms_waits {c : RunningCommit} {p : CommitPart} (d : Dev) (found : List (Nat × FnInfo))
    (hleft : c.waitFor.filter (fun y => y != p) ≠ []) : d.partConfirms c p found = { d with commit := some (confirmed c p found) } := by
  have hempty : (c.waitFor.filter (fun y => y != p)).isEmpty = false := by simpa [List.isEmpty_eq_false_iff] using hleft
  simp only [Dev.partConfirms, hempty, Bool.false_eq_true, if_false, confirmed]

/-- The last part's confirmation sets the apply instant (R63 step 6). -/
theorem Dev.partConfirms_last {d : Dev} {c : RunningCommit} {p : CommitPart} {found : List (Nat × FnInfo)}
    (hleft : c.waitFor.filter (fun y => y != p) = []) (hheader : d.headerCheck (confirmed c p found) = none) :
    d.partConfirms c p found = { d with commit := some { confirmed c p found with applyAt := some (d.clk + us 2) } } := by
  have hempty : (c.waitFor.filter (fun y => y != p)).isEmpty = true := by rw [hleft]; rfl
  unfold confirmed at hheader ⊢
  simp only [Dev.partConfirms, hempty, if_true, hheader]

theorem exec_commitPrepareTimeout_of_waiting {s : State} {c : RunningCommit} {p : CommitPart} (hcommit : s.dev.commit = some c)
    (happly : c.applyAt = none) (hwait : c.waitFor.contains p = true) :
    exec (.commitPrepareTimeout p) s =
      .next { s with dev := (s.dev.advanceTo (c.startClk + ms 10)).commitEnds Status.farTimeout 0 noEntry } := by
  show execCommitPrepareTimeout p s = _
  simp only [execCommitPrepareTimeout, hcommit, happly, hwait, Option.isNone_none, Bool.and_self, if_true, onDev]

/-- Settles O24: each row's equation above; for a confirmation, by whether another part is still awaited. -/
theorem commitEvents : Obligations.CommitEvents := by
  refine ⟨?start, fun s n w => exec_commitWaitTimeout_of_waiting, ?confirm, ?confirmLast, ?prepareTimeout, ?apply, ?storeTimeout⟩
  case start =>
    intro s w rest x hcommit hqueue hses hheld hreach hchecks hpair
    exact congrArg (onDev s) ((Dev.startWaiting_eq s.commitLock hcommit hqueue).trans
      (Dev.startCommitOf_prepares hses hheld hreach hchecks hpair))
  case confirm =>
    intro s c p found hcommit happly hwait hrake hleft
    exact congrArg (onDev s) ((Dev.commitConfirm_ok found hcommit happly hwait hrake).trans (Dev.partConfirms_waits _ found hleft))
  case confirmLast =>
    intro s c p found hcommit happly hwait hrake hleft hheader
    exact congrArg (onDev s) ((Dev.commitConfirm_ok found hcommit happly hwait hrake).trans (Dev.partConfirms_last hleft hheader))
  case prepareTimeout => exact fun s c p hcommit happly hwait => exec_commitPrepareTimeout_of_waiting hcommit happly hwait
  case apply =>
    intro s c t hcommit happly
    show execCommitApply s = _
    simp only [execCommitApply, hcommit, happly]
  case storeTimeout =>
    intro s g howed
    show execStoreWriteTimeout s = _
    simp only [execStoreWriteTimeout, howed, onDev]

end Sys2Proof.Machine

/-!
PROOFS. The OTP cells over a step and a run (R95), and the state right after reset (R87, R95, R389). The statements
`Obligations.OtpIsNeverTakenBack`, `Obligations.OtpStaysSound` and `Obligations.ResetState` follow.
-/
namespace Sys2Proof.Safety
open Sys2Proof.Machine

/-! What a command and a step leave of the OTP cells. -/

theorem otpGrows_refl (o : Otp) : otpGrows o o := ⟨Nat.le_refl _, fun _ h => h⟩

theorem otpGrows_trans {a b c : Otp} (hab : otpGrows a b) (hbc : otpGrows b c) : otpGrows a c :=
  ⟨Nat.le_trans hab.1 hbc.1, fun k h => hbc.2 k (hab.2 k h)⟩

/-- No command takes anything back in the OTP cells or leaves every key slot revoked. Of the two kinds of command, those that
take the commit lock back are the long PORST_N pulses, which leave the cells as they are; every other one keeps what `Kept`
says. -/
theorem exec_otp {c : Instr} {s t : State} (h : exec c s = .next t) :
    otpGrows s.otp t.otp ∧ (otpSound s.otp → otpSound t.otp) := by
  cases hc : clearsLock c
  case false =>
    obtain ⟨-, hgrows, hsound, -⟩ := exec_kept hc h
    exact ⟨hgrows, hsound⟩
  case true =>
    cases c with
    | porstNFall n =>
      rw [exec_porstNFall_long s (by simpa using hc)] at h
      cases h
      exact ⟨otpGrows_refl _, id⟩
    | _ => cases hc

theorem step_otp {s t : State} (h : step s = .next t) : otpGrows s.otp t.otp ∧ (otpSound s.otp → otpSound t.otp) := by
  unfold step at h
  split at h
  next =>
    cases h
    exact ⟨otpGrows_refl _, id⟩
  next c rest _ => exact exec_otp (s := { s with pending := rest }) h

/-- Settles O6, by induction on the number of steps: each step's cells lie above the ones before it. -/
theorem otpIsNeverTakenBack : Obligations.OtpIsNeverTakenBack := by
  intro n
  induction n with
  | zero =>
    intro s t h
    cases h
    exact otpGrows_refl _
  | succ n ih =>
    intro s t h
    obtain ⟨u, hstep, hrun⟩ := runs_succ h
    exact otpGrows_trans (step_otp hstep).1 (ih u t hrun)

/-- Settles O7: the front command, or the time that passes without one, keeps a sound set of cells sound. -/
theorem otpStaysSound : Obligations.OtpStaysSound := fun _ _ hsound hstep => (step_otp hstep).2 hsound

/-! The state right after reset. -/

/-- Nothing has been written yet, so that every object reads its table's default. -/
theorem num_reset (k : Key) : State.reset.dev.num k = (defaultVal [] k).toNum := rfl

/-- The holder object's default is 2, neither half (R103). -/
theorem holder_reset : State.reset.dev.holder = none := by
  have hdefault : State.reset.dev.num Obj.rakeHolder = 2 := num_reset _
  simp only [Dev.holder, hdefault]

/-- The seam state's default is 0, neither trained nor degraded (R191). -/
theorem seamUp_reset : State.reset.dev.seamUp = false := by
  have hdefault : State.reset.dev.num Obj.coreSeamState = 0 := num_reset _
  simp [Dev.seamUp, hdefault]

/-- Settles O2: the fields as the reset state has them, and each object by its table's default. -/
theorem resetState : Obligations.ResetState := by
  have hslots : otpSound State.reset.otp := Nat.zero_lt_succ 14
  exact ⟨rfl, hslots, rfl, rfl, rfl, holder_reset, rfl, rfl, seamUp_reset, rfl, num_reset _, num_reset _, num_reset _, num_reset _⟩

end Sys2Proof.Safety

/-!
PROOFS. The release of the halves, the boot ROMs and the time-outs of boot stages (R89, R90, R96, R98): what a release that
counts its attempt leaves, and one equation per row in the states where it acts. The statement
`Obligations.ReleaseAndRomEvents` follows.
-/
namespace Sys2Proof.Machine
open Sys2Proof.Safety

/-! OR gates that follow their feeds change the slot channels alone (R324). -/

@[simp] theorem Dev.followAllFeeds_boot (d : Dev) : d.followAllFeeds.boot = d.boot := by rw [Dev.followAllFeeds_same]

@[simp] theorem Dev.followAllFeeds_pa (d : Dev) : d.followAllFeeds.pa = d.pa := by rw [Dev.followAllFeeds_same]

@[simp] theorem Dev.followAllFeeds_clocks (d : Dev) : d.followAllFeeds.clocks = d.clocks := by rw [Dev.followAllFeeds_same]

@[simp] theorem Dev.followAllFeeds_sessions (d : Dev) : d.followAllFeeds.sessions = d.sessions := by
  rw [Dev.followAllFeeds_same]

/-! The release of the halves (R96). -/

/-- The device at the instant of a release: at once after a warm reset, else 250 us after the rise of PORST_N. -/
def Dev.atRelease (d : Dev) : Dev := d.advanceTo (if d.boot.warmPending then d.clk else d.boot.riseClk + us 250)

@[simp] theorem Dev.num_atRelease (d : Dev) (k : Key) : d.atRelease.num k = d.num k := Dev.num_advanceTo _ _ _

@[simp] theorem Dev.atRelease_pa (d : Dev) : d.atRelease.pa = d.pa := Dev.advanceTo_pa _ _

@[simp] theorem Dev.atRelease_sessions (d : Dev) : d.atRelease.sessions = d.sessions := Dev.advanceTo_sessions _ _

theorem exec_halvesRelease_of_strapped {s : State} (hporst : s.dev.pins.porstN = true) (hstrap : s.dev.pa.strapped = true)
    (hheld : s.dev.boot.released = false) :
    exec .halvesRelease s = .next { s with dev := s.dev.atRelease.release.followAllFeeds } := by
  show execHalvesRelease s = _
  simp only [execHalvesRelease, hporst, hstrap, hheld, Bool.not_false, Bool.and_self, if_true, onDev, Dev.atRelease]

/-- A release with the force flag set enters Crocus mode with reason 0x0B. -/
theorem Dev.release_forced {d : Dev} (hforce : d.pa.forceFlag = true) : d.release = d.releaseBase.enterCrocus 0x0B 2 := by
  rw [Dev.release_eq, if_pos hforce]

section Counted
variable {d : Dev} (hforce : d.pa.forceFlag = false) (hleft : d.num Obj.bootAttempts < d.num Obj.bootAttemptThreshold)
include hforce hleft

/-- A release with attempts left counts one more and arms both watchdogs with 10 s. -/
theorem Dev.release_counted : d.release = { d.releaseBase with
    objs := tabSet Key.code d.releaseBase.objs Obj.bootAttempts (.num (min 7 (d.num Obj.bootAttempts + 1))),
    pa := { d.releaseBase.pa with
      wdW := { running := true, period := 10000, lastKick := d.clk }, wdE := { running := true, period := 10000, lastKick := d.clk } } } := by
  rw [Dev.release_eq, if_neg (by simp [hforce]), if_neg (Nat.not_le.2 hleft)]

theorem Dev.release_counted_attempts : d.release.num Obj.bootAttempts = min 7 (d.num Obj.bootAttempts + 1) := by
  rw [Dev.release_counted hforce hleft, Dev.num_eq, numOf_set_self]

theorem Dev.release_counted_num {k : Key} (hk : k ≠ Obj.bootAttempts) : d.release.num k = d.releaseBase.num k := by
  rw [Dev.release_counted hforce hleft, Dev.num_eq, numOf_set_ne _ _ _ _ hk (by simp), Dev.num_eq]

/-- Sessions stay, the halves are released and fabric time counts. -/
theorem Dev.release_counted_rest : d.release.sessions = d.sessions ∧ d.release.boot.released = true ∧
    d.release.clocks.stopped = false ∧ d.release.pa.wdW = { running := true, period := 10000, lastKick := d.clk } ∧
    d.release.pa.wdE = { running := true, period := 10000, lastKick := d.clk } := by
  obtain ⟨hsessions, hboot, hclocks, -⟩ := Dev.releaseBase_rest d
  rw [Dev.release_counted hforce hleft]
  dsimp only
  exact ⟨hsessions, congrArg Boot.released hboot, congrArg Clocks.stopped hclocks, rfl, rfl⟩

end Counted

/-! ROMs and QDR stacks (R90). -/

theorem exec_romPass_of_released {s : State} {h : Half} (hreleased : s.dev.boot.released = true) (hrun : s.dev.romStopped h = false) :
    exec (.romPass h) s = .next { s with dev := s.dev.romPasses h } := by
  show execRomPass h s = _
  simp only [execRomPass, hreleased, hrun, Bool.not_false, Bool.and_self, if_true, onDev]

theorem exec_romSelfcheckRetry_of_waiting {s : State} {h : Half} (passed : Bool) (hreleased : s.dev.boot.released = true)
    (hwait : s.dev.romPassed h = false) (hrun : s.dev.romStopped h = false) :
    exec (.romSelfcheckRetry h passed) s = .next { s with dev := if passed then s.dev.romPasses h else
      { s.dev with boot := byHalf h { s.dev.boot with romStopW := true } { s.dev.boot with romStopE := true } } } := by
  show execRomSelfcheckRetry h passed s = _
  simp only [execRomSelfcheckRetry, hreleased, hwait, hrun, Bool.not_false, Bool.and_self, if_true, onDev]

theorem exec_qdrTrained_of_untrained {s : State} {k : Fin 4} (hreleased : s.dev.boot.released = true)
    (hnew : k.val ∉ s.dev.boot.qdrTrained) :
    exec (.qdrTrained k) s =
      .next { s with dev := { s.dev with boot := { s.dev.boot with qdrTrained := k.val :: s.dev.boot.qdrTrained } } } := by
  show execQdrTrained k s = _
  simp [execQdrTrained, hreleased, hnew, onDev]

theorem exec_qdrTrainTimeout_of_untrained {s : State} {k : Fin 4} (hreleased : s.dev.boot.released = true)
    (hserves : s.dev.crocus = false) (hnew : k.val ∉ s.dev.boot.qdrTrained) (hslot : s.dev.boot.slotChosen = false) :
    exec (.qdrTrainTimeout k) s = .next { s with dev := s.dev.failAttempt 0x06 (k.val / 2) } := by
  show execQdrTrainTimeout k s = _
  simp [execQdrTrainTimeout, hreleased, hserves, hnew, hslot, onDev]

/-! Stages that miss their maximum time (R90, R98). -/

section Stages
variable {s : State} {h : Half} (hreleased : s.dev.boot.released = true) (hserves : s.dev.crocus = false)
include hreleased hserves

theorem exec_bootStageTimeout_rom (hwait : s.dev.romPassed h = false) :
    exec (.bootStageTimeout .rom h) s = .next { s with dev := { s.dev with
      boot := byHalf h { s.dev.boot with romFailW := true } { s.dev.boot with romFailE := true } } } := by
  show execBootStageTimeout .rom h s = _
  simp [execBootStageTimeout, hreleased, hserves, hwait, onDev]

theorem exec_bootStageTimeout_verify (hslot : s.dev.boot.slotChosen = false) :
    exec (.bootStageTimeout .verify h) s = .next { s with dev := s.dev.failAttempt 0x04 h.code } := by
  show execBootStageTimeout .verify h s = _
  simp [execBootStageTimeout, hreleased, hserves, hslot, onDev]

theorem exec_bootStageTimeout_seam (hslot : s.dev.boot.slotChosen = false) (hdown : s.dev.seamUp = false) :
    exec (.bootStageTimeout .seam h) s = .next { s with dev := s.dev.failAttempt 0x05 h.code } := by
  show execBootStageTimeout .seam h s = _
  simp [execBootStageTimeout, hreleased, hserves, hslot, hdown, onDev]

theorem exec_bootStageTimeout_qdr (hslot : s.dev.boot.slotChosen = false) (hnone : s.dev.boot.qdrTrained = []) :
    exec (.bootStageTimeout .qdr h) s = .next { s with dev := s.dev.failAttempt 0x06 h.code } := by
  show execBootStageTimeout .qdr h s = _
  simp [execBootStageTimeout, hreleased, hserves, hslot, hnone, onDev]

theorem exec_bootStageTimeout_bootCommit (hslot : s.dev.boot.slotChosen = true) (hdue : s.dev.boot.bootCommitDone = false) :
    exec (.bootStageTimeout .bootCommit h) s = .next { s with dev := s.dev.failAttempt 0x09 2 } := by
  show execBootStageTimeout .bootCommit h s = _
  simp [execBootStageTimeout, hreleased, hserves, hslot, hdue, onDev]

end Stages

/-- A row that fails the attempt leaves its reason in `boot.last_fail` and the halves waiting for their release. -/
theorem failAttempt_gives {s : State} {c : Instr} {r half : Nat} (h : exec c s = .next { s with dev := s.dev.failAttempt r half }) :
    ∃ t, exec c s = .next t ∧ t.dev.num Obj.bootLastFail = r ∧ t.dev.boot = { warmPending := true } := by
  obtain ⟨hreason, -, hboot, -⟩ := Dev.failAttempt_spec s.dev r half
  exact ⟨_, h, hreason, hboot⟩

/-- Settles O10: each row's equation above; for a release, by whether the force flag is set, and for a stage that fails the
attempt, what a failed attempt leaves. -/
theorem releaseAndRomEvents : Obligations.ReleaseAndRomEvents := by
  refine ⟨?counted, ?forced, fun s h => exec_romPass_of_released, ?retry, fun s k => exec_qdrTrained_of_untrained, ?qdr, ?stages,
    ?bootCommit⟩
  case counted =>
    intro s hporst hstrap hheld hforce hleft
    have hforce' : s.dev.atRelease.pa.forceFlag = false := by rw [Dev.atRelease_pa, hforce]
    have hleft' : s.dev.atRelease.num Obj.bootAttempts < s.dev.atRelease.num Obj.bootAttemptThreshold := by
      simpa only [Dev.num_atRelease] using hleft
    obtain ⟨hholder, hhealthy⟩ := Dev.releaseBase_spec s.dev.atRelease
    obtain ⟨hsessions, hreleased, hclocks, hwdW, hwdE⟩ := Dev.release_counted_rest hforce' hleft'
    refine ⟨_, exec_halvesRelease_of_strapped hporst hstrap hheld, rfl, rfl, rfl, ?_⟩
    simp only [Dev.followAllFeeds_sessions, Dev.followAllFeeds_boot, Dev.followAllFeeds_pa, Dev.followAllFeeds_clocks,
      Dev.num_followAllFeeds, hsessions, Dev.atRelease_sessions, hreleased, hclocks, hwdW, hwdE,
      Dev.release_counted_attempts hforce' hleft', Dev.num_atRelease, true_and, and_true]
    refine ⟨?_, ?_, ?_⟩
    · rw [Dev.release_counted_num hforce' hleft' (by simp), hholder]
    · rw [Dev.release_counted_num hforce' hleft' (by simp), Dev.releaseBase_num _ _ rfl (by simp) (by simp) (by simp), Dev.num_atRelease]
    · rw [Dev.release_counted_num hforce' hleft' (by simp), hhealthy]
  case forced =>
    intro s hporst hstrap hheld hforce
    have hforced := Dev.release_forced (d := s.dev.atRelease) (by rw [Dev.atRelease_pa, hforce])
    obtain ⟨hactive, hreason, -⟩ := Dev.enterCrocus_spec s.dev.atRelease.releaseBase 0x0B 2
    refine ⟨_, exec_halvesRelease_of_strapped hporst hstrap hheld, ?_⟩
    simp only [Dev.num_followAllFeeds, hforced, hactive, hreason, true_and]
    rw [Dev.enterCrocus_num _ _ _ _ (by simp) rfl (by simp) (by simp) (by simp) (by simp) (by simp) (by simp),
      Dev.releaseBase_num _ _ rfl (by simp) (by simp) (by simp), Dev.num_atRelease]
  case retry =>
    exact fun s h hreleased hwait hrun =>
      ⟨exec_romSelfcheckRetry_of_waiting true hreleased hwait hrun, exec_romSelfcheckRetry_of_waiting false hreleased hwait hrun⟩
  case qdr =>
    intro s k hreleased hserves hnew hslot
    obtain ⟨hreason, hhistory, hboot, hsessions, -⟩ := Dev.failAttempt_spec s.dev 0x06 (k.val / 2)
    exact ⟨_, exec_qdrTrainTimeout_of_untrained hreleased hserves hnew hslot, hreason, hboot, hhistory, hsessions, rfl⟩
  case stages =>
    intro s h hreleased hserves hslot
    exact ⟨failAttempt_gives (exec_bootStageTimeout_verify hreleased hserves hslot),
      fun hdown => failAttempt_gives (exec_bootStageTimeout_seam hreleased hserves hslot hdown),
      fun hnone => failAttempt_gives (exec_bootStageTimeout_qdr hreleased hserves hslot hnone),
      exec_bootStageTimeout_rom hreleased hserves⟩
  case bootCommit =>
    exact fun s h hreleased hserves hslot hdue =>
      failAttempt_gives (exec_bootStageTimeout_bootCommit hreleased hserves hslot hdue)

end Sys2Proof.Machine

/-!
PROOFS. The rake (R100, R101, R103, R104, R105): claims, their refusal and time-out, a half that loses the PA die, and a
half that finds it is not the holder. The statement `Obligations.RakeEvents` follows.
-/
namespace Sys2Proof.Machine
open Sys2Proof.Safety

/-! What a Crocus entry leaves alone. -/

/-- A Crocus entry leaves the record of the last failed attempt (R408). -/
theorem Dev.enterCrocus_lastFail (d : Dev) (r half : Nat) :
    (d.enterCrocus r half).num Obj.bootLastFail = d.num Obj.bootLastFail :=
  Dev.enterCrocus_num _ _ _ _ (by simp) rfl (by simp) (by simp) (by simp) (by simp) (by simp) (by simp)

/-! Claims (R103). -/

/-- The holder is what the holder object names. -/
theorem Dev.holder_congr {d e : Dev} (h : e.num Obj.rakeHolder = d.num Obj.rakeHolder) : e.holder = d.holder := by
  simp only [Dev.holder, h]

@[simp] theorem Dev.recordLost_holder (d : Dev) (h : Half) : (d.recordLost h).holder = d.holder :=
  Dev.holder_congr (Dev.recordLost_num d h _ (by simp) (by simp))

@[simp] theorem Dev.recordLost_time (d : Dev) (h g : Half) : (d.recordLost h).time g = d.time g := by
  unfold Dev.recordLost
  split <;> rfl

/-- A claim of an unclaimed rake, by a half that first records the other's loss of the PA die, takes it. -/
theorem Dev.recordLost_claim_spec {d : Dev} (h : Half) (hfree : d.holder = none) :
    ((d.recordLost h).claim h).num Obj.rakeHolder = h.code ∧
    ((d.recordLost h).claim h).num Obj.rakeEpoch = (d.num Obj.rakeEpoch + 1) % 2 ^ 32 ∧
    ((d.recordLost h).claim h).num Obj.rakeClaimTime = d.time h ∧
    ((d.recordLost h).claim h).rakeView h = ⟨true, (d.num Obj.rakeEpoch + 1) % 2 ^ 32⟩ ∧
    ∀ y ∈ ((d.recordLost h).claim h).sessions, y.isNet = false := by
  have hclaim := Dev.claim_spec (d.recordLost h) h (by rw [Dev.recordLost_holder, hfree])
  rwa [Dev.recordLost_num d h Obj.rakeEpoch (by simp) (by simp), Dev.recordLost_time] at hclaim

/-- A claim of a rake that a half holds is refused with that half and the epoch (R104). -/
theorem Dev.claim_refused {d : Dev} {w : Half} (h : Half) (hheld : d.holder = some w) :
    d.claim h = (d.setRakeView h ⟨w == h, d.num Obj.rakeEpoch⟩).emit (.paRefused h w.code (d.num Obj.rakeEpoch)) := by
  simp only [Dev.claim, hheld]

section Claims
variable {s : State} {h : Half} (hreleased : s.dev.boot.released = true) (hrom : s.dev.romPassed h = true)
  (hreach : byHalf h s.dev.boot.paLostW s.dev.boot.paLostE = false)
include hreleased hrom hreach

theorem exec_rakeClaim_of_free (hfree : s.dev.holder = none) :
    exec (.rakeClaim h) s = .next { s with dev := (s.dev.recordLost h).claim h } := by
  show execRakeClaim h s = _
  simp [execRakeClaim, hreleased, hrom, hreach, hfree, onDev]

theorem exec_rakeClaim_of_held {w : Half} (hheld : s.dev.holder = some w) :
    exec (.rakeClaim h) s = .next { s with dev := s.dev.claim h } := by
  show execRakeClaim h s = _
  simp [execRakeClaim, hreleased, hrom, hreach, hheld, onDev]

end Claims

theorem exec_rakePrefDelayExpiry_of_free {s : State} (hreleased : s.dev.boot.released = true)
    (hrom : s.dev.romPassed s.dev.preferred.other = true) (hfree : s.dev.holder = none)
    (hreach : byHalf s.dev.preferred.other s.dev.boot.paLostW s.dev.boot.paLostE = false) :
    exec .rakePrefDelayExpiry s =
      .next { s with dev := (s.dev.recordLost s.dev.preferred.other).claim s.dev.preferred.other } := by
  show execRakePrefDelayExpiry s = _
  simp [execRakePrefDelayExpiry, hreleased, hrom, hreach, hfree, onDev]

theorem exec_rakeClaimTimeout_of_free {s : State} (hreleased : s.dev.boot.released = true) (hfree : s.dev.holder = none)
    (hserves : s.dev.crocus = false) :
    exec .rakeClaimTimeout s =
      .next { s with dev := (s.dev.advanceTo (s.dev.boot.releaseClk + ms 500)).crocusFailed 0x08 2 } := by
  show execRakeClaimTimeout s = _
  simp [execRakeClaimTimeout, hreleased, hfree, hserves, onDev]

/-! A half that cannot reach the PA die (R101). -/

/-- The device once a half has been found not to reach the PA die, 100 ms after the release. -/
def Dev.paLost (d : Dev) (h : Half) : Dev :=
  let d := d.advanceTo (d.boot.releaseClk + ms 100)
  { d with boot := byHalf h { d.boot with paLostW := true } { d.boot with paLostE := true } }

@[simp] theorem Dev.num_paLost (d : Dev) (h : Half) (k : Key) : (d.paLost h).num k = d.num k := Dev.num_advanceTo _ _ _

@[simp] theorem Dev.paLost_holder (d : Dev) (h : Half) : (d.paLost h).holder = d.holder := Dev.holder_congr (Dev.num_paLost _ _ _)

theorem Dev.paLost_boot (d : Dev) (h : Half) :
    (d.paLost h).boot = byHalf h { d.boot with paLostW := true } { d.boot with paLostE := true } := by
  simp only [Dev.paLost, Dev.advanceTo_boot]

theorem Dev.paLost_own (d : Dev) (h : Half) : byHalf h (d.paLost h).boot.paLostW (d.paLost h).boot.paLostE = true := by
  rw [Dev.paLost_boot]
  cases h <;> rfl

theorem Dev.paLost_far (d : Dev) (h : Half) :
    byHalf h.other (d.paLost h).boot.paLostW (d.paLost h).boot.paLostE = byHalf h.other d.boot.paLostW d.boot.paLostE := by
  rw [Dev.paLost_boot]
  cases h <;> rfl

/-- Both halves have lost the PA die once a half loses it that the other had lost before. -/
theorem Dev.paLost_both (d : Dev) (h : Half) :
    ((d.paLost h).boot.paLostW && (d.paLost h).boot.paLostE) = byHalf h.other d.boot.paLostW d.boot.paLostE := by
  rw [Dev.paLost_boot]
  cases h
  · exact Bool.true_and _
  · exact Bool.and_true _

@[simp] theorem Dev.recordLost_boot (d : Dev) (h : Half) : (d.recordLost h).boot = d.boot := by
  unfold Dev.recordLost
  split <;> rfl

@[simp] theorem Half.other_other (h : Half) : h.other.other = h := by cases h <;> rfl

/-- The device once the half that reaches the PA die, where its claim shows that it does, has recorded the other's loss. -/
def Dev.paLostTold (d : Dev) (h : Half) : Dev := if (d.paLost h).holder.isSome then (d.paLost h).recordLost h.other else d.paLost h

theorem Dev.paLostTold_of_free {d : Dev} (h : Half) (hfree : d.holder = none) : d.paLostTold h = d.paLost h := by
  simp [Dev.paLostTold, hfree]

theorem Dev.paLostTold_of_held {d : Dev} {w : Half} (h : Half) (hheld : d.holder = some w) :
    d.paLostTold h = (d.paLost h).recordLost h.other := by
  simp [Dev.paLostTold, hheld]

/-- A half enters Crocus mode with reason 0x07: its own code, or 2 where neither half reaches the PA die. -/
def Dev.crocusLost (d : Dev) (h : Half) : Dev := d.enterCrocus 0x07 (if d.boot.paLostW && d.boot.paLostE then 2 else h.code)

theorem Dev.crocusLost_spec (d : Dev) (h : Half) :
    (d.crocusLost h).num Obj.bootCrocusActive = 1 ∧ (d.crocusLost h).num Obj.bootCrocusReason = 0x07 ∧
    (d.crocusLost h).num Obj.bootCrocusReasonHalf = (if d.boot.paLostW && d.boot.paLostE then 2 else h.code) ∧
    (d.crocusLost h).num Obj.bootLastFail = d.num Obj.bootLastFail := by
  obtain ⟨hactive, hreason, hhalf, -⟩ := Dev.enterCrocus_spec d 0x07 (if d.boot.paLostW && d.boot.paLostE then 2 else h.code)
  exact ⟨hactive, hreason, hhalf, Dev.enterCrocus_lastFail _ _ _⟩

theorem exec_paDieUnreachable_of_not_holder {s : State} {h : Half} (hreleased : s.dev.boot.released = true)
    (hnot : s.dev.holder ≠ some h) :
    exec (.paDieUnreachable h) s = .next { s with dev := (s.dev.paLostTold h).crocusLost h } := by
  have hguard : (s.dev.boot.released && s.dev.holder != some h) = true := by simp [hreleased, hnot]
  exact if_pos hguard

/-- While the rake is unclaimed nothing is recorded of the loss, and the reason half is 2 where the other half has lost the PA
die before. -/
theorem exec_paDieUnreachable_of_free {s : State} {h : Half} (hreleased : s.dev.boot.released = true) (hfree : s.dev.holder = none) :
    ∃ t, exec (.paDieUnreachable h) s = .next t ∧ t.dev.num Obj.bootCrocusActive = 1 ∧ t.dev.num Obj.bootCrocusReason = 0x07 ∧
    t.dev.num Obj.bootCrocusReasonHalf = (if byHalf h.other s.dev.boot.paLostW s.dev.boot.paLostE then 2 else h.code) ∧
    t.dev.num Obj.bootLastFail = s.dev.num Obj.bootLastFail := by
  obtain ⟨hactive, hreason, hhalf, hlast⟩ := Dev.crocusLost_spec (s.dev.paLost h) h
  rw [Dev.paLost_both] at hhalf
  refine ⟨_, exec_paDieUnreachable_of_not_holder hreleased (by simp [hfree]), ?_⟩
  rw [Dev.paLostTold_of_free h hfree]
  dsimp only
  exact ⟨hactive, hreason, hhalf, hlast.trans (Dev.num_paLost _ _ _)⟩

/-- Where the other half holds the rake, it records the loss as the reason of a failed attempt. -/
theorem exec_paDieUnreachable_of_other_holds {s : State} {h : Half} (hreleased : s.dev.boot.released = true)
    (hheld : s.dev.holder = some h.other) (hfar : byHalf h.other s.dev.boot.paLostW s.dev.boot.paLostE = false) :
    ∃ t, exec (.paDieUnreachable h) s = .next t ∧ t.dev.num Obj.bootCrocusActive = 1 ∧ t.dev.num Obj.bootCrocusReason = 0x07 ∧
    t.dev.num Obj.bootCrocusReasonHalf = h.code ∧ t.dev.num Obj.bootLastFail = 0x07 := by
  obtain ⟨hactive, hreason, hhalf, hlast⟩ := Dev.crocusLost_spec ((s.dev.paLost h).recordLost h.other) h
  rw [Dev.recordLost_boot, Dev.paLost_both, hfar] at hhalf
  rw [Dev.recordLost_last _ _ (by rw [Half.other_other, Dev.paLost_own]) (by rw [Dev.paLost_far, hfar])] at hlast
  refine ⟨_, exec_paDieUnreachable_of_not_holder hreleased (by rw [hheld]; cases h <;> decide), ?_⟩
  rw [Dev.paLostTold_of_held h hheld]
  dsimp only
  exact ⟨hactive, hreason, hhalf, hlast⟩

theorem byHalf_same {α : Type} (h : Half) (a : α) : byHalf h a a = a := by cases h <;> rfl

/-! A half that finds it is not the holder (R104, R105). -/

@[simp] theorem Dev.setRakeView_commit (d : Dev) (h : Half) (v : RakeView) : (d.setRakeView h v).commit = d.commit := by
  cases h <;> rfl

@[simp] theorem Dev.setRakeView_seamUp (d : Dev) (h : Half) (v : RakeView) : (d.setRakeView h v).seamUp = d.seamUp := by
  cases h <;> rfl

/-- With no commit of its own and the seam up, the half gives up its belief alone. -/
theorem exec_holderDemote_of_idle {s : State} {h : Half} (hview : (s.dev.rakeView h).holds = true) (hnot : s.dev.holder ≠ some h)
    (hcommit : s.dev.commit = none) (hseam : s.dev.seamUp = true) :
    exec (.holderDemote h) s = .next { s with dev := s.dev.setRakeView h ⟨false, s.dev.num Obj.rakeEpoch⟩ } := by
  show execHolderDemote h s = _
  simp [execHolderDemote, hview, hnot, hcommit, hseam, onDev]

/-- Settles O11: each row's equation above, with what a claim, a failed attempt or a Crocus entry leaves; for a half that loses
the PA die, by whether the other half holds the rake or has lost the PA die too. -/
theorem rakeEvents : Obligations.RakeEvents := by
  refine ⟨?claim, ?refused, ?delay, ?timeout, ?lost, ?lostToHolder, ?lostBoth, fun s h => exec_holderDemote_of_idle⟩
  case claim =>
    intro s h hreleased hrom hfree hreach
    obtain ⟨hholder, hepoch, htime, hview, hnet⟩ := Dev.recordLost_claim_spec h hfree
    exact ⟨_, exec_rakeClaim_of_free hreleased hrom hreach hfree, rfl, rfl, rfl, hnet, hholder, hepoch, htime, hview⟩
  case refused =>
    intro s h w hreleased hrom hheld hreach
    rw [exec_rakeClaim_of_held hreleased hrom hreach hheld, Dev.claim_refused h hheld]
  case delay =>
    intro s hreleased hrom hfree hreach
    obtain ⟨hholder, hepoch, -, -, hnet⟩ := Dev.recordLost_claim_spec s.dev.preferred.other hfree
    exact ⟨_, exec_rakePrefDelayExpiry_of_free hreleased hrom hfree hreach, hholder, hepoch, hnet⟩
  case timeout =>
    intro s hreleased hfree hserves
    obtain ⟨hactive, hreason, -, hlast, hhistory, hattempts⟩ :=
      Dev.crocusFailed_spec (s.dev.advanceTo (s.dev.boot.releaseClk + ms 500)) 0x08 2
    rw [Dev.num_advanceTo] at hhistory hattempts
    refine ⟨_, exec_rakeClaimTimeout_of_free hreleased hfree hserves, ?_⟩
    dsimp only
    exact ⟨hactive, hreason, hlast, hhistory, hattempts⟩
  case lost =>
    intro s h hreleased hfree hwest heast
    simpa only [hwest, heast, byHalf_same, Bool.false_eq_true, if_false] using exec_paDieUnreachable_of_free (h := h) hreleased hfree
  case lostToHolder =>
    exact fun s h hreleased hheld hwest heast =>
      exec_paDieUnreachable_of_other_holds hreleased hheld (by rw [hwest, heast, byHalf_same])
  case lostBoth =>
    intro s h hreleased hfree hfar
    simpa only [hfar, if_true] using exec_paDieUnreachable_of_free (h := h) hreleased hfree

end Sys2Proof.Machine

/-!
PROOFS. Image checks, the start of firmware, the lane calibration of boot, watchdogs and a cluster that rejoins (R91, R92,
R98, R99, R107, R127, R317). The statement `Obligations.ImageAndWatchdogEvents` follows.
-/
namespace Sys2Proof.Machine
open Sys2Proof.Safety

/-! Image checks (R91, R92). -/

/-- What a half reports of an image that it has checked in a slot. -/
def slotReport (o : Otp) (lock : Bool) (h : Half) (sl : FwSlot) (img : ImageFacts) : SlotCheck :=
  ⟨h, sl, verifyImage o lock img, Config.shake256 img.header 64, img.version, img.svn, img.keySlot⟩

/-- A device whose boot has one report noted for its slot. -/
def Dev.firstReport (d : Dev) (c : SlotCheck) : Dev :=
  ({ d with boot := { d.boot with checks := [c] } } : Dev).noteSlot c.slot c.result c.version

@[simp] theorem Dev.firstReport_boot (d : Dev) (c : SlotCheck) : (d.firstReport c).boot = { d.boot with checks := [c] } :=
  noteSlot_boot _ _ _ _

/-- With the other half's report missing no slot has a result, and nothing is compared or chosen. -/
theorem Dev.firstReport_undecided (d : Dev) (c : SlotCheck) : ((d.firstReport c).noteDiffer c.slot).slotChoice = d.firstReport c := by
  have hnone : ∀ sl, (d.firstReport c).slotResult sl = none := fun sl =>
    slotResult_none _ c.half sl c (by rw [Dev.firstReport_boot]) rfl
  have hdiffer : (d.firstReport c).noteDiffer c.slot = d.firstReport c := by simp only [Dev.noteDiffer, hnone]
  rw [hdiffer]
  simp only [Dev.slotChoice, hnone]

theorem exec_imageVerified_first {s : State} {h : Half} (sl : FwSlot) (img : ImageFacts) (hreleased : s.dev.boot.released = true)
    (hrom : s.dev.romPassed h = true) (hholder : s.dev.holder.isSome = true) (hserves : s.dev.crocus = false)
    (hslot : s.dev.boot.slotChosen = false) (hfirst : s.dev.boot.checks = []) :
    exec (.imageVerified h sl img) s =
      .next { s with dev := s.dev.firstReport (slotReport s.otp s.commitLock h sl (s.dev.romFinds h sl img)) } := by
  have hguard : (s.dev.boot.released && s.dev.romPassed h && s.dev.holder.isSome && !s.dev.crocus && !s.dev.boot.slotChosen) = true := by
    simp [hreleased, hrom, hholder, hserves, hslot]
  rw [← Dev.firstReport_undecided]
  refine (if_pos hguard).trans ?_
  rw [hfirst, List.filter_nil]
  rfl

/-- An empty slot reads EMPTY and has no version. -/
theorem Dev.noteSlot_empty (d : Dev) (sl : FwSlot) (v : Nat) :
    (d.noteSlot sl 0x06 v).num Obj.fwVerifyResult = 0x06 ∧ (d.noteSlot sl 0x06 v).num (slotStateKey sl) = 0 ∧
    (d.noteSlot sl 0x06 v).num (slotVersionKey sl) = 0 := by
  obtain ⟨hstate, hversion, hapart, hstrap, hstrap'⟩ := slotState_ne sl
  simp only [Dev.noteSlot, if_true]
  refine ⟨?_, ?_, Dev.num_setNum_self _ _ _⟩
  · rw [Dev.num_setNum_ne _ _ _ _ hversion.symm hstrap', Dev.num_setNum_ne _ _ _ _ hstate.symm hstrap, Dev.num_setNum_self]
  · rw [Dev.num_setNum_ne _ _ _ _ hapart hstrap', Dev.num_setNum_self]

theorem verifyImage_empty (o : Otp) (lock : Bool) {img : ImageFacts} (h : img.empty = true) : verifyImage o lock img = 0x06 :=
  if_pos h

theorem Dev.romFinds_unwritten {d : Dev} {h : Half} {sl : FwSlot} (img : ImageFacts) (hflash : tabFind d.flash (h, sl) = none) :
    d.romFinds h sl img = img := by
  simp only [Dev.romFinds, hflash]

/-! Firmware starts on the default values (R98, R99). -/

@[simp] theorem Dev.modWatchdog_skipStore (d : Dev) (h : Half) (f : Watchdog → Watchdog) :
    (d.modWatchdog h f).pa.skipStore = d.pa.skipStore := by
  cases h <;> rfl

@[simp] theorem Dev.imageRuns_skipStore (d : Dev) : d.imageRuns.pa.skipStore = d.pa.skipStore := by
  unfold Dev.imageRuns
  dsimp only
  split <;> rfl

@[simp] theorem Dev.clusterStarts_skipStore (d : Dev) (h : Half) : (d.clusterStarts h).pa.skipStore = d.pa.skipStore := by
  unfold Dev.clusterStarts
  split
  · rfl
  · exact Dev.modWatchdog_skipStore _ _ _

/-- A boot commit that leaves the store out applies the defaults and ends with generation 1. -/
theorem Dev.bootCommit_defaults {d e : Dev} (hskip : d.pa.skipStore = true) (happly : d.applyBoot [] = some e) :
    d.bootCommit = e.bootDone 1 := by
  simp only [Dev.bootCommit, hskip, if_true, happly]

theorem exec_firmwareStart_defaults {s : State} {d : Dev} (hslot : s.dev.boot.slotChosen = true)
    (hdue : s.dev.boot.bootCommitDone = false) (hserves : s.dev.crocus = false) (hwest : s.dev.boot.firmwareW = false)
    (heast : s.dev.boot.firmwareE = false) (hskip : s.dev.pa.skipStore = true)
    (happly : ((s.dev.imageRuns.clusterStarts .west).clusterStarts .east).applyBoot [] = some d) :
    exec .firmwareStart s = .next { s with dev := d.bootDone 1 } := by
  have hcommit := Dev.bootCommit_defaults (by simp only [Dev.clusterStarts_skipStore, Dev.imageRuns_skipStore, hskip]) happly
  show execFirmwareStart s = _
  simp only [execFirmwareStart, hslot, hdue, hserves, hwest, heast, Bool.not_false, Bool.and_self, if_true, onDev, hcommit]

/-! The lane calibration of boot (R127). -/

/-- A lane's mark, set or cleared, is no calibration result. -/
theorem Dev.markLane_false_calResult (d : Dev) (j l : Nat) :
    (d.markLane j false).num (Obj.laneCalResult l) = d.num (Obj.laneCalResult l) := by
  have hstatus : (d.setLaneBit j LaneBit.failed false).num (Obj.laneCalResult l) = d.num (Obj.laneCalResult l) :=
    Dev.num_setNum_ne _ _ _ _ (by simp) (by simp)
  unfold Dev.markLane
  simp only [Bool.false_eq_true, if_false]
  split
  · rw [Dev.num_setNum_ne _ _ _ _ (by simp) (by simp), hstatus]
  · exact hstatus

/-- A run of calibration that passes leaves result 0 for its lane, and every other lane's result. -/
theorem Dev.runEnds_pass_calResult (d : Dev) (j l : Nat) :
    (d.runEnds j 2 .pass).num (Obj.laneCalResult l) = if l = j then 0 else d.num (Obj.laneCalResult l) := by
  have hresult : ((d.setNum (Obj.laneCalResult j) 0).setNum (Obj.laneCalStatus j) Cal.passed).num (Obj.laneCalResult l) =
      if l = j then 0 else d.num (Obj.laneCalResult l) := by
    rw [Dev.num_setNum_ne _ _ _ _ (by simp) (by simp)]
    split
    · next h => rw [h, Dev.num_setNum_self]
    · next h => exact Dev.num_setNum_ne _ _ _ _ (by simpa using h) (by simp)
  unfold Dev.runEnds
  simp only [calCode]
  split
  · rw [Dev.markLane_false_calResult, hresult]
  · exact hresult

/-- Once each lane of a list has passed, its result is 0: it is set by the lane's own run, and no later run changes it. -/
theorem foldl_runEnds_pass_calResult {l : Nat} : ∀ (js : List Nat) (d : Dev), l ∈ js ∨ d.num (Obj.laneCalResult l) = 0 →
    (js.foldl (fun d j => d.runEnds j 2 .pass) d).num (Obj.laneCalResult l) = 0
  | [], d, h => h.resolve_left List.not_mem_nil
  | j :: js, d, h => by
    refine foldl_runEnds_pass_calResult js _ ?_
    rw [Dev.runEnds_pass_calResult]
    split
    · exact .inr rfl
    · next hne => exact h.imp_left fun hl => (List.mem_cons.1 hl).resolve_left hne

theorem exec_bootLaneCalibration_none {s : State} (hdone : s.dev.boot.bootCommitDone = true) (hdue : s.dev.boot.laneCalDone = false) :
    exec (.bootLaneCalibration []) s =
      (let d := (List.range 256).foldl (fun d l => d.runEnds l 2 .pass) s.dev
       .next { s with dev := { d with boot := { d.boot with laneCalDone := true } } }) := by
  show execBootLaneCalibration [] s = _
  simp only [execBootLaneCalibration, hdone, hdue, Bool.not_false, Bool.and_self, if_true, List.find?_nil, onDev]

/-! Watchdogs (R98, R107, R317). -/

theorem exec_watchdogKick_of_running {s : State} {h : Half} (hrun : (s.dev.watchdog h).running = true)
    (hhalt : byHalf h s.dev.boot.haltW s.dev.boot.haltE = false) :
    exec (.watchdogKick h) s = .next { s with dev := s.dev.modWatchdog h (fun w => { w with lastKick := s.dev.clk }) } := by
  show execWatchdogKick h s = _
  simp only [execWatchdogKick, hrun, hhalt, Bool.not_false, Bool.and_self, if_true, onDev]

/-- The device at the end of a half's watchdog period, with the expiry counted. -/
def Dev.wdExpired (d : Dev) (h : Half) : Dev :=
  (d.advanceTo ((d.watchdog h).lastKick + ms (d.watchdog h).period)).inc32 Obj.rakeWdExpiries

theorem Dev.num_wdExpired {d : Dev} {h : Half} {k : Key} (hk : k ≠ Obj.rakeWdExpiries) : (d.wdExpired h).num k = d.num k := by
  rw [Dev.wdExpired, Dev.inc32, Dev.num_setNum_ne _ _ _ _ hk (by simp), Dev.num_advanceTo]

theorem Dev.wdExpired_count (d : Dev) (h : Half) :
    (d.wdExpired h).num Obj.rakeWdExpiries = (d.num Obj.rakeWdExpiries + 1) % 2 ^ 32 := by
  rw [Dev.wdExpired, Dev.inc32, Dev.num_setNum_self, Dev.num_advanceTo]

theorem Dev.wdExpired_healthy (d : Dev) (h : Half) : (d.wdExpired h).flag Obj.bootHealthyState = d.flag Obj.bootHealthyState := by
  simp only [Dev.flag, Dev.num_wdExpired (k := Obj.bootHealthyState) (by simp)]

/-- What a half loses with its cluster (R317): its watchdog stops, its firmware and its sessions end, and it no longer
believes that it holds the rake. -/
def Dev.clusterLost (d : Dev) (h : Half) : Dev :=
  let d := (d.modWatchdog h (fun w => { w with running := false })).logEvent h Scope.half h.code 1 0x050C
  let d := { d with boot := byHalf h { d.boot with firmwareW := false } { d.boot with firmwareE := false } }
  (d.endSessions (fun x => x.half == h)).setRakeView h {}

@[simp] theorem Dev.setRakeView_boot (d : Dev) (h : Half) (v : RakeView) : (d.setRakeView h v).boot = d.boot := by cases h <;> rfl

@[simp] theorem Dev.setRakeView_sessions (d : Dev) (h : Half) (v : RakeView) : (d.setRakeView h v).sessions = d.sessions := by
  cases h <;> rfl

@[simp] theorem Dev.setRakeView_watchdog (d : Dev) (h g : Half) (v : RakeView) : (d.setRakeView h v).watchdog g = d.watchdog g := by
  cases h <;> rfl

@[simp] theorem Dev.modWatchdog_watchdog (d : Dev) (h : Half) (f : Watchdog → Watchdog) :
    (d.modWatchdog h f).watchdog h = f (d.watchdog h) := by
  cases h <;> rfl

theorem Dev.clusterLost_num (d : Dev) (h : Half) {k : Key} (hk : k ≠ Obj.errLogLost) : (d.clusterLost h).num k = d.num k := by
  rw [Dev.num_eq, Dev.num_eq]
  simp only [Dev.clusterLost, Dev.setRakeView_objs, Dev.endSessions_objs]
  rw [Dev.logEvent_num' _ _ _ _ _ _ _ _ _ hk (by decide), Dev.modWatchdog_objs]

theorem Dev.clusterLost_watchdog (d : Dev) (h : Half) : ((d.clusterLost h).watchdog h).running = false := by
  rw [Dev.clusterLost, Dev.setRakeView_watchdog]
  show (((d.modWatchdog h _).logEvent h Scope.half h.code 1 0x050C).watchdog h).running = false
  rw [Dev.watchdog, Dev.logEvent_pa, ← Dev.watchdog, Dev.modWatchdog_watchdog]

theorem Dev.clusterLost_firmware (d : Dev) (h : Half) :
    byHalf h (d.clusterLost h).boot.firmwareW (d.clusterLost h).boot.firmwareE = false := by
  rw [Dev.clusterLost, Dev.setRakeView_boot]
  cases h <;> rfl

theorem Dev.clusterLost_sessions (d : Dev) (h : Half) : ∀ x ∈ (d.clusterLost h).sessions, x.half ≠ h := by
  intro x hx
  simp only [Dev.clusterLost, Dev.setRakeView_sessions, Dev.endSessions, List.mem_filter] at hx
  simpa using hx.2

section Expiry
variable {s : State} {h : Half} (hrun : (s.dev.watchdog h).running = true) (hsuspended : (s.dev.watchdog h).suspended = false)
include hrun hsuspended

theorem exec_watchdogExpiry_of_unhealthy (hhealthy : s.dev.flag Obj.bootHealthyState = false) :
    exec (.watchdogExpiry h) s = .next { s with dev := (s.dev.wdExpired h).failAttempt 0x04 h.code } := by
  have hguard : ((s.dev.watchdog h).running && !(s.dev.watchdog h).suspended) = true := by rw [hrun, hsuspended]; rfl
  have hflag : ¬ (s.dev.wdExpired h).flag Obj.bootHealthyState = true := by simp [Dev.wdExpired_healthy, hhealthy]
  exact (if_pos hguard).trans (if_neg hflag)

theorem exec_watchdogExpiry_of_healthy (hhealthy : s.dev.flag Obj.bootHealthyState = true) (hnot : s.dev.holder ≠ some h) :
    exec (.watchdogExpiry h) s = .next { s with dev := (s.dev.wdExpired h).clusterLost h } := by
  have hguard : ((s.dev.watchdog h).running && !(s.dev.watchdog h).suspended) = true := by rw [hrun, hsuspended]; rfl
  have hflag : (s.dev.wdExpired h).flag Obj.bootHealthyState = true := by rw [Dev.wdExpired_healthy, hhealthy]
  have hholder : ((s.dev.wdExpired h).clusterLost h).holder = s.dev.holder :=
    Dev.holder_congr ((Dev.clusterLost_num _ _ (by simp)).trans (Dev.num_wdExpired (by simp)))
  refine (if_pos hguard).trans ((if_pos hflag).trans ?_)
  exact congrArg (onDev s) (if_neg (by rw [← hholder] at hnot; exact hnot))

end Expiry

/-! A cluster that rejoins (R317). -/

/-- The half's firmware runs again, with its watchdog armed for `rake.wd_period`. -/
def Dev.clusterBack (d : Dev) (h : Half) : Dev :=
  let d := { d with boot := byHalf h { d.boot with firmwareW := true } { d.boot with firmwareE := true } }
  d.modWatchdog h (fun w => { w with running := true, period := d.num Obj.rakeWdPeriod, lastKick := d.clk })

theorem exec_clusterRejoin_of_lost {s : State} {h : Half} (hdone : s.dev.boot.bootCommitDone = true)
    (hlost : byHalf h s.dev.boot.firmwareW s.dev.boot.firmwareE = false) (hhalt : byHalf h s.dev.boot.haltW s.dev.boot.haltE = false) :
    exec (.clusterRejoin h) s =
      .next { s with dev := ((s.dev.clusterBack h).openSession (.firmware h) .owner 0xFFFF h).reopenTenants h } := by
  have hguard : (s.dev.boot.bootCommitDone && !byHalf h s.dev.boot.firmwareW s.dev.boot.firmwareE &&
      !byHalf h s.dev.boot.haltW s.dev.boot.haltE) = true := by rw [hdone, hlost, hhalt]; rfl
  exact if_pos hguard

/-- The firmware session of the half opens after the sessions that there are (R405). -/
theorem Dev.clusterBack_openSession (d : Dev) (h : Half) :
    ((d.clusterBack h).openSession (.firmware h) .owner 0xFFFF h).sessions = d.sessions ++
      [{ sid := d.nextSid, transport := .firmware h, role := .owner, scope := 0xFFFF, half := h, lastMsg := d.clk }] := by
  cases h <;> rfl

@[simp] theorem Dev.clusterBack_objs (d : Dev) (h : Half) : (d.clusterBack h).objs = d.objs := Dev.modWatchdog_objs _ _ _

theorem Dev.clusterBack_firmware (d : Dev) (h : Half) :
    byHalf h (d.clusterBack h).boot.firmwareW (d.clusterBack h).boot.firmwareE = true := by
  cases h <;> rfl

theorem Dev.clusterBack_watchdog (d : Dev) (h : Half) : ((d.clusterBack h).watchdog h).running = true ∧
    ((d.clusterBack h).watchdog h).period = d.num Obj.rakeWdPeriod := by
  rw [Dev.clusterBack, Dev.modWatchdog_watchdog]
  exact ⟨rfl, rfl⟩

/-- One tenant session opens for each slice of a list, after the sessions that there are. -/
theorem foldl_openTenant_sessions (h : Half) : ∀ (ns : List Nat) (d : Dev), ∃ l : List Session,
    (ns.foldl (fun d n => d.openSession (.tenant n) .tenant n h) d).sessions = d.sessions ++ l ∧
    ∀ y ∈ l, y.role = .tenant ∧ y.half = h ∧ y.scope ∈ ns ∧ y.transport = .tenant y.scope
  | [], d => ⟨[], (List.append_nil _).symm, by simp⟩
  | n :: ns, d => by
    obtain ⟨l, hsessions, hl⟩ := foldl_openTenant_sessions h ns (d.openSession (.tenant n) .tenant n h)
    refine ⟨_ :: l, hsessions.trans (List.append_assoc _ _ _), List.forall_mem_cons.2 ⟨⟨rfl, rfl, List.mem_cons_self, rfl⟩, ?_⟩⟩
    intro y hy
    obtain ⟨hrole, hhalf, hscope, htransport⟩ := hl y hy
    exact ⟨hrole, hhalf, List.mem_cons_of_mem _ hscope, htransport⟩

/-- The sessions that open again are those of the half's ACTIVE slices. -/
theorem Dev.reopenTenants_sessions (d : Dev) (h : Half) : ∃ l : List Session, (d.reopenTenants h).sessions = d.sessions ++ l ∧
    ∀ y ∈ l, y.role = .tenant ∧ y.half = h ∧ Half.ofSlice y.scope = h ∧ y.transport = .tenant y.scope ∧
      d.num (Obj.rmeSliceState y.scope) = 1 := by
  obtain ⟨l, hsessions, hl⟩ := foldl_openTenant_sessions h
    ((d.recordsWith 0x6000 4096 0x0B).filter (fun n => Half.ofSlice n == h && d.num (Obj.rmeSliceState n) == 1)) d
  refine ⟨l, hsessions, fun y hy => ?_⟩
  obtain ⟨hrole, hhalf, hscope, htransport⟩ := hl y hy
  obtain ⟨hslice, hactive⟩ : Half.ofSlice y.scope = h ∧ d.num (Obj.rmeSliceState y.scope) = 1 := by
    simpa using (List.mem_filter.1 hscope).2
  exact ⟨hrole, hhalf, hslice, htransport, hactive⟩

/-- Opening sessions again leaves objects, PA die and boot sequence. -/
theorem Dev.reopenTenants_frame (d : Dev) (h : Half) :
    (d.reopenTenants h).objs = d.objs ∧ (d.reopenTenants h).pa = d.pa ∧ (d.reopenTenants h).boot = d.boot := by
  unfold Dev.reopenTenants
  refine foldl_keeps _ (fun e : Dev => e.objs = d.objs ∧ e.pa = d.pa ∧ e.boot = d.boot) ?_ _ _ ⟨rfl, rfl, rfl⟩
  exact fun _ _ hkept => hkept

/-- Settles O12: each row's equation above, with what a slot check, a failed attempt, a lost cluster or a rejoining one
leaves. -/
theorem imageAndWatchdogEvents : Obligations.ImageAndWatchdogEvents := by
  refine ⟨?verified, ?empty, fun s d => exec_firmwareStart_defaults, ?calibration, fun s h => exec_watchdogKick_of_running,
    ?unhealthy, ?healthy, ?rejoin⟩
  case verified =>
    exact fun s h sl img hreleased hrom hholder hserves hslot hfirst =>
      exec_imageVerified_first sl img hreleased hrom hholder hserves hslot hfirst
  case empty =>
    intro s h sl img hreleased hrom hholder hserves hslot hfirst hflash hempty
    refine ⟨_, exec_imageVerified_first sl img hreleased hrom hholder hserves hslot hfirst, ?_⟩
    rw [Dev.romFinds_unwritten img hflash, slotReport, verifyImage_empty _ _ hempty]
    exact Dev.noteSlot_empty _ _ img.version
  case calibration =>
    intro s hdone hdue
    refine ⟨_, exec_bootLaneCalibration_none hdone hdue, rfl, fun l hl => ?_⟩
    rw [Dev.num_eq]
    exact foldl_runEnds_pass_calResult _ _ (.inl (List.mem_range.2 hl))
  case unhealthy =>
    intro s h hrun hsuspended hhealthy
    obtain ⟨hreason, -, hboot, hsessions, -⟩ := Dev.failAttempt_spec (s.dev.wdExpired h) 0x04 h.code
    exact ⟨_, exec_watchdogExpiry_of_unhealthy hrun hsuspended hhealthy, hreason, hboot, hsessions, rfl⟩
  case healthy =>
    intro s h hrun hsuspended hhealthy hnot
    refine ⟨_, exec_watchdogExpiry_of_healthy hrun hsuspended hhealthy hnot, Dev.clusterLost_watchdog _ _,
      Dev.clusterLost_firmware _ _, Dev.clusterLost_sessions _ _, ?_, ?_⟩
    · exact (Dev.clusterLost_num _ _ (by simp)).trans (Dev.wdExpired_count _ _)
    · exact (Dev.clusterLost_num _ _ (by simp)).trans (Dev.num_wdExpired (by simp))
  case rejoin =>
    intro s h hdone hlost hhalt
    obtain ⟨hobjs, hpa, hboot⟩ := Dev.reopenTenants_frame ((s.dev.clusterBack h).openSession (.firmware h) .owner 0xFFFF h) h
    obtain ⟨l, hsessions, hl⟩ := Dev.reopenTenants_sessions ((s.dev.clusterBack h).openSession (.firmware h) .owner 0xFFFF h) h
    obtain ⟨hrunning, hperiod⟩ := Dev.clusterBack_watchdog s.dev h
    rw [Dev.clusterBack_openSession, List.append_assoc] at hsessions
    have hnum : ∀ k, ((s.dev.clusterBack h).openSession (.firmware h) .owner 0xFFFF h).num k = s.dev.num k := fun k => by
      rw [Dev.num_eq, Dev.openSession_objs, Dev.clusterBack_objs, Dev.num_eq]
    simp only [hnum] at hl
    refine ⟨_, exec_clusterRejoin_of_lost hdone hlost hhalt, ?_⟩
    dsimp only
    rw [hboot, Dev.watchdog, hpa, ← Dev.watchdog, hobjs]
    exact ⟨Dev.clusterBack_firmware _ _, hrunning, hperiod, Dev.clusterBack_objs _ _, l, hsessions, hl⟩

end Sys2Proof.Machine

/-!
PROOFS. Calibration and self-test of a lane by command (R128, R129): what `lane.cal_cmd` does in the states that its rows
need, and from it the statement `Obligations.LaneCommands`.
-/
namespace Sys2Proof.Machine
open Sys2Proof.Safety

/-! The rule of `lane.cal_cmd`. -/

section
variable {d : Dev} {l : Nat}

/-- A background pass asked of an Active receiver waits for the free sampler (R128). -/
theorem Dev.writeCalCmd_background (hbusy : d.calBusy l = false) (hactive : d.rxActive l = true) :
    d.writeCalCmd l 1 = (d.setNum (Obj.laneCalStatus l) Cal.pending, Status.ok) := by
  simp [Dev.writeCalCmd, hbusy, hactive]

variable {v : Nat} (hv : v ≠ 1) (htest : d.inTest l = false) (hbusy : d.calBusy l = false)
include hv htest hbusy

/-- While the port is down a full calibration or self-test starts, forced or not (R128, R129). -/
theorem Dev.writeCalCmd_down (hdown : d.lanePortDown l = true) :
    d.writeCalCmd l v = (d.startRun l (v % 128) false, Status.ok) := by
  simp [Dev.writeCalCmd, hv, htest, hbusy, hdown]

/-- The forced forms take down a port that is up (R129). -/
theorem Dev.writeCalCmd_forced {p : Nat} (hforced : 128 ≤ v) (hup : d.lanePortDown l = false) (hport : d.portOfLane l = some p) :
    d.writeCalCmd l v = ((d.portDown p Ltssm.disabled DownCause.test).startRun l (v % 128) true, Status.ok) := by
  simp [Dev.writeCalCmd, hv, htest, hbusy, hup, hport, Nat.not_lt.2 hforced]

end

/-- A row that writes `lane.cal_cmd`. -/
theorem writeObject_wrote_calCmd {s : State} {x : Session} {rid n : Nat} {l : Fin 256} (f : Dev → Dev)
    (h : accepts s x rid (0x2200 + l) 9 .u8 n = true)
    (hw : (begun s x rid [(0x2200 + l, 9, .u8, n)]).dev.writeCalCmd l n = (f (begun s x rid [(0x2200 + l, 9, .u8, n)]).dev, Status.ok)) :
    writeObject s x.sid rid (0x2200 + l) 9 .u8 n = wrote s x rid (0x2200 + l) 9 .u8 n f :=
  writeObject_wrote s x rid (0x2200 + l) 9 .u8 n f (by omega) (by decide) (liveRow_lane l l.isLt) h
    (fun o => (liveWrite_lane _ _ _ o n l.isLt).trans (congrArg (ofDev _) hw))

section
variable {s : State} {x : Session} {rid v : Nat} {l : Fin 256} (h : accepts s x rid (0x2200 + l) 9 .u8 v = true)
  (hv : v ≠ 1) (htest : s.dev.inTest l = false) (hbusy : s.dev.calBusy l = false)
include h hv htest hbusy

/-- A row that starts a run on a lane whose port is down. -/
theorem writeObject_wrote_run (hdown : s.dev.lanePortDown l = true) :
    writeObject s x.sid rid (0x2200 + l) 9 .u8 v = wrote s x rid (0x2200 + l) 9 .u8 v (fun d => d.startRun l (v % 128) false) :=
  writeObject_wrote_calCmd _ h (Dev.writeCalCmd_down (d := (begun s x rid _).dev) hv htest hbusy hdown)

/-- A row that takes the lane's port down for its run. -/
theorem writeObject_wrote_forcedRun {p : Nat} (hforced : 128 ≤ v) (hup : s.dev.lanePortDown l = false)
    (hport : s.dev.portOfLane l = some p) :
    writeObject s x.sid rid (0x2200 + l) 9 .u8 v = wrote s x rid (0x2200 + l) 9 .u8 v
      (fun d => (d.portDown p Ltssm.disabled DownCause.test).startRun l (v % 128) true) :=
  writeObject_wrote_calCmd _ h (Dev.writeCalCmd_forced (d := (begun s x rid _).dev) hv htest hbusy hforced hup hport)

end

/-- Settles O21: each row writes `lane.cal_cmd`, whose rule takes the branch that the row's hypotheses describe. -/
theorem laneCommands : Obligations.LaneCommands := by
  refine ⟨?background, ?full, ?bist, ?fullForcedDown, ?fullForcedUp, ?bistForcedUp, ?bistForcedDown⟩
  case background =>
    intro s x rid l h hbusy hactive
    exact congrArg Host.Outcome.next
      (writeObject_wrote_calCmd _ h (Dev.writeCalCmd_background (d := (begun s x rid _).dev) hbusy hactive))
  case full =>
    exact fun s x rid l h htest hbusy hdown =>
      congrArg Host.Outcome.next (writeObject_wrote_run h (by decide) htest hbusy hdown)
  case bist =>
    exact fun s x rid l h htest hbusy hdown =>
      congrArg Host.Outcome.next (writeObject_wrote_run h (by decide) htest hbusy hdown)
  case fullForcedDown =>
    exact fun s x rid l h htest hbusy hdown =>
      congrArg Host.Outcome.next (writeObject_wrote_run h (by decide) htest hbusy hdown)
  case fullForcedUp =>
    exact fun s x rid l p h htest hbusy hup hport =>
      congrArg Host.Outcome.next (writeObject_wrote_forcedRun h (by decide) htest hbusy (by decide) hup hport)
  case bistForcedUp =>
    exact fun s x rid l p h htest hbusy hup hport =>
      congrArg Host.Outcome.next (writeObject_wrote_forcedRun h (by decide) htest hbusy (by decide) hup hport)
  case bistForcedDown =>
    exact fun s x rid l h htest hbusy hdown =>
      congrArg Host.Outcome.next (writeObject_wrote_run h (by decide) htest hbusy hdown)

end Sys2Proof.Machine

/-!
PROOFS. Requests to lane tests, perturbations, the test unlock and `fport.ready` (R131 to R136, R198, R387, R388, R390): the
objects' own rules in the states that their rows need, and from them the statement `Obligations.TestRequests`.
-/
namespace Sys2Proof.Machine
open Sys2Proof.Safety

/-! Which rule a live write follows. -/

theorem writePower_none (st : State) (x : Session) {k : Key} (n : Nat) (hk : k.idx < 0x7400 ∨ 0x9200 ≤ k.idx) :
    writePower st x k n = none := by
  unfold writePower within
  rw [if_neg (by simp; omega)]
  split <;> simp_all

theorem liveWrite_of_writeLinks {st : State} {x : Session} {k : Key} {n : Nat} {w : Written} (o : ObjRow)
    (hboot : k.idx ∉ [0x1020, 0x1030, 0xB000, 0xB010, 0xB040]) (hmgmt : k.idx ∉ [0x1120, 0x1121, 0x1F00])
    (h : writeLinks st x k n = some w) : liveWrite st x k o (.num n) = w := by
  have hlinks : writeLinks st x k (Val.num n).toNum = some w := h
  simp only [liveWrite, writeBoot_none st x k _ hboot, writeMgmt_none st x k _ hmgmt, hlinks, Option.orElse_eq_orElse,
    Option.orElse_none, Option.orElse_some]

/-- The test unlock and the perturbations, beyond the ranges of every other rule but telemetry's. -/
theorem liveWrite_of_writeTelemetry {st : State} {x : Session} {k : Key} {n : Nat} {w : Written} (o : ObjRow)
    (hk : 0xC000 ≤ k.idx) (hlane : k.idx ≠ 0xC010) (h : writeTelemetry st x k (.num n) = some w) :
    liveWrite st x k o (.num n) = w := by
  have hpower : writePower st x k (Val.num n).toNum = none := writePower_none _ _ _ (.inr (by omega))
  simp only [liveWrite, writeBoot_none st x k _ (by simp; omega), writeMgmt_none st x k _ (by simp; omega),
    writeLinks_none st x k _ (.inr (by omega)) hlane, writeEngines_none st k _ (.inr (by omega)) (by omega), hpower, h,
    Option.orElse_eq_orElse, Option.orElse_none]

/-! The rules of the lane test objects. -/

section
variable {d : Dev} {l c : Nat}

/-- A loopback mode that its lane may enter (R131, R132). -/
theorem Dev.writeLoopback_ok (hstart : c = 0 ∨ d.testMayStart l = true) (hfar : c ≠ 3 ∨ d.flag (Obj.testLaneGen l) = false) :
    d.writeLoopback l c = (((d.settleTest l).setNum (Obj.testLaneLoopback l) c).followTest l, Status.ok) := by
  have hstate : ¬ (c = 3 ∧ d.flag (Obj.testLaneGen l) = true) := by rcases hfar with h | h <;> simp [h]
  have hidle : ¬ (c ≠ 0 ∧ d.testMayStart l = false) := by rcases hstart with h | h <;> simp [h]
  rw [Dev.writeLoopback, if_neg hstate, if_neg hidle]

/-- A pattern that the rate set for its lane carries (R133). -/
theorem pam4_of_rate {rate : Nat} (hrate : needsPam4 c = false ∨ 6 ≤ rate) : ¬ (needsPam4 c = true ∧ rate < 6) := by
  rcases hrate with h | h
  · simp [h]
  · omega

/-- A pattern that its lane may generate; one that starts counts its injected errors anew (R131 to R133). -/
theorem Dev.writeGen_ok (hstart : c = 0 ∨ d.testMayStart l = true ∧ d.num (Obj.testLaneLoopback l) ≠ 3)
    (hrate : needsPam4 c = false ∨ 6 ≤ d.num (Obj.testLaneRate l)) :
    d.writeGen l c = (let e := (d.settleTest l).setNum (Obj.testLaneGen l) c
      ((if c != 0 && !d.flag (Obj.testLaneGen l) then (e.setNum (Obj.testLaneInjected l) 0).modLane l (fun y => { y with injRem := 0 })
        else e).followTest l, Status.ok)) := by
  have hfar : ¬ (c ≠ 0 ∧ d.num (Obj.testLaneLoopback l) = 3) := by rcases hstart with h | ⟨-, h⟩ <;> simp [h]
  have hidle : ¬ (c ≠ 0 ∧ d.testMayStart l = false) := by rcases hstart with h | ⟨h, -⟩ <;> simp [h]
  rw [Dev.writeGen, if_neg hfar, if_neg (pam4_of_rate hrate), if_neg hidle]

/-- A pattern that its lane may check; the checker hunts, or is off (R134). -/
theorem Dev.writeChk_ok (hstart : c = 0 ∨ d.testMayStart l = true) (hrate : needsPam4 c = false ∨ 6 ≤ d.num (Obj.testLaneRate l)) :
    d.writeChk l c =
      ((((d.settleTest l).setNum (Obj.testLaneChk l) c).setNum (Obj.testLaneChkStatus l) (if c = 0 then 0 else 1)).followTest l,
        Status.ok) := by
  have hidle : ¬ (c ≠ 0 ∧ d.testMayStart l = false) := by rcases hstart with h | h <;> simp [h]
  have hstatus : b2n (c != 0) = if c = 0 then 0 else 1 := by by_cases h : c = 0 <;> simp [b2n, h]
  rw [Dev.writeChk, if_neg (pam4_of_rate hrate), if_neg hidle]
  dsimp only
  rw [hstatus]

/-! Error injection (R135). -/

/-- The device in which an injection is set up: the running counts brought up to now, and none of the bits of a period sent. -/
def Dev.injectReady (d : Dev) (l : Nat) : Dev := (d.settleTest l).modLane l (fun y => { y with injRem := 0 })

/-- The fields of an injection word: its mode, and the length of its burst. -/
theorem injectWord_fields {mode k n : Nat} (hmode : mode < 4) (hk : k < 64) (hn : n < 256) :
    injectWord mode k n - injectWord mode k n % 65536 = injectWord mode k n ∧ field (injectWord mode k n) 30 2 = mode ∧
      field (injectWord mode k n) 16 8 = n ∧ setField (injectWord mode k n) 30 2 0 = injectWord 0 k n := by
  simp only [setField, field, injectWord, Nat.shiftRight_eq_div_pow]
  omega

variable (hgen : d.flag (Obj.testLaneGen l) = true)
include hgen

theorem Dev.writeInject_single :
    d.writeInject l (injectWord 1 0 0) = (((d.injectReady l).setNum (Obj.testLaneInject l) 0).injectBits l 1, Status.ok) := by
  rw [Dev.writeInject, if_neg (by simp [hgen])]
  rfl

theorem Dev.writeInject_periodic {k : Nat} (hk : k < 64) :
    d.writeInject l (injectWord 2 k 0) = ((d.injectReady l).setNum (Obj.testLaneInject l) (injectWord 2 k 0), Status.ok) := by
  obtain ⟨hword, hmode, -, -⟩ := injectWord_fields (show 2 < 4 by decide) hk (show 0 < 256 by decide)
  rw [Dev.writeInject, if_neg (by simp [hgen])]
  dsimp only
  rw [hword, hmode]
  rfl

theorem Dev.writeInject_burst {n : Nat} (hn : n < 256) :
    d.writeInject l (injectWord 3 0 n) = (((d.injectReady l).setNum (Obj.testLaneInject l) (injectWord 0 0 n)).injectBits l n, Status.ok) := by
  obtain ⟨hword, hmode, hlen, hidle⟩ := injectWord_fields (show 3 < 4 by decide) (show 0 < 64 by decide) hn
  rw [Dev.writeInject, if_neg (by simp [hgen])]
  dsimp only
  rw [hword, hmode, hlen, hidle]
  rfl

end

/-! The test unlock (R387). -/

/-- A challenge for a level, which expires after 60 s. -/
def Dev.challenge (d : Dev) (level : Nat) : Dev :=
  let c := padTo 32 (Config.freeBytes d.fresh 32)
  { (d.bump.setBytes Obj.testUnlockChallenge c) with test := { d.test with challenge := some (c, level, d.clk + sec 60) } }

theorem Dev.writeUnlockReq_challenge (d : Dev) {lock : Bool} {level : Nat} (hlevel : level ≠ 0) (hlock : level = 2 → lock = false) :
    d.writeUnlockReq lock level = (d.challenge level, Status.ok) := by
  have hopen : ¬ (level = 2 ∧ lock = true) := by rintro ⟨h, hlocked⟩; simp [hlock h] at hlocked
  rw [Dev.writeUnlockReq, if_neg hlevel, if_neg hopen]
  rfl

/-! The writes as their sessions' requests. -/

/-- A row that writes a field of a lane's test entry, or `fport.ready`. -/
theorem writeEntry_wrote_links {s : State} {x : Session} {rid idx e sub : Nat} {ty : ObjType} {n : Nat} {f : Dev → Dev} {r : Dev × Nat}
    (hrow : idx ∈ [0xC010, 0x3181] ∧ sub < 256 ∧ liveField idx sub = true) (h : acceptsEntry s x rid idx e sub ty n = true)
    (hrule : writeLinks (selected s x rid idx e sub ty n) (selSes s x rid idx e sub ty n) ⟨idx, sub, e⟩ n =
      some (ofDev (selected s x rid idx e sub ty n) r))
    (hr : r = (f (selected s x rid idx e sub ty n).dev, Status.ok)) :
    writeEntry s x.sid rid idx e sub ty n = wroteEntry s x rid idx e sub ty n f := by
  obtain ⟨hidx, hsub, hlive⟩ := hrow
  have hidx' : idx = 0xC010 ∨ idx = 0x3181 := by simpa using hidx
  have hkey : fieldKey x idx e sub = ⟨idx, sub, e⟩ := if_neg (by omega)
  refine entry_wrote s x rid idx e sub ty n f (by simp; omega) hsub hlive h fun o => ?_
  rw [hkey]
  exact liveWrite_of_writeLinks o (by simp; omega) (by simp; omega) (hrule.trans (congrArg (fun r => some (ofDev _ r)) hr))

/-- A row that arms or disarms a perturbation. -/
theorem writeEntry_wrote_pert {s : State} {x : Session} {rid e n : Nat} (h : acceptsEntry s x rid 0xC020 e 9 .bool n = true) :
    writeEntry s x.sid rid 0xC020 e 9 .bool n = wroteEntry s x rid 0xC020 e 9 .bool n (fun d => d.writePertArm e n) :=
  entry_wrote s x rid 0xC020 e 9 .bool n _ (by decide) (by decide) (by decide) h
    (fun o => liveWrite_of_writeTelemetry (k := ⟨0xC020, 9, e⟩) o (show 0xC000 ≤ 0xC020 by decide) (show 0xC020 ≠ 0xC010 by decide) rfl)

/-- A row that writes `test.unlock.req`. -/
theorem writeObject_wrote_unlock {s : State} {x : Session} {rid n : Nat} (f : Dev → Dev) (h : accepts s x rid 0xC000 1 .u8 n = true)
    (hw : (begun s x rid [(0xC000, 1, .u8, n)]).dev.writeUnlockReq s.commitLock n =
      (f (begun s x rid [(0xC000, 1, .u8, n)]).dev, Status.ok)) :
    writeObject s x.sid rid 0xC000 1 .u8 n = wrote s x rid 0xC000 1 .u8 n f :=
  writeObject_wrote s x rid 0xC000 1 .u8 n f (by decide) (by decide) (by decide) h
    (fun o => liveWrite_of_writeTelemetry o (by decide) (by decide) (congrArg (fun r => some (ofDev _ r)) hw))

/-- Settles O27: each row is a write whose rule, in the state its hypotheses describe, takes the branch that carries it out. -/
theorem testRequests : Obligations.TestRequests := by
  refine ⟨?loopback, ?gen, ?rate, ?chk, ?single, ?periodic, ?burst, ?ready, ?unlockEnd, ?level1, ?level2, ?arm, ?disarm⟩
  case loopback =>
    intro s x rid l c h hstart hfar
    exact congrArg Host.Outcome.next (writeEntry_wrote_links (by decide) h rfl
      (Dev.writeLoopback_ok (d := (selected s x rid _ _ _ _ _).dev) hstart hfar))
  case gen =>
    intro s x rid l c h hstart hrate
    exact congrArg Host.Outcome.next (writeEntry_wrote_links (by decide) h rfl
      (Dev.writeGen_ok (d := (selected s x rid _ _ _ _ _).dev) hstart hrate))
  case rate => exact fun s x rid l c h => congrArg Host.Outcome.next (writeEntry_wrote_links (by decide) h rfl rfl)
  case chk =>
    intro s x rid l c h hstart hrate
    exact congrArg Host.Outcome.next (writeEntry_wrote_links (by decide) h rfl
      (Dev.writeChk_ok (d := (selected s x rid _ _ _ _ _).dev) hstart hrate))
  case single =>
    intro s x rid l h hgen
    exact congrArg Host.Outcome.next (writeEntry_wrote_links (by decide) h rfl
      (Dev.writeInject_single (d := (selected s x rid _ _ _ _ _).dev) hgen))
  case periodic =>
    intro s x rid l k hk h hgen
    have hword : injectWord 2 k 0 = 2 * 2 ^ 30 + k * 2 ^ 24 := by simp [injectWord]
    rw [← hword] at h ⊢
    exact congrArg Host.Outcome.next (writeEntry_wrote_links (by decide) h rfl
      (Dev.writeInject_periodic (d := (selected s x rid _ _ _ _ _).dev) hgen hk))
  case burst =>
    intro s x rid l n hn h hgen
    have hword : injectWord 3 0 n = 3 * 2 ^ 30 + n * 2 ^ 16 := by simp [injectWord]
    have hidle : injectWord 0 0 n = n * 2 ^ 16 := by simp [injectWord]
    rw [← hword] at h ⊢
    rw [← hidle]
    exact congrArg Host.Outcome.next (writeEntry_wrote_links (by decide) h rfl
      (Dev.writeInject_burst (d := (selected s x rid _ _ _ _ _).dev) hgen hn))
  case ready =>
    intro s x rid p bars s' h
    exact congrArg Host.Outcome.next (writeEntry_wrote_links (s := s') (idx := 0x3181) (sub := 5) (by decide) h rfl rfl)
  case unlockEnd => exact fun s x rid h => congrArg Host.Outcome.next (writeObject_wrote_unlock Dev.unlockEnd h rfl)
  case level1 =>
    intro s x rid h
    exact congrArg Host.Outcome.next (writeObject_wrote_unlock (fun d => d.challenge 1) h
      (Dev.writeUnlockReq_challenge _ (by decide) nofun))
  case level2 =>
    intro s x rid h hlock
    exact congrArg Host.Outcome.next (writeObject_wrote_unlock (fun d => d.challenge 2) h
      (Dev.writeUnlockReq_challenge _ (by decide) fun _ => hlock))
  case arm => exact fun s x rid e h => congrArg Host.Outcome.next (writeEntry_wrote_pert h)
  case disarm => exact fun s x rid e h => congrArg Host.Outcome.next (writeEntry_wrote_pert h)

end Sys2Proof.Machine

/-!
PROOFS. A lane's signal, lock and sleep, and the lock of its test checker (R115 to R119, R134): one equation per row in the
states where it acts, and from them the statement `Obligations.LaneEvents`.
-/
namespace Sys2Proof.Machine

section
variable {s : State} {l : Fin 256}

/-- Lock is judged on an Active receiver that has a signal (R115). -/
theorem exec_laneLolAssert_of_active (hlevel : s.dev.laneLevel l .rx = 0) (hlos : s.dev.laneBit l LaneBit.los = false)
    (hlol : s.dev.laneBit l LaneBit.lol = false) :
    exec (.laneLolAssert l) s = .next { s with dev :=
      (((s.dev.setLaneBit l LaneBit.lol true).inc32 (Obj.laneLolCount l)).logEvent (Half.ofLane l) Scope.lane l 0 0x0102).laneEvent l } :=
  if_pos ⟨hlevel, hlos, hlol⟩

/-- A loss of signal sets the status bit, and is counted and recorded unless it is expected (R116, R117). -/
theorem exec_laneLosAssert_of_signal (announced : Bool) (hlos : s.dev.laneBit l LaneBit.los = false) :
    exec (.laneLosAssert l announced) s = .next { s with dev := if s.dev.losExpected l announced then s.dev.setLaneBit l LaneBit.los true
      else (((s.dev.setLaneBit l LaneBit.los true).inc32 (Obj.laneLosCount l)).logEvent (Half.ofLane l) Scope.lane l 0 0x0101).laneEvent l } := by
  have hno : ¬ s.dev.laneBit l LaneBit.los = true := by simp [hlos]
  exact if_neg hno

/-- A lane that may sleep takes the level of its port's state, and the port's state follows (R118). -/
theorem exec_laneSleepChange_of_maySleep (x : LaneDir) (level : SleepLevel) {p : Nat} (hport : s.dev.portOfLane l = some p)
    (hsleep : s.dev.laneMaySleep p l = true) :
    exec (.laneSleepChange l x level) s = .next { s with dev := (s.dev.setLevel l x (s.dev.levelFor p level)).followSleep p } := by
  show execLaneSleepChange l x level s = _
  simp only [execLaneSleepChange, hport, hsleep, if_true, onDev]

/-- A direction wakes to Active, and its port's state follows where there is a port (R118, R119). -/
theorem exec_laneWake (x : LaneDir) :
    exec (.laneWake l x) s = .next { s with dev :=
      ((s.dev.setLevel l x 0).portOfLane l).elim (s.dev.setLevel l x 0) (s.dev.setLevel l x 0).followSleep } := by
  refine congrArg (onDev s) ?_
  cases (s.dev.setLevel l x 0).portOfLane l <;> rfl

end

/-- Settles O28: each row's equation above; a loss of signal by whether it is expected, a sleep level by its direction. -/
theorem laneEvents : Obligations.LaneEvents := by
  refine ⟨?lol, fun _ _ => rfl, ?unexpected, ?expected, fun _ _ => rfl, ?sleepTx, ?sleepRx, fun s l => exec_laneWake, ?lock, ?lost⟩
  case lol => exact fun s l => exec_laneLolAssert_of_active
  case unexpected =>
    intro s l a hlos hexp
    rw [exec_laneLosAssert_of_signal a hlos, hexp, if_neg Bool.false_ne_true]
  case expected =>
    intro s l a hlos hexp
    rw [exec_laneLosAssert_of_signal a hlos, hexp, if_pos rfl]
  case sleepTx => exact fun s l level p hport hsleep => exec_laneSleepChange_of_maySleep .tx level hport hsleep
  case sleepRx => exact fun s l level p hport hsleep => exec_laneSleepChange_of_maySleep .rx level hport hsleep
  case lock => exact fun s l hhunts => if_pos hhunts
  case lost => exact fun s l b e hlocked => if_pos hlocked

end Sys2Proof.Machine

/-!
PROOFS. Background passes, the free sampler, eye scans, margining and full runs of a lane (R122 to R129): when a pass is
queued, who holds the sampler, and one equation per row in the states where it acts. The statement
`Obligations.CalibrationEvents` follows.
-/
namespace Sys2Proof.Machine

/-! A receiver is Active by the objects alone, so neither time nor the lane's own record changes it. -/

section
variable {d e : Dev} (h : e.objs = d.objs) (l : Nat)
include h

theorem Dev.num_congr (k : Key) : e.num k = d.num k := by rw [Dev.num_eq, Dev.num_eq, h]

theorem Dev.inTest_congr : e.inTest l = d.inTest l := by simp only [Dev.inTest, Dev.flag, Dev.num_congr h]

theorem Dev.laneOff_congr : e.laneOff l = d.laneOff l := by
  simp only [Dev.laneOff, Dev.portOfLane, Dev.lanesOf, Dev.splitWidth, Dev.flag, Dev.num_congr h]

theorem Dev.laneLevel_congr (x : LaneDir) : e.laneLevel l x = d.laneLevel l x := by
  rw [Dev.laneLevel, Dev.inTest_congr h, Dev.laneOff_congr h, Dev.askedLevel, Dev.num_congr h, Dev.num_congr h]
  rfl

theorem Dev.rxActive_congr : e.rxActive l = d.rxActive l := by
  rw [Dev.rxActive, Dev.laneLevel_congr h, Dev.laneBit, Dev.num_congr h]
  rfl

end

/-- A pass that comes due on an Active receiver is queued, unless one waits or runs (R124). -/
theorem Dev.passDue_queued {d : Dev} {l : Nat} (hactive : d.rxActive l = true) (hpending : d.num (Obj.laneCalStatus l) ≠ Cal.pending)
    (hrunning : d.num (Obj.laneCalStatus l) ≠ Cal.running) :
    d.passDue l = (d.modLane l (fun x => { x with passDue := true })).setNum (Obj.laneCalStatus l) Cal.pending := by
  have hguard : ((d.modLane l (fun x => { x with passDue := true })).rxActive l &&
      (d.modLane l (fun x => { x with passDue := true })).num (Obj.laneCalStatus l) != Cal.pending &&
      (d.modLane l (fun x => { x with passDue := true })).num (Obj.laneCalStatus l) != Cal.running) = true := by
    simp only [Dev.rxActive_congr (Dev.modLane_objs _ _ _), Dev.num_congr (Dev.modLane_objs _ _ _), hactive, Bool.true_and,
      Bool.and_eq_true, bne_iff_ne]
    exact ⟨hpending, hrunning⟩
  exact if_pos hguard

section
variable {s : State} {l : Fin 256}

theorem exec_bgcalPeriodExpiry_of_active (hactive : s.dev.rxActive l = true) (hpending : s.dev.num (Obj.laneCalStatus l) ≠ Cal.pending)
    (hrunning : s.dev.num (Obj.laneCalStatus l) ≠ Cal.running) :
    exec (.bgcalPeriodExpiry l) s = .next { s with dev :=
      (((s.dev.advanceTo (s.dev.clk + (s.dev.num (Obj.laneBgcalLast l) + ms (s.dev.num (Obj.laneBgcalPeriod l)) -
        s.dev.time (Half.ofLane l)))).modLane l (fun x => { x with passDue := true })).setNum (Obj.laneCalStatus l) Cal.pending) } := by
  refine congrArg (onDev s) (Dev.passDue_queued ?_ ?_ ?_)
  · rw [Dev.rxActive_congr (Dev.advanceTo_objs _ _), hactive]
  · rwa [Dev.num_advanceTo]
  · rwa [Dev.num_advanceTo]

/-! The free sampler (R122 to R126). -/

theorem exec_freeSamplerGrant_of_waiting (hwait : s.dev.num (Obj.laneCalStatus l) = Cal.pending ∨ (s.dev.lane l).run = 1)
    (hactive : s.dev.rxActive l = true) (hsampler : s.dev.samplerForPass l = true) :
    exec (.freeSamplerGrant l) s = .next { s with dev :=
      (((s.dev.setNum (Obj.laneCalStatus l) Cal.running).setLaneBit l LaneBit.bgcal true).modLane l
        (fun x => { x with run := 1, samplerUser := 3 })) } :=
  if_pos ⟨hwait, hactive, hsampler⟩

theorem Dev.passHolds_of {d : Dev} {l : Nat} (hrun : (d.lane l).run = 1) (huser : (d.lane l).samplerUser = 3) : d.passHolds l = true := by
  simp [Dev.passHolds, hrun, huser]

theorem exec_samplerSwap_of_passHolds (agreed : Bool) (hholds : s.dev.passHolds l = true) (hactive : s.dev.rxActive l = true) :
    exec (.samplerSwap l agreed) s = .next { s with dev :=
      (if agreed then s.dev.setLaneBit l LaneBit.sampler (!s.dev.laneBit l LaneBit.sampler)
        else s.dev.inc32 (Obj.laneSwapAbandoned l)) } :=
  if_pos ⟨hholds, hactive⟩

/-- An eye scan gets the free sampler when no pass and no margining wants it (R125, R368). -/
theorem exec_eyeScan_of_free (height width : Nat) (hactive : s.dev.rxActive l = true) (hfree : (s.dev.lane l).samplerUser = 0)
    (hpending : s.dev.num (Obj.laneCalStatus l) ≠ Cal.pending) (hper : s.dev.flag Obj.perEnable = true) :
    exec (.eyeScan l height width) s = .next { s with dev :=
      (((s.dev.setNum (Obj.laneEyeHeight l) (height % 2 ^ 16)).setNum (Obj.laneEyeWidth l) (width % 2 ^ 16)).setNum (Obj.laneEyeTime l)
        (s.dev.time (Half.ofLane l))) } :=
  if_pos ⟨hactive, hfree, hpending, hper⟩

/-- A margin step within the options takes the sampler from all but a pass that goes first (R122, R125). -/
theorem exec_marginCommand_of_taken {c : MarginCmd} (hstep : c ≠ .stop) (hactive : s.dev.rxActive l = true) (htaken : marginTaken c = true) :
    exec (.marginCommand l c) s = .next { s with dev :=
      (((s.dev.setLaneBit l LaneBit.margining true).bump.modLane l
        (fun x => { x with samplerUser := if s.dev.passHolds l && s.dev.passFirst l then 3 else 2 })).emit
          (.marginStep l c (marginOffset (s.dev.num (Obj.laneRate l)) c) s.dev.free)) } :=
  (if_neg hstep).trans (if_pos ⟨hactive, htaken⟩)

/-! The end of a full run (R127 to R129). -/

theorem exec_laneCalEnd_of_run (o : CalOutcome) (hrun : 2 ≤ (s.dev.lane l).run) :
    exec (.laneCalEnd l o) s =
      (let d := (s.dev.runEnds l (s.dev.lane l).run o).modLane l (fun x => { x with run := 0, forced := false })
       .next { s with dev := if (s.dev.lane l).forced then (d.portOfLane l).elim d d.backToDetect else d }) := by
  refine (if_pos hrun).trans (congrArg (onDev s) ?_)
  cases ((s.dev.runEnds l (s.dev.lane l).run o).modLane l (fun x => { x with run := 0, forced := false })).portOfLane l <;> rfl

end

/-- Settles O29: each row's equation above, with its test decided by the hypotheses. -/
theorem calibrationEvents : Obligations.CalibrationEvents := by
  refine ⟨fun s l => exec_bgcalPeriodExpiry_of_active, fun _ _ => rfl, fun s l => exec_freeSamplerGrant_of_waiting, ?swapped, ?abandoned,
    ?passEnd, ?eyeScan, ?timing, ?voltage, fun _ _ => rfl, ?runEnd, ?forcedRunEnd⟩
  case swapped =>
    exact fun s l hrun huser hactive => exec_samplerSwap_of_passHolds true (Dev.passHolds_of hrun huser) hactive
  case abandoned =>
    exact fun s l hrun huser hactive => exec_samplerSwap_of_passHolds false (Dev.passHolds_of hrun huser) hactive
  case passEnd => exact fun s l ok hrun huser => if_pos (Dev.passHolds_of hrun huser)
  case eyeScan => exact fun s l h w => exec_eyeScan_of_free h w
  case timing =>
    exact fun s l right n hactive hn => exec_marginCommand_of_taken (c := .timing right n) nofun hactive (decide_eq_true hn)
  case voltage =>
    exact fun s l up n hactive hn => exec_marginCommand_of_taken (c := .voltage up n) nofun hactive (decide_eq_true hn)
  case runEnd =>
    intro s l o hrun hforced
    simp only [exec_laneCalEnd_of_run o hrun, hforced, Bool.false_eq_true, if_false]
  case forcedRunEnd =>
    intro s l o hrun hforced
    simp only [exec_laneCalEnd_of_run o hrun, hforced, if_true]

end Sys2Proof.Machine

/-!
PROOFS. Commands to ports, to the fabric, to BFL links and to RME slices (R140, R148, R199, R240, R243, R248): the objects'
own rules in the states that their rows need, and from them the statement `Obligations.PortLinkAndSliceCommands`.
-/
namespace Sys2Proof.Machine
open Sys2Proof.Safety

/-! The rule of `port.cmd`. -/

section
variable {d : Dev} {p : Nat} (hon : d.flag (Obj.portEnable p) = true)
include hon

theorem Dev.writePortCmd_retrain :
    d.writePortCmd p 1 = (if d.num (Obj.pstLtssm p) = Ltssm.l0 then d.enterRecovery p else d.endDisable p, Status.ok) := by
  simp [Dev.writePortCmd, hon]

/-- A hot reset goes down the link of a downstream port at once (R140). -/
theorem Dev.writePortCmd_hotReset (hrole : d.num (Obj.portRole p) = 0) (hst : d.num (Obj.pstLtssm p) ≠ Ltssm.recovery) :
    d.writePortCmd p 2 = ((d.endDisable p).hotResetPort p, Status.ok) := by
  simp [Dev.writePortCmd, hon, hrole, hst]

/-- In Recovery the hot reset waits for its end (R148). -/
theorem Dev.writePortCmd_hotReset_recovery (hrole : d.num (Obj.portRole p) = 0) (hst : d.num (Obj.pstLtssm p) = Ltssm.recovery) :
    d.writePortCmd p 2 = (d.modPort p (fun y => { y with afterRecovery := 2 }), Status.ok) := by
  simp [Dev.writePortCmd, hon, hrole, hst]

theorem Dev.writePortCmd_disable :
    d.writePortCmd p 3 = (if d.num (Obj.pstLtssm p) = Ltssm.recovery then d.modPort p (fun y => { y with afterRecovery := 3 })
      else d.disablePort p, Status.ok) := by
  simp [Dev.writePortCmd, hon]

end

/-! The rule of `fabric.cmd`. -/

/-- The configuration request that a session's request values describe: a write for command 2, else a read (R199). -/
def Session.cfgRequest (x : Session) (v : Nat) : Tlp :=
  { type := if v = 2 then .cfgWrite else .cfgRead, target := (x.loc Obj.fabricCfgreqRid).toNum
    addr := (x.loc Obj.fabricCfgreqOffset).toNum, len := (x.loc Obj.fabricCfgreqSize).toNum
    data := if v = 2 then leBytes (x.loc Obj.fabricCfgreqSize).toNum (x.loc Obj.fabricCfgreqData).toNum else []
    requester := 0x00A0 + x.half.code, tag := x.sid % 1024 }

/-- A request at an aligned offset, for a bus that a port leads to, goes out in IC7 and is waited for (R199). -/
theorem Dev.writeFabricCmd_sends {d : Dev} {x : Session} {p : Nat} (v : Nat) (hmode : d.fabricMode = true)
    (hport : d.portOfBus ((x.loc Obj.fabricCfgreqRid).toNum / 256) = some p)
    (haligned : (x.loc Obj.fabricCfgreqOffset).toNum % (x.loc Obj.fabricCfgreqSize).toNum = 0) :
    d.writeFabricCmd x v =
      (d.sendOwn localMgmt x.half p (Half.ofPort p) 7 none { body := .tlp (x.cfgRequest v) }, .wait .cfgRequest) := by
  simp [Dev.writeFabricCmd, Session.cfgRequest, hmode, hport, haligned]

/-! The rule of `bfl.cmd`. -/

section
variable {d : Dev} {i : Nat}

/-- RESET_REQ for a full reset with the link's limits (R240). -/
def Dev.askFullReset (d : Dev) (i : Nat) : Dev :=
  let lim := d.linkLimits i
  (d.modLink i (fun y => { y with resetReq := some (1, lim.1, lim.2), selfAcked := false })).bypass i [.reset false (d.resetMsg i 1 lim.1 lim.2)]

/-- An ACTIVE link is reset, unless it is the pair's last one and the command is not the forced one (R240). -/
theorem Dev.requestReset_ok {forced : Bool} (hactive : d.linkSt i = LinkSt.active)
    (hlast : forced = true ∨ ¬ (d.num Obj.pairState = PairSt.formed ∧ d.activeLinks.length = 1)) :
    d.requestReset i forced = (d.askFullReset i, Status.ok) := by
  have hguard : ¬ (!forced && d.num Obj.pairState == PairSt.formed && d.activeLinks.length == 1) = true := by
    rcases hlast with h | h
    · simp [h]
    · simpa [and_assoc] using fun _ => not_and.1 h
  rw [Dev.requestReset, if_neg (not_not.2 hactive), if_neg hguard]
  rfl

theorem Dev.writeBflCmd_reset (x : Session) {v : Nat} (hv : v ≠ 2) (hactive : d.linkSt i = LinkSt.active)
    (hlast : (v == 0x81) = true ∨ ¬ (d.num Obj.pairState = PairSt.formed ∧ d.activeLinks.length = 1)) :
    d.writeBflCmd x i v = (d.askFullReset i, .done Status.ok) := by
  rw [Dev.writeBflCmd, if_neg hv, Dev.requestReset_ok hactive hlast]

/-- The traffic of a HELD link is moved to an ACTIVE one of a formed pair (R243). -/
theorem Dev.writeBflCmd_evacuate (x : Session) (hidle : (d.link i).evac = none) (hheld : d.linkSt i = LinkSt.held)
    (htarget : d.num (Obj.bflEvacTarget i) < 16) (hactive : d.linkSt (d.num (Obj.bflEvacTarget i)) = LinkSt.active)
    (hother : d.num (Obj.bflEvacTarget i) ≠ i) (hformed : d.num Obj.pairState = PairSt.formed) :
    d.writeBflCmd x i 2 =
      (let e := d.sendControl (d.num (Obj.bflEvacTarget i)) 1 i 0 (d.num (Obj.bflIncarnation i))
       (e.modLink i (fun y => { y with evac := some (d.num (Obj.bflEvacTarget i), x.sid, e.nextFrame) }), .wait (.evacuate i))) := by
  have hnone : ¬ (d.link i).evac.isSome = true := by simp [hidle]
  have hstate : ¬ (d.linkSt i ≠ LinkSt.held ∨ 16 ≤ d.num (Obj.bflEvacTarget i) ∨ d.linkSt (d.num (Obj.bflEvacTarget i)) ≠ LinkSt.active ∨
      d.num (Obj.bflEvacTarget i) = i ∨ d.num Obj.pairState ≠ PairSt.formed) := by
    simp [hheld, htarget, hactive, hother, hformed]
  rw [Dev.writeBflCmd, if_pos rfl, Dev.startEvac, if_neg hnone, if_neg hstate]

end

/-! The rule of `rme.slice.cmd`. -/

section
variable {d : Dev} {n : Nat}

theorem Dev.sliceCmd_quiesce (hst : d.num (Obj.rmeSliceState n) = SliceSt.active) :
    d.sliceCmd n 1 = (((d.sliceTo n SliceSt.quiescing).modSlice n (fun y => { y with quiesceSince := d.clk })).quiesceCheck n,
      Status.ok) := if_pos ⟨hst, rfl⟩

variable (hst : d.num (Obj.rmeSliceState n) = SliceSt.quiesced)
include hst

theorem Dev.sliceCmd_resume (hhost : d.flag (Obj.rmeSliceLostHost n) = false) :
    d.sliceCmd n 2 = (let e := d.sliceTo n SliceSt.active
      ((e.qpsOfSlice n).foldl (fun d k => d.fetch k) e).fetchCmd n, Status.ok) := by
  simp [Dev.sliceCmd, hst, hhost, SliceSt.active, SliceSt.quiesced]

theorem Dev.sliceCmd_release : d.sliceCmd n 3 = (d.releaseSlice n, Status.ok) := by
  simp [Dev.sliceCmd, hst, SliceSt.active, SliceSt.quiesced]

end

/-! The writes as their sessions' requests. -/

section
variable {s : State} {x : Session} {rid n : Nat} {f : Dev → Dev}

theorem writeObject_wrote_portCmd {p : Fin 128} (h : accepts s x rid (0x2000 + p) 0x0E .u8 n = true)
    (hw : (begun s x rid [(0x2000 + p, 0x0E, .u8, n)]).dev.writePortCmd p n = (f (begun s x rid [(0x2000 + p, 0x0E, .u8, n)]).dev, Status.ok)) :
    writeObject s x.sid rid (0x2000 + p) 0x0E .u8 n = wrote s x rid (0x2000 + p) 0x0E .u8 n f :=
  writeObject_wrote s x rid (0x2000 + p) 0x0E .u8 n f (by omega) (by decide) (liveRow_port p p.isLt) h
    (fun o => (liveWrite_port _ _ _ o n p.isLt).trans (congrArg (ofDev _) hw))

theorem writeObject_wrote_sliceCmd {i : Fin 4096} (h : accepts s x rid (0x6000 + i) 12 .u8 n = true)
    (hw : (begun s x rid [(0x6000 + i, 12, .u8, n)]).dev.sliceCmd i n = (f (begun s x rid [(0x6000 + i, 12, .u8, n)]).dev, Status.ok)) :
    writeObject s x.sid rid (0x6000 + i) 12 .u8 n = wrote s x rid (0x6000 + i) 12 .u8 n f :=
  writeObject_wrote s x rid (0x6000 + i) 12 .u8 n f (by omega) (by decide) (liveRow_slice i i.isLt) h
    (fun o => (liveWrite_slice _ _ _ o n i.isLt).trans (congrArg (ofDev _) hw))

theorem writeObject_wrote_bflCmd {i : Fin 16} (h : accepts s x rid (0x3400 + i) 10 .u8 n = true)
    (hw : (begun s x rid [(0x3400 + i, 10, .u8, n)]).dev.writeBflCmd (begunSes s x rid [(0x3400 + i, 10, .u8, n)]) i n =
      (f (begun s x rid [(0x3400 + i, 10, .u8, n)]).dev, .done Status.ok)) :
    writeObject s x.sid rid (0x3400 + i) 10 .u8 n = wrote s x rid (0x3400 + i) 10 .u8 n f :=
  writeObject_wrote s x rid (0x3400 + i) 10 .u8 n f (by omega) (by decide) (liveRow_bfl i i.isLt) h
    (fun o => (liveWrite_bfl _ _ _ o n i.isLt).trans (congrArg (ofWrite _) hw))

theorem writeObject_waits_bflCmd {i : Fin 16} {w : Wait} (h : accepts s x rid (0x3400 + i) 10 .u8 n = true)
    (hw : (begun s x rid [(0x3400 + i, 10, .u8, n)]).dev.writeBflCmd (begunSes s x rid [(0x3400 + i, 10, .u8, n)]) i n =
      (f (begun s x rid [(0x3400 + i, 10, .u8, n)]).dev, .wait w)) :
    writeObject s x.sid rid (0x3400 + i) 10 .u8 n = wroteWaits s x rid (0x3400 + i) 10 .u8 n f w :=
  writeObject_waits s x rid (0x3400 + i) 10 .u8 n f w (by omega) (by decide) (liveRow_bfl i i.isLt) h
    (fun o => (liveWrite_bfl _ _ _ o n i.isLt).trans (congrArg (ofWrite _) hw))

/-- A row that issues a configuration request: the request is the one that the session's values describe. -/
theorem writeObject_waits_fabricCmd {p : Nat} (h : accepts s x rid 0x3102 5 .u8 n = true) (hmode : s.dev.fabricMode = true)
    (hport : s.dev.portOfBus ((x.loc Obj.fabricCfgreqRid).toNum / 256) = some p)
    (haligned : (x.loc Obj.fabricCfgreqOffset).toNum % (x.loc Obj.fabricCfgreqSize).toNum = 0) :
    writeObject s x.sid rid 0x3102 5 .u8 n = wroteWaits s x rid 0x3102 5 .u8 n
      (fun d => d.sendOwn localMgmt x.half p (Half.ofPort p) 7 none { body := .tlp (x.cfgRequest n) }) .cfgRequest :=
  writeObject_waits s x rid 0x3102 5 .u8 n _ .cfgRequest (by decide) (by decide) (by decide) h
    (fun o => liveWrite_of_writeLinks o (by decide) (by decide) (congrArg (fun r => some (ofWrite _ r))
      (Dev.writeFabricCmd_sends (d := (begun s x rid [(0x3102, 5, .u8, n)]).dev) (x := begunSes s x rid [(0x3102, 5, .u8, n)])
        n hmode hport haligned)))

end

/-- Settles O22: each row is a write whose rule, in the state its hypotheses describe, takes the branch that carries it out. -/
theorem portLinkAndSliceCommands : Obligations.PortLinkAndSliceCommands := by
  refine ⟨?retrain, ?hotReset, ?hotResetLater, ?disable, ?cfgRead, ?cfgWrite, ?fullReset, ?forcedReset, ?evacuate, ?quiesce, ?resume, ?release⟩
  case retrain =>
    intro s x rid p h hon
    exact congrArg Host.Outcome.next (writeObject_wrote_portCmd h (Dev.writePortCmd_retrain (d := (begun s x rid _).dev) hon))
  case hotReset =>
    intro s x rid p h hon hrole hst
    exact congrArg Host.Outcome.next
      (writeObject_wrote_portCmd h (Dev.writePortCmd_hotReset (d := (begun s x rid _).dev) hon hrole hst))
  case hotResetLater =>
    intro s x rid p h hon hrole hst
    exact congrArg Host.Outcome.next
      (writeObject_wrote_portCmd h (Dev.writePortCmd_hotReset_recovery (d := (begun s x rid _).dev) hon hrole hst))
  case disable =>
    intro s x rid p h hon
    exact congrArg Host.Outcome.next (writeObject_wrote_portCmd h (Dev.writePortCmd_disable (d := (begun s x rid _).dev) hon))
  case cfgRead =>
    rintro s x rid p off size h hmode hport rfl rfl haligned
    exact congrArg Host.Outcome.next (writeObject_waits_fabricCmd h hmode hport haligned)
  case cfgWrite =>
    rintro s x rid p off size h hmode hport rfl rfl haligned
    exact congrArg Host.Outcome.next (writeObject_waits_fabricCmd h hmode hport haligned)
  case fullReset =>
    intro s x rid i h hactive hlast
    exact congrArg Host.Outcome.next (writeObject_wrote_bflCmd h
      (Dev.writeBflCmd_reset (d := (begun s x rid _).dev) _ (by decide) hactive (.inr hlast)))
  case forcedReset =>
    intro s x rid i h hactive
    exact congrArg Host.Outcome.next (writeObject_wrote_bflCmd h
      (Dev.writeBflCmd_reset (d := (begun s x rid _).dev) _ (by decide) hactive (.inl rfl)))
  case evacuate =>
    intro s x rid i h hidle hheld htarget hactive hother hformed
    exact congrArg Host.Outcome.next (writeObject_waits_bflCmd h
      (Dev.writeBflCmd_evacuate (d := (begun s x rid _).dev) _ hidle hheld htarget hactive hother hformed))
  case quiesce =>
    intro s x rid n h hst
    exact congrArg Host.Outcome.next (writeObject_wrote_sliceCmd h (Dev.sliceCmd_quiesce (d := (begun s x rid _).dev) hst))
  case resume =>
    intro s x rid n h hst hhost
    exact congrArg Host.Outcome.next (writeObject_wrote_sliceCmd h (Dev.sliceCmd_resume (d := (begun s x rid _).dev) hst hhost))
  case release =>
    intro s x rid n h hst
    exact congrArg Host.Outcome.next (writeObject_wrote_sliceCmd h (Dev.sliceCmd_release (d := (begun s x rid _).dev) hst))

end Sys2Proof.Machine

/-!
PROOFS. Links of ports: training, loss, Recovery, rates and L0p widths (R140 to R149): one equation per row in the states
where it acts, and from them the statement `Obligations.LinkEvents`.
-/
namespace Sys2Proof.Machine

/-! A link that leaves hot reset passes through Detect. -/

theorem Dev.throughDetect_of_ne {d : Dev} {p : Nat} (h : d.num (Obj.pstLtssm p) ≠ Ltssm.hotReset) : d.throughDetect p = d := if_neg h

theorem Dev.throughDetect_hotReset {d : Dev} {p : Nat} (h : d.num (Obj.pstLtssm p) = Ltssm.hotReset) :
    d.throughDetect p = (d.setNum (Obj.pstLtssm p) Ltssm.detect).modPort p (fun x => { x with kept := [] }) := if_pos h

/-- A BFL link that trains narrower than x4 fails its initialisation with cause 6. -/
theorem Dev.bflNarrow_training {d : Dev} {p i w : Nat} (hlink : d.linkOfPort p = some i) (hw : w < 4)
    (hst : d.linkSt i = LinkSt.training) : d.bflNarrow p w = d.initFails i 6 := by
  rw [Dev.bflNarrow, hlink]
  exact if_pos ⟨hw, .inl hst⟩

theorem Dev.mayRun_of {d : Dev} {p r : Nat} (hup : d.dlUp p = true)
    (hrate : d.linkRateFits p (d.num (Obj.pstProtocol p)) r (d.flag (Obj.pstFlit p)) = true) : d.mayRun p r = true := by
  rw [Dev.mayRun, hup, hrate]
  rfl

section
variable {s : State} {p : Fin 128}

/-! Training. -/

/-- A link comes up with facts that fit a port that may train (R140, R142). -/
theorem exec_linkUp_of_linkFits {f : LinkFacts} (hmay : (s.dev.throughDetect p).mayTrain p = true)
    (hfits : (s.dev.throughDetect p).linkFits p f = true) :
    exec (.linkUp p f) s = .next { s with dev := (s.dev.throughDetect p).portUp p f } := by
  show execLinkUp p f s = _
  simp [execLinkUp, onDev, hmay, hfits]

/-- Facts that do not fit a BFL port matter only where they are of a link too narrow. -/
theorem exec_linkUp_of_bfl {f : LinkFacts} (hmay : (s.dev.throughDetect p).mayTrain p = true)
    (hfits : (s.dev.throughDetect p).linkFits p f = false) (hrole : (s.dev.throughDetect p).num (Obj.portRole p) = 2) :
    exec (.linkUp p f) s = .next { s with dev := (s.dev.throughDetect p).bflNarrow p f.width } := by
  show execLinkUp p f s = _
  simp [execLinkUp, onDev, hmay, hfits, hrole]

theorem exec_linkDown_of_dlUp (surprise : Bool) (hup : s.dev.dlUp p = true) :
    exec (.linkDown p surprise) s =
      .next { s with dev := if surprise then s.dev.surpriseDown p else s.dev.portDown p Ltssm.detect 0 } := if_pos hup

/-! Recovery (R145, R148). -/

section
variable (hst : s.dev.num (Obj.pstLtssm p) = Ltssm.recovery)
include hst

/-- Recovery ends in what a command that came during it asks for, whatever the link has reached. -/
theorem exec_linkRecoveryEnd_hotReset (r : RecoveryEnd) (hafter : (s.dev.port p).afterRecovery = 2) :
    exec (.linkRecoveryEnd p r) s =
      .next { s with dev := (s.dev.modPort p (fun x => { x with afterRecovery := 0 })).hotResetPort p } :=
  (if_pos hst).trans (if_pos hafter)

theorem exec_linkRecoveryEnd_disable (r : RecoveryEnd) (hafter : (s.dev.port p).afterRecovery = 3) :
    exec (.linkRecoveryEnd p r) s =
      .next { s with dev := (s.dev.modPort p (fun x => { x with afterRecovery := 0 })).disablePort p } :=
  (if_pos hst).trans ((if_neg (by simp [hafter])).trans (if_pos hafter))

variable (hafter : (s.dev.port p).afterRecovery = 0)
include hafter

theorem exec_linkRecoveryEnd_l0 (width : Option Nat) :
    exec (.linkRecoveryEnd p (.l0 width)) s = .next { s with dev :=
      (let d := (s.dev.modPort p (fun x => { x with afterRecovery := 0 })).setNum (Obj.pstLtssm p) Ltssm.l0
       ((width.elim d (d.upconfigure p)).replayUnacked p).contractsFollow p) } :=
  (if_pos hst).trans ((if_neg (by simp [hafter])).trans (if_neg (by simp [hafter])))

theorem exec_linkRecoveryEnd_linkLost :
    exec (.linkRecoveryEnd p .linkLost) s =
      .next { s with dev := (s.dev.modPort p (fun x => { x with afterRecovery := 0 })).surpriseDown p } :=
  (if_pos hst).trans ((if_neg (by simp [hafter])).trans (if_neg (by simp [hafter])))

end

/-! Widths in L0p (R147). -/

/-- A width that L0p may run: one of the link's widths up to the one it was trained with. -/
def Dev.l0pFits (d : Dev) (p w : Nat) : Bool := [1, 2, 4, 8, 16].contains w && decide (w ≤ d.num (Obj.pstWidth p))

/-- The link runs at a width of L0p. -/
def Dev.takeL0p (d : Dev) (p w : Nat) : Dev := ((d.setNum (Obj.pstL0pWidth p) w).l0pLanes p w).contractsFollow p

theorem Dev.l0pFits_of {d : Dev} {w : Nat} (hw : [1, 2, 4, 8, 16].contains w = true) (hle : w ≤ d.num (Obj.pstWidth p)) :
    d.l0pFits p w = true := by
  rw [Dev.l0pFits, hw, decide_eq_true hle]
  rfl

variable (hst : s.dev.num (Obj.pstLtssm p) = Ltssm.l0) (hup : s.dev.dlUp p = true) (hflit : s.dev.flag (Obj.pstFlit p) = true)
  (hlpm : bitOf (s.dev.linkField p (Obj.portLpm p)) 0 = true)
include hst hup hflit hlpm

theorem exec_l0pWidthRequest_partner {w : Nat} (hrole : s.dev.num (Obj.portRole p) ≠ 2) (hw : s.dev.l0pFits p w = true) :
    exec (.l0pWidthRequest p none (some w)) s = .next { s with dev := s.dev.takeL0p p w } := by
  rw [Dev.l0pFits] at hw
  show execL0pWidthRequest p none (some w) s = _
  simp only [execL0pWidthRequest, hst, hup, hflit, hlpm, bne_iff_ne.2 hrole, Option.filter_none, Option.filter_some, hw, onDev,
    decide_true, Bool.and_self, if_true]
  rfl

variable {w : Nat} (hw : s.dev.l0pFits p w = true) (hretry : (s.dev.port p).l0pRetry = none)
include hw hretry

theorem exec_l0pWidthRequest_own (hrole : s.dev.num (Obj.portRole p) ≠ 2) :
    exec (.l0pWidthRequest p (some w) none) s =
      .next { s with dev := (s.dev.modPort p (fun x => { x with l0pRetry := none })).takeL0p p w } := by
  rw [Dev.l0pFits] at hw
  show execL0pWidthRequest p (some w) none s = _
  simp only [execL0pWidthRequest, hst, hup, hflit, hlpm, bne_iff_ne.2 hrole, Option.filter_none, Option.filter_some, hw, hretry, onDev,
    Option.any_none, Bool.not_false, decide_true, Bool.and_self, if_true]
  rfl

/-- An upstream port yields to its partner's request and waits 10 µs with its own. -/
theorem exec_l0pWidthRequest_yields {u : Nat} (hrole : s.dev.num (Obj.portRole p) = 1) (hu : s.dev.l0pFits p u = true) :
    exec (.l0pWidthRequest p (some w) (some u)) s =
      .next { s with dev := (s.dev.modPort p (fun x => { x with l0pRetry := some (w, s.dev.clk + us 10) })).takeL0p p u } := by
  rw [Dev.l0pFits] at hw hu
  show execL0pWidthRequest p (some w) (some u) s = _
  simp only [execL0pWidthRequest, hst, hup, hflit, hlpm, hrole, Option.filter_some, hw, hu, hretry, onDev, Option.any_none,
    Bool.not_false, decide_true, Bool.and_self, if_true]
  rfl

end

/-- Settles O32: each row's equation above, with its tests decided by the hypotheses. -/
theorem linkEvents : Obligations.LinkEvents := by
  refine ⟨?up, ?upThroughDetect, ?narrow, ?surprise, ?down, ?recovery, ?rollover, ?l0, ?l0Width, ?lost, ?hotReset, ?disable, ?rate, ?speed,
    ?partner, ?own, ?yields⟩
  case up =>
    intro s p f hst hmay hfits
    rw [← Dev.throughDetect_of_ne hst] at hmay hfits
    rw [exec_linkUp_of_linkFits hmay hfits, Dev.throughDetect_of_ne hst]
  case upThroughDetect =>
    intro s p f hst
    rw [← Dev.throughDetect_hotReset hst]
    exact exec_linkUp_of_linkFits
  case narrow =>
    intro s p f i hst hmay hfits hrole hlink hw htraining
    rw [← Dev.throughDetect_of_ne hst] at hmay hfits hrole
    rw [exec_linkUp_of_bfl hmay hfits hrole, Dev.throughDetect_of_ne hst, Dev.bflNarrow_training hlink hw htraining]
  case surprise => exact fun s p hup => exec_linkDown_of_dlUp true hup
  case down => exact fun s p hup => exec_linkDown_of_dlUp false hup
  case recovery => exact fun s p hst => if_pos hst
  case rollover => exact fun s p hst => if_pos hst
  case l0 => exact fun s p hst hafter => exec_linkRecoveryEnd_l0 hst hafter none
  case l0Width => exact fun s p w hst hafter => exec_linkRecoveryEnd_l0 hst hafter (some w)
  case lost => exact fun s p => exec_linkRecoveryEnd_linkLost
  case hotReset => exact fun s p r hst => exec_linkRecoveryEnd_hotReset hst r
  case disable => exact fun s p r hst => exec_linkRecoveryEnd_disable hst r
  case rate => exact fun s p r hup hrate => if_pos (Dev.mayRun_of hup hrate)
  case speed => exact fun s p r hrole hst hup hrate => if_pos ⟨hrole, hst, Dev.mayRun_of hup hrate⟩
  case partner =>
    exact fun s p w hst hup hflit hlpm hrole hw hle =>
      exec_l0pWidthRequest_partner hst hup hflit hlpm hrole (Dev.l0pFits_of hw hle)
  case own =>
    exact fun s p w hst hup hflit hlpm hrole hw hle hretry =>
      exec_l0pWidthRequest_own hst hup hflit hlpm (Dev.l0pFits_of hw hle) hretry hrole
  case yields =>
    exact fun s p w u hst hup hflit hlpm hrole hw hle hretry hu hule =>
      exec_l0pWidthRequest_yields hst hup hflit hlpm (Dev.l0pFits_of hw hle) hretry hrole (Dev.l0pFits_of hu hule)

end Sys2Proof.Machine

/-!
PROOFS. Nodes, configuration registers, PTM, station clocks and logical devices of an MLD (R36, R150 to R161): one
equation per row in the states where it acts, and from them the statement `Obligations.NodeAndStationEvents`.
-/
namespace Sys2Proof.Machine

section
variable {s : State}

/-! Nodes in reset (R150, R153). -/

theorem exec_hotResetReceived_of_active {v : Fin 64} (hot : Bool) (hst : s.dev.nodeState v = 2) :
    exec (.hotResetReceived v hot) s = .next { s with dev := s.dev.nodeEnterReset v (if hot then 2 else 3) } := if_pos hst

/-- A node leaves a reset by its upstream link once that has ended; after DL_Down, only with PERSTIN_N high (R153). -/
theorem exec_hotResetEnd_of_reset {v : Fin 64} (hst : s.dev.nodeState v = 3)
    (hby : (s.dev.node v).resetBy = 2 ∨ (s.dev.node v).resetBy = 3 ∧ s.dev.perstFree v = true) :
    exec (.hotResetEnd v) s = .next { s with dev := s.dev.nodeLeaveReset v } := if_pos ⟨hst, hby⟩

/-! PTM (R157, R158). -/

theorem exec_ptmRequest_of_ptmOn {p : Fin 128} (hup : s.dev.dlUp p = true) (hrole : s.dev.num (Obj.portRole p) = 0)
    (hport : s.dev.portOf p (s.dev.num (Obj.portPartition p)) = true) (hon : s.dev.ptmOn (s.dev.num (Obj.portPartition p)) = true)
    (hvalid : s.dev.ptmValid (s.dev.num (Obj.portPartition p)) = true) :
    exec (.ptmRequest p) s = .next { s with
      dev := s.dev.emit (.ptm p ((s.dev.time (Half.ofPort p) + (s.dev.node (s.dev.num (Obj.portPartition p))).ptmOffset) % 2 ^ 64)) } :=
  if_pos (by simp [hup, hrole, hport, hon, hvalid])

theorem exec_ptmOffsetRefresh_of_ptmOn {v : Fin 64} (n : Nat) (henabled : s.dev.nodeEnabled v = true) (hst : s.dev.nodeState v = 2)
    (hon : s.dev.ptmOn v = true) :
    exec (.ptmOffsetRefresh v n) s = .next { s with
      dev := (s.dev.modNode v (fun x => { x with ptmOffset := n % 2 ^ 64 })).setPtmValid v 1 } :=
  if_pos (by simp [henabled, hst, hon])

/-! Station clocks (R36). -/

section
variable {st : Fin 16} (hmode : field (strapOf s.dev.objs) 3 2 = 1)
include hmode

/-- Under REFCLK_MODE 0b01 a station whose pair does not toggle stays down, which its record tells (R36). -/
theorem exec_stationRefclkSelect_absent :
    exec (.stationRefclkSelect st false) s = .next { s with
      dev := ((s.dev.setNum (Obj.staRefclk st) 2).logEvent (Half.ofStation st) Scope.station st 2 0x0301).stationDown st } := by
  show execStationRefclkSelect st false s = _
  simp [execStationRefclkSelect, hmode, onDev]

theorem exec_stationRefclkSelect_present :
    exec (.stationRefclkSelect st true) s =
      .next { s with dev := (portsOfStation st).foldl Dev.noteClockHeld (s.dev.setNum (Obj.staRefclk st) 1) } := by
  show execStationRefclkSelect st true s = _
  simp [execStationRefclkSelect, hmode, onDev]

end

/-! Logical devices of an MLD (R160, R161). -/

/-- The first free entries of the table of logical devices. -/
def Dev.ldFree (d : Dev) (n : Nat) : List Nat := ((List.range 256).filter (fun e => !d.ldUsed.contains e)).take n

/-- The entries of a port's logical devices, in LD-ID order. -/
def Dev.enterLds (d : Dev) (p n : Nat) : Dev :=
  ((List.range n).zip (d.ldFree n)).foldl (fun (d : Dev) e =>
    ((d.setNum (Obj.cxlLdPort e.2) p).setNum (Obj.cxlLdLdId e.2) e.1).setNum (Obj.cxlLdState e.2) 1) d

section
variable {p : Fin 128} {n : Nat} (hup : s.dev.dlUp p = true) (hmld : (s.dev.port p).isMld = true) (hn : n ≤ 16)
  (hmode : s.dev.fabricMode = false) (hnew : s.dev.ldUsed.filter (fun e => s.dev.num (Obj.cxlLdPort e) == p.val) = [])
include hup hmld hn hmode hnew

/-- The logical devices of a newly trained MLD take free entries of the table, where there are enough. -/
theorem exec_mldTrained_of_new :
    exec (.mldTrained p n) s = .next { s with
      dev := if 256 < s.dev.ldUsed.length + n then
          (s.dev.modPort p (fun x => { x with cxlMem := false })).logEvent (Half.ofPort p) Scope.port p 3 0x020E
        else (s.dev.enterLds p n).modPort p (fun x => { x with lds := s.dev.ldFree n }) } := by
  show execMldTrained p n s = _
  simp only [execMldTrained, hup, hmld, hmode, hnew, decide_eq_true hn, onDev, List.isEmpty_nil, Bool.not_true, Bool.not_false,
    Bool.and_self, Bool.false_eq_true, if_true, if_false]
  split <;> rfl

end

/-- A released entry names no port and no partition; its device is unbound first where it was bound. -/
def Dev.releaseLd (d : Dev) (e : Nat) : Dev :=
  let bound := d.num (Obj.cxlLdPartition e) != 0xFF
  let d := if bound then d.ldUnbound e else d
  (((d.setNum (Obj.cxlLdPort e) 0xFF).setNum (Obj.cxlLdLdId e) 0).setNum (Obj.cxlLdPartition e) 0xFF).setNum (Obj.cxlLdState e)
    (if bound then 3 else 0)

@[simp] theorem Dev.port_advanceTo (d : Dev) (t p : Nat) : (d.advanceTo t).port p = d.port p := by
  rw [Dev.port, Dev.advanceTo_ports, Dev.port]

/-- The entries of an MLD are released once its port has been down for 1 s. -/
theorem exec_mldReleaseTimeout_of_down {p : Fin 128} (hmld : (s.dev.port p).isMld = true) (hdown : s.dev.dlUp p = false) :
    exec (.mldReleaseTimeout p) s = .next { s with
      dev := (((s.dev.port p).lds.foldl Dev.releaseLd (s.dev.advanceTo ((s.dev.port p).downSince + sec 1))).modPort p
        (fun x => { x with lds := [], isMld := false })).countLds } := by
  have hguard : ((s.dev.port p).isMld && !s.dev.dlUp p) = true := by simp [hmld, hdown]
  refine (if_pos hguard).trans ?_
  dsimp only
  rw [Dev.port_advanceTo]
  rfl

end

/-- Settles O33: each row's meaning or equation above, with its tests decided by the hypotheses. -/
theorem nodeAndStationEvents : Obligations.NodeAndStationEvents := by
  refine ⟨fun _ _ => rfl, fun _ _ => rfl, ?hotReset, ?dlDown, ?hotResetEnd, ?dlDownEnd, ?config, ?ptm, ?ptmOffset, ?clockAbsent,
    ?clockPresent, fun _ _ => rfl, fun _ _ => rfl, ?ldsEntered, ?ldsTooMany, ?ldsReleased, ?unclaimed⟩
  case hotReset => exact fun s v => exec_hotResetReceived_of_active true
  case dlDown => exact fun s v => exec_hotResetReceived_of_active false
  case hotResetEnd => exact fun s v hst hby => exec_hotResetEnd_of_reset hst (.inl hby)
  case dlDownEnd => exact fun s v hst hby hfree => exec_hotResetEnd_of_reset hst (.inr ⟨hby, hfree⟩)
  case config => exact fun s f r n hexists => if_pos hexists
  case ptm =>
    rintro s p v rfl hup hrole hport hon hvalid
    exact exec_ptmRequest_of_ptmOn hup hrole hport hon hvalid
  case ptmOffset => exact fun s v n henabled hst hon => exec_ptmOffsetRefresh_of_ptmOn n henabled hst hon
  case clockAbsent => exact fun s st => exec_stationRefclkSelect_absent
  case clockPresent => exact fun s st => exec_stationRefclkSelect_present
  case ldsEntered =>
    intro s p n hup hmld hn hmode hnew hroom
    rw [exec_mldTrained_of_new hup hmld hn hmode hnew, if_neg (Nat.not_lt.2 hroom)]
    rfl
  case ldsTooMany =>
    intro s p n hup hmld hn hmode hnew hfull
    rw [exec_mldTrained_of_new hup hmld hn hmode hnew, if_pos hfull]
  case ldsReleased => exact fun s p => exec_mldReleaseTimeout_of_down
  case unclaimed => exact fun s v w n hport => if_pos hport

end Sys2Proof.Machine

/-!
PROOFS. The forwarding core (R178, R185, R290, R316): frames that enter, are selected at an egress port or wait for credits, and the scans of
the tally: one equation per row in the states where it acts, and from them the statement `Obligations.CoreEvents`.
-/
namespace Sys2Proof.Machine

/-- An event of a port or a half leaves every object but the lost-record count. -/
theorem Dev.num_logEvent {d : Dev} {sc : Nat} {k : Key} (h : Half) (id sev ev : Nat) (det : List Byte) (al : Bool)
    (hk : k ≠ Obj.errLogLost) (hscope : sc ≠ Scope.node) : (d.logEvent h sc id sev ev det al).num k = d.num k := by
  rw [Dev.num_eq, Dev.logEvent_num' _ _ _ _ _ _ _ _ _ hk hscope, Dev.num_eq]

section
variable {s : State}

/-- A frame of an open source that is not too long is looked up and carried, unless its source holds it back (R163, R164). -/
theorem exec_frameIngress_of_enter {i : Ingress} {f : Frame} {facts : CoreFacts} {d : Dev} (hopen : s.dev.sourceOpen i f = true)
    (hlen : f.bytes ≤ s.dev.num Obj.schedFrameMax)
    (henter : s.dev.enter { inPort := i.number, inHalf := i.half, cls := s.dev.classOf i f, facts := facts } f
      (s.dev.route i (s.dev.classOf i f) f) = some d) :
    exec (.frameIngress i f facts) s = .next { s with dev := d } := by
  show execFrameIngress i f facts s = _
  simp only [execFrameIngress, hopen, decide_eq_true hlen, henter, onDev, Bool.and_self, if_true]

/-! The scheduler's slot (R290). -/

section
variable {d : Dev} {p : Nat} (ecc : CellEcc) (hpert : d.pertAt 1 p = none)
include hpert

theorem Dev.egress_of_select {q : QFrame} (hselect : d.select p = some q) :
    d.egress p ecc =
      (match ((d.modPort p (fun x => { x with slotNo := x.slotNo + 1 })).dropFrame (Half.ofPort p) q.id).readCells (Half.ofPort p) q ecc with
      | (none, e) => (e.sampleQueued (Half.ofPort p) q false).admitHeld (Half.ofPort p)
      | (some r, e) => (e.sendOut p r false).admitHeld (Half.ofPort p)) := by
  simp only [Dev.egress, hpert, hselect, Option.isSome_none, Bool.false_eq_true, if_false] <;> rfl

theorem Dev.egress_of_no_frame (hselect : d.select p = none) :
    d.egress p ecc = d.modPort p (fun x => { x with slotNo := x.slotNo + 1 }) := by
  simp only [Dev.egress, hpert, hselect, Option.isSome_none, Bool.false_eq_true, if_false]

end

/-- A frame that only its link's credits hold is reported once; no DPC follows at a port that is not a downstream one (R316). -/
theorem exec_creditStallTimeout_of_stalled {p : Fin 128} {q : QFrame} (hup : s.dev.dlUp p = true)
    (hlogged : (s.dev.port p).stallLogged = false) (hqueued : q ∈ s.dev.queueAt p) (heligible : s.dev.eligible p q = true)
    (hlink : s.dev.linkReady p q = false) (hrole : s.dev.num (Obj.portRole p) ≠ 0) :
    exec (.creditStallTimeout p) s = .next { s with
      dev := (s.dev.logEvent (Half.ofPort p) Scope.port p 1 0x0209).modPort p (fun x => { x with stallLogged := true }) } := by
  have hstalled : (s.dev.queueAt p).any (fun q => s.dev.eligible p q && !s.dev.linkReady p q) = true :=
    List.any_eq_true.2 ⟨q, hqueued, by rw [heligible, hlink]; rfl⟩
  have hrole' : ((s.dev.logEvent (Half.ofPort p) Scope.port p 1 0x0209).modPort p (fun x => { x with stallLogged := true })).num
      (Obj.portRole p) ≠ 0 := by
    rwa [Dev.num_congr (Dev.modPort_objs _ _ _), Dev.num_logEvent _ _ _ _ _ _ (by simp) (by decide)]
  refine (if_pos (by rw [hup, hlogged, hstalled]; rfl)).trans ?_
  rw [beq_false_of_ne hrole']
  rfl

end

/-- Settles O35: each row's meaning or equation above, with its tests decided by the hypotheses. -/
theorem coreEvents : Obligations.CoreEvents := by
  refine ⟨?ingress, ?selected, ?noFrame, ?credits, ?stall, fun _ _ => rfl, ?scanStart, ?scanEnd⟩
  case ingress => exact fun s i f facts d => exec_frameIngress_of_enter
  case selected => exact fun s p ecc q hpert hselect => congrArg (onDev s) (Dev.egress_of_select ecc hpert hselect)
  case noFrame => exact fun s p ecc hpert hselect => congrArg (onDev s) (Dev.egress_of_no_frame ecc hpert hselect)
  case credits => exact fun s p c hup => if_pos hup
  case stall => exact fun s p q => exec_creditStallTimeout_of_stalled
  case scanStart => exact fun s h hon hidle => if_pos (by rw [hon, hidle]; rfl)
  case scanEnd => exact fun s h n hscan => if_pos hscan

end Sys2Proof.Machine

/-!
PROOFS. The seam (R188 to R194) and the halt of a half (R318): what each row comes to in the states where it acts, and from
that the statement `Obligations.SeamEvents`.
-/
namespace Sys2Proof.Machine

/-! A module's replays and retrains (R190, R191). -/

section
variable {d : Dev} {x : SeamDir} {m : Nat}

theorem Dev.seamCrc_active (hst : (d.seamMod x m).st = .active) :
    d.seamCrc x m = ((d.modSeamMod x m (fun y => { y with st := .retry, fails := 0 })).inc64 Obj.coreSeamRetries).emit (.seamReplay x m) := by
  simp only [Dev.seamCrc, hst]

theorem Dev.seamCrc_retry (hst : (d.seamMod x m).st = .retry) :
    d.seamCrc x m = if (d.seamMod x m).fails = 3 then d.modSeamMod x m (fun y => { y with st := .retrain, fails := 0, since := d.clk })
      else ((d.modSeamMod x m (fun y => { y with fails := y.fails + 1 })).inc64 Obj.coreSeamRetries).emit (.seamReplay x m) := by
  simp only [Dev.seamCrc, hst]

end

theorem exec_seamCrcError_of_not_lost {s : State} {x : SeamDir} {m : Fin 8} (hlost : s.dev.seam.lost = false) :
    exec (.seamCrcError x m) s = .next { s with dev := s.dev.seamCrc x m } := if_neg (by simp [hlost])

/-! Frames that cross (R188 to R190). -/

section
variable {d : Dev} {st : Nat} {f : SeamFrame}

/-- A frame crosses once its module is ACTIVE and has credit, its station has its turn and the other half admits its cells. -/
theorem Dev.seamAdmit_sends {c m : Nat} {a : Account} (hmodule : d.stationModule st = some m) (hhead : d.seamHead st c = some f)
    (hst : (d.seamMod (SeamDir.ofSender (Half.ofStation st)) m).st = .active)
    (hcredit : (d.seamMod (SeamDir.ofSender (Half.ofStation st)) m).credit c = true) (hturn : d.seamTurn m st = true)
    (hroom : d.uncreditedAccount (Half.ofStation st).other f.q.outPort f.q.qcls f.q.cells = some a) :
    d.seamAdmit st c = d.seamSend st m f a := by
  simp only [Dev.seamAdmit, hmodule, hhead, hst, hcredit, hturn, hroom, and_self, if_true]

/-- The crossing is over: the frame leaves its queue, its channel has its credit back, and the next number is expected. -/
def Dev.seamCrossed (d : Dev) (st seq m : Nat) (f : SeamFrame) : Dev :=
  let h := Half.ofStation st
  let e := (d.modBuf h (fun b => { b with seamQueue := b.seamQueue.filter (fun y => !(y.station == st && y.sent == some (seq, m))) })).useCredit
    (SeamDir.ofSender h) m f.channel (fun n => n - 1)
  { e with seam := { e.seam with rxSeq := tabSet id e.seam.rxSeq st ((seq + 1) % 65536) } }

/-- A frame received in sequence goes to its egress port or its local target in the other half, unless it was discarded. -/
theorem Dev.seamReceive_of_expected {seq m : Nat} {fr : Frame} (hnext : tabGet d.seam.rxSeq st 0 = seq)
    (hfind : (d.buf (Half.ofStation st)).seamQueue.find? (fun f => f.station == st && f.sent.any (fun x => x.1 == seq) && f.q.frame == fr) = some f)
    (hsent : f.sent = some (seq, m)) :
    d.seamReceive st seq fr =
      (let e := d.seamCrossed st seq m f
       let g : QFrame := { f.q with account := f.admitted, crossed := true }
       if f.gone then e.admitHeld (Half.ofStation st).other
       else if g.outPort < 128 then e.enqueueAt (Half.ofStation st).other g else e.atLocal (Half.ofStation st).other g) := by
  simp only [Dev.seamReceive, hnext, hfind, hsent, if_true]
  rfl

/-- A number that has been accepted is counted as a duplicate. -/
theorem Dev.seamReceive_of_duplicate {seq : Nat} (fr : Frame) (hseq : seq < 65536) (hnext : tabGet d.seam.rxSeq st 0 ≠ seq)
    (hbehind : (tabGet d.seam.rxSeq st 0 + 65536 - seq) % 65536 ≤ 32768) :
    d.seamReceive st seq fr = d.inc32 Obj.coreSeamDuplicates :=
  (if_neg hnext.symm).trans (if_pos (by rwa [Nat.mod_eq_of_lt hseq]))

end

section
variable {s : State} {st : Fin 16} (hopen : s.dev.seamOpen = true)
include hopen

theorem exec_seamAdmission_of_open (c : Fin 5) : exec (.seamAdmission st c) s = .next { s with dev := s.dev.seamAdmit st c } := if_pos hopen

theorem exec_seamFrameReceive_of_open {seq : Nat} (fr : Frame) (hseq : seq < 65536) :
    exec (.seamFrameReceive st seq fr) s = .next { s with dev := s.dev.seamReceive st seq fr } :=
  if_pos (by rw [hopen, decide_eq_true hseq]; rfl)

end

/-! Management requests between the halves (R194). -/

/-- A request ends with the first item that fails (R74). -/
theorem runItems_failed (sid : Nat) (e : Exec) (i : Item) (rest : List Item) (st st' : State) (x : Session) (y : DoneItem)
    (hx : st.dev.ses sid = some x) (hi : runItem st x { e with todo := i :: rest } i = (st', .done y)) (hy : succeeded y.status = false) :
    runItems sid e (i :: rest) st = finishRequest st' sid { e with done := e.done ++ [y] } y.status := by
  rw [runItems, hx]
  simp only [hi, hy, Bool.false_eq_true, if_false]

/-- The device as the other half's responder takes up a request of half h. -/
def Dev.seamAsked (d : Dev) (h : Half) (write : Bool) (idx sub ent v : Nat) : Dev :=
  ((d.openSession (.seam h) .owner 0xFFFF h.other).modSes d.nextSid (fun x => x.setLoc ⟨idx, 1, 0⟩ (.num ent))).park d.nextSid
    (seamExec write idx sub v)

section
variable {s t : State} {h : Half} {write : Bool} {idx sub ent v : Nat} {x : Session} {y : DoneItem}
  (hreach : s.dev.farReachable h.other = true) (hroom : s.dev.seamPending h < 16)
include hreach hroom

theorem exec_seamMgmtRequest_of_room :
    exec (.seamMgmtRequest h write idx sub ent v) s =
      .next (runItems s.dev.nextSid (seamExec write idx sub v) [seamItem write idx sub v]
        { s with dev := s.dev.seamAsked h write idx sub ent v }) := if_neg (by simp [hreach, hroom])

variable (hses : (s.dev.seamAsked h write idx sub ent v).ses s.dev.nextSid = some x)
  (hrun : runItem { s with dev := s.dev.seamAsked h write idx sub ent v } x (seamExec write idx sub v) (seamItem write idx sub v) = (t, .done y))
include hses hrun

/-- The request is answered at once with what its one item comes to. -/
theorem exec_seamMgmtRequest_of_done :
    exec (.seamMgmtRequest h write idx sub ent v) s =
      .next (if succeeded y.status then finishRequest t s.dev.nextSid { seamExec write idx sub v with todo := [], done := [y] } Status.ok
        else finishRequest t s.dev.nextSid { seamExec write idx sub v with done := [y] } y.status) := by
  rw [exec_seamMgmtRequest_of_room hreach hroom]
  cases hy : succeeded y.status with
  | true => rw [runItems_done _ _ _ _ _ t x y hses hrun hy, runItems]; rfl
  | false => rw [runItems_failed _ _ _ _ _ t x y hses hrun hy]; rfl

end

/-- With the policy that keeps the other half at work, a halt takes down the half's ports (R318). -/
theorem Dev.halt_of_policy_zero {d : Dev} (h : Half) (c : HaltCause) (hpolicy : d.num Obj.errPolHalfFatalAction = 0) :
    d.halt h c = (portsOfHalf h).foldl (fun d p => d.portDown p Ltssm.detect 0)
      (({ d with boot := byHalf h { d.boot with haltW := true } { d.boot with haltE := true } } : Dev).logEvent h Scope.half h.code 2 0x050D
        (beBytes 1 c.code)) := by
  refine if_neg ?_
  rw [Dev.num_logEvent _ _ _ _ _ _ (by simp) (by decide)]
  exact fun hone => absurd (hpolicy.symm.trans hone) (by decide)

/-- Settles O31: each row's meaning or equation above, with its tests decided by the hypotheses. -/
theorem seamEvents : Obligations.SeamEvents := by
  refine ⟨?crcActive, ?crcRetry, ?crcFourth, ?replayAck, ?retrainDone, ?retrainTimeout, ?heartbeat, ?heartbeatTimeout, ?time, ?admission,
    ?receipt, ?duplicate, ?request, ?halt⟩
  case crcActive => exact fun s x m hlost hst => by rw [exec_seamCrcError_of_not_lost hlost, Dev.seamCrc_active hst]
  case crcRetry =>
    exact fun s x m hlost hst hfails => by rw [exec_seamCrcError_of_not_lost hlost, Dev.seamCrc_retry hst, if_neg hfails]
  case crcFourth =>
    exact fun s x m hlost hst hfails => by rw [exec_seamCrcError_of_not_lost hlost, Dev.seamCrc_retry hst, if_pos hfails]
  case replayAck => exact fun s x m hst => if_pos hst
  case retrainDone => exact fun s x m hlost hst => if_pos ⟨hst, hlost⟩
  case retrainTimeout => exact fun s x m hlost hst => if_pos ⟨hst, hlost⟩
  case heartbeat => exact fun s h hup => if_pos hup
  case heartbeatTimeout => exact fun s hup => if_pos hup
  case time => exact fun s hwe hew => if_pos (by rw [hwe, hew]; rfl)
  case admission =>
    intro s st c m f a hopen hmodule hhead hst hcredit hturn hroom
    rw [exec_seamAdmission_of_open hopen, Dev.seamAdmit_sends hmodule hhead hst hcredit hturn hroom]
    rfl
  case receipt =>
    intro s st q fr f m hopen hq hnext hfind hsent
    rw [exec_seamFrameReceive_of_open hopen fr hq, Dev.seamReceive_of_expected hnext hfind hsent]
    rfl
  case duplicate =>
    intro s st q fr hopen hq hnext hbehind
    rw [exec_seamFrameReceive_of_open hopen fr hq, Dev.seamReceive_of_duplicate fr hq hnext hbehind]
  case request => exact fun s h write idx sub ent v t x y => exec_seamMgmtRequest_of_done
  case halt =>
    intro s h c hreleased hhalted hpolicy
    have hruns : (s.dev.boot.released && !s.dev.halted h) = true := by rw [hreleased, hhalted]; rfl
    exact (if_pos hruns).trans (congrArg (onDev s) (Dev.halt_of_policy_zero h c hpolicy))

end Sys2Proof.Machine

/-!
PROOFS. Fabric mode (R198, R203 to R205, R211 to R214): completions to proxy RIDs, tracking entries that end or become free,
synthetic slots and the hosts' configuration requests: one equation per row in the states where it acts, and from them the
statement `Obligations.FabricEvents`.
-/
namespace Sys2Proof.Machine

/-! Completions to proxy RIDs (R205, R212). -/

/-- The half whose tracking entries a completion's proxy RID names. -/
abbrev proxyHalf (t : Tlp) : Half := Half.ofCode (field t.requester 4 1)

/-- The tracking entry that a completion's proxy RID and tag name. -/
abbrev proxyEntry (t : Tlp) : Nat := 16384 * field t.requester 0 4 + t.tag

/-- A completion as it arrives at the port of the function that sends it. -/
abbrev Dev.proxyArrival (d : Dev) (p : Nat) (t : Tlp) : Arrival :=
  { inPort := p, inHalf := Half.ofPort p, cls := d.classOf (.port (Fin.ofNat 128 p)) { body := .tlp t }, facts := ⟨false, false⟩ }

/-- No further completion belongs to the request: this one brings the last of its data, brings none, or fails. -/
abbrev endsRequest (t : Tlp) : Bool := (t.len == 0 || decide (t.byteCount ≤ t.len)) || t.status != .sc

/-- The tracking entries once a completion is accepted: its entry is freed, or is owed the rest of the data. -/
def Dev.trackServed (d : Dev) (t : Tlp) (x : Track) : Dev :=
  let rest := (d.track (proxyHalf t)).filter (fun y => y.entry != proxyEntry t)
  d.setTrack (proxyHalf t) (if endsRequest t then rest else rest ++ [{ x with due := x.due - t.len }])

/-- The device once an accepted completion has been taken from its entry. -/
def Dev.proxyTaken (d : Dev) (t : Tlp) (x : Track) : Dev :=
  let e := d.trackServed t x
  if endsRequest t then e.cfgReturned x else e

section
variable {d : Dev} {t : Tlp} {x : Track}

/-- A completion of no entry, or from another function than the entry's, is late. -/
theorem Dev.proxyTake_of_late
    (hlate : ((d.track (proxyHalf t)).find? (fun x => x.entry == proxyEntry t)).all (fun x => t.completer != d.num (Obj.bindRid x.binding)) = true) :
    d.proxyTake t = (d.inc64 Obj.fabricCtlLate, none) := by
  cases hfind : (d.track (proxyHalf t)).find? (fun x => x.entry == proxyEntry t) with
  | none => simp only [Dev.proxyTake, hfind]
  | some x =>
    have hother : t.completer ≠ d.num (Obj.bindRid x.binding) := by simpa [hfind] using hlate
    simp only [Dev.proxyTake, hfind, if_pos hother]

section
variable (hfind : (d.track (proxyHalf t)).find? (fun x => x.entry == proxyEntry t) = some x)
  (hrid : t.completer = d.num (Obj.bindRid x.binding))
include hfind hrid

theorem Dev.proxyTake_of_match :
    d.proxyTake t = (d.proxyTaken t x, some (x, { t with data := (d.trackServed t x).patchCfg x t.data })) := by
  simp only [Dev.proxyTake, hfind, if_neg (not_not.2 hrid)]
  rfl

/-- An accepted completion is forwarded where its entry says, with the completer's RID as the host knows it; it is blocked when its
host knows none, and consumed when no port leads there. -/
theorem Dev.proxyArrives_of_match (a : Arrival) (f : Frame) :
    (d.proxyArrives a t f).getD d =
      (let e := d.proxyTaken t x
       let g := e.trackTarget x
        { t with data := (d.trackServed t x).patchCfg x t.data, completer := (e.hostRid x.binding).getD 0 }
       if x.host.isSome && (e.hostRid x.binding).isNone then e.blockFrame a x.host 0 false f
       else if g.1 < 128 then (e.carry a g.1 (Half.ofPort g.1) g.2.1 g.2.2).getD d
       else e.arrivalOver a f noPort .green) := by
  simp only [Dev.proxyArrives, Dev.proxyTake_of_match hfind hrid]
  cases x.host with
  | none => exact apply_ite (fun o : Option Dev => o.getD d) _ _ _
  | some v =>
    cases (d.proxyTaken t x).hostRid x.binding with
    | none => rfl
    | some rid => exact apply_ite (fun o : Option Dev => o.getD d) _ _ _

end

variable {s : State} {p : Nat}

/-- A completion of a function that lies behind no port is late. -/
theorem exec_proxyCompletion_of_no_port (hport : s.dev.portOfBus (t.completer / 256) = none) :
    exec (.proxyCompletion t) s = .next { s with dev := s.dev.inc64 Obj.fabricCtlLate } := by
  show execProxyCompletion t s = _
  simp only [execProxyCompletion, hport, onDev]

theorem exec_proxyCompletion_of_port (hport : s.dev.portOfBus (t.completer / 256) = some p) :
    exec (.proxyCompletion t) s = .next { s with dev := (s.dev.proxyArrives (s.dev.proxyArrival p t) t { body := .tlp t }).getD s.dev } := by
  show execProxyCompletion t s = _
  simp only [execProxyCompletion, hport, onDev]

end

/-! Tracking entries that time out or become free (R213, R214). -/

section
variable {s : State} {h : Half}

theorem exec_trackTimeout_of_entry {e : Fin 262144} {t : Track} (hfind : (s.dev.track h).find? (fun t => t.entry == e.val) = some t) :
    exec (.trackTimeout h e) s =
      (let d := (s.dev.advanceTo (t.issued + us (s.dev.num Obj.fabricCtlTrackTimeout))).endTrack h t false
       .next { s with dev := d.logEvent h Scope.node (t.host.getD (d.num (Obj.bindHost t.binding))) 1 0x0406 }) := by
  show execTrackTimeout h e s = _
  simp only [execTrackTimeout, hfind, onDev]

theorem exec_trackWaitResume_of_fit {i : Nat} {f : Frame} {d : Dev}
    (hfit : (s.dev.buf h).frames.findSome? (fun q => q.track.bind (fun t => (s.dev.takeTrack h q.frame t).map (fun r => (q.id, r.1, r.2)))) =
      some (i, f, d)) :
    exec (.trackWaitResume h) s = .next { s with dev := d.modBuf h (fun b =>
      { b with frames := b.frames.map (fun q => if q.id = i then { q with frame := f, track := none } else q) }) } := by
  show execTrackWaitResume h s = _
  simp only [execTrackWaitResume, hfit, onDev]

end

/-! Synthetic slots (R203). -/

/-- Configuration registers are no objects, so the bindings of a host stay as they are. -/
theorem Dev.boundTo_setCfg (d : Dev) (f : CfgFunc) (r : CfgReg) (n v : Nat) : (d.setCfg f r n).boundTo v = d.boundTo v := rfl

theorem Dev.num_setCfg (d : Dev) (f : CfgFunc) (r : CfgReg) (n : Nat) (k : Key) : (d.setCfg f r n).num k = d.num k := rfl

section
variable {d : Dev} {v : Fin 64} {k : Fin 256} {b0 : Nat} {bs : List Nat}

/-- The bindings below a slot that its host powers off read state 3, and the slot event is notified. -/
theorem Dev.synthPower_off (hbelow : (d.boundTo v).filter (fun b => d.num (Obj.bindVdsp b) == k.val && d.num (Obj.bindState b) == 2) = b0 :: bs) :
    d.synthPower v k false =
      (((b0 :: bs).foldl (fun d b => d.bindTo b 3)
        (d.setCfg (.synthetic v k) .slotControl (setBit (d.cfgReg (.synthetic v k) .slotControl) 10 true))).refreshMap).notify 2
        (fun x => x.deviceWide || (x.role == .admin && x.scope == v.val)) (fun _ => [numItem (Obj.bindState b0) .u8 3]) := by
  simp only [Dev.synthPower, Fin.ofNat_val_eq_self, Dev.boundTo_setCfg, Dev.num_setCfg, Bool.false_eq_true, if_false, hbelow, Bool.not_false]

/-- The bindings below a slot that its host powers on return to state 2. -/
theorem Dev.synthPower_on (hbelow : (d.boundTo v).filter (fun b => d.num (Obj.bindVdsp b) == k.val && d.num (Obj.bindState b) == 3) = b0 :: bs) :
    d.synthPower v k true =
      ((b0 :: bs).foldl (fun d b => d.bindTo b 2)
        (d.setCfg (.synthetic v k) .slotControl (setBit (d.cfgReg (.synthetic v k) .slotControl) 10 false))).refreshMap := by
  simp only [Dev.synthPower, Fin.ofNat_val_eq_self, Dev.boundTo_setCfg, Dev.num_setCfg, if_true, hbelow, Bool.not_true]

end

/-! Configuration requests of hosts (R204, R211). -/

section
variable {d : Dev} {b rid : Nat} (q t : Nat)

/-- A function without a RID in its host's view does not answer (R205). -/
theorem Dev.hostConfig_of_no_rid (r : FnReg) (w : Option Nat) (hrid : d.hostRid b = none) :
    d.hostConfig b r w q t = d.endCfg b r (w.map (fun n => (n, 0xFFFFFFFF))) q t .unsupported := by
  simp only [Dev.hostConfig, hrid]

section
variable (hrid : d.hostRid b = some rid)
include hrid

/-- A synthetic port in DPC ends the request (R310). -/
theorem Dev.hostConfig_of_dpc (r : FnReg) (w : Option Nat) (hdpc : d.dpcSet (d.synthOf b) = true) :
    d.hostConfig b r w q t = d.endCfg b r (w.map (fun n => (n, 0xFFFFFFFF))) q t (.dpc (d.synthOf b)) := by
  simp only [Dev.hostConfig, hrid, hdpc, if_true]

variable (hdpc : d.dpcSet (d.synthOf b) = false)
include hdpc

theorem Dev.hostConfig_bar_write (n : Fin 6) (w : Nat) :
    d.hostConfig b (.bar n) (some w) q t = (d.writeViewBar b n w).answerCfg (d.num (Obj.bindHost b)) q t rid .sc [] := by
  simp only [Dev.hostConfig, hrid, hdpc, Bool.false_eq_true, if_false]

theorem Dev.hostConfig_bar_read (n : Fin 6) :
    d.hostConfig b (.bar n) none q t = d.answerCfg (d.num (Obj.bindHost b)) q t rid .sc (leBytes 4 (d.readViewBar b n)) := by
  simp only [Dev.hostConfig, hrid, hdpc, Bool.false_eq_true, if_false]

/-- A VF's host reads the Vendor ID of the PF and the Device ID of its SR-IOV capability, which the device gives (R204). -/
theorem Dev.hostConfig_vendorDevice_read (hvf : d.num (Obj.bindKind b) = 3) :
    d.hostConfig b .vendorDevice none q t = d.answerCfg (d.num (Obj.bindHost b)) q t rid .sc (leBytes 4 (d.fnInfo b).idWord) := by
  simp only [Dev.hostConfig, hrid, hdpc, Bool.false_eq_true, if_false, hvf, if_true]

theorem Dev.hostConfig_command_write (n : Nat) :
    d.hostConfig b .command (some n) q t = d.trackedCfg b .command (some (n, 0xFFFC)) q t := by
  simp only [Dev.hostConfig, hrid, hdpc, Bool.false_eq_true, if_false]

/-- A register that is not trapped reaches the function, read or written. -/
theorem Dev.hostConfig_other (k : Nat) (w : Option Nat) :
    d.hostConfig b (.other k) w q t = d.trackedCfg b (.other k) (w.map (fun n => (n, 0xFFFFFFFF))) q t := by
  cases w with
  | none => simp only [Dev.hostConfig, hrid, hdpc, Bool.false_eq_true, if_false, Option.map_none]
  | some n => simp only [Dev.hostConfig, hrid, hdpc, Bool.false_eq_true, if_false, Option.map_some]

end

end

/-- A request to a bound function comes to what `Dev.hostConfig` makes of it. -/
theorem exec_hostConfigRequest_of_bound {s : State} {b : Fin 8192} {r : FnReg} {w : Option Nat} {q t : Nat} {d : Dev}
    (hused : s.dev.num (Obj.bindRid b) ≠ 0) (hbound : s.dev.isBound b = true) (hgives : s.dev.hostConfig b r w q t = d) :
    exec (.hostConfigRequest b r w q t) s = .next { s with dev := d } := (if_pos ⟨hused, hbound⟩).trans (congrArg (onDev s) hgives)

/-- Settles O34: each row's equation above; for a configuration request, by the register that it names. -/
theorem fabricEvents : Obligations.FabricEvents := by
  refine ⟨?noPort, ?late, ?matched, ?trackTimeout, ?trackWaitResume, ?slotOff, ?slotOn, ?barWrite, ?barRead, ?identity, ?command, ?other, ?dpc,
    ?noRid⟩
  case noPort => exact fun s t => exec_proxyCompletion_of_no_port
  case late =>
    intro s t p hport hlate
    rw [exec_proxyCompletion_of_port hport, Dev.proxyArrives, Dev.proxyTake_of_late hlate]
    rfl
  case matched =>
    intro s t p x hport hfind hrid
    rw [exec_proxyCompletion_of_port hport, Dev.proxyArrives_of_match hfind hrid]
    rfl
  case trackTimeout => exact fun s h e t => exec_trackTimeout_of_entry
  case trackWaitResume => exact fun s h i f d => exec_trackWaitResume_of_fit
  case slotOff => exact fun s v k b0 bs hbelow => congrArg (onDev s) (Dev.synthPower_off hbelow)
  case slotOn => exact fun s v k b0 bs hbelow => congrArg (onDev s) (Dev.synthPower_on hbelow)
  case barWrite =>
    exact fun s b n w r t rid hused hbound hrid hdpc =>
      exec_hostConfigRequest_of_bound hused hbound (Dev.hostConfig_bar_write r t hrid hdpc n w)
  case barRead =>
    exact fun s b n r t rid hused hbound hrid hdpc =>
      exec_hostConfigRequest_of_bound hused hbound (Dev.hostConfig_bar_read r t hrid hdpc n)
  case identity =>
    exact fun s b r t rid hused hbound hrid hdpc hvf =>
      exec_hostConfigRequest_of_bound hused hbound (Dev.hostConfig_vendorDevice_read r t hrid hdpc hvf)
  case command =>
    exact fun s b n r t rid hused hbound hrid hdpc =>
      exec_hostConfigRequest_of_bound hused hbound (Dev.hostConfig_command_write r t hrid hdpc n)
  case other =>
    exact fun s b k n r t rid hused hbound hrid hdpc =>
      exec_hostConfigRequest_of_bound hused hbound (Dev.hostConfig_other r t hrid hdpc k n)
  case dpc =>
    exact fun s b r n q t rid hused hbound hrid hdpc =>
      exec_hostConfigRequest_of_bound hused hbound (Dev.hostConfig_of_dpc q t hrid r n hdpc)
  case noRid =>
    exact fun s b r w q t hused hbound hrid =>
      exec_hostConfigRequest_of_bound hused hbound (Dev.hostConfig_of_no_rid q t r w hrid)

end Sys2Proof.Machine

/-!
PROOFS. The pair (R215 to R220): the session between twins, its refusal and time-outs, PAIRSYNC, the transfer of pair objects and
the twin's prepare, each in the states where it acts, and from them the statement `Obligations.PairEvents`.
-/
namespace Sys2Proof.Machine

/-! Time-outs (R215, R219). -/

section
variable {s : State} {t : Nat}

theorem exec_pairJoinTimeout_of_joining (hst : s.dev.num Obj.pairState = PairSt.joining) (hsince : s.dev.pair.joinSince = some t) :
    exec .pairJoinTimeout s = .next { s with dev := (s.dev.advanceTo (t + sec 1)).pairRefused 5 } := by
  show execPairJoinTimeout s = _
  simp only [execPairJoinTimeout, hsince, hst, if_true, onDev]

section
variable (hst : s.dev.num Obj.pairState = PairSt.formed)
include hst

theorem exec_pairMismatchTimeout_of_generations (hgen : s.dev.pair.genDiffSince = some t) :
    exec .pairMismatchTimeout s = .next { s with dev := (s.dev.advanceTo (t + ms 10)).pairTo PairSt.resync } := by
  show execPairMismatchTimeout s = _
  simp only [execPairMismatchTimeout, hst, hgen, if_true, onDev]

theorem exec_pairMismatchTimeout_of_digests (hgen : s.dev.pair.genDiffSince = none) (hdigest : s.dev.pair.digestDiffSince = some t) :
    exec .pairMismatchTimeout s = .next { s with dev := (s.dev.advanceTo (t + us 300)).pairTo PairSt.resync } := by
  show execPairMismatchTimeout s = _
  simp only [execPairMismatchTimeout, hst, hgen, hdigest, if_true, onDev]

end

/-- The twin is lost when the loss time has passed since its last PAIRSYNC, or since the last ACTIVE link went. -/
theorem exec_pairLossTimeout_of_session (hst : s.dev.num Obj.pairState = PairSt.formed ∨ s.dev.num Obj.pairState = PairSt.resync) :
    exec .pairLossTimeout s = .next { s with dev := (s.dev.advanceTo
      ((if s.dev.activeLinks = [] then s.dev.pair.linksLostAt.getD s.dev.pair.lastSync else s.dev.pair.lastSync) +
        ms (s.dev.num Obj.pairLossTime))).twinLost } := if_pos hst

end

/-! The twin's prepare (R208, R216). -/

/-- The device with its own prepare given up for the twin's. -/
def Dev.prepareGivenUp (d : Dev) : Dev :=
  (({ d with pair := { d.pair with ownPrepare := false } } : Dev).commitFails Status.busy 0 noEntry).settle

/-- The device as it judges the twin's prepare: one of its own has been given up. -/
def Dev.readyForTwin (d : Dev) : Dev := if d.pair.ownPrepare then d.prepareGivenUp else d

/-- The answer to the twin's prepare: the fault that its objects meet here, or their acceptance. -/
def Dev.judgeTwin (d : Dev) (objs : List (Nat × Nat × Nat × Nat)) (g : Nat) : Dev :=
  match d.twinFault objs with
  | some o => d.emit (.pairPrepared o.status)
  | none => ({ d with pair := { d.pair with twinPrepared := some (g, objs) } } : Dev).emit (.pairPrepared Status.ok)

section
variable {d : Dev} {objs : List (Nat × Nat × Nat × Nat)} (g : Nat)

theorem Dev.readyForTwin_of_own (hown : d.pair.ownPrepare = true) : d.readyForTwin = d.prepareGivenUp := if_pos hown

theorem Dev.readyForTwin_of_free (hown : d.pair.ownPrepare = false) : d.readyForTwin = d := if_neg (by simp [hown])

theorem Dev.judgeTwin_of_fault {o : Offence} (hfault : d.twinFault objs = some o) :
    d.judgeTwin objs g = d.emit (.pairPrepared o.status) := by rw [Dev.judgeTwin, hfault]

theorem Dev.judgeTwin_of_no_fault (hfault : d.twinFault objs = none) :
    d.judgeTwin objs g = ({ d with pair := { d.pair with twinPrepared := some (g, objs) } } : Dev).emit (.pairPrepared Status.ok) := by
  rw [Dev.judgeTwin, hfault]

variable (hst : d.num Obj.pairState = PairSt.formed)
include hst

/-- Node 0 keeps its own prepare. -/
theorem Dev.twinPrepares_of_own_first (hown : d.pair.ownPrepare = true) (hnode : d.ownNode = 0) :
    d.twinPrepares objs g = d.emit (.pairPrepared Status.busy) := (if_neg (not_not.2 hst)).trans (if_pos (by rw [hown, hnode]; rfl))

/-- A device with no prepare of its own, and node 1 in any case, judge the twin's. -/
theorem Dev.twinPrepares_of_yielding (hyields : d.pair.ownPrepare = false ∨ d.ownNode ≠ 0) :
    d.twinPrepares objs g = d.readyForTwin.judgeTwin objs g := by
  have hyields' : ¬(d.pair.ownPrepare && d.ownNode == 0) = true := by simpa [imp_iff_not_or] using hyields
  exact (if_neg (not_not.2 hst)).trans (if_neg hyields')

end

section
variable {s : State} {objs : List (Nat × Nat × Nat × Nat)} (g : Nat) (hst : s.dev.num Obj.pairState = PairSt.formed)
include hst

theorem exec_pairPrepare_of_free (hown : s.dev.pair.ownPrepare = false) :
    exec (.pairPrepare objs g) s = .next { s with dev := s.dev.judgeTwin objs g } :=
  congrArg (onDev s) (by rw [Dev.twinPrepares_of_yielding g hst (.inl hown), Dev.readyForTwin_of_free hown])

theorem exec_pairPrepare_of_own_second (hown : s.dev.pair.ownPrepare = true) (hnode : s.dev.ownNode ≠ 0) :
    exec (.pairPrepare objs g) s = .next { s with dev := s.dev.prepareGivenUp.judgeTwin objs g } :=
  congrArg (onDev s) (by rw [Dev.twinPrepares_of_yielding g hst (.inr hnode), Dev.readyForTwin_of_own hown])

end

/-- Settles O36: each row's meaning or equation above, with its tests decided by the hypotheses. -/
theorem pairEvents : Obligations.PairEvents := by
  refine ⟨?session, ?refused, ?joinTimeout, ?retry, ?resyncTimeout, ?generations, ?digests, ?silence, ?linksLost, ?syncSend, ?sync, ?objects,
    ?faulty, ?givesUp, ?prepared, ?busy, ?notFormed⟩
  case session =>
    intro s key fab en t hst hlinks
    refine (if_pos ⟨hst, hlinks⟩).trans ?_
    simp only [Bool.not_eq_true']
    rfl
  case refused => exact fun s r hst hlow hhigh => if_pos ⟨hst, hlow, hhigh⟩
  case joinTimeout => exact fun s t => exec_pairJoinTimeout_of_joining
  case retry => exact fun s hst hon => if_pos ⟨hst, hon⟩
  case resyncTimeout => exact fun s hst => if_pos hst
  case generations => exact fun s t => exec_pairMismatchTimeout_of_generations
  case digests => exact fun s t => exec_pairMismatchTimeout_of_digests
  case silence => exact fun s hst hlinks => by rw [exec_pairLossTimeout_of_session hst, if_neg hlinks]
  case linksLost => exact fun s t hst hlinks hlost => by rw [exec_pairLossTimeout_of_session hst, if_pos hlinks, hlost, Option.getD_some]
  case syncSend => exact fun s hst hlinks => if_pos ⟨hst, hlinks⟩
  case sync => exact fun s node st g dig hst hnode => congrArg (onDev s) (if_pos ⟨hst, hnode⟩)
  case objects => exact fun s g objs revoked hst => if_pos hst
  case faulty => exact fun s objs g o hst hown hfault => by rw [exec_pairPrepare_of_free g hst hown, Dev.judgeTwin_of_fault g hfault]
  case givesUp =>
    intro s objs g hst hown hnode d hfault
    exact (exec_pairPrepare_of_own_second g hst hown hnode).trans (congrArg (onDev s) (Dev.judgeTwin_of_no_fault g hfault))
  case prepared => exact fun s objs g hst hown hfault => by rw [exec_pairPrepare_of_free g hst hown, Dev.judgeTwin_of_no_fault g hfault]
  case busy => exact fun s objs g hst hown hnode => congrArg (onDev s) (Dev.twinPrepares_of_own_first g hst hown hnode)
  case notFormed => exact fun s objs g hst => congrArg (onDev s) (if_pos hst)

end Sys2Proof.Machine

/-!
PROOFS. A BFL link's flits and messages (R227 to R233): what acknowledges, what is answered by a NAK, what an accepted flit brings and what
a bypass flit carries, each on a link in the state where it acts, and from them the statement `Obligations.BflMessages`.
-/
namespace Sys2Proof.Machine

/-! Acknowledgement and replay (R232, R233). -/

/-- Beside an unacknowledged flit, the span holds only the number before the oldest one. -/
theorem BflLink.inSpan_eq_false {l : BflLink} {f : SentFlit} {t : List SentFlit} {q : Nat} (hreplay : l.replay = f :: t)
    (hnone : (f :: t).any (fun f => f.seq == q) = false) (hlast : q ≠ (f.seq + 4095) % 4096) : l.inSpan q = false := by
  rw [BflLink.inSpan, BflLink.lastAcked, hreplay, hnone]
  simpa using hlast

section
variable {d : Dev} {i q : Nat}

theorem Dev.inject_of_unarmed {sub target : Nat} (harmed : d.armed 4 sub target = none) : d.inject sub target = (false, d) := by
  rw [Dev.inject, harmed]

theorem Dev.ackTo_of_unacked (hany : (d.link i).replay.any (fun f => f.seq == q) = true) :
    d.ackTo i q =
      (let rest := ((d.link i).replay.dropWhile (fun f => f.seq != q)).drop 1
       d.modLink i (fun x => { x with replay := rest, timerOn := !rest.isEmpty, timerAt := d.clk })) := if_pos hany

/-- A number outside the span is ignored and counted. -/
theorem Dev.ackTo_of_not_inSpan (hspan : (d.link i).inSpan q = false) : d.ackTo i q = d.inc32 (Obj.bflAcksIgnored i) := by
  obtain ⟨hnone, hlast⟩ := Bool.or_eq_false_iff.1 hspan
  exact (if_neg (Bool.not_eq_true _ ▸ hnone)).trans (if_neg (ne_of_beq_false hlast))

section
variable (hst : d.linkSt i = LinkSt.active) (harmed : d.armed 4 0x0B i = none)
include hst harmed

theorem Dev.ackIn_of_active : d.ackIn i q = d.ackTo i q := by
  rw [Dev.ackIn, if_pos hst, Dev.inject_of_unarmed harmed]
  rfl

theorem Dev.nakIn_of_active {c : Nat} (hcause : c ≤ 2) :
    d.nakIn i q c = if (d.link i).inSpan q then (d.ackTo i q).replayDue i else d.ackTo i q := by
  rw [Dev.nakIn, if_pos ⟨hst, hcause⟩, Dev.inject_of_unarmed harmed]
  rfl

end

/-! Flits that arrive (R229, R231). -/

/-- The link after a data flit accepted in order, with the bytes of a frame that goes on in the next flit. -/
def Dev.flitAccepted (d : Dev) (i : Nat) (h : BflHeader) (part : Option PartFrame) : Dev :=
  (d.setReturned i h.crPool h.crTotal).modLink i (fun x =>
    { x with rxSeq := ((d.link i).rxSeq + 1) % 4096, nakFor := none, sinceAck := (d.link i).sinceAck + 1, part := part })

/-- The next data flit in order is accepted, acknowledged where it is the sixteenth, and delivers the frames that it completes. -/
theorem Dev.dataFlit_of_next {h : BflHeader} {payload : List Byte} {fs : List (Nat × Nat × List Byte)} {part : Option PartFrame}
    (hvc : h.vc ≤ 7) (hinc : (d.link i).partnerInc = some h.inc) (hseq : h.seq = (d.link i).rxSeq)
    (hread : readPayload (d.link i).part h.cont payload = some (fs, part)) :
    d.dataFlit i h payload = fs.foldl (fun d e => d.bflDeliver i h.vc (Frame.readBfl e.1 e.2.2) e.2.1)
      (if 16 ≤ (d.link i).sinceAck + 1 then (d.flitAccepted i h part).sendAck i else d.flitAccepted i h part) := by
  rw [Dev.dataFlit, if_neg (not_not.2 hinc), if_neg (by omega), if_pos hseq, hread]
  rfl

/-- The first flit that fails its CRC, since the link has answered none, is counted and answered by a NAK. -/
theorem Dev.badFlit_of_unanswered (cause : Nat) (hnone : (d.link i).lastCrcNak = none) :
    d.badFlit i cause =
      ((d.inc64 (Obj.bflCrcErrors i)).sendNak i cause).modLink i (fun x => { x with lastCrcNak := some d.clk }) :=
  if_neg (by show ¬ (d.link i).lastCrcNak.any _ = true; simp [hnone])

section
variable {b : List Byte}

theorem Dev.flitIn_of_crcFailure (hst : d.linkSt i = LinkSt.active) (hcrc : flitCrcOk b = false) : d.flitIn i b = d.badFlit i 0 := by
  simp [Dev.flitIn, hst, hcrc]

variable (hcrc : flitCrcOk b = true)
include hcrc

theorem Dev.flitIn_of_data (hst : d.linkSt i = LinkSt.active) (hvc : (readHeader b).vc ≠ 15) :
    d.flitIn i b = d.dataFlit i (readHeader b) (flitPayload b) := by
  simp [Dev.flitIn, hst, hcrc, hvc]

/-- A bypass flit delivers its messages while the link is up; only an ACTIVE one takes the credit of its partner from it. -/
theorem Dev.flitIn_of_bypass (hst : d.linkSt i ≠ LinkSt.down) (hvc : (readHeader b).vc = 15) :
    d.flitIn i b = (bypassMessages (flitPayload b)).foldl (fun d m => d.bypassIn i m)
      (if d.linkSt i = LinkSt.active ∧ (d.link i).partnerInc = some (readHeader b).inc
        then d.setReturned i (readHeader b).crPool (readHeader b).crTotal else d) := by
  simp [Dev.flitIn, hst, hcrc, hvc]

end

end

/-! Time (R229). -/

/-- TIME echoes the last one of the partner, with the delay since it arrived. -/
theorem exec_bflTimeSend_of_echo {s : State} {i : Fin 16} {q at' : Nat} (hst : s.dev.linkSt i = LinkSt.active)
    (htime : (s.dev.link i).lastTime = some (q, at')) :
    exec (.bflTimeSend i) s =
      (let l := s.dev.link i
       let t := s.dev.time (s.dev.linkHalf i)
       .next { s with dev := (s.dev.bypass i [.time l.tseq t ((t - at') % 2 ^ 24) q]).modLink i (fun x =>
         { x with tseq := (l.tseq + 1) % 256, txTimes := ((l.tseq, t) :: x.txTimes).take 16 }) }) := by
  refine (if_pos hst).trans ?_
  rw [htime]
  rfl

/-- Settles O37: each row's meaning or equation above, with its tests decided by the hypotheses. -/
theorem bflMessages : Obligations.BflMessages := by
  refine ⟨?ack, ?ackIgnored, ?nak, ?nakIgnored, ?replayTimeout, ?dataFlit, ?crcFailure, ?bypassActive, ?bypassNotActive, ?ackDue,
    ?credit, ?creditSend, ?heartbeat, ?heartbeatSend, ?timeSend, ?time⟩
  case ack =>
    rintro s i q _ hst harmed hany rfl
    exact congrArg (onDev s) ((Dev.ackIn_of_active hst harmed).trans (Dev.ackTo_of_unacked hany))
  case ackIgnored =>
    intro s i q f t hst harmed hreplay hnone hlast
    have hspan := BflLink.inSpan_eq_false hreplay hnone hlast
    exact congrArg (onDev s) ((Dev.ackIn_of_active hst harmed).trans (Dev.ackTo_of_not_inSpan hspan))
  case nak => exact fun s i q c hst hcause harmed hspan => congrArg (onDev s) ((Dev.nakIn_of_active hst harmed hcause).trans (if_pos hspan))
  case nakIgnored =>
    intro s i q c hst hcause harmed hspan
    refine congrArg (onDev s) ?_
    rw [Dev.nakIn_of_active hst harmed hcause, hspan]
    exact Dev.ackTo_of_not_inSpan hspan
  case replayTimeout => exact fun s i hst hon => if_pos ⟨hst, hon⟩
  case dataFlit =>
    intro s i b fs part h l hst hcrc hvc hinc hseq hread
    have hdata : h.vc ≠ 15 := by omega
    exact congrArg (onDev s) ((Dev.flitIn_of_data hcrc hst hdata).trans (Dev.dataFlit_of_next hvc hinc hseq hread))
  case crcFailure =>
    exact fun s i b hst hcrc hnone => congrArg (onDev s) ((Dev.flitIn_of_crcFailure hst hcrc).trans (Dev.badFlit_of_unanswered 0 hnone))
  case bypassActive =>
    intro s i b h hst hcrc hvc hinc
    have hup : s.dev.linkSt i ≠ LinkSt.down := by rw [hst]; decide
    exact congrArg (onDev s) ((Dev.flitIn_of_bypass hcrc hup hvc).trans (by rw [if_pos ⟨hst, hinc⟩]))
  case bypassNotActive =>
    intro s i b h hup hst hcrc hvc
    exact congrArg (onDev s) ((Dev.flitIn_of_bypass hcrc hup hvc).trans (by rw [if_neg (fun hc => hst hc.1)]))
  case ackDue => exact fun s i hst hdue => if_pos ⟨hst, hdue⟩
  case credit => exact fun s i p l hst hpool => congrArg (onDev s) (if_pos ⟨hst, hpool⟩)
  case creditSend => exact fun s i hst => if_pos hst
  case heartbeat => exact fun s i a b q hst => congrArg (onDev s) (if_pos hst)
  case heartbeatSend => exact fun s i hst hup => if_pos ⟨hst, hup⟩
  case timeSend => exact fun s i q at' => exec_bflTimeSend_of_echo
  case time => exact fun s i a b c q hst => congrArg (onDev s) (if_pos hst)

end Sys2Proof.Machine

/-!
PROOFS. The states of a BFL link (R234 to R240, R243): retrains, initialisation, full resets and evacuation, and from them the statement
`Obligations.BflLinkEvents`.
-/
namespace Sys2Proof.Machine

section
variable {d : Dev} {i : Nat} {r : BflReset}

/-! RESET_REQ and RESET_ACK of an initialisation (R236, R238). -/

section
variable (hinit : d.initialising i = true) (hreason : r.reason = 0)
include hinit hreason

/-- A request that passes its checks is answered, and the link is ACTIVE once its own request has been. -/
theorem Dev.resetRequest_of_init_passed (hcheck : d.resetCheck i r = 0) :
    d.resetRequest i r =
      (let p := d.num (Obj.bflPort i)
       let e := d.bypass i [.reset true (d.resetMsg i 0 (widthCode (d.num (Obj.pstWidth p))) (d.num (Obj.pstRate p)))]
       (e.modLink i (fun x => { x with partnerAcked := true, peer := some (r.inc, r.nextExpected) })).initDone i) := by
  rw [Dev.resetRequest, if_pos hreason, if_pos hinit]
  exact if_neg (not_not.2 hcheck)

theorem Dev.resetRequest_of_init_failed (hcheck : d.resetCheck i r ≠ 0) : d.resetRequest i r = d.initFails i (d.resetCheck i r) := by
  rw [Dev.resetRequest, if_pos hreason, if_pos hinit]
  exact if_pos hcheck

theorem Dev.resetAnswered_of_init :
    d.resetAnswered i r = (d.modLink i (fun x => { x with selfAcked := true, peer := some (r.inc, r.nextExpected) })).initDone i :=
  (if_pos hreason).trans (if_pos hinit)

end

/-! A full reset of an ACTIVE link (R240, R241). -/

section
variable (hst : d.linkSt i = LinkSt.active) (hreason : r.reason ≠ 0)
include hst hreason

/-- A request that fails its checks, or meets node 1's own, is discarded. -/
theorem Dev.resetRequest_of_discarded (hno : d.resetCheck i r ≠ 0 ∨ (d.link i).resetReq.isSome = true ∧ d.ownNode = 1) :
    d.resetRequest i r = d := by
  rw [Dev.resetRequest, if_neg hreason, if_pos hst]
  exact if_pos (by simpa using hno)

/-- A request that passes its checks resets the link, where no request of node 1's own stands against it. -/
theorem Dev.resetRequest_of_agreed (hcheck : d.resetCheck i r = 0) (hown : (d.link i).resetReq = none ∨ d.ownNode ≠ 1) :
    d.resetRequest i r =
      (let lim := d.linkLimits i
       let w := min r.width lim.1
       let rate := min r.rate lim.2
       (d.bypass i [.reset true (d.resetMsg i r.reason w rate)]).linkResets i w rate) := by
  have hno : ¬ (d.resetCheck i r ≠ 0 ∨ ((d.link i).resetReq.isSome && d.ownNode == 1) = true) := by
    rcases hown with h | h <;> simp [hcheck, h]
  rw [Dev.resetRequest, if_neg hreason, if_pos hst]
  exact if_neg hno

theorem Dev.resetAnswered_of_asked {q : Nat × Nat × Nat} (hreq : (d.link i).resetReq = some q) (hq : q.1 = r.reason) :
    d.resetAnswered i r = d.linkResets i r.width r.rate :=
  (if_neg hreason).trans (if_pos ⟨hst, by simp [hreq, hq]⟩)

end

end

/-- A request goes out again until it is answered (R236, R240). -/
theorem exec_bflResetReqSend_of_unanswered {s : State} {i : Fin 16} {r w b : Nat} (hreq : (s.dev.link i).resetReq = some (r, w, b))
    (hself : (s.dev.link i).selfAcked = false) :
    exec (.bflResetReqSend i) s = .next { s with dev := s.dev.bypass i [.reset false (s.dev.resetMsg i r w b)] } := by
  show execBflResetReqSend i s = _
  simp only [execBflResetReqSend, hreq, hself]
  rfl

/-- Settles O38: each row's meaning or equation above, with its tests decided by the hypotheses. -/
theorem bflLinkEvents : Obligations.BflLinkEvents := by
  refine ⟨?heartbeatTimeout, ?retrained, ?retrainLost, ?retrainTimeout, ?initRequest, ?initFailed, ?resetFailed, ?resetAgreed, ?resetYields,
    ?initAnswer, ?resetAnswer, ?requestSend, ?initTimeout, ?trainRetry, ?evacQuery⟩
  case heartbeatTimeout => exact fun s i hst => if_pos hst
  case retrained => exact fun s i hst => (if_pos hst).trans (congrArg (onDev s) (if_pos ⟨rfl, rfl⟩))
  case retrainLost => exact fun s i w r hst hlost => (if_pos hst).trans (congrArg (onDev s) (if_neg hlost))
  case retrainTimeout => exact fun s i hst => if_pos hst
  case initRequest => exact fun s i r hinit hreason hcheck => congrArg (onDev s) (Dev.resetRequest_of_init_passed hinit hreason hcheck)
  case initFailed => exact fun s i r hinit hreason hcheck => congrArg (onDev s) (Dev.resetRequest_of_init_failed hinit hreason hcheck)
  case resetFailed => exact fun s i r hst hreason hcheck => congrArg (onDev s) (Dev.resetRequest_of_discarded hst hreason (.inl hcheck))
  case resetAgreed => exact fun s i r hst hreason hcheck hown => congrArg (onDev s) (Dev.resetRequest_of_agreed hst hreason hcheck hown)
  case resetYields =>
    intro s i r q hst hreason hreq hnode
    have hown : (s.dev.link i).resetReq.isSome = true := by rw [hreq]; rfl
    exact congrArg (onDev s) (Dev.resetRequest_of_discarded hst hreason (.inr ⟨hown, hnode⟩))
  case initAnswer => exact fun s i r hinit hreason => congrArg (onDev s) (Dev.resetAnswered_of_init hinit hreason)
  case resetAnswer => exact fun s i r q hst hreason hreq hq => congrArg (onDev s) (Dev.resetAnswered_of_asked hst hreason hreq hq)
  case requestSend => exact fun s i r w b => exec_bflResetReqSend_of_unanswered
  case initTimeout => exact fun s i hinit hself => if_pos (by rw [hinit, hself]; rfl)
  case trainRetry => exact fun s i hneed => if_pos hneed
  case evacQuery => exact fun s t i n hst hne => if_pos ⟨hst, hne⟩

end Sys2Proof.Machine

/-!
PROOFS. Doorbells (R250, R253, R254): where each of them acts, and that it is counted as dropped anywhere else; and from
them the statement `Obligations.Doorbells`.
-/
namespace Sys2Proof.Machine

section
variable {d : Dev} {n node i idx z : Nat}

/-! The slice and the write (R250). -/

theorem Dev.doorbellOk_of_active (hst : d.num (Obj.rmeSliceState n) = SliceSt.active) (howner : d.num (Obj.rmeSliceOwner n) = node) :
    d.doorbellOk n node 32 = true := by
  simp [Dev.doorbellOk, hst, howner]

theorem Dev.doorbellOk_eq_false (h : z ≠ 32 ∨ d.num (Obj.rmeSliceState n) ≠ SliceSt.active ∨ d.num (Obj.rmeSliceOwner n) ≠ node) :
    d.doorbellOk n node z = false := by
  rcases h with h | h | h <;> simp [Dev.doorbellOk, h]

/-! What the doorbells share: an index within the ring's reach, of a queue that takes it, or a drop. -/

/-- A doorbell that acts at an index where there is one and the doorbell is taken, and is counted as dropped otherwise. -/
def Dev.doorbellAt (d : Dev) (n : Nat) (index : Option Nat) (taken : Bool) (act : Nat → Dev) : Dev :=
  match index with
  | some x => if taken then act x else d.dropDoorbell n
  | none => d.dropDoorbell n

theorem Dev.doorbellAt_taken (x : Nat) (act : Nat → Dev) : d.doorbellAt n (some x) true act = act x := rfl

theorem Dev.doorbellAt_none (taken : Bool) (act : Nat → Dev) : d.doorbellAt n none taken act = d.dropDoorbell n := rfl

theorem Dev.doorbellAt_refused (index : Option Nat) (act : Nat → Dev) : d.doorbellAt n index false act = d.dropDoorbell n := by
  cases index <;> rfl

/-! The doorbells in these terms. -/

theorem Dev.sqDoorbell_eq :
    d.sqDoorbell n node i idx z =
      (d.qp (halfKey (Half.ofSlice n) i)).elim (d.dropDoorbell n) (fun q =>
        d.doorbellAt n (newProducer q.sqFetched q.sqSize idx) (d.doorbellOk n node z && q.slice == n) (fun x =>
          (d.modQp (halfKey (Half.ofSlice n) i) (fun q => { q with sqProd := x, sqAsked := min q.sqAsked x })).fetch
            (halfKey (Half.ofSlice n) i))) := by
  rw [Dev.sqDoorbell]
  cases d.qp (halfKey (Half.ofSlice n) i) <;> rfl

theorem Dev.rqDoorbell_eq :
    d.rqDoorbell n node i idx z =
      (d.qp (halfKey (Half.ofSlice n) i)).elim (d.dropDoorbell n) (fun q =>
        d.doorbellAt n (newProducer q.rqFetched q.rqSize idx) (d.doorbellOk n node z && q.slice == n && q.rqLog != 0) (fun x =>
          (d.modQp (halfKey (Half.ofSlice n) i) (fun q => { q with rqProd := x, rqAsked := min q.rqAsked x })).fetch
            (halfKey (Half.ofSlice n) i))) := by
  rw [Dev.rqDoorbell]
  cases d.qp (halfKey (Half.ofSlice n) i) <;> rfl

theorem Dev.cqDoorbell_eq (f : Nat → Cq → Cq) :
    d.cqDoorbell n node i idx z f =
      (tabFind d.rme.cqs (halfKey (Half.ofSlice n) i)).elim (d.dropDoorbell n) (fun c =>
        d.doorbellAt n (newConsumer c.cons c.prod idx) (d.doorbellOk n node z && c.slice == n && !c.overflow) (fun x =>
          d.modCq (halfKey (Half.ofSlice n) i) (f x))) := by
  rw [Dev.cqDoorbell]
  cases tabFind d.rme.cqs (halfKey (Half.ofSlice n) i) <;> rfl

theorem Dev.cmdDoorbell_eq :
    d.cmdDoorbell n node idx z =
      d.doorbellAt n (newProducer (d.slice n).cmdFetched (2 ^ d.num (Obj.rmeSliceCmdqLog n)) idx)
        (d.doorbellOk n node z && !(d.slice n).stopped) (fun p => (d.modSlice n (fun x => { x with cmdProd := p })).fetchCmd n) := rfl

/-! A doorbell that the slice takes. -/

section
variable (hok : d.doorbellOk n node z = true)
include hok

theorem Dev.sqDoorbell_of_taken {q : Qp} {x : Nat} (hqp : d.qp (halfKey (Half.ofSlice n) i) = some q) (hslice : q.slice = n)
    (hprod : newProducer q.sqFetched q.sqSize idx = some x) :
    d.sqDoorbell n node i idx z =
      (d.modQp (halfKey (Half.ofSlice n) i) (fun q => { q with sqProd := x, sqAsked := min q.sqAsked x })).fetch (halfKey (Half.ofSlice n) i) := by
  rw [Dev.sqDoorbell_eq, hqp, Option.elim_some, hprod, hok, hslice, beq_self_eq_true, Bool.and_self, Dev.doorbellAt_taken]

theorem Dev.rqDoorbell_of_taken {q : Qp} {x : Nat} (hqp : d.qp (halfKey (Half.ofSlice n) i) = some q) (hslice : q.slice = n)
    (hring : q.rqLog ≠ 0) (hprod : newProducer q.rqFetched q.rqSize idx = some x) :
    d.rqDoorbell n node i idx z =
      (d.modQp (halfKey (Half.ofSlice n) i) (fun q => { q with rqProd := x, rqAsked := min q.rqAsked x })).fetch (halfKey (Half.ofSlice n) i) := by
  rw [Dev.rqDoorbell_eq, hqp, Option.elim_some, hprod, hok, hslice, beq_self_eq_true, bne_iff_ne.2 hring, Bool.and_self, Bool.and_self,
    Dev.doorbellAt_taken]

theorem Dev.cqDoorbell_of_taken {c : Cq} {x : Nat} (f : Nat → Cq → Cq) (hcq : tabFind d.rme.cqs (halfKey (Half.ofSlice n) i) = some c)
    (hslice : c.slice = n) (hfits : c.overflow = false) (hcons : newConsumer c.cons c.prod idx = some x) :
    d.cqDoorbell n node i idx z f = d.modCq (halfKey (Half.ofSlice n) i) (f x) := by
  rw [Dev.cqDoorbell_eq, hcq, Option.elim_some, hcons, hok, hslice, hfits, beq_self_eq_true, Bool.not_false, Bool.and_self, Bool.and_self,
    Dev.doorbellAt_taken]

theorem Dev.cmdDoorbell_of_taken {p : Nat} (hruns : (d.slice n).stopped = false)
    (hprod : newProducer (d.slice n).cmdFetched (2 ^ d.num (Obj.rmeSliceCmdqLog n)) idx = some p) :
    d.cmdDoorbell n node idx z = (d.modSlice n (fun x => { x with cmdProd := p })).fetchCmd n := by
  rw [Dev.cmdDoorbell_eq, hprod, hok, hruns, Bool.not_false, Bool.and_self, Dev.doorbellAt_taken]

end

/-! An index out of the ring's reach. -/

theorem Dev.sqDoorbell_of_bad_index {q : Qp} (hqp : d.qp (halfKey (Half.ofSlice n) i) = some q)
    (hprod : newProducer q.sqFetched q.sqSize idx = none) : d.sqDoorbell n node i idx z = d.dropDoorbell n := by
  rw [Dev.sqDoorbell_eq, hqp, Option.elim_some, hprod, Dev.doorbellAt_none]

theorem Dev.rqDoorbell_of_bad_index {q : Qp} (hqp : d.qp (halfKey (Half.ofSlice n) i) = some q)
    (hprod : newProducer q.rqFetched q.rqSize idx = none) : d.rqDoorbell n node i idx z = d.dropDoorbell n := by
  rw [Dev.rqDoorbell_eq, hqp, Option.elim_some, hprod, Dev.doorbellAt_none]

/-! A doorbell that the slice does not take: whatever its queue and its index, it is dropped. -/

section
variable (hbad : d.doorbellOk n node z = false)
include hbad

theorem Dev.sqDoorbell_of_refused : d.sqDoorbell n node i idx z = d.dropDoorbell n := by
  simp only [Dev.sqDoorbell_eq, hbad, Bool.false_and, Dev.doorbellAt_refused]
  cases d.qp (halfKey (Half.ofSlice n) i) <;> rfl

theorem Dev.rqDoorbell_of_refused : d.rqDoorbell n node i idx z = d.dropDoorbell n := by
  simp only [Dev.rqDoorbell_eq, hbad, Bool.false_and, Dev.doorbellAt_refused]
  cases d.qp (halfKey (Half.ofSlice n) i) <;> rfl

theorem Dev.cqDoorbell_of_refused (f : Nat → Cq → Cq) : d.cqDoorbell n node i idx z f = d.dropDoorbell n := by
  simp only [Dev.cqDoorbell_eq, hbad, Bool.false_and, Dev.doorbellAt_refused]
  cases tabFind d.rme.cqs (halfKey (Half.ofSlice n) i) <;> rfl

theorem Dev.cmdDoorbell_of_refused : d.cmdDoorbell n node idx z = d.dropDoorbell n := by
  rw [Dev.cmdDoorbell_eq, hbad, Bool.false_and, Dev.doorbellAt_refused]

end

end

/-- Settles O39: each row's equation above, by whether the slice takes the doorbell and its index lies within the ring. -/
theorem doorbells : Obligations.Doorbells := by
  refine ⟨?sq, ?rq, ?cq, ?cmd, ?badIndex, ?refused⟩
  case sq =>
    intro s n node a b q x hqp hslice hprod hst howner
    exact congrArg (onDev s) (Dev.sqDoorbell_of_taken (Dev.doorbellOk_of_active hst howner) hqp hslice hprod)
  case rq =>
    intro s n node a b q x hqp hslice hring hprod hst howner
    exact congrArg (onDev s) (Dev.rqDoorbell_of_taken (Dev.doorbellOk_of_active hst howner) hqp hslice hring hprod)
  case cq =>
    intro s n node a b c x hcq hslice hfits hcons hst howner
    have hok := Dev.doorbellOk_of_active hst howner
    exact ⟨congrArg (onDev s) (Dev.cqDoorbell_of_taken hok _ hcq hslice hfits hcons),
      congrArg (onDev s) (Dev.cqDoorbell_of_taken hok _ hcq hslice hfits hcons)⟩
  case cmd =>
    intro s n node b p hruns hprod hst howner
    exact congrArg (onDev s) (Dev.cmdDoorbell_of_taken (Dev.doorbellOk_of_active hst howner) hruns hprod)
  case badIndex =>
    exact fun s n node a b q hqp =>
      ⟨fun hprod => congrArg (onDev s) (Dev.sqDoorbell_of_bad_index hqp hprod),
        fun hprod => congrArg (onDev s) (Dev.rqDoorbell_of_bad_index hqp hprod)⟩
  case refused =>
    intro s n node a b z h
    have hbad := Dev.doorbellOk_eq_false h
    exact ⟨congrArg (onDev s) (Dev.sqDoorbell_of_refused hbad), congrArg (onDev s) (Dev.rqDoorbell_of_refused hbad),
      congrArg (onDev s) (Dev.cqDoorbell_of_refused hbad _), congrArg (onDev s) (Dev.cqDoorbell_of_refused hbad _),
      congrArg (onDev s) (Dev.cmdDoorbell_of_refused hbad)⟩

end Sys2Proof.Machine

/-!
PROOFS. Work queue entries at the requester (R252, R256 to R259): what a key invalidation comes to, beside the lemmas on
starting an entry; and from them the statement `Obligations.RequesterEntries`.
-/
namespace Sys2Proof.Machine
open Sys2Proof.Safety

section
variable {d : Dev} {qpn : Nat} {q : Qp} {w : LiveWqe} {ws : List LiveWqe}

/-! LOCAL_INV at the head of the send queue (R257). -/

section
variable (hqp : d.qpByNumber qpn = some q) (hst : q.st = .ready) (hsq : q.sq = w :: ws) (hop : w.wqe.opcode = 8) (hwaits : w.started = false)
include hqp hst hsq hop hwaits

theorem Dev.localInv_of_valid {e : KeyEntry} (hkey : d.keyOf (keyHalf (qpnKey qpn)) w.wqe.imm = some e) (hvalid : e.valid = true)
    (hslice : e.slice = q.slice) (hgen : e.generation = keyGen w.wqe.imm) :
    d.localInv qpn = ((d.setKey (keyHalf (qpnKey qpn)) (keyEntry w.wqe.imm) { e with valid := false }).completeSend (qpnKey qpn) w
      CqeSt.ok).sendOn (qpnKey qpn) := by
  simp [Dev.localInv, hqp, hst, hsq, hop, hwaits, hkey, hvalid, hslice, hgen]

theorem Dev.localInv_of_no_key (hkey : d.keyOf (keyHalf (qpnKey qpn)) w.wqe.imm = none) :
    d.localInv qpn = d.qpFails (qpnKey qpn) (some w) CqeSt.localProtection := by
  simp [Dev.localInv, hqp, hst, hsq, hop, hwaits, hkey]

end

end

/-- Settles O40: a WRITE or SEND reads its buffer, a READ or an atomic has it written, and each starts or fails by its check. -/
theorem requesterEntries : Obligations.RequesterEntries := by
  refine ⟨?out, ?outFails, ?read, ?atomic, ?atomicFails, ?localInv, ?localInvFails⟩
  case out =>
    intro s qpn q w data hqp hst hlen hdata hcheck
    have start op (hturn : q.turn op = some w) := congrArg (onDev s) (startOut_go s.dev qpn op q w data hqp hst hlen hdata hcheck hturn)
    exact ⟨start 1, start 2, start 4, start 5⟩
  case outFails =>
    intro s qpn q w data st hqp hst hlen hpos hcheck
    have fail op (hturn : q.turn op = some w) := congrArg (onDev s) (startOut_fail s.dev qpn op st q w data hqp hst hlen hpos hcheck hturn)
    exact ⟨fail 1, fail 2, fail 4, fail 5⟩
  case read =>
    intro s qpn q w hqp hst hturn hlen hpos hcheck
    exact congrArg (onDev s) (startIn_go s.dev qpn 3 w.wqe.len q w hqp hst rfl hlen hpos hcheck hturn)
  case atomic =>
    intro s qpn q w hqp hst hcheck
    exact ⟨fun hturn => congrArg (onDev s) (startIn_go s.dev qpn 6 8 q w hqp hst rfl (by decide) (by decide) hcheck hturn),
      fun hturn => congrArg (onDev s) (startIn_go s.dev qpn 7 8 q w hqp hst rfl (by decide) (by decide) hcheck hturn)⟩
  case atomicFails =>
    intro s qpn q w st hqp hst hcheck
    exact ⟨fun hturn => congrArg (onDev s) (startIn_fail s.dev qpn 6 8 st q w hqp hst rfl (by decide) (by decide) hcheck hturn),
      fun hturn => congrArg (onDev s) (startIn_fail s.dev qpn 7 8 st q w hqp hst rfl (by decide) (by decide) hcheck hturn)⟩
  case localInv =>
    intro s qpn q w ws e hqp hst hsq hop hwaits hkey hvalid hslice hgen
    exact congrArg (onDev s) (Dev.localInv_of_valid hqp hst hsq hop hwaits hkey hvalid hslice hgen)
  case localInvFails =>
    intro s qpn q w ws hqp hst hsq hop hwaits hkey
    exact congrArg (onDev s) (Dev.localInv_of_no_key hqp hst hsq hop hwaits hkey)

end Sys2Proof.Machine

/-!
PROOFS. Responses and timers of a requester (R260, R261, R264, R270, R273, R274): a response reaches its queue pair or is
discarded, and a timer's row by the queue pair's state; and from them the statement `Obligations.RequesterResponses`.
-/
namespace Sys2Proof.Machine
open Sys2Proof.Safety

/-! Responses (R261). -/

/-- A packet with an acknowledgement's opcode and syndrome passes the row's own test of them. -/
theorem not_other_ack {p : RmePacket} {n : Nat} (hop : p.op = .ack) (hsyn : p.syndrome = n) : ¬ (p.op ≠ .ack ∨ p.syndrome ≠ n) :=
  not_or.2 ⟨not_not.2 hop, not_not.2 hsyn⟩

theorem Dev.forRequester_of_stale {d : Dev} {h : Half} {p : RmePacket} (f : Nat → Qp → Dev) (hstep : d.stepOne h p = none) :
    d.forRequester h p f = d.dropStale := by
  simp only [Dev.forRequester, hstep]

section
variable {d : Dev} {h : Half} {p : RmePacket} {k : Nat} {q : Qp} (hstep : d.stepOne h p = some (k, q)) (hst : q.st = .ready)
include hstep hst

/-- A NAK that says the request cannot be served fails the WQE of the PSN that it names. -/
theorem Dev.remoteFails_of_ready {syn : Nat} (status : Nat) (hop : p.op = .ack) (hsyn : p.syndrome = syn) :
    d.remoteFails h p syn status = (d.ackBase k p).qpFails k ((d.ackBase k p).wqeOfPsn k p.nakPsn) status :=
  (if_neg (not_other_ack hop hsyn)).trans (forRequester_go d h p _ k q hstep hst)

end

/-! Timers (R260, R261, R273). -/

theorem Dev.qp_of_qpByNumber {d : Dev} {qpn : Nat} {q : Qp} (h : d.qpByNumber qpn = some q) : d.qp (qpnKey qpn) = some q := by
  unfold Dev.qpByNumber at h
  split at h
  next x hx =>
    split at h
    · rw [hx, h]
    · cases h
  next => cases h

section
variable {d : Dev} {k : Nat} {q : Qp} (hqp : d.qp k = some q) (hst : q.st = .ready) (hon : q.timerOn = true) (hopen : d.pathOpen q = true)
include hqp hst hon hopen

/-- A packet that has expired too often fails the oldest send WQE (R261). -/
theorem Dev.retxTimeout_of_spent (hlimit : d.num Obj.rmeRetryLimit < q.expiries + 1) :
    d.retxTimeout k =
      (let e := d.advanceTo (q.timerAt + us (d.num Obj.rmeRetxTimeout))
       e.qpFails k (e.oldestSend k) CqeSt.retryExceeded) := by
  simp only [Dev.retxTimeout, hqp]
  rw [if_pos ⟨hst, hon, hopen⟩, Dev.num_advanceTo, if_pos hlimit]

/-- Until then every unacknowledged packet goes out again, the timer running afresh (R260). -/
theorem Dev.retxTimeout_of_left (hlimit : q.expiries + 1 ≤ d.num Obj.rmeRetryLimit) :
    d.retxTimeout k =
      (let e := d.advanceTo (q.timerAt + us (d.num Obj.rmeRetxTimeout))
       (e.modQp k (fun x => { x with expiries := x.expiries + 1, snaks := [], timerAt := e.clk })).resendFrom k
         ((q.unacked.head?.map (fun x => x.pkt.psn)).getD q.psn) true) := by
  simp only [Dev.retxTimeout, hqp]
  rw [if_pos ⟨hst, hon, hopen⟩, Dev.num_advanceTo, if_neg (Nat.not_lt.2 hlimit)]

end

section
variable {s : State} {qpn : Nat} {q : Qp} (hqp : s.dev.qpByNumber qpn = some q)
include hqp

theorem exec_rmeRetxTimeout_of_qp : exec (.rmeRetxTimeout qpn) s = onDev s (s.dev.retxTimeout (qpnKey qpn)) := by
  show execRmeRetxTimeout qpn s = _
  simp only [execRmeRetxTimeout, hqp]

theorem exec_rmeRnrDelayExpiry_of_waiting {t : Nat} (hwait : q.rnrWait = some t) (hst : q.st = .ready) :
    exec (.rmeRnrDelayExpiry qpn) s = .next { s with dev :=
      ((((s.dev.advanceTo (t + us (s.dev.num Obj.rmeRnrDelay))).modQp (qpnKey qpn) (fun x => { x with rnrWait := none })).resendFrom
        (qpnKey qpn) q.rnrPsn false).sendOn (qpnKey qpn)) } := by
  show execRmeRnrDelayExpiry qpn s = _
  simp only [execRmeRnrDelayExpiry, hqp, hwait]
  exact if_pos hst

theorem exec_rmeCcIncrease_of_ready (hst : q.st = .ready) :
    exec (.rmeCcIncrease qpn) s = .next { s with dev :=
      (let d := s.dev.advanceTo (q.lastEcho + us (s.dev.num Obj.rmeCcIncreasePeriod))
       let w := if d.remoteTwin q then relaxWeights q.weights (uniformWeights d.activeLinks) else q.weights
       ((d.modQp (qpnKey qpn) (fun x => { x with lastEcho := d.clk, weights := w })).setQpRate (qpnKey qpn)
         (min (d.rateCeiling q.slice) (q.rate + d.num Obj.rmeCcIncreaseStep))).sendOn (qpnKey qpn)) } := by
  show execRmeCcIncrease qpn s = _
  simp only [execRmeCcIncrease, hqp]
  exact if_pos hst

end

/-- Settles O41: a response goes to its READY queue pair, with its opcode and syndrome its row's own; a timer's row by its equation above. -/
theorem requesterResponses : Obligations.RequesterResponses := by
  refine ⟨?acks, ?responses, ?skim, ?stale, ?spent, ?resent, ?rnr, ?increase⟩
  case acks =>
    intro s h p k q hstep hst hop
    have go f := congrArg (onDev s) (forRequester_go s.dev h p f k q hstep hst)
    have fail {syn} status (hsyn : p.syndrome = syn) := congrArg (onDev s) (Dev.remoteFails_of_ready hstep hst status hop hsyn)
    exact ⟨fun hsyn => (if_neg (not_other_ack hop hsyn)).trans (go _), fun hsyn => (if_neg (not_other_ack hop hsyn)).trans (go _),
      fun hsyn => (if_neg (not_other_ack hop hsyn)).trans (go _), fail _, fail _, fail _⟩
  case responses =>
    intro s h p k q hstep hst
    have go f := congrArg (onDev s) (forRequester_go s.dev h p f k q hstep hst)
    exact ⟨fun hop => (if_neg (not_not.2 hop)).trans (go _), fun hop => (if_neg (not_not.2 hop)).trans (go _)⟩
  case skim =>
    intro s h p k q hstep hst hop hsent
    exact (if_neg (not_not.2 hop)).trans (congrArg (onDev s) ((forRequester_go _ h p _ k q hstep hst).trans (if_pos hsent)))
  case stale =>
    exact fun s h p hstep =>
      ⟨fun hop => (if_neg (not_not.2 hop)).trans (congrArg (onDev s) (Dev.forRequester_of_stale _ hstep)),
        fun hop hsyn => (if_neg (not_other_ack hop hsyn)).trans (congrArg (onDev s) (Dev.forRequester_of_stale _ hstep))⟩
  case spent =>
    intro s qpn q hqp hst hon hopen hlimit
    exact (exec_rmeRetxTimeout_of_qp hqp).trans
      (congrArg (onDev s) (Dev.retxTimeout_of_spent (Dev.qp_of_qpByNumber hqp) hst hon hopen hlimit))
  case resent =>
    intro s qpn q hqp hst hon hopen hlimit
    exact (exec_rmeRetxTimeout_of_qp hqp).trans
      (congrArg (onDev s) (Dev.retxTimeout_of_left (Dev.qp_of_qpByNumber hqp) hst hon hopen hlimit))
  case rnr => exact fun s qpn q t hqp => exec_rmeRnrDelayExpiry_of_waiting hqp
  case increase => exact fun s qpn q => exec_rmeCcIncrease_of_ready

end Sys2Proof.Machine

/-!
PROOFS. Flushes and quiesces (R248, R276): when a slice comes to rest, and from it the statement `Obligations.QueueDrains`.
-/
namespace Sys2Proof.Machine

section
variable {d : Dev} {n : Nat}

/-- A queue pair of a slice is at rest. -/
def Qp.atRest (q : Qp) : Prop := (q.st = .reset ∨ q.st = .flushed) ∧ q.staged = []

/-- A QUIESCING slice is QUIESCED once it has no command under way and its queue pairs are at rest (R248). -/
theorem Dev.quiesceCheck_of_rest (hst : d.num (Obj.rmeSliceState n) = SliceSt.quiescing) (hcmd : (d.slice n).cmd = none)
    (hdone : (d.slice n).cmdFetched = (d.slice n).cmdDone) (hqps : ∀ k ∈ d.qpsOfSlice n, ∀ q, d.qp k = some q → q.atRest) :
    d.quiesceCheck n = d.sliceTo n SliceSt.quiesced := by
  refine if_pos ⟨hst, by rw [hcmd]; rfl, hdone, List.all_eq_true.2 fun k hk => ?_⟩
  cases hq : d.qp k with
  | none => rfl
  | some q =>
    obtain ⟨hq | hq, hstaged⟩ := hqps k hk q hq <;> simp [hq, hstaged]

theorem Dev.quiesceCheck_of_ne (hst : d.num (Obj.rmeSliceState n) ≠ SliceSt.quiescing) : d.quiesceCheck n = d :=
  if_neg fun h => hst h.1

end

theorem exec_qpFlushed_of_qp {s : State} {qpn : Nat} {q : Qp} (hqp : s.dev.qpByNumber qpn = some q) :
    exec (.qpFlushed qpn) s = .next { s with dev := (s.dev.flushQp (qpnKey qpn)).quiesceCheck q.slice } := by
  show execQpFlushed qpn s = _
  simp only [execQpFlushed, hqp, onDev]

/-- Settles O42: each row's equation above; the budget's by the slice's state. -/
theorem queueDrains : Obligations.QueueDrains := by
  refine ⟨?flushed, ?quiesced, ?elsewhere, ?budget⟩
  case flushed => exact fun s qpn q => exec_qpFlushed_of_qp
  case quiesced => exact fun s n hst hcmd hdone hqps => congrArg (onDev s) (Dev.quiesceCheck_of_rest hst hcmd hdone hqps)
  case elsewhere =>
    exact fun s n hst => ⟨congrArg (onDev s) (Dev.quiesceCheck_of_ne hst), congrArg (onDev s) (if_neg hst)⟩
  case budget => exact fun s n hst => congrArg (onDev s) (if_pos hst)

end Sys2Proof.Machine

/-!
PROOFS. Request packets at a responder (R262, R263, R265, R267, R269, R272): the steps of R262 for a packet that names a
queue pair, in their order; and from them the statement `Obligations.ResponderPackets`.
-/
namespace Sys2Proof.Machine
open Sys2Proof.Safety

section
variable {d : Dev} {h : Half} {p : RmePacket} {k : Nat} {q : Qp}

/-! Steps 1 and 2 of R262: the packet names a queue pair, and it is READY. -/

theorem Dev.rxRequest_of_stale (hstep : d.stepOne h p = none) : d.rxRequest h p = d.dropStale := by
  simp only [Dev.rxRequest, hstep]

/-- A NAK tells the peer that the queue pair is not READY, at most one every 10 us. -/
theorem Dev.rxRequest_of_not_ready (hstep : d.stepOne h p = some (k, q)) (hst : q.st ≠ .ready) :
    d.rxRequest h p =
      if q.lastNak4.all (fun t => d.elapsed t (us 10)) = true then
        (d.modQp k (fun x => { x with lastNak4 := some d.clk })).sendRmeAck k p.path 4 p.psn
      else d := by
  simp only [Dev.rxRequest, hstep]
  rw [if_pos hst]
  cases q.lastNak4 <;> rfl

/-- A congestion mark of a packet is noted on its path (R272). -/
def Dev.rxMarked (d : Dev) (k : Nat) (p : RmePacket) : Dev :=
  if p.ce then d.modQp k (fun x => { x with marks := tabMod x.marks p.path 0 (fun c => c + 1) }) else d

/-- Steps 7 to 9 of R262, of a packet at or ahead of the expected PSN, and what follows them. -/
def Dev.rxKeyed (d : Dev) (k : Nat) (q : Qp) (p : RmePacket) : Dev :=
  match d.keyCheck k q p with
  | some syn => d.rxNak k p syn
  | none => if psnDiff p.psn (psnAdd q.completed 1) = 0 then (d.rxExecute k p).rxGoOn k else d.stagePacket k q p

/-- Steps 3 to 9 of R262 for a READY queue pair. -/
def Dev.rxJudged (d : Dev) (k : Nat) (q : Qp) (p : RmePacket) : Dev :=
  let off := psnDiff p.psn (psnAdd q.completed 1)
  if 2 ^ 23 ≤ off then d.rxDuplicate k q p
  else if 512 ≤ off then d.inc64 Obj.rmeStatBeyondWindow
  else if q.window.contains p.psn then d.inc64 Obj.rmeStatDuplicates
  else if !q.opcodeOk p then d.rxNak k p 4
  else d.rxKeyed k q p

theorem Dev.rxRequest_of_ready (hstep : d.stepOne h p = some (k, q)) (hst : q.st = .ready) :
    d.rxRequest h p = (d.rxMarked k p).rxJudged k q p := by
  simp only [Dev.rxRequest, hstep]
  exact if_neg (not_not.2 hst)

theorem Dev.rxRequest_of_unmarked (hstep : d.stepOne h p = some (k, q)) (hst : q.st = .ready) (hce : p.ce = false) :
    d.rxRequest h p = d.rxJudged k q p := by
  rw [Dev.rxRequest_of_ready hstep hst, Dev.rxMarked, hce, if_neg Bool.false_ne_true]

theorem Dev.rxRequest_of_marked (hstep : d.stepOne h p = some (k, q)) (hst : q.st = .ready) (hce : p.ce = true) :
    d.rxRequest h p = (d.modQp k (fun x => { x with marks := tabMod x.marks p.path 0 (fun c => c + 1) })).rxJudged k q p := by
  rw [Dev.rxRequest_of_ready hstep hst, Dev.rxMarked, if_pos hce]

/-! Steps 3 to 9: the PSN, the opcode and the key. -/

theorem Dev.rxJudged_of_before (hoff : 2 ^ 23 ≤ psnDiff p.psn (psnAdd q.completed 1)) : d.rxJudged k q p = d.rxDuplicate k q p :=
  if_pos hoff

theorem Dev.rxJudged_of_beyond (hbefore : psnDiff p.psn (psnAdd q.completed 1) < 2 ^ 23)
    (hoff : 512 ≤ psnDiff p.psn (psnAdd q.completed 1)) : d.rxJudged k q p = d.inc64 Obj.rmeStatBeyondWindow :=
  (if_neg (Nat.not_le.2 hbefore)).trans (if_pos hoff)

section
variable (hnear : psnDiff p.psn (psnAdd q.completed 1) < 512)
include hnear

/-- In the window a packet is judged by whether it is there already, by its opcode and by its key. -/
theorem Dev.rxJudged_of_near :
    d.rxJudged k q p =
      if q.window.contains p.psn then d.inc64 Obj.rmeStatDuplicates
      else if !q.opcodeOk p then d.rxNak k p 4
      else d.rxKeyed k q p :=
  (if_neg (by omega)).trans (if_neg (by omega))

theorem Dev.rxJudged_of_seen (hseen : q.window.contains p.psn = true) : d.rxJudged k q p = d.inc64 Obj.rmeStatDuplicates := by
  rw [Dev.rxJudged_of_near hnear, if_pos hseen]

section
variable (hnew : q.window.contains p.psn = false)
include hnew

theorem Dev.rxJudged_of_bad_opcode (hop : q.opcodeOk p = false) : d.rxJudged k q p = d.rxNak k p 4 := by
  rw [Dev.rxJudged_of_near hnear, hnew, hop, if_neg Bool.false_ne_true, Bool.not_false, if_pos rfl]

section
variable (hop : q.opcodeOk p = true)
include hop

theorem Dev.rxJudged_of_opcodeOk : d.rxJudged k q p = d.rxKeyed k q p := by
  rw [Dev.rxJudged_of_near hnear, hnew, hop, if_neg Bool.false_ne_true, Bool.not_true, if_neg Bool.false_ne_true]

theorem Dev.rxJudged_of_bad_key {syn : Nat} (hkey : d.keyCheck k q p = some syn) : d.rxJudged k q p = d.rxNak k p syn := by
  simp only [Dev.rxJudged_of_opcodeOk hnear hnew hop, Dev.rxKeyed, hkey]

theorem Dev.rxJudged_of_next (hkey : d.keyCheck k q p = none) (hoff : psnDiff p.psn (psnAdd q.completed 1) = 0) :
    d.rxJudged k q p = (d.rxExecute k p).rxGoOn k := by
  simp only [Dev.rxJudged_of_opcodeOk hnear hnew hop, Dev.rxKeyed, hkey, hoff, if_true]

theorem Dev.rxJudged_of_ahead (hkey : d.keyCheck k q p = none) (hoff : 0 < psnDiff p.psn (psnAdd q.completed 1)) :
    d.rxJudged k q p = d.stagePacket k q p := by
  simp only [Dev.rxJudged_of_opcodeOk hnear hnew hop, Dev.rxKeyed, hkey, Nat.pos_iff_ne_zero.1 hoff, if_false]

end

end

end

end

section
variable {s : State} {qpn : Nat} {q : Qp} (hqp : s.dev.qpByNumber qpn = some q)
include hqp

/-- One ACK goes out for each path with marks (R272). -/
theorem exec_rmeEchoDue_of_qp :
    exec (.rmeEchoDue qpn) s = .next { s with dev := q.marks.foldl (fun (d : Dev) e => d.sendRmeAck (qpnKey qpn) e.1 0 0) s.dev } := by
  show execRmeEchoDue qpn s = _
  simp only [execRmeEchoDue, hqp, onDev]

theorem exec_wqeRecv_of_qp :
    exec (.wqeRecv qpn) s =
      onDev s (if q.rq.isEmpty then s.dev.fetch (qpnKey qpn) else (s.dev.fetch (qpnKey qpn)).rxResume (qpnKey qpn)) := by
  show execWqeRecv qpn s = _
  simp only [execWqeRecv, hqp]

end

/-- Settles O43: the packet's place among R262's steps decides what the responder does, whichever its opcode. -/
theorem responderPackets : Obligations.ResponderPackets := by
  refine ⟨?stale, ?notReady, ?notReadyAgain, ?before, ?beyond, ?seen, ?badOpcode, ?badKey, ?next, ?ahead, ?marked, ?echo, ?recv⟩
  case stale => exact fun s h p hstep => packetGives_of (Dev.rxRequest_of_stale hstep)
  case notReady =>
    intro s h p k q hstep hst hnone
    exact packetGives_of ((Dev.rxRequest_of_not_ready hstep hst).trans (if_pos (by rw [hnone]; rfl)))
  case notReadyAgain =>
    intro s h p k q t hstep hst hlast hrecent
    exact packetGives_of ((Dev.rxRequest_of_not_ready hstep hst).trans (if_neg (by simp [hlast, hrecent])))
  case before =>
    intro s h p k q hstep hst hoff hce
    exact packetGives_of ((Dev.rxRequest_of_unmarked hstep hst hce).trans (Dev.rxJudged_of_before hoff))
  case beyond =>
    intro s h p k q hstep hst hbefore hoff hce
    exact packetGives_of ((Dev.rxRequest_of_unmarked hstep hst hce).trans (Dev.rxJudged_of_beyond hbefore hoff))
  case seen =>
    intro s h p k q hstep hst hnear hce hseen
    exact packetGives_of ((Dev.rxRequest_of_unmarked hstep hst hce).trans (Dev.rxJudged_of_seen hnear hseen))
  case badOpcode =>
    intro s h p k q hstep hst hnear hce hnew hop
    exact packetGives_of ((Dev.rxRequest_of_unmarked hstep hst hce).trans (Dev.rxJudged_of_bad_opcode hnear hnew hop))
  case badKey =>
    intro s h p k q syn hstep hst hnear hce hnew hop hkey
    exact packetGives_of ((Dev.rxRequest_of_unmarked hstep hst hce).trans (Dev.rxJudged_of_bad_key hnear hnew hop hkey))
  case next =>
    intro s h p k q hstep hst hoff hce hnew hop hkey
    exact packetGives_of ((Dev.rxRequest_of_unmarked hstep hst hce).trans (Dev.rxJudged_of_next (by omega) hnew hop hkey hoff))
  case ahead =>
    intro s h p k q hstep hst hoff hnear hce hnew hop hkey
    exact packetGives_of ((Dev.rxRequest_of_unmarked hstep hst hce).trans (Dev.rxJudged_of_ahead hnear hnew hop hkey hoff))
  case marked =>
    intro s h p k q hstep hst hoff hce hnew hop d hkey
    exact packetGives_of ((Dev.rxRequest_of_marked hstep hst hce).trans (Dev.rxJudged_of_next (by omega) hnew hop hkey hoff))
  case echo => exact fun s qpn q => exec_rmeEchoDue_of_qp
  case recv =>
    intro s qpn q hqp
    exact ⟨fun hnone => (exec_wqeRecv_of_qp hqp).trans (congrArg (onDev s) (if_pos (by rw [hnone]; rfl))),
      fun hsome => (exec_wqeRecv_of_qp hqp).trans (congrArg (onDev s) (if_neg (by simpa using hsome)))⟩

end Sys2Proof.Machine

/-!
PROOFS. Completed host reads (R251, R252, R254, R265): what each of them brings to its command queue or queue pair; and
from them the statement `Obligations.HostReads`.
-/
namespace Sys2Proof.Machine

section
variable {d : Dev}

/-! Command entries (R254). -/

section
variable {n : Fin 4096} {l : List Byte} (hasked : (d.slice n).cmdDone < (d.slice n).cmdFetched) (hhost : d.flag (Obj.rmeSliceLostHost n) = false)
include hasked hhost

theorem Dev.hostAnswers_command (hidle : (d.slice n).cmd = none) : d.hostAnswers (.command n l) true = d.cmdArrives n (Wqe.ofBytes l) := by
  refine (if_neg (not_or.2 ⟨Nat.not_le.2 hasked, by simp [hhost]⟩)).trans ((if_pos rfl).trans (if_pos ?_))
  rw [hidle]; rfl

theorem Dev.hostAnswers_command_failed : d.hostAnswers (.command n l) false = d.cmdReadFails n :=
  (if_neg (not_or.2 ⟨Nat.not_le.2 hasked, by simp [hhost]⟩)).trans (if_neg Bool.false_ne_true)

end

section
variable {k : Nat} {q : Qp} (hst : q.st = .ready)
include hst

/-! Work queue entries of a READY queue pair (R252). -/

theorem Dev.gotSqWqe_ok (w : Wqe) (hasked : q.sqFetched < q.sqAsked) :
    d.gotSqWqe k q w true = (d.modQp k (fun y => { y with
      sqFetched := q.sqFetched + 1, sq := y.sq ++ [{ index := q.sqFetched, wqe := w }] })).sendOn k := by
  refine (if_neg (Nat.not_le.2 hasked)).trans ?_
  simp [hst]

theorem Dev.gotSqWqe_failed (w : Wqe) (hasked : q.sqFetched < q.sqAsked) :
    d.gotSqWqe k q w false = (d.bump.modQp k (fun y => { y with
      sqFetched := q.sqFetched + 1, sq := y.sq ++ [d.unreadWqe q.sqFetched] })).qpFails k (some (d.unreadWqe q.sqFetched))
      CqeSt.localProtection := by
  refine (if_neg (Nat.not_le.2 hasked)).trans ?_
  simp [hst]

theorem Dev.gotRqWqe_ok (w : Wqe) (hasked : q.rqFetched < q.rqAsked) :
    d.gotRqWqe k q w true = (d.modQp k (fun y => { y with
      rqFetched := q.rqFetched + 1, rq := y.rq ++ [{ index := q.rqFetched, wqe := w }] })).rxResume k := by
  refine (if_neg (Nat.not_le.2 hasked)).trans ?_
  simp [hst]

/-! Data and results for the packet that waits at the expected PSN (R265). -/

section
variable {p : RmePacket} (hbusy : q.busy = some p)
include hbusy

theorem Dev.gotRead_ok {data : List Byte} (hlen : data.length = p.readLen) :
    d.gotRead k q p data true = ((d.replyRead k q p data).rxDone k p).rxGoOn k :=
  (if_neg (not_not.2 hst)).trans ((if_pos rfl).trans ((if_neg (not_not.2 hlen)).trans (if_pos hbusy)))

theorem Dev.gotAtomic_ok (v : Nat) :
    d.gotAtomic k q p v true = (((d.modQp k (fun x => { x with
      atomics := ((p.psn, v % 2 ^ 64) :: x.atomics).take 16 })).replyAtomic k q p v).rxDone k p).rxGoOn k :=
  (if_neg (not_or.2 ⟨not_not.2 hst, not_not.2 hbusy⟩)).trans (if_pos rfl)

theorem Dev.gotAtomic_failed (v : Nat) : d.gotAtomic k q p v false = d.rxNak k p 4 :=
  (if_neg (not_or.2 ⟨not_not.2 hst, not_not.2 hbusy⟩)).trans (if_neg Bool.false_ne_true)

end

end

/-! The queue pair that a read's number names. -/

section
variable {qpn : Nat} {q : Qp} (hqp : d.qpByNumber qpn = some q)
include hqp

theorem Dev.hostAnswers_sqWqe (l : List Byte) (ok : Bool) :
    d.hostAnswers (.sqWqe qpn l) ok = d.gotSqWqe (qpnKey qpn) q (Wqe.ofBytes l) ok := by
  simp only [Dev.hostAnswers, hqp]

theorem Dev.hostAnswers_rqWqe (l : List Byte) (ok : Bool) :
    d.hostAnswers (.rqWqe qpn l) ok = d.gotRqWqe (qpnKey qpn) q (Wqe.ofBytes l) ok := by
  simp only [Dev.hostAnswers, hqp]

/-- Payload that cannot be read fails the WQE of its PSN (R251). -/
theorem Dev.hostAnswers_payload_failed {psn : Nat} {w : LiveWqe} (data : List Byte) (hst : q.st = .ready)
    (hwqe : d.wqeOfPsn (qpnKey qpn) psn = some w) :
    d.hostAnswers (.payload qpn psn data) false = d.qpFails (qpnKey qpn) (some w) CqeSt.localProtection := by
  simp [Dev.hostAnswers, hqp, hst, hwqe]

theorem Dev.hostAnswers_readReq (p : RmePacket) (data : List Byte) (ok : Bool) :
    d.hostAnswers (.readReq qpn p data) ok = d.gotRead (qpnKey qpn) q p data ok := by
  simp only [Dev.hostAnswers, hqp]

theorem Dev.hostAnswers_atomicOp (p : RmePacket) (v : Nat) (ok : Bool) :
    d.hostAnswers (.atomicOp qpn p v) ok = d.gotAtomic (qpnKey qpn) q p v ok := by
  simp only [Dev.hostAnswers, hqp]

end

end

section
variable {s : State} {r : HostRead} {e : Dev}

theorem exec_hostReadCompletion_ok (h : s.dev.hostAnswers r true = e) : exec (.hostReadCompletion r .ok) s = .next { s with dev := e } :=
  congrArg (onDev s) h

theorem exec_hostReadCompletion_failed {st : ReadStatus} (hst : st ≠ .ok) (h : s.dev.hostAnswers r false = e) :
    exec (.hostReadCompletion r st) s = .next { s with dev := e } := by
  show onDev s (s.dev.hostAnswers r (st == .ok)) = _
  rw [beq_false_of_ne hst, h]
  rfl

end

/-- Settles O44: what the read was for, whether it succeeded, and the state of the queue pair that it names. -/
theorem hostReads : Obligations.HostReads := by
  refine ⟨?command, ?commandFailed, ?sq, ?sqFailed, ?rq, ?payloadFailed, ?readReq, ?atomic, ?atomicFailed⟩
  case command => exact fun s n w hasked hhost hidle => exec_hostReadCompletion_ok (Dev.hostAnswers_command hasked hhost hidle)
  case commandFailed =>
    exact fun s n w st hasked hhost hst => exec_hostReadCompletion_failed hst (Dev.hostAnswers_command_failed hasked hhost)
  case sq =>
    intro s qpn q w hqp hasked hst
    exact exec_hostReadCompletion_ok ((Dev.hostAnswers_sqWqe hqp w _).trans (Dev.gotSqWqe_ok hst _ hasked))
  case sqFailed =>
    intro s qpn q w st hqp hasked hst hfailed
    exact exec_hostReadCompletion_failed hfailed ((Dev.hostAnswers_sqWqe hqp w _).trans (Dev.gotSqWqe_failed hst _ hasked))
  case rq =>
    intro s qpn q w hqp hasked hst
    exact exec_hostReadCompletion_ok ((Dev.hostAnswers_rqWqe hqp w _).trans (Dev.gotRqWqe_ok hst _ hasked))
  case payloadFailed =>
    exact fun s qpn psn data q w st hqp hst hfailed hwqe =>
      exec_hostReadCompletion_failed hfailed (Dev.hostAnswers_payload_failed hqp data hst hwqe)
  case readReq =>
    intro s qpn p data q hqp hst hlen hbusy
    exact exec_hostReadCompletion_ok ((Dev.hostAnswers_readReq hqp p data _).trans (Dev.gotRead_ok hst hbusy hlen))
  case atomic =>
    intro s qpn p v q hqp hst hbusy
    exact exec_hostReadCompletion_ok ((Dev.hostAnswers_atomicOp hqp p v _).trans (Dev.gotAtomic_ok hst hbusy v))
  case atomicFailed =>
    intro s qpn p v q st hqp hst hbusy hfailed
    exact exec_hostReadCompletion_failed hfailed ((Dev.hostAnswers_atomicOp hqp p v _).trans (Dev.gotAtomic_failed hst hbusy v))

end Sys2Proof.Machine

/-!
PROOFS. Regions and completion queues of a command queue (R254, R257): what each command comes to once its fields have
been checked; and from them the statement `Obligations.RegionAndCqCommands`.
-/
namespace Sys2Proof.Machine

section
variable {d : Dev} {n : Nat} {w : Wqe}

/-! REG_REGION (R257). -/

theorem Dev.regRegion_of_range (h : w.len = 0 ∨ 2 ^ 30 < w.len ∨ d.boundOk n w = false) : d.regRegion n w = d.cmdFails n Status.range :=
  if_pos (by simpa using h)

section
variable (hpos : 0 < w.len) (hlen : w.len ≤ 2 ^ 30) (hbound : d.boundOk n w = true)
include hpos hlen hbound

theorem region_in_range : ¬ (w.len = 0 ∨ 2 ^ 30 < w.len ∨ (!d.boundOk n w) = true) := by
  simp [hbound]
  omega

section
variable (hnew : w.remoteKey = 0)
include hnew

theorem Dev.regRegion_of_quota (hquota : d.num (Obj.rmeSliceKeyQuota n) ≤ d.keysUsed n) :
    d.regRegion n w = d.cmdFails n Status.exhausted :=
  (if_neg (region_in_range hpos hlen hbound)).trans ((if_pos hnew).trans (if_pos hquota))

/-- A new region takes a free entry of the half's table, at the entry's next generation. -/
theorem Dev.regRegion_of_free {e : Nat} (hquota : d.keysUsed n < d.num (Obj.rmeSliceKeyQuota n))
    (hfree : d.freeKey (Half.ofSlice n) = some e) :
    d.regRegion n w =
      (let g := nextGen (tabGet d.rme.keys (entryKey (Half.ofSlice n) e) {}).generation
       (d.bump.setKey (Half.ofSlice n) e (regionEntry n w g)).cmdFinish n Status.ok (keyNumber (Half.ofSlice n) e g) 0 true) := by
  refine (if_neg (region_in_range hpos hlen hbound)).trans ((if_pos hnew).trans ((if_neg (Nat.not_le.2 hquota)).trans ?_))
  rw [hfree]

end

/-- A key whose region was invalidated is registered again, at the entry's next generation. -/
theorem Dev.regRegion_of_invalid {x : KeyEntry} (hold : w.remoteKey ≠ 0) (hkey : d.keyOf (Half.ofSlice n) w.remoteKey = some x)
    (halloc : x.allocated = true) (hslice : x.slice = n) (hgen : x.generation = keyGen w.remoteKey) (hinvalid : x.valid = false) :
    d.regRegion n w =
      (d.setKey (Half.ofSlice n) (keyEntry w.remoteKey) (regionEntry n w (nextGen x.generation))).cmdFinish n Status.ok
        (keyNumber (Half.ofSlice n) (keyEntry w.remoteKey) (nextGen x.generation)) 0 true := by
  refine (if_neg (region_in_range hpos hlen hbound)).trans ((if_neg hold).trans ?_)
  simp [hkey, halloc, hslice, hgen, hinvalid]

end

/-! DEREG_REGION (R257). -/

section
variable {x : KeyEntry} (hkey : d.keyOf (Half.ofSlice n) w.remoteKey = some x) (halloc : x.allocated = true) (hslice : x.slice = n)
  (hgen : x.generation = keyGen w.remoteKey)
include hkey halloc hslice hgen

/-- A key of the slice is freed, unless its queue pair still needs it. -/
theorem Dev.deregRegion_of_key :
    d.deregRegion n w =
      if x.qpBound = true ∧ (d.qp (halfKey (Half.ofSlice n) x.boundQp)).any (fun q => q.slice == n && q.st != .reset) = true then
        d.cmdFails n Status.state
      else
        (d.setKey (Half.ofSlice n) (keyEntry w.remoteKey) { x with valid := false, allocated := false }).cmdFinish n Status.ok 0 0 := by
  simp only [Dev.deregRegion, hkey, halloc, hslice, hgen, bne_self_eq_false, Bool.not_true, Bool.or_self, Bool.false_eq_true, if_false,
    Bool.and_eq_true]
  cases d.qp (halfKey (Half.ofSlice n) x.boundQp) <;> rfl

theorem Dev.deregRegion_of_unused
    (hqp : x.qpBound = true → ∀ q, d.qp (halfKey (Half.ofSlice n) x.boundQp) = some q → q.slice = n → q.st = .reset) :
    d.deregRegion n w =
      (d.setKey (Half.ofSlice n) (keyEntry w.remoteKey) { x with valid := false, allocated := false }).cmdFinish n Status.ok 0 0 := by
  refine (Dev.deregRegion_of_key hkey halloc hslice hgen).trans (if_neg ?_)
  rintro ⟨hbound, hused⟩
  obtain ⟨q, hq, hne⟩ := (Option.any_eq_true _ _).1 hused
  simp only [Bool.and_eq_true, beq_iff_eq, bne_iff_ne] at hne
  exact hne.2 (hqp hbound q hq hne.1)

theorem Dev.deregRegion_of_used {q : Qp} (hbound : x.qpBound = true) (hqp : d.qp (halfKey (Half.ofSlice n) x.boundQp) = some q)
    (howner : q.slice = n) (hst : q.st ≠ .reset) : d.deregRegion n w = d.cmdFails n Status.state :=
  (Dev.deregRegion_of_key hkey halloc hslice hgen).trans (if_pos ⟨hbound, by simp [hqp, howner, hst]⟩)

end

/-! CREATE_CQ (R254). -/

theorem Dev.createCq_of_size (hsize : cqSizeOk w.len = false) : d.createCq n w = d.cmdFails n Status.range :=
  if_pos (.inl (by rw [hsize]; rfl))

/-- A queue within its slice's vectors and quotas takes a free index of the half. -/
theorem Dev.createCq_of_free {i : Nat} (hsize : cqSizeOk w.len = true) (hvec : d.num (Obj.rmeSliceMsixBase n) ≤ field w.imm 0 16)
    (hvecs : field w.imm 0 16 < d.num (Obj.rmeSliceMsixBase n) + d.num (Obj.rmeSliceMsixCount n))
    (hquota : (d.cqsOfSlice n).length < d.num (Obj.rmeSliceCqQuota n)) (hhalf : d.cqsOfHalf (Half.ofSlice n) < 65536)
    (hfree : firstFree (fun i => (tabFind d.rme.cqs (halfKey (Half.ofSlice n) i)).isSome) 65536 (d.rme.cqs.length + 1) (d.free % 65536) = some i) :
    d.createCq n w =
      (let c : Cq := { slice := n, base := w.localAddr, size := w.len, vector := field w.imm 0 16 }
       { d.bump with rme := { d.rme with cqs := tabSet id d.rme.cqs (halfKey (Half.ofSlice n) i) c } }).cmdFinish n Status.ok i 0 true := by
  have hrange : ¬ ((!cqSizeOk w.len) = true ∨ field w.imm 0 16 < d.num (Obj.rmeSliceMsixBase n) ∨
      d.num (Obj.rmeSliceMsixBase n) + d.num (Obj.rmeSliceMsixCount n) ≤ field w.imm 0 16) := by
    simp [hsize, hvec, hvecs]
  have hroom : ¬ (d.num (Obj.rmeSliceCqQuota n) ≤ (d.cqsOfSlice n).length ∨ 65536 ≤ d.cqsOfHalf (Half.ofSlice n)) := by omega
  refine (if_neg hrange).trans ((if_neg hroom).trans ?_)
  rw [hfree]

end

/-! The command that a row finds at its slice. -/

section
variable {s : State} {n : Fin 4096} {w : Wqe}

theorem exec_regRegion_of_cmd (hcmd : s.dev.cmdOf n 0x20 = some w) : exec (.regRegion n) s = onDev s (s.dev.regRegion n w) := by
  show execRegRegion n s = _
  simp only [execRegRegion, hcmd]

theorem exec_deregRegion_of_cmd (hcmd : s.dev.cmdOf n 0x21 = some w) : exec (.deregRegion n) s = onDev s (s.dev.deregRegion n w) := by
  show execDeregRegion n s = _
  simp only [execDeregRegion, hcmd]

theorem exec_createCq_of_cmd (hcmd : s.dev.cmdOf n 0x25 = some w) : exec (.createCq n) s = onDev s (s.dev.createCq n w) := by
  show execCreateCq n s = _
  simp only [execCreateCq, hcmd]

/-- A queue of the slice is destroyed once no queue pair uses it (R254). -/
theorem exec_destroyCq_of_cq (hcmd : s.dev.cmdOf n 0x26 = some w) (hindex : w.imm < 65536) (hcq : (s.dev.cqOf n w.imm).isSome = true) :
    exec (.destroyCq n) s =
      if (s.dev.qpsOfCq (halfKey (Half.ofSlice n) w.imm)).isEmpty then
        onDev s ({ s.dev with rme := { s.dev.rme with cqs := tabDel s.dev.rme.cqs (halfKey (Half.ofSlice n) w.imm) } }.cmdFinish n Status.ok 0 0)
      else onDev s (s.dev.cmdFails n Status.state) := by
  show execDestroyCq n s = _
  simp only [execDestroyCq, hcmd]
  exact if_pos ⟨hindex, hcq⟩

end

/-- Settles O45: each command's equation above, in the state that its slice's quotas and tables leave it. -/
theorem regionAndCqCommands : Obligations.RegionAndCqCommands := by
  refine ⟨?regNew, ?regAgain, ?regRange, ?regQuota, ?dereg, ?deregUsed, ?cq, ?cqSize, ?cqDestroy⟩
  case regNew =>
    intro s n w e hcmd hpos hlen hbound hnew hquota hfree
    exact (exec_regRegion_of_cmd hcmd).trans (congrArg (onDev s) (Dev.regRegion_of_free hpos hlen hbound hnew hquota hfree))
  case regAgain =>
    intro s n w x hcmd hpos hlen hbound hold hkey halloc hslice hgen hinvalid
    exact (exec_regRegion_of_cmd hcmd).trans
      (congrArg (onDev s) (Dev.regRegion_of_invalid hpos hlen hbound hold hkey halloc hslice hgen hinvalid))
  case regRange => exact fun s n w hcmd h => (exec_regRegion_of_cmd hcmd).trans (congrArg (onDev s) (Dev.regRegion_of_range h))
  case regQuota =>
    intro s n w hcmd hpos hlen hbound hnew hquota
    exact (exec_regRegion_of_cmd hcmd).trans (congrArg (onDev s) (Dev.regRegion_of_quota hpos hlen hbound hnew hquota))
  case dereg =>
    intro s n w x hcmd hkey halloc hslice hgen hqp
    exact (exec_deregRegion_of_cmd hcmd).trans (congrArg (onDev s) (Dev.deregRegion_of_unused hkey halloc hslice hgen hqp))
  case deregUsed =>
    intro s n w x q hcmd hkey halloc hslice hgen hbound hqp howner hst
    exact (exec_deregRegion_of_cmd hcmd).trans
      (congrArg (onDev s) (Dev.deregRegion_of_used hkey halloc hslice hgen hbound hqp howner hst))
  case cq =>
    intro s n w i hcmd hsize hvec hvecs hquota hhalf hfree
    exact (exec_createCq_of_cmd hcmd).trans (congrArg (onDev s) (Dev.createCq_of_free hsize hvec hvecs hquota hhalf hfree))
  case cqSize => exact fun s n w hcmd hsize => (exec_createCq_of_cmd hcmd).trans (congrArg (onDev s) (Dev.createCq_of_size hsize))
  case cqDestroy =>
    exact fun s n w hcmd hindex hcq =>
      ⟨fun hunused => (exec_destroyCq_of_cq hcmd hindex hcq).trans (if_pos (by rw [hunused]; rfl)),
        fun hused => (exec_destroyCq_of_cq hcmd hindex hcq).trans (if_neg (by simpa using hused))⟩

end Sys2Proof.Machine

/-!
PROOFS. Queue pairs of a command queue (R254, R255, R414): the creation of one, the moves that MODIFY_QP makes once its
block has been admitted, and its destruction; and from them the statement `Obligations.QueuePairCommands`.
-/
namespace Sys2Proof.Machine
open Sys2Proof.Safety

/-! CREATE_QP (R255). -/

/-- The queue pair that a block describes, of a slice and with an incarnation. -/
def newQp (b : QpBlock) (n inc : Nat) : Qp :=
  { slice := n, incarnation := inc, mtu := b.mtu, sqLog := b.sqLog, rqLog := b.rqLog, sqBase := b.sqBase, rqBase := b.rqBase,
    sendCq := b.sendCq, recvCq := b.recvCq, remote := field b.remote 0 25, remoteSet := true, sendPsn := field b.sendPsn 0 24,
    sendSet := true, recvPsn := field b.recvPsn 0 24, recvSet := true, rights := field b.rights 0 3 }

section
variable {d : Dev} {n : Nat} {b : QpBlock}

theorem Dev.createQp_of_bad_block (hblock : d.blockOk n b = false) : d.createQp n b = d.cmdFails n Status.range :=
  if_pos (by rw [hblock]; rfl)

theorem Dev.cqOf_any_overflow {i : Nat} (h : ∀ c, d.cqOf n i = some c → c.overflow = false) : (d.cqOf n i).any (fun c => c.overflow) = false := by
  cases hcq : d.cqOf n i with
  | none => rfl
  | some c => exact h c hcq

/-- A good block with queues that have room takes the first ready index of the half, in its next incarnation. -/
theorem Dev.createQp_of_free {i : Nat} (hblock : d.blockOk n b = true) (hsend : ∀ c, d.cqOf n b.sendCq = some c → c.overflow = false)
    (hrecv : ∀ c, d.cqOf n b.recvCq = some c → c.overflow = false) (hquota : (d.qpsOfSlice n).length < d.num (Obj.rmeSliceQpQuota n))
    (hhalf : d.qpsOfHalf (Half.ofSlice n) < 65536)
    (hfree : firstFree (fun i => !d.indexReady (Half.ofSlice n) i) 65536 (min 65536 (d.rme.qps.length + d.rme.qpHist.length + 1)) 0 = some i) :
    d.createQp n b =
      (let k := halfKey (Half.ofSlice n) i
       let q := newQp b n (((tabGet d.rme.qpHist k (0, none)).1 + 1) % 128)
       { d with rme := { d.rme with qps := tabSet id d.rme.qps k q } }.cmdFinish n Status.ok (qpnOf k q) 0 true) := by
  have hroom : ¬ (d.num (Obj.rmeSliceQpQuota n) ≤ (d.qpsOfSlice n).length ∨ 65536 ≤ d.qpsOfHalf (Half.ofSlice n)) := by omega
  refine (if_neg (by simp [hblock])).trans ((if_neg ?_).trans ((if_neg hroom).trans ?_))
  · simp [Dev.cqOf_any_overflow hsend, Dev.cqOf_any_overflow hrecv]
  · rw [hfree]
    rfl

end

/-! MODIFY_QP (R255, R414): a block is admitted, and then moves the queue pair from its state. -/

/-- A block gives attributes that only a queue pair in RESET or INIT takes. -/
def bringsAttrs (b : QpBlock) : Bool := bitOf b.mask 1 || bitOf b.mask 2 || bitOf b.mask 3 || bitOf b.mask 4

theorem bringsAttrs_eq_false {b : QpBlock} :
    bringsAttrs b = false ↔ bitOf b.mask 1 = false ∧ bitOf b.mask 2 = false ∧ bitOf b.mask 3 = false ∧ bitOf b.mask 4 = false := by
  simp [bringsAttrs, and_assoc]

/-- The move that an admitted block with MASK [0] asks for. -/
def Dev.moveQp (d : Dev) (k : Nat) (q : Qp) (b : QpBlock) : Dev × Nat :=
  let x := giveAttrs q b
  match b.state, q.st with
  | 1, .reset => ((d.modQp k (fun _ => { x with st := .init })).fetch k, Status.ok)
  | 2, .init => if x.remoteSet && x.sendSet && x.recvSet then ((d.modQp k (fun _ => x)).readyQp k, Status.ok) else (d, Status.state)
  | 3, .reset | 3, .init | 3, .ready => (((d.modQp k (fun _ => x)).qpToError k).fetch k, Status.ok)
  | 0, .error | 0, .flushed =>
    (d.modQp k (fun _ => if bitOf b.mask 5 then { resetQp q with rights := field b.rights 0 3 } else resetQp q), Status.ok)
  | _, _ => (d, Status.state)

section
variable {d : Dev} {k : Nat} {q : Qp} {b : QpBlock} (hkept : q.lost = false)
include hkept

theorem Dev.modifyQp_of_attrs (hmtu : bitOf b.mask 1 = false) (hmove : bitOf b.mask 0 = false) (hattrs : bringsAttrs b = true)
    (hreset : q.st ≠ .reset) (hinit : q.st ≠ .init) : d.modifyQp k q b = (d, Status.state) := by
  rw [bringsAttrs, hmtu, Bool.false_or] at hattrs
  simp [Dev.modifyQp, hkept, hmtu, hmove, hattrs, hreset, hinit]

section
variable (hmtu : bitOf b.mask 1 = true → b.mtu ≤ 2) (hattrs : q.st = .reset ∨ q.st = .init ∨ bringsAttrs b = false)
include hmtu hattrs

/-- A block with its MTU and STATE in range and attributes only where they are taken is carried out. -/
theorem Dev.modifyQp_of_admitted (hstate : bitOf b.mask 0 = true → b.state ≤ 3) :
    d.modifyQp k q b = if bitOf b.mask 0 = true then d.moveQp k q b else (d.modQp k (fun _ => giveAttrs q b), Status.ok) := by
  have hrange : ¬ ((bitOf b.mask 1 = true ∧ 2 < b.mtu) ∨ (bitOf b.mask 0 = true ∧ 3 < b.state)) := by
    rintro (⟨h, hlt⟩ | ⟨h, hlt⟩)
    · exact absurd (hmtu h) (Nat.not_le.2 hlt)
    · exact absurd (hstate h) (Nat.not_le.2 hlt)
  have htaken : ¬ (bringsAttrs b && !(q.st == .reset || q.st == .init)) = true := by
    rcases hattrs with h | h | h <;> simp [h]
  refine (if_neg (by simp [hkept])).trans ((if_neg hrange).trans ((if_neg htaken).trans ?_))
  cases bitOf b.mask 0 <;> rfl

theorem Dev.modifyQp_of_moving (hmove : bitOf b.mask 0 = true) (hstate : b.state ≤ 3) : d.modifyQp k q b = d.moveQp k q b :=
  (Dev.modifyQp_of_admitted hkept hmtu hattrs fun _ => hstate).trans (if_pos hmove)

theorem Dev.modifyQp_of_staying (hstay : bitOf b.mask 0 = false) : d.modifyQp k q b = (d.modQp k (fun _ => giveAttrs q b), Status.ok) :=
  (Dev.modifyQp_of_admitted hkept hmtu hattrs fun h => absurd h (by simp [hstay])).trans (if_neg (by simp [hstay]))

end

end

section
variable {d : Dev} {k : Nat} {q : Qp} {b : QpBlock}

theorem Dev.moveQp_init (hstate : b.state = 1) (hst : q.st = .reset) :
    d.moveQp k q b = ((d.modQp k (fun _ => { giveAttrs q b with st := .init })).fetch k, Status.ok) := by
  simp only [Dev.moveQp, hstate, hst]

theorem Dev.moveQp_ready (hstate : b.state = 2) (hst : q.st = .init) (hremote : (giveAttrs q b).remoteSet = true)
    (hsend : (giveAttrs q b).sendSet = true) (hrecv : (giveAttrs q b).recvSet = true) :
    d.moveQp k q b = ((d.modQp k (fun _ => giveAttrs q b)).readyQp k, Status.ok) := by
  simp only [Dev.moveQp, hstate, hst, hremote, hsend, hrecv, Bool.and_self, if_true]

theorem Dev.moveQp_error (hstate : b.state = 3) (hst : q.st = .reset ∨ q.st = .init ∨ q.st = .ready) :
    d.moveQp k q b = (((d.modQp k (fun _ => giveAttrs q b)).qpToError k).fetch k, Status.ok) := by
  rcases hst with hst | hst | hst <;> simp only [Dev.moveQp, hstate, hst]

theorem Dev.moveQp_reset (hstate : b.state = 0) (hst : q.st = .error ∨ q.st = .flushed) :
    d.moveQp k q b =
      (d.modQp k (fun _ => if bitOf b.mask 5 then { resetQp q with rights := field b.rights 0 3 } else resetQp q), Status.ok) := by
  rcases hst with hst | hst <;> simp only [Dev.moveQp, hstate, hst]

end

/-! The command that a row finds at its slice. -/

section
variable {s : State} {n : Fin 4096} {y : List Byte} {b : QpBlock} {w : Wqe}

theorem exec_createQp_of_cmd (hcmd : s.dev.cmdOf n 0x22 = some w) :
    exec (.createQp n y) s = onDev s (s.dev.createQp n (QpBlock.ofBytes y)) := by
  show execCreateQp n y s = _
  simp only [execCreateQp, hcmd]

theorem exec_destroyQp_of_qp {k : Nat} {q : Qp} (hcmd : s.dev.cmdOf n 0x24 = some w) (hqp : s.dev.qpOfCmd n w = some (k, q)) :
    exec (.destroyQp n) s = .next { s with dev := (s.dev.dropQp k).cmdFinish n Status.ok 0 0 } := by
  show execDestroyQp n s = _
  simp only [execDestroyQp, hcmd, hqp, onDev]

theorem exec_destroyQp_of_no_qp (hcmd : s.dev.cmdOf n 0x24 = some w) (hqp : s.dev.qpOfCmd n w = none) :
    exec (.destroyQp n) s = .next { s with dev := s.dev.cmdFails n Status.range } := by
  show execDestroyQp n s = _
  simp only [execDestroyQp, hcmd, hqp, onDev]

end

/-- Settles O46: a creation by its block and the half's indexes, a modification by its admitted block and the queue pair's state. -/
theorem queuePairCommands : Obligations.QueuePairCommands := by
  refine ⟨?create, ?createRange, ?init, ?ready, ?error, ?reset, ?attrs, ?attrsRefused, ?destroy, ?destroyNone⟩
  case create =>
    rintro s n y b w i rfl hcmd hblock hsend hrecv hquota hhalf hfree
    exact (exec_createQp_of_cmd hcmd).trans (congrArg (onDev s) (Dev.createQp_of_free hblock hsend hrecv hquota hhalf hfree))
  case createRange =>
    rintro s n y b w rfl hcmd hblock
    exact (exec_createQp_of_cmd hcmd).trans (congrArg (onDev s) (Dev.createQp_of_bad_block hblock))
  case init =>
    rintro s n y b w k q rfl hcmd hqp hkept hmtu hst hmove hstate
    refine (if_pos ⟨hmove, hstate⟩).trans (onModify_ok hcmd hqp ?_)
    rw [Dev.modifyQp_of_moving hkept hmtu (.inl hst) hmove (by omega), Dev.moveQp_init hstate hst]
  case ready =>
    rintro s n y b w k q rfl hcmd hqp hkept hmtu hst hmove hstate hremote hsend hrecv
    refine (if_pos ⟨hmove, hstate⟩).trans (onModify_ok hcmd hqp ?_)
    rw [Dev.modifyQp_of_moving hkept hmtu (.inr (.inl hst)) hmove (by omega), Dev.moveQp_ready hstate hst hremote hsend hrecv]
  case error =>
    rintro s n y b w k q rfl hcmd hqp hkept hmtu hst hmove hstate
    have hattrs := hst.imp_right (Or.imp_right fun h => bringsAttrs_eq_false.2 h.2)
    have hfrom := hst.imp_right (Or.imp_right And.left)
    refine (if_pos ⟨hmove, hstate⟩).trans (onModify_ok hcmd hqp ?_)
    rw [Dev.modifyQp_of_moving hkept hmtu hattrs hmove (by omega), Dev.moveQp_error hstate hfrom]
  case reset =>
    rintro s n y b w k q rfl hcmd hqp hkept h1 h2 h3 h4 hst hmove hstate
    have hattrs := bringsAttrs_eq_false.2 ⟨h1, h2, h3, h4⟩
    refine (if_pos ⟨hmove, hstate⟩).trans (onModify_ok hcmd hqp ?_)
    rw [Dev.modifyQp_of_moving hkept (by simp [h1]) (.inr (.inr hattrs)) hmove (by omega), Dev.moveQp_reset hstate hst]
  case attrs =>
    rintro s n y b w k q rfl hcmd hqp hkept hmtu hst hstay
    exact (if_neg (by simp [hstay])).trans (onModify_ok hcmd hqp (Dev.modifyQp_of_staying hkept hmtu (hst.imp_right Or.inl) hstay))
  case attrsRefused =>
    rintro s n y b w k q rfl hcmd hqp hkept hmtu hgiven hreset hinit hstay
    have hattrs : bringsAttrs (QpBlock.ofBytes y) = true := by rcases hgiven with h | h | h <;> simp [bringsAttrs, h]
    exact (if_neg (by simp [hstay])).trans
      (onModify_bad hcmd hqp (Dev.modifyQp_of_attrs hkept hmtu hstay hattrs hreset hinit) (by decide))
  case destroy => exact fun s n w k q => exec_destroyQp_of_qp
  case destroyNone => exact fun s n w => exec_destroyQp_of_no_qp

end Sys2Proof.Machine

/-!
PROOFS. Samples, harvest records and DICT (R254, R382, R383, R385): one equation per row in the states where it acts, and
from them the statement `Obligations.TelemetryEvents`.
-/
namespace Sys2Proof.Machine

/-! Harvest records (R385). -/

/-- The frame that a stall-mode record held is released. -/
def Dev.stallReleased (d : Dev) : Option Nat → Dev
  | some id => d.releaseStall id
  | none => d

@[simp] theorem Dev.num_stallReleased (d : Dev) (held : Option Nat) (k : Key) : (d.stallReleased held).num k = d.num k := by
  cases held <;> rfl

@[simp] theorem Dev.num_setWriter (d : Dev) (h : Half) (l : List (Option Nat × List Byte)) (k : Key) : (d.setWriter h l).num k = d.num k := rfl

/-- A record enters the ring of its half with the next SEQ and the drops since the last one, the oldest records making room. -/
def Dev.ringKeeps (d : Dev) (h : Half) (r : List Byte) : Dev :=
  let n := byHalf h d.tele.harvSeqW d.tele.harvSeqE
  let r := sealRecord r (h.code * 2 ^ 31 + n % 2 ^ 31) (d.dropped h)
  let d := (d.setRing h (dropOldest (ringBytes - r.length) (d.ring h) ++ [r])).setDropped h 0
  { d with tele := byHalf h { d.tele with harvSeqW := n + 1 } { d.tele with harvSeqE := n + 1 } }

/-- Unless the ring is to stop when full, the oldest record of the writer always enters it. -/
theorem Dev.harvestWrite_of_record {d : Dev} {h : Half} {held : Option Nat} {r : List Byte} {rest : List (Option Nat × List Byte)}
    (hwriter : d.writer h = (held, r) :: rest) (hmode : d.num Obj.harvMode ≠ 1) :
    d.harvestWrite h = ((d.setWriter h rest).stallReleased held).ringKeeps h r := by
  have hroom : ¬ (((d.setWriter h rest).stallReleased held).num Obj.harvMode = 1 ∧
      ringBytes < bytesOf (((d.setWriter h rest).stallReleased held).ring h) + r.length) := by
    rw [Dev.num_stallReleased, Dev.num_setWriter]
    exact fun hfull => hmode hfull.1
  simp only [Dev.harvestWrite, hwriter]
  exact if_neg hroom

theorem Dev.harvestWrite_of_empty {d : Dev} {h : Half} (hwriter : d.writer h = []) : d.harvestWrite h = d := by
  simp only [Dev.harvestWrite, hwriter]

/-! DICT (R254). -/

section
variable {s : State} {n : Fin 4096} {w : Wqe} {x : Session} (msg : List Byte) (hcmd : s.dev.cmdOf n 0x30 = some w)
  (hses : s.dev.sessions.find? (fun x => x.transport == .tenant n) = some x) (hidle : (s.dev.slice n).dictOpen = false)
include hcmd hses hidle

theorem exec_dict_of_range (hrange : w.len < 16 ∨ 1024 < w.len ∨ field w.operand1 0 16 < 1024) :
    exec (.dict n msg) s = .next { s with dev := s.dev.cmdFails n Status.range } := by
  show execDict n msg s = _
  simp only [execDict, hcmd, hses, hidle, Bool.false_eq_true, if_false, if_pos hrange, onDev]

section
variable (hrange : ¬ (w.len < 16 ∨ 1024 < w.len ∨ field w.operand1 0 16 < 1024))
include hrange

/-- A request that is answered at once ends the command with its response in the slice's buffer. -/
theorem exec_dict_of_answered {b : List Byte}
    (hrsp : newResponse s.dev.out.length (takeMessage s x (msg.take w.len)).dev.out x.sid = some b) :
    exec (.dict n msg) s =
      onDev (takeMessage s x (msg.take w.len)) ((takeMessage s x (msg.take w.len)).dev.dictAnswer n w b) := by
  show execDict n msg s = _
  simp only [execDict, hcmd, hses, hidle, Bool.false_eq_true, if_false, if_neg hrange, hrsp]

/-- A request that waits leaves the command open. -/
theorem exec_dict_of_waiting (hrsp : newResponse s.dev.out.length (takeMessage s x (msg.take w.len)).dev.out x.sid = none)
    (hwaits : ((takeMessage s x (msg.take w.len)).dev.ses x.sid).any (fun y => y.exec.isSome) = true) :
    exec (.dict n msg) s =
      onDev (takeMessage s x (msg.take w.len))
        ((takeMessage s x (msg.take w.len)).dev.modSlice n (fun y => { y with dictOpen := true })) := by
  show execDict n msg s = _
  simp only [execDict, hcmd, hses, hidle, Bool.false_eq_true, if_false, if_neg hrange, hrsp, hwaits, if_true]

end

end

/-- Settles O53: each row's equation above, with its tests decided by the hypotheses. -/
theorem telemetryEvents : Obligations.TelemetryEvents := by
  refine ⟨?sample, ?noSample, ?record, ?noRecord, ?dict, ?dictRange⟩
  case sample =>
    intro s h i f out hon hhalf hcand
    exact if_pos (by rw [hon, hhalf, hcand, beq_self_eq_true]; rfl)
  case noSample =>
    intro s h i f out hno
    exact if_neg (by rcases hno with h | h | h <;> simp [h])
  case record => exact fun s h held r rest hwriter hmode => congrArg (onDev s) (Dev.harvestWrite_of_record hwriter hmode)
  case noRecord => exact fun s h hwriter => congrArg (onDev s) (Dev.harvestWrite_of_empty hwriter)
  case dict =>
    intro s n msg w x b hcmd hses hidle hmin hmax hbuffer
    have hrange : ¬ (w.len < 16 ∨ 1024 < w.len ∨ field w.operand1 0 16 < 1024) := by omega
    exact ⟨exec_dict_of_answered msg hcmd hses hidle hrange, exec_dict_of_waiting msg hcmd hses hidle hrange⟩
  case dictRange => exact fun s n msg w x => exec_dict_of_range msg

end Sys2Proof.Machine

/-!
PROOFS. The weights of a queue pair's paths (R274): what an echo takes from its path the others gain, the remainder going
to the lowest of them; and from it the statement `Obligations.PathWeightsKeepTheirSum`.
-/
namespace Sys2Proof.Machine
open Sys2Proof.Safety

/-- The paths beside one. -/
def otherPaths (l : List (Nat × Nat)) (p : Nat) : List Nat := (l.filter (fun e => e.1 != p)).map (fun e => e.1)

/-- The lowest-numbered of some paths. -/
def lowestPath (l : List Nat) : Nat := l.foldl min (l.headD 0)

theorem lowestPath_mem {l : List Nat} (h : l ≠ []) : lowestPath l ∈ l := by
  cases l with
  | nil => exact absurd rfl h
  | cons a t =>
    rcases foldl_min_mem (a :: t) a with hlow | hlow
    · exact List.mem_cons.2 (.inl hlow)
    · exact hlow

/-- A path's weight after its share has moved. -/
def shiftedWeight (p low take n : Nat) (e : Nat × Nat) : Nat × Nat :=
  if e.1 = p then (e.1, e.2 - take) else (e.1, e.2 + take / n + (if e.1 = low then take % n else 0))

theorem shiftedWeight_fst (p low take n : Nat) (e : Nat × Nat) : (shiftedWeight p low take n e).1 = e.1 := by
  unfold shiftedWeight
  split <;> rfl

section
variable {l : List (Nat × Nat)} {p : Nat}

theorem shiftWeights_of_alone (c : Nat) (h : otherPaths l p = []) : shiftWeights l p c = l :=
  if_pos (List.length_eq_zero_iff.2 h)

theorem shiftWeights_of_others (c : Nat) (h : otherPaths l p ≠ []) :
    shiftWeights l p c =
      l.map (shiftedWeight p (lowestPath (otherPaths l p)) (tabGet l p 0 * min c 32 / 64) (otherPaths l p).length) :=
  if_neg (fun hlen => h (List.length_eq_zero_iff.1 hlen))

/-- No path appears or goes. -/
theorem shiftWeights_paths (l : List (Nat × Nat)) (p c : Nat) : (shiftWeights l p c).map (fun e => e.1) = l.map (fun e => e.1) := by
  by_cases h : otherPaths l p = []
  · rw [shiftWeights_of_alone c h]
  · rw [shiftWeights_of_others c h, List.map_map]
    exact List.map_congr_left fun e _ => shiftedWeight_fst _ _ _ _ e

/-! The weights of paths that are listed once. -/

theorem tabFind_of_not_mem {k : Nat} (h : k ∉ l.map (fun e => e.1)) : tabFind l k = none := by
  induction l with
  | nil => rfl
  | cons a t ih =>
    obtain ⟨hne, hrest⟩ := not_or.1 (List.mem_cons.not.1 h)
    rw [tabFind, if_neg (Ne.symm hne), ih hrest]

theorem tabFind_of_mem {e : Nat × Nat} (hnodup : (l.map (fun e => e.1)).Nodup) (he : e ∈ l) : tabFind l e.1 = some e.2 := by
  induction l with
  | nil => cases he
  | cons a t ih =>
    obtain ⟨hnew, hrest⟩ := List.nodup_cons.1 hnodup
    rcases List.mem_cons.1 he with rfl | he
    · exact if_pos rfl
    · have hne : a.1 ≠ e.1 := fun h => hnew (List.mem_map.2 ⟨e, he, h.symm⟩)
      rw [tabFind, if_neg hne, ih hrest he]

/-- At most half a weight moves. -/
theorem share_le (w c : Nat) : w * min c 32 / 64 ≤ w :=
  Nat.div_le_of_le_mul (by
    calc w * min c 32 ≤ w * 64 := Nat.mul_le_mul_left w (by omega)
      _ = 64 * w := Nat.mul_comm w 64)

theorem countP_others (l : List (Nat × Nat)) (p : Nat) : l.countP (fun e => e.1 != p) = (otherPaths l p).length := by
  rw [otherPaths, List.length_map, List.countP_eq_length_filter]

/-- The lowest of the other paths is listed once, and is not the path itself. -/
theorem countP_lowest (hnodup : (l.map (fun e => e.1)).Nodup) (h : otherPaths l p ≠ []) :
    l.countP (fun e => e.1 == lowestPath (otherPaths l p) && e.1 != p) = 1 := by
  obtain ⟨e, he, hlow⟩ := List.mem_map.1 (lowestPath_mem h)
  obtain ⟨hmem, hne⟩ := List.mem_filter.1 he
  rw [show lowestPath (otherPaths l p) = e.1 from hlow.symm, ← countP_nodup e.1 l hnodup (List.mem_map_of_mem hmem)]
  refine List.countP_congr fun a _ => ?_
  simp only [Bool.and_eq_true, beq_iff_eq, and_iff_left_iff_imp]
  rintro h
  rwa [h]

/-- The sum of shifted weights: the path's share leaves it, and each other path's part and the remainder enter it. -/
theorem sum_shiftedWeight {take : Nat} (low n : Nat) (hfits : ∀ e ∈ l, e.1 = p → take ≤ e.2) :
    ((l.map (shiftedWeight p low take n)).map (fun e => e.2)).sum + take * l.countP (fun e => e.1 == p) =
      (l.map (fun e => e.2)).sum + take / n * l.countP (fun e => e.1 != p) +
        take % n * l.countP (fun e => e.1 == low && e.1 != p) :=
  shift_sum p low take (take / n) (take % n) l hfits

/-- An echo leaves the sum of the weights. -/
theorem shiftWeights_sum (c : Nat) (hnodup : (l.map (fun e => e.1)).Nodup) :
    ((shiftWeights l p c).map (fun e => e.2)).sum = (l.map (fun e => e.2)).sum := by
  by_cases h : otherPaths l p = []
  · rw [shiftWeights_of_alone c h]
  rw [shiftWeights_of_others c h]
  have hfits : ∀ e ∈ l, e.1 = p → tabGet l p 0 * min c 32 / 64 ≤ e.2 := by
    rintro e he rfl
    rw [tabGet_of_tabFind 0 (tabFind_of_mem hnodup he)]
    exact share_le e.2 c
  have hmoved := sum_shiftedWeight (lowestPath (otherPaths l p)) (otherPaths l p).length hfits
  rw [countP_others, countP_lowest hnodup h] at hmoved
  by_cases hp : p ∈ l.map (fun e => e.1)
  · have hshare := Nat.div_add_mod (tabGet l p 0 * min c 32 / 64) (otherPaths l p).length
    rw [countP_nodup p l hnodup hp] at hmoved
    rw [Nat.mul_comm] at hshare
    omega
  · rw [tabGet, tabFind_of_not_mem hp] at hmoved ⊢
    simpa using hmoved

end

/-- Settles O60: the sum by what the other paths gain, and the rule's example by its numbers. -/
theorem pathWeightsKeepTheirSum : Obligations.PathWeightsKeepTheirSum :=
  ⟨fun _ _ c hnodup => shiftWeights_sum c hnodup, shiftWeights_paths, by decide⟩

end Sys2Proof.Machine

/-!
PROOFS. Requests to shapers, logs, counters, the sampler and the harvest (R288, R297, R301, R303, R377, R378, R382, R386): the
objects' own rules in the states that their rows need, and from them the statement `Obligations.ShaperAndRecordRequests`.
-/
namespace Sys2Proof.Machine
open Sys2Proof.Safety

/-! Which rule a live write follows. -/

/-- The rule of a shaper's rate or burst, in either half's array (R297). -/
theorem liveWrite_shaper (st : State) (x : Session) (h : Half) (i : Nat) {sub : Nat} (o : ObjRow) (n : Nat) (hsub : sub = 3 ∨ sub = 4) :
    liveWrite st x ⟨0x4200 + h.code, sub, i⟩ o (.num n) = ofDev st (st.dev.writeShaperField h i sub n) := by
  have hengines : writeEngines st ⟨0x4200 + h.code, sub, i⟩ (Val.num n).toNum = some (ofDev st (st.dev.writeShaperField h i sub n)) := by
    cases h <;> simp [writeEngines, within, Half.code, hsub, Val.toNum]
  have hcode : h.code < 2 := by cases h <;> decide
  simp only [liveWrite, writeBoot_none st x ⟨0x4200 + h.code, sub, i⟩ _ (by simp; omega),
    writeMgmt_none st x ⟨0x4200 + h.code, sub, i⟩ _ (by simp; omega),
    writeLinks_none st x ⟨0x4200 + h.code, sub, i⟩ _ (.inr (by simp; omega)) (by simp; omega), hengines, Option.orElse_eq_orElse,
    Option.orElse_none, Option.orElse_some]

/-- The records of the harvest, of counters, of the sampler and of the logs follow telemetry's rules alone. -/
theorem liveWrite_of_writeTelemetry_record {st : State} {x : Session} {k : Key} {n : Nat} {w : Written} (o : ObjRow)
    (hk : k.idx ∈ [0x5100, 0x8000, 0x8010, 0x8100, 0xA000]) (h : writeTelemetry st x k (.num n) = some w) :
    liveWrite st x k o (.num n) = w := by
  simp only [List.mem_cons, List.not_mem_nil, or_false] at hk
  have hpower : writePower st x k (Val.num n).toNum = none := by
    unfold writePower within
    rw [if_neg (by simp; omega)]
    split <;> simp_all
  simp only [liveWrite, writeBoot_none st x k _ (by simp; omega), writeMgmt_none st x k _ (by simp; omega),
    writeLinks_none st x k _ (by omega) (by omega), writeEngines_none st k _ (by omega) (by omega), hpower, h,
    Option.orElse_eq_orElse, Option.orElse_none]

/-! The objects' own rules. -/

/-- A shaper that no contract uses takes its rate and burst as written (R297). -/
theorem Dev.writeShaper_of_user_ne {d : Dev} {h : Half} {i : Nat} (rate burst : Nat) (huser : d.shaperUser h i ≠ 3) :
    d.writeShaper h i rate burst = (d.reshape h i rate burst, Status.ok) := if_neg huser

/-- The sampler restarts: both halves' sequence numbers and buffers are empty, and the seed and the interval are loaded (R382). -/
def Dev.restartSampler (d : Dev) : Dev :=
  let seed := d.num Obj.smpSeed
  let every := d.num Obj.smpInterval
  { d with tele := { d.tele with seqW := 0, seqE := 0, recsW := [], recsE := [], openSamples := [], lfsrW := seed, lfsrE := seed,
                                 countW := every, countE := every } }

theorem Dev.writeSmpEnable_starts {d : Dev} (hoff : d.flag Obj.smpEnable = false) :
    d.writeSmpEnable true = (d.setNum Obj.smpEnable 1).restartSampler := by
  simp only [Dev.writeSmpEnable, hoff, Bool.not_false, Bool.and_self, if_true]
  rfl

/-- Every frame that a harvest record of either half holds is released (R386). -/
def Dev.releaseHeld (d : Dev) : Dev :=
  (d.tele.writerW ++ d.tele.writerE).foldl (fun (d : Dev) (y : Option Nat × List Byte) => y.1.elim d d.releaseStall) d

theorem Dev.writeHarvEnable_false (d : Dev) : d.writeHarvEnable false = (d.setNum Obj.harvEnable 0).releaseHeld := by
  refine congrArg (fun f => List.foldl f (d.setNum Obj.harvEnable 0) (d.tele.writerW ++ d.tele.writerE)) ?_
  funext d y
  rcases y with ⟨_ | id, r⟩ <;> rfl

/-! The writes as their sessions' requests. -/

section
variable {s : State} {x : Session} {rid idx sub n : Nat} {ty : ObjType}

/-- A row that writes the rate or the burst of a shaper, whose rule accepts it. -/
theorem writeEntry_wrote_shaper {h : Half} {i : Nat} (f : Dev → Dev) (hsub : sub = 3 ∨ sub = 4)
    (hacc : acceptsEntry s x rid (0x4200 + h.code) i sub .u32 n = true)
    (hw : (selected s x rid (0x4200 + h.code) i sub .u32 n).dev.writeShaperField h i sub n =
      (f (selected s x rid (0x4200 + h.code) i sub .u32 n).dev, Status.ok)) :
    writeEntry s x.sid rid (0x4200 + h.code) i sub .u32 n = wroteEntry s x rid (0x4200 + h.code) i sub .u32 n f := by
  have hlive : liveField (0x4200 + h.code) sub = true := by rcases hsub with rfl | rfl <;> cases h <;> decide
  have hkey : fieldKey x (0x4200 + h.code) i sub = ⟨0x4200 + h.code, sub, i⟩ := if_neg (by cases h <;> decide)
  refine entry_wrote s x rid (0x4200 + h.code) i sub .u32 n f (by cases h <;> decide) (by omega) hlive hacc fun o => ?_
  rw [hkey, liveWrite_shaper _ _ h i o n hsub, hw]

/-- A row that writes one object of the harvest, the counters, the sampler or the logs, and is answered at once. -/
theorem writeObject_wrote_record {f : Dev → Dev}
    (hrow : idx ∈ [0x5100, 0x8000, 0x8010, 0x8100, 0xA000] ∧ sub < 256 ∧ liveRow idx sub = true)
    (h : accepts s x rid idx sub ty n = true)
    (hw : writeTelemetry (begun s x rid [(idx, sub, ty, n)]) (begunSes s x rid [(idx, sub, ty, n)]) ⟨idx, sub, 0⟩ (.num n) =
      some (okDev (begun s x rid [(idx, sub, ty, n)]) (f (begun s x rid [(idx, sub, ty, n)]).dev))) :
    writeObject s x.sid rid idx sub ty n = wrote s x rid idx sub ty n f := by
  obtain ⟨hidx, hsub, hlive⟩ := hrow
  have hbelow : idx < 0xF000 := by simp at hidx; omega
  exact writeObject_wrote s x rid idx sub ty n f hbelow hsub hlive h fun o => liveWrite_of_writeTelemetry_record o hidx hw

end

/-- Settles O25: each row is a write whose rule, in the state its hypotheses describe, takes the branch that carries it out. -/
theorem shaperAndRecordRequests : Obligations.ShaperAndRecordRequests := by
  refine ⟨?rate, ?burst, ?ack, ?plog, ?snap, ?ctrClear, ?samplingOn, ?samplingOff, ?harvestOn, ?harvestOff, ?harvestClear⟩
  case rate =>
    intro s x rid h i n hacc huser
    exact congrArg Host.Outcome.next (writeEntry_wrote_shaper _ (.inl rfl) hacc
      (Dev.writeShaper_of_user_ne (d := (selected s x rid _ _ _ _ _).dev) n _ huser))
  case burst =>
    intro s x rid h i n hacc huser
    exact congrArg Host.Outcome.next (writeEntry_wrote_shaper _ (.inr rfl) hacc
      (Dev.writeShaper_of_user_ne (d := (selected s x rid _ _ _ _ _).dev) _ n huser))
  case ack => exact fun s x rid n h => congrArg Host.Outcome.next (writeObject_wrote_record (by decide) h rfl)
  case plog => exact fun s x rid h => congrArg Host.Outcome.next (writeObject_wrote_record (by decide) h rfl)
  case snap =>
    exact fun s x rid h => congrArg Host.Outcome.next
      (writeObject_waits s x rid 0x8000 5 .u8 1 _ .snapshot (by decide) (by decide) (by decide) h
        (fun o => liveWrite_of_writeTelemetry_record o (by decide) rfl))
  case ctrClear =>
    exact fun s x rid v h => congrArg Host.Outcome.next
      (entry_wrote s x rid 0x8010 v 8 .u8 1 _ (by decide) (by decide) (by decide) h
        (fun o => liveWrite_of_writeTelemetry_record (k := ⟨0x8010, 8, 256 * x.pmuScope + v⟩) o (show 0x8010 ∈ _ by decide) rfl))
  case samplingOn =>
    intro s x rid h hoff
    exact congrArg Host.Outcome.next (writeObject_wrote_record (by decide) h (congrArg (fun d => some (okDev _ d))
      (Dev.writeSmpEnable_starts (d := (begun s x rid [(0x8100, 1, .bool, 1)]).dev) hoff)))
  case samplingOff => exact fun s x rid h => congrArg Host.Outcome.next (writeObject_wrote_record (by decide) h rfl)
  case harvestOn => exact fun s x rid h => congrArg Host.Outcome.next (writeObject_wrote_record (by decide) h rfl)
  case harvestOff =>
    intro s x rid h
    exact congrArg Host.Outcome.next (writeObject_wrote_record (by decide) h (congrArg (fun d => some (okDev _ d))
      (Dev.writeHarvEnable_false (begun s x rid [(0x5100, 1, .bool, 0)]).dev)))
  case harvestClear => exact fun s x rid h => congrArg Host.Outcome.next (writeObject_wrote_record (by decide) h rfl)

end Sys2Proof.Machine

/-!
PROOFS. The queue of commands (95, "What each step holds"): a step takes its front, and no command touches it. The statements
`Obligations.StepTakesTheFrontCommand` and `Obligations.QueueIsFirstInFirstOut` follow.
-/
namespace Sys2Proof.Safety
open Sys2Proof.Machine

theorem step_of_cons {s : State} {c : Instr} {rest : List Instr} (h : s.pending = c :: rest) :
    step s = exec c { s with pending := rest } := by
  simp only [step, h]

theorem step_of_nil {s : State} (h : s.pending = []) : step s = .next { s with dev := s.dev.idle } := by
  simp only [step, h]

/-- Settles O1: the two branches of `step`. -/
theorem stepTakesTheFrontCommand : Obligations.StepTakesTheFrontCommand :=
  ⟨fun _ _ _ h => step_of_cons h, fun _ h => step_of_nil h⟩

/-- No command puts another into the queue or takes one out: those that stop the machine answer no next state, and every
other one leaves the commands that wait. -/
theorem exec_pending {c : Instr} {s t : State} (h : exec c s = .next t) : t.pending = s.pending := by
  cases hc : stops c
  case false =>
    obtain ⟨u, hu, hpending⟩ := everyCommandIsCarriedOut c s hc
    rw [hu] at h
    cases h
    exact hpending
  case true =>
    cases c with
    | porstNFall n =>
      obtain ⟨hlow, hhigh⟩ : 1000 ≤ n ∧ n < 10000 := by simpa [stops] using hc
      rw [exec_porstNFall_undefined s hlow hhigh] at h
      cases h
    | _ => cases hc

theorem step_pending {s t : State} (h : step s = .next t) : t.pending = s.pending.tail := by
  cases hp : s.pending with
  | nil =>
    rw [step_of_nil hp] at h
    cases h
    exact hp
  | cons c rest =>
    rw [step_of_cons hp] at h
    exact exec_pending h

/-- Settles O5, by induction on the number of steps: each takes the front command of what the steps before it have left. -/
theorem queueIsFirstInFirstOut : Obligations.QueueIsFirstInFirstOut := by
  intro n
  induction n with
  | zero =>
    intro s t h
    cases h
    exact List.drop_zero.symm
  | succ n ih =>
    intro s t h
    obtain ⟨u, hstep, hrun⟩ := runs_succ h
    calc t.pending = u.pending.drop n := ih u t hrun
      _ = s.pending.tail.drop n := by rw [step_pending hstep]
      _ = s.pending.drop (n + 1) := List.drop_tail

end Sys2Proof.Safety

/-!
PROOFS. The scrubbers of QDR words and on-die tables (R313 to R315): what a word that is read comes to while no forced error is
armed (R391), and from it the statement `Obligations.ScrubberReads`.
-/
namespace Sys2Proof.Machine
open Sys2Proof.Safety

section
variable {d : Dev} (harmed : d.test.armed = []) (h : Half) (e : Nat)
include harmed

/-! QDR words (R313, R314). -/

theorem Dev.qdrScrub_clean (r : QdrRegion) : d.qdrScrub h r e .clean = d := by
  rw [Dev.qdrScrub, scrubbed_unarmed _ _ _ _ _ _ harmed]

theorem Dev.qdrScrub_corrected (r : QdrRegion) :
    d.qdrScrub h r e .corrected = d.logEvent h Scope.half h.code 0 0x0503 := by
  rw [Dev.qdrScrub, scrubbed_unarmed _ _ _ _ _ _ harmed]

/-- An uncorrectable word is logged with its region and entry, and what it held is lost. -/
theorem Dev.qdrScrub_uncorrectable (r : QdrRegion) :
    d.qdrScrub h r e .uncorrectable =
      (d.logEvent h Scope.half h.code 1 0x0504 (beBytes 1 r.code ++ beBytes 3 0 ++ beBytes 4 e)).qdrLost h r e := by
  rw [Dev.qdrScrub, scrubbed_unarmed _ _ _ _ _ _ harmed]

/-! On-die tables (R313, R315). -/

theorem Dev.tableScrub_clean (t : DieTable) : d.tableScrub h t e .clean = d := by
  rw [Dev.tableScrub, scrubbed_unarmed _ _ _ _ _ _ harmed]

theorem Dev.tableScrub_corrected (t : DieTable) :
    d.tableScrub h t e .corrected = d.logEvent h Scope.half h.code 0 0x0505 := by
  rw [Dev.tableScrub, scrubbed_unarmed _ _ _ _ _ _ harmed]

theorem Dev.tableScrub_uncorrectable (t : DieTable) :
    d.tableScrub h t e .uncorrectable = (d.logEvent h Scope.half h.code 1 0x0506).restoreEntry h t e := by
  rw [Dev.tableScrub, scrubbed_unarmed _ _ _ _ _ _ harmed]

end

theorem Dev.qdrLost_keys {d : Dev} {h : Half} {e : Nat} {x : KeyEntry} (hkey : tabFind d.rme.keys (entryKey h e) = some x) :
    d.qdrLost h .keys e = d.setKey h e { x with valid := false } := by
  simp only [Dev.qdrLost, hkey]

/-- Settles O47: what a read of each kind comes to, and for an uncorrectable word what its region loses. -/
theorem scrubberReads : Obligations.ScrubberReads := by
  refine ⟨?clean, ?corrected, ?uncorrectable, ?tables⟩
  case clean => exact fun s h r e harmed => next_of (Dev.qdrScrub_clean harmed h e r)
  case corrected => exact fun s h r e harmed => next_of (Dev.qdrScrub_corrected harmed h e r)
  case uncorrectable =>
    intro s h e harmed d
    have hlost (r : QdrRegion) : exec (.qdrScrub h r e .uncorrectable) s = .next { s with dev := (d r).qdrLost h r e } :=
      next_of (Dev.qdrScrub_uncorrectable harmed h e r)
    refine ⟨fun x hkey => ?_, hlost _, hlost _, hlost _, hlost _, hlost _, hlost _⟩
    have hkept : tabFind (d .keys).rme.keys (entryKey h e) = some x := by rwa [Dev.logEvent_rme]
    rw [hlost, Dev.qdrLost_keys hkept]
  case tables =>
    exact fun s h t e harmed => ⟨next_of (Dev.tableScrub_clean harmed h e t), next_of (Dev.tableScrub_corrected harmed h e t),
      next_of (Dev.tableScrub_uncorrectable harmed h e t)⟩

end Sys2Proof.Machine

/-!
PROOFS. Feeds, OR gates and trips of a slot channel (R323 to R328): the tests of each row decided by its conditions, and from them
the statement `Obligations.FeedAndTripEvents`.
-/
namespace Sys2Proof.Machine
open Sys2Proof.Safety

/-- A channel delivers power in RAMP and in ON (R330). -/
theorem Dev.slotLive_iff {d : Dev} {k : Nat} :
    d.slotLive k = true ↔ d.num (Obj.slotState k) = SlotSt.ramp ∨ d.num (Obj.slotState k) = SlotSt.on := by
  simp [Dev.slotLive]

/-- A feed turns bad only where it was good, and beyond its window by more than 200 mV (R323). -/
theorem feedBad_iff {d : Dev} {k : Nat} {f : Feed} {mv : Nat} :
    (feedGood (d.slot k) f && (decide (mv + 200 < d.num (Obj.slotUv k)) || decide (d.num (Obj.slotOv k) + 200 < mv))) = true ↔
      feedGood (d.slot k) f = true ∧ (mv + 200 < d.num (Obj.slotUv k) ∨ d.num (Obj.slotOv k) + 200 < mv) := by
  simp

/-- Settles O48: each row's meaning with its test decided by the hypotheses. -/
theorem feedAndTripEvents : Obligations.FeedAndTripEvents := by
  refine ⟨fun s k f mv huv hov => if_pos ⟨huv, hov⟩, ?outside, ?bad, ?inside, fun _ _ _ => rfl, fun s k f hgood => if_pos hgood,
    ?held, ?trip, ?dark⟩
  case outside => exact fun s k f mv hout => if_neg (by omega)
  case bad => exact fun s k f mv hgood hout => if_pos (feedBad_iff.2 ⟨hgood, hout⟩)
  case inside =>
    intro s k f mv huv hov
    refine if_neg fun hbad => ?_
    obtain ⟨-, hout⟩ := feedBad_iff.1 hbad
    omega
  case held => exact fun s k f hbad => if_neg (by simp [hbad])
  case trip => exact fun s k hlive => ⟨if_pos (Dev.slotLive_iff.2 hlive), if_pos (Dev.slotLive_iff.2 hlive)⟩
  case dark =>
    intro s k hramp hon
    have hdark : ¬ s.dev.slotLive k = true := fun hlive => (Dev.slotLive_iff.1 hlive).elim hramp hon
    exact ⟨if_neg hdark, if_neg hdark⟩

end Sys2Proof.Machine

/-!
PROOFS. States of a slot channel, its auxiliary pins and its brake (R328, R330 to R334): what Power Good, a start and the brake
turn on, and from it the statement `Obligations.SlotChannelEvents`.
-/
namespace Sys2Proof.Machine
open Sys2Proof.Safety

/-- A bus that goes down takes no time. -/
@[simp] theorem Dev.busDown_clk (d : Dev) (k : Nat) : (d.busDown k).clk = d.clk :=
  foldl_keeps (fun (x : Dev) (e : Key × Val) => x.wr e.1 e.2) (fun x => x.clk = d.clk) (fun _ _ h => h) (d.sbus k).deferred d rfl

/-- Power Good takes no time, also where AUX_EN_k was off and the bus starts afresh (R328, R338). -/
theorem Dev.auxOff_clk (d : Dev) (k : Nat) : (if (d.slot k).aux then d else d.busDown k).clk = d.clk := by
  split
  · rfl
  · exact Dev.busDown_clk d k

/-- A channel that may start takes the free ramp slot that no channel before it waits for (R330). -/
theorem Dev.channelStart_iff {d : Dev} {k : Nat} :
    (d.mayStart k && d.firstToStart k && decide (d.ramping (k / 8) < d.num (Obj.sgrpRampMax (k / 8)))) = true ↔
      d.mayStart k = true ∧ d.firstToStart k = true ∧ d.ramping (k / 8) < d.num (Obj.sgrpRampMax (k / 8)) := by
  simp [and_assoc]

/-! The brake of a group (R334). -/

section
variable {d : Dev} (g : Nat) (hfree : d.padHeld 20 = false)

theorem Dev.setBrake_of_held (b : Bool) (hheld : d.padHeld 20 = true) : d.setBrake g b = d := if_pos hheld

include hfree

theorem Dev.setBrake_true : d.setBrake g true = (List.range 8).foldl (fun (d : Dev) i =>
    if d.num (Obj.slotState (8 * g + i)) = SlotSt.on then d.modSlot (8 * g + i) (fun c => { c with brake := true }) else d) d := by
  simp only [Dev.setBrake, hfree, Bool.false_eq_true, if_false, reduceCtorEq, or_false]

theorem Dev.setBrake_false : d.setBrake g false =
    (List.range 8).foldl (fun (d : Dev) i => d.modSlot (8 * g + i) (fun c => { c with brake := false })) d := by
  simp only [Dev.setBrake, hfree, Bool.false_eq_true, if_false, or_true, if_true]

end

/-- Settles O49: each row's meaning with its tests decided by the hypotheses. -/
theorem slotChannelEvents : Obligations.SlotChannelEvents := by
  refine ⟨?good, fun s k hst => if_pos hst, ?arrives, fun s k hpresent => if_pos hpresent,
    fun s k hst => if_pos hst, ?start, ?noStart, ?cooled, fun s k hst => if_pos hst, ?perst, ?noPerst, ?brake, ?noBrake, ?unbrake,
    ?keptBrake⟩
  case good =>
    intro s k hst
    rw [← Dev.auxOff_clk s.dev k]
    exact if_pos hst
  case arrives => exact fun s k habsent => if_neg (by simp [habsent])
  case start => exact fun s k hmay hfirst hroom => if_pos (Dev.channelStart_iff.2 ⟨hmay, hfirst, hroom⟩)
  case noStart =>
    intro s k hno
    refine if_neg fun hstart => ?_
    obtain ⟨hmay, -, hroom⟩ := Dev.channelStart_iff.1 hstart
    rcases hno with hno | hfull
    · simp [hno] at hmay
    · omega
  case cooled =>
    intro s k t hend hst
    show execCooldownExpiry k s = _
    simp only [execCooldownExpiry, hend, Dev.num_congr (Dev.modSlot_objs _ _ _), Dev.num_advanceTo, hst, if_true, onDev]
  case perst => exact fun s k hon hperst hnode hfree => if_pos ⟨hon, hperst, hnode, hfree⟩
  case noPerst =>
    intro s k hno
    refine if_neg fun hall => ?_
    obtain ⟨hon, hperst, hnode, hfree⟩ := hall
    rcases hno with hno | hno | hno | hno
    · exact hno hon
    · exact hno hperst
    · simp [hnode] at hno
    · simp [hfree] at hno
  case brake => exact fun s g hset hfree => (if_neg hset).trans (next_of (Dev.setBrake_true g hfree))
  case noBrake =>
    rintro s g (hunset | hheld)
    · exact if_pos hunset
    · show execBrakeAssert g s = _
      simp only [execBrakeAssert, Dev.setBrake_of_held g true hheld, onDev, ite_self]
  case unbrake => exact fun s g hfree => next_of (Dev.setBrake_false g hfree)
  case keptBrake => exact fun s g hheld => next_of (Dev.setBrake_of_held g false hheld)

end Sys2Proof.Machine

/-!
PROOFS. The sideband bridge (R337 to R350): due entries, the start of a transaction by what waits at its bus, its end by how it is
judged, and time-outs; and from them the statement `Obligations.SidebandEvents`.
-/
namespace Sys2Proof.Machine
open Sys2Proof.Safety

/-! Presses of an attention button (R340). -/

/-- A press is counted and told to sessions; neither changes the mode that the device is in. -/
theorem Dev.attnCounted_fabricMode (d : Dev) (k : Nat) :
    ((d.inc32 (Obj.sbAttnCount k)).notifySlot k).fabricMode = d.fabricMode := by
  rw [Dev.fabricMode, Dev.num_congr (Dev.notifySlot_objs _ _), Dev.inc32, Dev.num_setNum_ne _ _ _ _ (by simp) (by simp),
    Dev.fabricMode]

section
variable {s : State} {k : Fin 32}

/-! The start of a transaction: a far access, else an alert poll, else the oldest due entry (R346). -/

section
variable (hup : s.dev.busUp k = true) (hidle : (s.dev.sbus k).txn = none)
include hup hidle

theorem exec_sbTransactionStart_of_far {f : FarReq} {q : List FarReq} (hqueue : (s.dev.sbus k).queue = f :: q) :
    exec (.sbTransactionStart k) s = .next { s with dev := (s.dev.modSb k (fun b => { b with queue := q })).startTxn k (.far f) } := by
  show execSbTransactionStart k s = _
  simp only [execSbTransactionStart, hup, hidle, hqueue, Option.isNone_none, Bool.and_self, if_true, onDev]

variable (hqueue : (s.dev.sbus k).queue = [])
include hqueue

theorem exec_sbTransactionStart_of_alert (halert : (s.dev.sbus k).alertDue = true) :
    exec (.sbTransactionStart k) s = .next { s with dev := (s.dev.modSb k (fun b => { b with alertDue := false })).startTxn k .alert } := by
  show execSbTransactionStart k s = _
  simp only [execSbTransactionStart, hup, hidle, hqueue, halert, Option.isNone_none, Bool.and_self, if_true, onDev]

variable (halert : (s.dev.sbus k).alertDue = false)
include halert

theorem exec_sbTransactionStart_of_due {e : Nat} {t : List Nat} {a r l : Nat} {ds sp : List Nat} (hdue : (s.dev.sbus k).due = e :: t)
    (hread : s.dev.readTxn k e (e :: t) = .read a r l ds sp) :
    exec (.sbTransactionStart k) s = .next { s with dev :=
      (s.dev.modSb k (fun b => { b with due := b.due.filter (fun x => !ds.contains x) })).startTxn k (.read a r l ds sp) } := by
  show execSbTransactionStart k s = _
  simp only [execSbTransactionStart, hup, hidle, hqueue, halert, hdue, hread, Option.isNone_none, Bool.and_self, if_true, onDev]

theorem exec_sbTransactionStart_of_nothing (hdue : (s.dev.sbus k).due = []) : exec (.sbTransactionStart k) s = .next s := by
  show execSbTransactionStart k s = _
  simp only [execSbTransactionStart, hup, hidle, hqueue, halert, hdue, Option.isNone_none, Bool.and_self, if_true]

end

/-! How an end is judged (R337, R349). -/

theorem Dev.sbJudged_pecFail_of_unused {d : Dev} {n : Nat} (data : List Byte) (hpec : d.pecUsed n = false) :
    d.sbJudged n (.pecFail data) = .ok data := if_neg (by simp [hpec])

theorem Dev.sbJudged_pecFail_of_used {d : Dev} {n : Nat} (data : List Byte) (hpec : d.pecUsed n = true) :
    d.sbJudged n (.pecFail data) = .pecFail data := if_pos hpec

/-- A transaction ends as it is judged: without PEC its bytes are taken as they are. -/
theorem exec_sbTransactionEnd_of_unchecked (data : List Byte) (hpec : s.dev.pecUsed k = false) :
    exec (.sbTransactionEnd k (.pecFail data)) s = exec (.sbTransactionEnd k (.ok data)) s := by
  have hjudged : s.dev.sbJudged k (.pecFail data) = s.dev.sbJudged k (.ok data) := Dev.sbJudged_pecFail_of_unused data hpec
  show execSbTransactionEnd k _ s = execSbTransactionEnd k _ s
  simp only [execSbTransactionEnd, hjudged]

/-! The end of a block read, by its judgement (R342, R347, R348). -/

/-- A block read judged. -/
def Dev.endedRead (d : Dev) (k base : Nat) (due spanned : List Nat) (r : SbResult) : Dev :=
  match r with
  | .ok data => (d.endRead k base due spanned data).busFree k
  | .nack => (due.foldl (fun (x : Dev) e => x.setNum (Obj.sbmapState e) 2) (d.inc32 (Obj.sbNakCount k))).busFree k
  | .pecFail data => (d.endReadPec k base due spanned data).busFree k

theorem exec_sbTransactionEnd_of_read {a b l : Nat} {due sp : List Nat} (r : SbResult)
    (htxn : (s.dev.sbus k).txn = some (.read a b l due sp)) :
    exec (.sbTransactionEnd k r) s = .next { s with dev := s.dev.endedRead k b due sp (s.dev.sbJudged k r) } := by
  show execSbTransactionEnd k r s = _
  simp only [execSbTransactionEnd, htxn]
  cases s.dev.sbJudged k r <;> rfl

/-! The end of an alert poll (R346). -/

/-- An alert poll judged. -/
def Dev.endedAlert (d : Dev) (k : Nat) (r : SbResult) : Dev :=
  match r with
  | .ok data => (d.endAlert k data).busFree k
  | .nack => (d.inc32 (Obj.sbNakCount k)).busFree k
  | .pecFail _ => d.busFree k

theorem exec_sbTransactionEnd_of_alert (r : SbResult) (htxn : (s.dev.sbus k).txn = some .alert) :
    exec (.sbTransactionEnd k r) s = .next { s with dev := s.dev.endedAlert k (s.dev.sbJudged k r) } := by
  show execSbTransactionEnd k r s = _
  simp only [execSbTransactionEnd, htxn]
  cases s.dev.sbJudged k r <;> rfl

/-! The end of a far access (R343, R349, R350). -/

theorem exec_sbTransactionEnd_of_far {f : FarReq} (r : SbResult) (htxn : (s.dev.sbus k).txn = some (.far f)) :
    exec (.sbTransactionEnd k r) s = .next (endFar s k f (s.dev.sbJudged k r)) := by
  show execSbTransactionEnd k r s = _
  simp only [execSbTransactionEnd, htxn]

theorem endFar_of_modify {f : FarReq} (n : Nat) (data : List Byte) (hrmw : f.rmw ≠ none) :
    endFar s n f (.ok data) = { s with dev := s.dev.startTxn n (.far (f.modified data)) } :=
  if_pos (Option.isSome_iff_ne_none.2 hrmw)

theorem endFar_of_word {f : FarReq} (n : Nat) (data : List Byte) {w off len v : Nat} (hrmw : f.rmw = none) (hwrite : f.isWrite = true)
    (hword : f.word = some (w, off, len, v)) :
    endFar s n f (.ok data) =
      answerWait { s with dev := (s.dev.updateWord w (setField (s.dev.num (Obj.sbvalWord w)) off len v)).busFree n } f.sid Status.ok := by
  simp only [endFar, hrmw, hword, hwrite, Option.isSome_none, Bool.false_eq_true, if_false, if_true]

theorem endFar_of_read {f : FarReq} (n : Nat) (data : List Byte) (hrmw : f.rmw = none) (hread : f.isWrite = false) (hword : f.word = none) :
    endFar s n f (.ok data) =
      answerWait { s with dev := (s.dev.modSes f.sid (fun x => x.setLoc Obj.sbfarData (.bytes (padTo f.len data)))).busFree n }
        f.sid Status.ok := by
  simp only [endFar, hrmw, hword, hread, Option.isSome_none, Bool.false_eq_true, if_false]

/-! Time-outs (R339, R349). -/

theorem exec_sbBusTimeout_of_read {a b l : Nat} {due sp : List Nat} (htxn : (s.dev.sbus k).txn = some (.read a b l due sp)) :
    exec (.sbBusTimeout k) s = .next { s with dev :=
      (due.foldl (fun (x : Dev) e => x.setNum (Obj.sbmapState e) 3)
        (((s.dev.inc32 (Obj.sbTimeoutCount k)).inc32 (Obj.sbRecoveries k)).emit (.sbRecovery k))).busFree k } := by
  show execSbBusTimeout k s = _
  simp only [execSbBusTimeout, htxn, onDev]

theorem exec_sbBusTimeout_of_far {f : FarReq} (htxn : (s.dev.sbus k).txn = some (.far f)) :
    exec (.sbBusTimeout k) s = .next { s with dev :=
      (let d := ((s.dev.inc32 (Obj.sbTimeoutCount k)).inc32 (Obj.sbRecoveries k)).emit (.sbRecovery k)
       (d.failWaiting f.sid Status.farTimeout).busFree k) } := by
  show execSbBusTimeout k s = _
  simp only [execSbBusTimeout, htxn, onDev]

/-- The far accesses of a session as its time-out leaves them: those that wait are dropped, and one on a bus goes on without it. -/
def Dev.orphanFar (d : Dev) (sid : Nat) : Dev :=
  let sb := d.sb.map (fun (b : Nat × Sb) => (b.1, { b.2 with
    queue := b.2.queue.filter (fun f => f.sid != sid), txn := b.2.txn.map (fun t => t.orphan sid) }))
  { d with sb := sb }

theorem exec_sbFarTimeout_of_waiting {sid : Nat} {x : Session} {e : Exec} (hses : s.dev.ses sid = some x) (hexec : x.exec = some e)
    (hwait : e.wait = .farWrite) :
    exec (.sbFarTimeout sid) s = .next { s with dev := (s.dev.orphanFar sid).failWaiting sid Status.farTimeout } := by
  show execSbFarTimeout sid s = _
  simp only [execSbFarTimeout, hses, Option.bind_some, hexec, hwait, if_true, onDev]
  rfl

end

/-- Settles O50: each row's meaning or equation above, with its tests decided by the hypotheses; a transaction's end by its
judgement. -/
theorem sidebandEvents : Obligations.SidebandEvents := by
  refine ⟨?init, ?press, ?noPress, fun s e hslot hread hup hdemand => if_pos ⟨hslot, hread, hup, hdemand⟩,
    fun s k hup hpoll => if_pos ⟨hup, hpoll⟩, ?start, fun s k data => exec_sbTransactionEnd_of_unchecked data, ?read, ?alert, ?far,
    fun s sid x e => exec_sbFarTimeout_of_waiting⟩
  case init => exact fun s k hmay hdown => if_pos (by rw [hmay, hdown]; rfl)
  case press =>
    intro s k hpresent
    rw [← Dev.attnCounted_fabricMode s.dev k]
    exact if_pos hpresent
  case noPress => exact fun s k habsent => if_neg (by simp [habsent])
  case start =>
    exact fun s k hup hidle => ⟨fun f q => exec_sbTransactionStart_of_far hup hidle, exec_sbTransactionStart_of_alert hup hidle,
      fun e t a r l ds sp hqueue halert => exec_sbTransactionStart_of_due hup hidle hqueue halert,
      exec_sbTransactionStart_of_nothing hup hidle⟩
  case read =>
    intro s k a b l due sp htxn
    refine ⟨fun data => exec_sbTransactionEnd_of_read (.ok data) htxn, exec_sbTransactionEnd_of_read .nack htxn, fun data hpec => ?_,
      exec_sbBusTimeout_of_read htxn⟩
    rw [exec_sbTransactionEnd_of_read _ htxn, Dev.sbJudged_pecFail_of_used data hpec]
    rfl
  case alert =>
    intro s k htxn
    refine ⟨fun data => exec_sbTransactionEnd_of_alert (.ok data) htxn, exec_sbTransactionEnd_of_alert .nack htxn, fun data hpec => ?_⟩
    rw [exec_sbTransactionEnd_of_alert _ htxn, Dev.sbJudged_pecFail_of_used data hpec]
    rfl
  case far =>
    intro s k f htxn
    have hends (r : SbResult) : exec (.sbTransactionEnd k r) s = .next (endFar s k f (s.dev.sbJudged k r)) :=
      exec_sbTransactionEnd_of_far r htxn
    refine ⟨fun data hrmw => (hends _).trans (congrArg Host.Outcome.next (endFar_of_modify k data hrmw)),
      fun data w off n v hrmw hwrite hword => (hends _).trans (congrArg Host.Outcome.next (endFar_of_word k data hrmw hwrite hword)),
      fun data hrmw hread hword => (hends _).trans (congrArg Host.Outcome.next (endFar_of_read k data hrmw hread hword)),
      hends .nack, fun data hpec => ?_, exec_sbBusTimeout_of_far htxn⟩
    rw [hends, Dev.sbJudged_pecFail_of_used data hpec]
    rfl

end Sys2Proof.Machine

/-!
PROOFS. Power states (R354 to R360, R364): wake events by the state that they find, and from them and the other rows' meanings the
statement `Obligations.PowerStateEvents`.
-/
namespace Sys2Proof.Machine

section
variable {s : State}

/-! Wake events (R355, R358, R360). -/

/-- What a wake event leaves in the power record: when it came, in which state, and whether WAKE_N is not to be pulsed for it. -/
def Dev.wakePwr (d : Dev) (w : WakeSource) : Pwr :=
  { d.pwr with wakeAt := d.clk, exitFrom := d.num Obj.pwrState, byWakeN := w == .wakeN }

section
variable {w : WakeSource} (henabled : s.dev.wakeEnabled w = true)
include henabled

/-- A sleep is left. -/
theorem exec_wakeEvent_of_asleep (hst : s.dev.num Obj.pwrState = 2 ∨ s.dev.num Obj.pwrState = 3)
    (hacts : wakeActs w (s.dev.num Obj.pwrState) = true) :
    exec (.wakeEvent w) s = .next { s with dev :=
      { ((s.dev.setNum Obj.pwrWakeCause (2 ^ w.bit)).setNum Obj.pwrState PwrSt.exiting) with pwr := s.dev.wakePwr w } } := by
  have hentering : s.dev.num Obj.pwrState ≠ 5 := by omega
  have hoff : s.dev.num Obj.pwrState ≠ 4 := by omega
  show execWakeEvent w s = _
  simp only [execWakeEvent, if_neg hentering, if_neg hoff, hacts, henabled, Bool.and_self, if_true]
  rfl

/-- An entry is abandoned, and counted. -/
theorem exec_wakeEvent_of_entering (hst : s.dev.num Obj.pwrState = 5) (hacts : wakeActs w s.dev.pwr.target = true) :
    exec (.wakeEvent w) s = .next { s with dev :=
      { (((s.dev.setNum Obj.pwrWakeCause (2 ^ w.bit)).inc32 Obj.pwrAborted).setNum Obj.pwrState PwrSt.exiting) with
        pwr := s.dev.wakePwr w } } := by
  have hoff : s.dev.num Obj.pwrState ≠ 4 := by omega
  show execWakeEvent w s = _
  simp only [execWakeEvent, if_pos hst, if_neg hoff, hacts, henabled, Bool.and_self, if_true]
  rfl

/-- In Off the device waits for its rails. -/
theorem exec_wakeEvent_of_off (hst : s.dev.num Obj.pwrState = 4) (hacts : wakeActs w (s.dev.num Obj.pwrState) = true) :
    exec (.wakeEvent w) s = .next { s with dev :=
      { s.dev.setNum Obj.pwrWakeCause (2 ^ w.bit) with pwr := s.dev.wakePwr w } } := by
  have hentering : s.dev.num Obj.pwrState ≠ 5 := by omega
  show execWakeEvent w s = _
  simp only [execWakeEvent, if_neg hentering, if_pos hst, hacts, henabled, Bool.and_self, if_true]
  rfl

end

theorem exec_wakeEvent_of_ignored {w : WakeSource} (hno : s.dev.wakeEnabled w = false ∨
      wakeActs w (if s.dev.num Obj.pwrState = 5 then s.dev.pwr.target else s.dev.num Obj.pwrState) = false) :
    exec (.wakeEvent w) s = .next s :=
  if_neg (by rcases hno with h | h <;> simp [h])

end

/-- Settles O51: each row's meaning or equation above, with its tests decided by the hypotheses. -/
theorem powerStateEvents : Obligations.PowerStateEvents := by
  refine ⟨fun s hst harmed hquiet => if_pos ⟨hst, harmed, hquiet⟩, ?busy, fun s hst => if_pos hst, ?sleep, ?deep, ?shut, ?asleep,
    ?entering, ?off, fun s w => exec_wakeEvent_of_ignored, fun s hst => if_pos hst, ?railsGood, ?railsLate⟩
  case busy => exact fun s hbusy => if_neg (by simp [hbusy])
  case sleep => exact fun s hst htarget => (if_pos hst).trans (if_pos htarget)
  case deep => exact fun s hst htarget => (if_pos hst).trans ((if_neg (by omega)).trans (if_pos htarget))
  case shut => exact fun s hst htarget => (if_pos hst).trans ((if_neg (by omega)).trans (if_neg (by omega)))
  case asleep => exact fun s w hst hacts henabled => exec_wakeEvent_of_asleep henabled hst hacts
  case entering => exact fun s w hst hacts henabled => exec_wakeEvent_of_entering henabled hst hacts
  case off => exact fun s w hst hacts henabled => exec_wakeEvent_of_off henabled hst hacts
  case railsGood => exact fun s hoff hfrom => if_pos (by rw [hoff, hfrom]; rfl)
  case railsLate => exact fun s hoff hfrom => if_pos (by rw [hoff, hfrom]; rfl)

end Sys2Proof.Machine

/-!
PROOFS. The AO counter, thermal throttling and Perennial (R363 to R373): throttle steps, measurements, summaries and re-plans in
the states where they act, and from them the statement `Obligations.ThermalAndPerennialEvents`.
-/
namespace Sys2Proof.Machine
open Sys2Proof.Safety

section
variable {s : State} {h : Half}

/-! Throttle steps (R366). -/

/-- The eighths by which a half is throttled. -/
abbrev Dev.throttle (d : Dev) (h : Half) : Nat := byHalf h d.pwr.throttleW d.pwr.throttleE

section
variable (hhot : s.dev.num Obj.pwrThermThrottle * 65536 ≤ s.dev.hottest h)
include hhot

theorem exec_throttleStep_starts (hnone : s.dev.throttle h = 0) :
    exec (.throttleStep h) s = .next { s with dev := s.dev.setThrottle h 1 } := by
  show execThrottleStep h s = _
  simp only [execThrottleStep, if_pos hhot, hnone]
  rfl

/-- A half that stays hot is throttled by one eighth more, up to four, and the 1 ms counts. -/
theorem exec_throttleStep_rises (hsome : 0 < s.dev.throttle h) :
    exec (.throttleStep h) s =
      .next { s with dev := (s.dev.inc64 Obj.pwrThermThrottleTime 1000).setThrottle h (min 4 (s.dev.throttle h + 1)) } := by
  show execThrottleStep h s = _
  simp only [execThrottleStep, if_pos hhot, if_pos hsome, onDev]

end

/-- A half that has cooled is throttled by one eighth less, and the 10 ms count. -/
theorem exec_throttleStep_falls (hcool : s.dev.hottest h < s.dev.num Obj.pwrThermThrottle * 65536 - 3 * 65536)
    (hsome : 0 < s.dev.throttle h) :
    exec (.throttleStep h) s =
      .next { s with dev := (s.dev.inc64 Obj.pwrThermThrottleTime 10000).setThrottle h (s.dev.throttle h - 1) } := by
  have hnot : ¬ s.dev.num Obj.pwrThermThrottle * 65536 ≤ s.dev.hottest h := by omega
  show execThrottleStep h s = _
  simp only [execThrottleStep, if_neg hnot, if_pos hcool, if_pos hsome, onDev]

/-! Re-plans (R371). -/

/-- Without a baseline, or with Perennial off, nothing is planned anew. -/
theorem Dev.replan_of_off {d : Dev} (h : Half) (hno : d.per.baselineTaken = false ∨ d.flag Obj.perEnable = false) :
    d.replan h = d := if_neg (by rcases hno with h | h <;> simp [h])

end

/-- Settles O52: each row's meaning or equation above, with its tests decided by the hypotheses. -/
theorem thermalAndPerennialEvents : Obligations.ThermalAndPerennialEvents := by
  refine ⟨fun s hrunning hsource => if_pos ⟨hrunning, hsource⟩, fun s hsource => if_pos hsource, fun _ _ => rfl,
    fun s h => exec_throttleStep_starts, fun s h => exec_throttleStep_rises, fun s h => exec_throttleStep_falls,
    fun s h a k q m hon hrun => if_pos ⟨hon, hrun⟩, ?measureOff, fun s h htaken => if_pos htaken, ?replan, ?replanOff,
    fun s h m hfar => if_pos hfar, ?follows⟩
  case measureOff => exact fun s h a k q m hoff => if_neg (by simp [hoff])
  case replan => exact fun s h htaken hon => congrArg (onDev s) (if_pos (by rw [htaken, hon]; rfl))
  case replanOff => exact fun s h hno => next_of (Dev.replan_of_off h hno)
  case follows => exact fun s h m hnear => if_neg (by dsimp only at hnear; omega)

end Sys2Proof.Machine

/-!
PROOFS. Requests to slot channels, the sideband bridge, power states and Perennial (R330, R331, R336, R343, R349 to R351, R354,
R355, R368, R371, R373): the objects' own rules in the states that their rows need, and from them the statement
`Obligations.SlotSidebandAndPowerRequests`.
-/
namespace Sys2Proof.Machine
open Sys2Proof.Safety

/-! Which rule a live write follows. -/

/-- The objects of the sideband bridge, the power states and Perennial lie beyond every rule but the one of their chapters. -/
theorem liveWrite_of_writePower {st : State} {x : Session} {k : Key} {n : Nat} {w : Written} (o : ObjRow)
    (hk : k.idx ∈ [0x7521, 0x7522, 0x7524, 0x9000, 0x9100]) (h : writePower st x k n = some w) : liveWrite st x k o (.num n) = w := by
  simp only [List.mem_cons, List.not_mem_nil, or_false] at hk
  have hpower : writePower st x k (Val.num n).toNum = some w := h
  simp only [liveWrite, writeBoot_none st x k _ (by simp; omega), writeMgmt_none st x k _ (by simp; omega),
    writeLinks_none st x k _ (by omega) (by omega), writeEngines_none st k _ (by omega) (by omega), hpower, Option.orElse_eq_orElse,
    Option.orElse_none, Option.orElse_some]

/-! The objects' own rules. -/

section
variable {d : Dev} {k v : Nat}

/-- `slot.enable` takes 2 only in hierarchy mode, with an enabled port that names the channel (R330). -/
theorem Dev.writeSlotEnable_ok (hok : v ≠ 2 ∨ d.fabricMode = false ∧ (d.portOfSlot k).isSome = true) :
    d.writeSlotEnable k v = ((d.setNum (Obj.slotEnable k) v).slotRecheck k, Status.ok) := by
  refine if_neg fun hno => ?_
  obtain ⟨htwo, hmode⟩ := hno
  rcases hok with hok | ⟨hfabric, hport⟩
  · exact hok htwo
  · rcases hmode with h | h
    · simp [hfabric] at h
    · simp [Option.isNone_iff_eq_none.1 h] at hport

/-- Clearing the fault count takes a LOCKED channel to READY (R331). -/
theorem Dev.writeSlotCmd_faults :
    d.writeSlotCmd k 1 =
      (let e := d.setNum (Obj.slotFaultCount k) 0
       if d.num (Obj.slotState k) = SlotSt.locked then (e.modSlot k (fun c => { c with readyAt := e.clk })).slotTo k SlotSt.ready else e,
        Status.ok) := by
  have hstate : (d.setNum (Obj.slotFaultCount k) 0).num (Obj.slotState k) = d.num (Obj.slotState k) :=
    Dev.num_setNum_ne _ _ _ _ (by simp) (by simp)
  rw [← hstate]
  rfl

theorem Dev.writeValueWord_of_entry {w e : Nat} (sid : Nat) (hentry : d.writeEntry w = some e) :
    d.writeValueWord sid w v = d.queueFar (d.mapE e).slot (d.farOfWord sid e v) := by
  simp only [Dev.writeValueWord, hentry]

theorem Dev.perCommand_measure (hon : d.flag Obj.perEnable = true) : d.perCommand 1 = d.perBit 1 true := if_pos hon

theorem Dev.perCommand_retune (hup : d.seamUp = true) (hidle : d.seam.retune = none) : d.perCommand 3 = d.retuneNext 0 :=
  show d.seamRetune = d.retuneNext 0 from if_pos (by rw [hup, hidle]; rfl)

end

/-! The writes as their sessions' requests. -/

section
variable {s : State} {x : Session} {rid n : Nat}

theorem writeObject_wrote_slotEnable {k : Nat} (hk : k < 32) (h : accepts s x rid (0x7400 + k) 2 .u8 n = true)
    (hok : n ≠ 2 ∨ s.dev.fabricMode = false ∧ (s.dev.portOfSlot k).isSome = true) :
    writeObject s x.sid rid (0x7400 + k) 2 .u8 n =
      wrote s x rid (0x7400 + k) 2 .u8 n (fun d => (d.setNum (Obj.slotEnable k) n).slotRecheck k) :=
  writeObject_wrote s x rid (0x7400 + k) 2 .u8 n _ (by omega) (by decide) (liveRow_slotE k hk) h fun o =>
    (liveWrite_slotEnable _ _ k o n hk).trans
      (congrArg (ofDev _) (Dev.writeSlotEnable_ok (d := (begun s x rid [(0x7400 + k, 2, .u8, n)]).dev) hok))

theorem writeObject_wrote_slotCmd {k : Nat} (f : Dev → Dev) (hk : k < 32) (h : accepts s x rid (0x7400 + k) 0x15 .u8 n = true)
    (hw : (begun s x rid [(0x7400 + k, 0x15, .u8, n)]).dev.writeSlotCmd k n =
      (f (begun s x rid [(0x7400 + k, 0x15, .u8, n)]).dev, Status.ok)) :
    writeObject s x.sid rid (0x7400 + k) 0x15 .u8 n = wrote s x rid (0x7400 + k) 0x15 .u8 n f :=
  writeObject_wrote s x rid (0x7400 + k) 0x15 .u8 n f (by omega) (by decide) (liveRow_slotC k hk) h fun o =>
    (liveWrite_slotCmd _ _ k o n hk).trans (congrArg (ofDev _) hw)

/-- A far access of the session's own that its bus takes into its queue (R349, R350). -/
theorem writeObject_waits_far {f : FarReq} {b : Nat} (h : accepts s x rid 0x7522 7 .u8 n = true) (hup : s.dev.busUp b = true)
    (hroom : (s.dev.sbus b).queue.length < 4)
    (hw : (begun s x rid [(0x7522, 7, .u8, n)]).dev.writeFarCmd (begunSes s x rid [(0x7522, 7, .u8, n)]) n =
      (begun s x rid [(0x7522, 7, .u8, n)]).dev.queueFar b f) :
    writeObject s x.sid rid 0x7522 7 .u8 n =
      wroteWaits s x rid 0x7522 7 .u8 n (fun d => d.modSb b (fun c => { c with queue := c.queue ++ [f] })) .farWrite := by
  refine writeObject_waits s x rid 0x7522 7 .u8 n _ .farWrite (by decide) (by decide) (by decide) h fun o => ?_
  refine liveWrite_of_writePower o (by decide) ?_
  have hqueued := queueFar_ok (begun s x rid [(0x7522, 7, .u8, n)]).dev b f hup hroom
  exact congrArg (fun r => some (ofWrite (begun s x rid [(0x7522, 7, .u8, n)]) r)) (hw.trans hqueued)

/-- A value word whose mapping entry's bus takes the write into its queue (R343, R349). -/
theorem writeEntry_waits_word {w e : Nat} (h : acceptsEntry s x rid 0x7521 w 3 .u32 n = true) (hentry : s.dev.writeEntry w = some e)
    (hup : s.dev.busUp (s.dev.mapE e).slot = true) (hroom : (s.dev.sbus (s.dev.mapE e).slot).queue.length < 4) :
    writeEntry s x.sid rid 0x7521 w 3 .u32 n = wroteEntryWaits s x rid 0x7521 w 3 .u32 n (fun d =>
      d.modSb (s.dev.mapE e).slot (fun b => { b with queue := b.queue ++ [s.dev.farOfWord x.sid e n] })) .farWrite := by
  refine entry_waits s x rid 0x7521 w 3 .u32 n _ .farWrite (by decide) (by decide) (by decide) h fun o => ?_
  refine liveWrite_of_writePower (k := ⟨0x7521, 3, w⟩) o (show 0x7521 ∈ _ by decide) ?_
  have hword := Dev.writeValueWord_of_entry (d := (selected s x rid 0x7521 w 3 .u32 n).dev) (v := n) x.sid hentry
  have hqueued := queueFar_ok (selected s x rid 0x7521 w 3 .u32 n).dev (s.dev.mapE e).slot (s.dev.farOfWord x.sid e n) hup hroom
  exact congrArg (fun r => some (ofWrite (selected s x rid 0x7521 w 3 .u32 n) r)) (hword.trans hqueued)

/-- A row that writes one object of the power states, Perennial or the stray log, and is answered at once. -/
theorem writeObject_wrote_power {idx sub : Nat} {ty : ObjType} {f : Dev → Dev}
    (hrow : idx ∈ [0x7524, 0x9000, 0x9100] ∧ sub < 256 ∧ liveRow idx sub = true) (h : accepts s x rid idx sub ty n = true)
    (hw : writePower (begun s x rid [(idx, sub, ty, n)]) (begunSes s x rid [(idx, sub, ty, n)]) ⟨idx, sub, 0⟩ n =
      some (okDev (begun s x rid [(idx, sub, ty, n)]) (f (begun s x rid [(idx, sub, ty, n)]).dev))) :
    writeObject s x.sid rid idx sub ty n = wrote s x rid idx sub ty n f := by
  obtain ⟨hidx, hsub, hlive⟩ := hrow
  simp only [List.mem_cons, List.not_mem_nil, or_false] at hidx
  exact writeObject_wrote s x rid idx sub ty n f (by omega) hsub hlive h
    fun o => liveWrite_of_writePower o (by simp; omega) hw

/-- A row that writes `pwr.state_req`, by what the request comes to. -/
theorem writeObject_wrote_stateReq {f : Dev → Dev} (h : accepts s x rid 0x9000 2 .u8 n = true)
    (hw : (begun s x rid [(0x9000, 2, .u8, n)]).dev.writeStateReq n = (f (begun s x rid [(0x9000, 2, .u8, n)]).dev, Status.ok)) :
    writeObject s x.sid rid 0x9000 2 .u8 n = wrote s x rid 0x9000 2 .u8 n f :=
  writeObject_wrote_power (by decide) h (congrArg (fun r => some (ofDev (begun s x rid [(0x9000, 2, .u8, n)]) r)) hw)

/-- A row that writes `per.cmd`, by what the command does. -/
theorem writeObject_wrote_perCmd {f : Dev → Dev} (h : accepts s x rid 0x9100 0x13 .u8 n = true)
    (hw : (begun s x rid [(0x9100, 0x13, .u8, n)]).dev.perCommand n = f (begun s x rid [(0x9100, 0x13, .u8, n)]).dev) :
    writeObject s x.sid rid 0x9100 0x13 .u8 n = wrote s x rid 0x9100 0x13 .u8 n f :=
  writeObject_wrote_power (by decide) h (congrArg (fun d => some (okDev (begun s x rid [(0x9100, 0x13, .u8, n)]) d)) hw)

end

/-- Settles O26: each row is a write whose rule, in the state its hypotheses describe, takes the branch that carries it out. -/
theorem slotSidebandAndPowerRequests : Obligations.SlotSidebandAndPowerRequests := by
  refine ⟨?enable, ?faults, ?energy, ?word, ?farRead, ?farWrite, ?stray, ?run, ?wake, ?idle, ?sleep, ?deep, ?off, ?measure, ?replan,
    ?retune⟩
  case enable => exact fun s x rid k v h hok => congrArg Host.Outcome.next (writeObject_wrote_slotEnable k.isLt h hok)
  case faults => exact fun s x rid k h => congrArg Host.Outcome.next (writeObject_wrote_slotCmd _ k.isLt h Dev.writeSlotCmd_faults)
  case energy => exact fun s x rid k h => congrArg Host.Outcome.next (writeObject_wrote_slotCmd _ k.isLt h rfl)
  case word =>
    exact fun s x rid w v e h hentry hup hroom => congrArg Host.Outcome.next (writeEntry_waits_word h hentry hup hroom)
  case farRead =>
    rintro s x rid _ h rfl hup hroom
    exact congrArg Host.Outcome.next (writeObject_waits_far h hup hroom rfl)
  case farWrite =>
    rintro s x rid _ h rfl hup hroom
    exact congrArg Host.Outcome.next (writeObject_waits_far h hup hroom rfl)
  case stray => exact fun s x rid h => congrArg Host.Outcome.next (writeObject_wrote_power (by decide) h rfl)
  case run => exact fun s x rid h hst => congrArg Host.Outcome.next (writeObject_wrote_stateReq h (stateReq0 _ hst))
  case wake => exact fun s x rid h hst => congrArg Host.Outcome.next (writeObject_wrote_stateReq h (stateReq0s _ hst))
  case idle => exact fun s x rid h hst => congrArg Host.Outcome.next (writeObject_wrote_stateReq h (stateReq1 _ hst))
  case sleep =>
    exact fun s x rid h hst hcheck => congrArg Host.Outcome.next (writeObject_wrote_stateReq h (stateReq2 _ hst hcheck))
  case deep =>
    exact fun s x rid h hst hcheck => congrArg Host.Outcome.next (writeObject_wrote_stateReq h (stateReq3 _ hst hcheck))
  case off =>
    exact fun s x rid h hst hcheck => congrArg Host.Outcome.next (writeObject_wrote_stateReq h (stateReq4 _ hst hcheck))
  case measure => exact fun s x rid h hon => congrArg Host.Outcome.next (writeObject_wrote_perCmd h (Dev.perCommand_measure hon))
  case replan => exact fun s x rid h => congrArg Host.Outcome.next (writeObject_wrote_perCmd h rfl)
  case retune =>
    exact fun s x rid h hup hidle => congrArg Host.Outcome.next (writeObject_wrote_perCmd h (Dev.perCommand_retune hup hidle))

end Sys2Proof.Machine

/-!
PROOFS. The test unlock and the JTAG instructions (R387 to R389): expiries, the close that carries an unlock response through the
checks of R53, and JTAG while its paths are open; and from them the statement `Obligations.UnlockEvents`.
-/
namespace Sys2Proof.Machine
open Sys2Proof.Safety

theorem shake256_length (l : List Byte) (n : Nat) : (Config.shake256 l n).length = n := by simp [Config.shake256]

section
variable {s : State}

/-! Expiries (R387, R388). -/

theorem exec_testChallengeExpiry_of_challenge {c : List Byte} {l e : Nat} (hchallenge : s.dev.test.challenge = some (c, l, e)) :
    exec .testChallengeExpiry s = .next { s with dev := (s.dev.advanceTo e).dropChallenge } := by
  show execTestChallengeExpiry s = _
  simp only [execTestChallengeExpiry, hchallenge, onDev]

end

/-! JTAG (R389). -/

/-- The device once a half's challenge has been used. -/
def Dev.jtagUsed (d : Dev) (h : Half) : Dev :=
  { d with test := byHalf h { d.test with jtagChallengeW := none } { d.test with jtagChallengeE := none } }

/-- A key that a half's boot ROM knows: that of the owner credential in its store copy, or on an unowned device that of an
unrevoked OTP slot. -/
def State.jtagKnown (s : State) (h : Half) (key : List Byte) : Bool :=
  let owner := (tabGet (s.dev.store h).content Obj.mgmtOwnerCredential (.bytes [])).toBytes
  if owner.all (fun b => b == 0) then
    (List.range 4).any (fun i => !bitOf s.otp.revoked i && Config.otpKeyHash i == Config.shake256 key 32)
  else owner == Config.shake256 key 32

/-- The device with a half's JTAG paths unlocked to a level; a higher one in force stays. -/
def Dev.jtagGranted (d : Dev) (h : Half) (level : Nat) : Dev :=
  ({ d with test := byHalf h { d.test with grantedAt := d.clk, jtagLevelW := max level d.test.jtagLevelW }
                             { d.test with grantedAt := d.clk, jtagLevelE := max level d.test.jtagLevelE } }).logEvent
    h Scope.device 0 3 0x0606 (beBytes 1 level) true

section
variable {s : State} {h : Half}

theorem exec_jtagUnlock_of_none {level : Nat} {key sig : List Byte}
    (hnone : byHalf h s.dev.test.jtagChallengeW s.dev.test.jtagChallengeE = none) :
    exec (.jtagUnlock h level key sig) s = .next s := by
  show execJtagUnlock h level key sig s = _
  simp only [execJtagUnlock, hnone]

/-- A JTAG response uses the challenge up, and unlocks where the level is open, the key is known and the signature verifies. -/
theorem exec_jtagUnlock_of_challenge {level : Nat} {key sig c : List Byte}
    (hchallenge : byHalf h s.dev.test.jtagChallengeW s.dev.test.jtagChallengeE = some c) :
    exec (.jtagUnlock h level key sig) s = .next { s with dev :=
      (if (level = 1 ∨ level = 2 ∧ s.commitLock = false) ∧ s.jtagKnown h key ∧ Config.mlDsaVerify key (unlockMessage c level) testContext sig
       then (s.dev.jtagUsed h).jtagGranted h level else s.dev.jtagUsed h) } := by
  show execJtagUnlock h level key sig s = _
  simp only [execJtagUnlock, hchallenge, onDev_ite]
  rfl

variable {idx sub : Nat}

theorem exec_jtagDict_of_shut (hshut : s.dev.jtagOpen h = false) : exec (.jtagDict h idx sub) s = .next s :=
  if_pos (by rw [hshut]; rfl)

/-- Outside the restricted set an open path answers S_STATE. -/
theorem exec_jtagDict_of_outside (hopen : s.dev.jtagOpen h = true) (hout : inCrocusSet ⟨idx, sub, 0⟩ false = false) :
    exec (.jtagDict h idx sub) s = .next { s with dev := s.dev.emit (.jtag h (encodeItem ⟨idx, sub, 0, Status.state, []⟩)) } :=
  (if_neg (by simp [hopen])).trans (if_pos (by rw [hout]; rfl))

theorem exec_jtagDict_of_read {t : State} {x : DoneItem} (hopen : s.dev.jtagOpen h = true)
    (hin : inCrocusSet ⟨idx, sub, 0⟩ false = true)
    (hread : readItem s (ownerView h) { rid := 0, opcode := Opcode.read, staged := false, todo := [], done := [], wait := .none, raw := [] }
      { idx := idx, sub := sub, type := 0, data := [] } = (t, .done x)) :
    exec (.jtagDict h idx sub) s = .next { t with dev := t.dev.emit (.jtag h (encodeItem x)) } := by
  show execJtagDict h idx sub s = _
  simp only [execJtagDict, hopen, hin, hread, Bool.not_true, Bool.false_eq_true, if_false, onDev]

end

/-! The response that unlocks (R387). -/

/-- The row of `test.unlock.response`: written live, as a BLOB of key and signature. -/
def unlockRow : ObjRow := ⟨3, .blob, .wo, .bytes [], .live, .volatile, .exactly 5261, false⟩

theorem findRec_unlock : findRec 0xC000 = some recC000 ∧ recC000.row 3 = some unlockRow := by decide

section
variable {st : State} {x : Session} {key sig : List Byte} (hkey : key.length = 1952) (hsig : sig.length = 3309)
include hkey hsig

theorem liveWrite_response : liveWrite st x Obj.testUnlockResponse unlockRow (.bytes (key ++ sig)) =
    ofDev st (st.dev.unlockResponse st.commitLock key sig) := by
  refine liveWrite_unlock st x unlockRow key sig ?_ ?_
  · simp [slice, ← hkey]
  · simp [slice, ← hkey, ← hsig]

theorem performWrite_response (hfar : st.dev.tooFar x Obj.testUnlockResponse = false) :
    performWrite st x Obj.testUnlockResponse unlockRow (.bytes (key ++ sig)) = ofDev st (st.dev.unlockResponse st.commitLock key sig) := by
  rw [performWrite_live _ _ _ _ _ rfl (.inr hfar), liveWrite_response hkey hsig]

/-- The checks of R53 that an owner's response passes: its length is the object's, the object is none that a lock or the rake
guards, and the response itself is never refused with S_STATE. -/
theorem checkWrite_response (hrole : x.role = .owner) (hmode : st.dev.modeForbids Obj.testUnlockResponse true = false)
    (hfar : st.dev.tooFar x Obj.testUnlockResponse = false) :
    checkWrite st x recC000 Obj.testUnlockResponse unlockRow unlockRow.ty.code (some (.bytes (key ++ sig))) =
      .ok (.bytes (key ++ sig), false) := by
  have hmay : mayWrite x recC000 unlockRow 0xC000 3 = true := by simp [mayWrite, unlockRow, hrole, ObjRec.isWindow, recC000, firmwareOnly]
  have hlength : wrongLength unlockRow (.bytes (key ++ sig)) = false := by simp [wrongLength, unlockRow, Val.toBytes, hkey, hsig]
  have hstate : stateRefuses st x Obj.testUnlockResponse unlockRow (.bytes (key ++ sig)) = false := by
    have hne := unlockResponse_ne st.dev st.commitLock key sig
    simp only [stateRefuses, performWrite_response hkey hsig hfar, ofDev]
    simpa using fun _ => hne
  have hlock : lockedWrite st Obj.testUnlockResponse unlockRow 0 = false := by simp [lockedWrite, unlockRow]
  have hadmit : st.dev.admitVal x recC000 Obj.testUnlockResponse unlockRow (.bytes (key ++ sig)) = some (.bytes (key ++ sig), false) := by
    simp [Dev.admitVal, unlockRow, Range.admitLen, hkey, hsig]
  have hrake : paWrite Obj.testUnlockResponse 0 = false := by decide
  simp [checkWrite, hmay, hlength, hmode, hstate, hlock, hadmit, hrake, Val.toNum]

end

/-- The item that closes a transfer of `test.unlock.response`: its handle, and the digest of what it carried (R77). -/
def unlockClose (b : Blob) : DoneItem :=
  ⟨0xC000, 3, ObjType.blob.code, 0, beBytes 2 b.handle ++ zeros 2 ++ Config.shake256 b.data 32⟩

theorem unlockClose_length (b : Blob) : (unlockClose b).data.length = 36 := by simp [unlockClose, zeros, shake256_length]

theorem unlockClose_handle (b : Blob) (hhandle : b.handle < 2 ^ 16) : beNat (slice (unlockClose b).data 0 2) = b.handle := by
  have hslice : slice (unlockClose b).data 0 2 = beBytes 2 b.handle := by simp [unlockClose, slice]
  rw [hslice, beNat_beBytes _ _ hhandle]

theorem unlockClose_digest (b : Blob) : slice (unlockClose b).data 4 32 = Config.shake256 b.data 32 := by
  have hdrop : (unlockClose b).data.drop 4 = Config.shake256 b.data 32 := List.drop_left' (by simp [zeros])
  rw [slice, hdrop]
  exact List.take_of_length_le (shake256_length _ _).le

/-- The message of the close, and the request that the device reads from it. -/
def unlockCloseMsg (rid : Nat) (b : Blob) : List Byte := encodeFbp 0 Opcode.blobClose rid 0 1 (encodeItem (unlockClose b))
def unlockCloseRequest (rid : Nat) (b : Blob) : FbpRequest := ⟨Opcode.blobClose, false, rid, [itemOf (unlockClose b)]⟩

theorem parseFbp_unlockCloseMsg {rid : Nat} (b : Blob) (hrid : rid < 2 ^ 32) : parseFbp (unlockCloseMsg rid b) = .request (unlockCloseRequest rid b) :=
  parseFbp_one Opcode.blobClose rid (unlockClose b) (by decide) (by decide) hrid (show 0xC000 < 65536 by decide)
    (show 3 < 256 by decide) (ObjType.code_lt .blob) (by rw [unlockClose_length]; decide)

/-- The transfer that has carried an unlock response, with a handle that the device would have given. -/
def responseBlob (d : Dev) (key sig : List Byte) : Blob :=
  ⟨d.free % 2 ^ 16, Obj.testUnlockResponse, true, 5261, key ++ sig, d.clk⟩

/-- What the close of an unlock response leaves, and the status that it is answered with; a response that succeeds ends its
transfer. -/
def unlockResponded (st : State) (sid : Nat) (key sig : List Byte) : State :=
  let r := st.dev.unlockResponse st.commitLock key sig
  if succeeded r.2 then ({ st with dev := r.1 } : State).endBlob sid else { st with dev := r.1 }

theorem closeItem_response {st : State} {x : Session} {d : Dev} {key sig : List Byte} (hkey : key.length = 1952)
    (hsig : sig.length = 3309) (hblob : x.blob = some (responseBlob d key sig)) (hrole : x.role = .owner)
    (hmode : st.dev.modeForbids Obj.testUnlockResponse true = false) (hfar : st.dev.tooFar x Obj.testUnlockResponse = false) :
    closeItem st x (itemOf (unlockClose (responseBlob d key sig))) =
      (unlockResponded st x.sid key sig,
        .done (answerItem (itemOf (unlockClose (responseBlob d key sig))) (st.dev.unlockResponse st.commitLock key sig).2)) := by
  have hhandle : (responseBlob d key sig).handle < 2 ^ 16 := Nat.mod_lt _ (by decide)
  have hopen : x.blobOf (unlockClose (responseBlob d key sig)).data = some (responseBlob d key sig) := by
    simp [Session.blobOf, hblob, unlockClose_handle _ hhandle]
  have htotal : (responseBlob d key sig).data.length = 5261 := by simp [responseBlob, hkey, hsig]
  exact close_done st x _ (responseBlob d key sig) recC000 unlockRow _ _ (unlockClose_length _) hopen rfl htotal (unlockClose_digest _).symm
    findRec_unlock.1 findRec_unlock.2 (checkWrite_response hkey hsig hrole hmode hfar) (performWrite_response hkey hsig hfar)

section
variable {s : State} {x : Session} {rid : Nat} {key sig : List Byte} (hses : s.dev.ses x.sid = some x) (hsid : x.sid < 2 ^ 32)
include hses hsid

theorem exec_testUnlockResponse_of_busy (hblob : x.blob ≠ none) :
    exec (.testUnlockResponse x.sid rid key sig) s = .next { s with dev := s.dev.answerNow x Opcode.blobClose rid Status.busy } := by
  show execTestUnlockResponse x.sid rid key sig s = _
  simp only [execTestUnlockResponse, resolve_ready s x hses hsid, Option.isSome_iff_ne_none.2 hblob, if_true]

/-- On a session without a transfer the row is the close of one that has carried the response. -/
theorem exec_testUnlockResponse_of_free (hblob : x.blob = none) (hkey : key.length = 1952) (hsig : sig.length = 3309) :
    exec (.testUnlockResponse x.sid rid key sig) s =
      .next (receive { s with dev := s.dev.bump.modSes x.sid (fun y => { y with blob := some (responseBlob s.dev key sig) }) } x.sid
        (unlockCloseMsg rid (responseBlob s.dev key sig))) := by
  have htotal : (key ++ sig).length = 5261 := by simp [hkey, hsig]
  show execTestUnlockResponse x.sid rid key sig s = _
  simp only [execTestUnlockResponse, resolve_ready s x hses hsid, hblob, htotal, Option.isSome_none, Bool.false_eq_true, if_false]
  rfl

end

/-- An owner's close of an unlock response is answered with what the response comes to. -/
theorem receive_unlockCloseMsg {s : State} {x : Session} {rid : Nat} {d : Dev} {key sig : List Byte} (hkey : key.length = 1952)
    (hsig : sig.length = 3309) (hblob : x.blob = some (responseBlob d key sig)) (hready : ready s x rid = true) (hrole : x.role = .owner) :
    let b := responseBlob d key sig
    let m := unlockCloseMsg rid b
    let r := unlockCloseRequest rid b
    let t := taken s x r m
    let status := (t.dev.unlockResponse t.commitLock key sig).2
    t.dev.modeForbids Obj.testUnlockResponse true = false → t.dev.tooFar (takenSes s x r m) Obj.testUnlockResponse = false →
    receive s x.sid m = finishRequest (unlockResponded t x.sid key sig) x.sid
      { execOf r m with done := [answerItem (itemOf (unlockClose b)) status] } status := by
  intro b m r t status hmode hfar
  obtain ⟨-, -, hrid, -⟩ := (ready_iff s x rid).1 hready
  exact receive_close hready (parseFbp_unlockCloseMsg b hrid) rfl rfl
    (closeItem_response (x := takenSes s x r m) hkey hsig hblob hrole hmode hfar)

/-- Settles O54: each row's meaning or equation above, with its tests decided by the hypotheses; a response by the close that
carries it. -/
theorem unlockEvents : Obligations.UnlockEvents := by
  refine ⟨fun s c l e => exec_testChallengeExpiry_of_challenge, ?timeout, ?noUnlock, fun _ _ => rfl,
    fun s h level key sig c => exec_jtagUnlock_of_challenge, fun s h level key sig => exec_jtagUnlock_of_none,
    fun s h idx sub => exec_jtagDict_of_shut, fun s h idx sub => exec_jtagDict_of_outside, fun s h idx sub t x => exec_jtagDict_of_read,
    fun s x rid key sig => exec_testUnlockResponse_of_busy, ?response⟩
  case timeout => exact fun s hunlocked => if_neg (by simp [hunlocked])
  case noUnlock => exact fun s hlocked => if_pos (by rw [hlocked]; rfl)
  case response =>
    intro s x rid key sig hses hblob hkey hsig b i s1 x1 m r t hready hrid hrole hmode hfar
    obtain ⟨-, hsid, -⟩ := (ready_iff s1 x1 rid).1 hready
    exact (exec_testUnlockResponse_of_free hses hsid hblob hkey hsig).trans (congrArg Host.Outcome.next
      (receive_unlockCloseMsg (s := s1) (x := x1) (d := s.dev) hkey hsig rfl hready hrole hmode hfar))

end Sys2Proof.Machine
